-- ==== Sys2Proof/Word.lean ====
section
/-!
DEFINITION. Sys2Proof/Word.lean: the plain word types of the ZT256 (00_scope.md R8, R9).
-/
namespace Sys2Proof

/-- One byte. -/
abbrev Byte := BitVec 8

/-- A 64-bit word: a pattern instruction, a micro-register, a hart's register. -/
abbrev Word := BitVec 64

end Sys2Proof
end

