-- ==== Sys2Proof/Syntax.lean ====
section
/-!
DEFINITION. Sys2Proof/Syntax.lean: the commands of the block, one constructor of `Instr` per row of
spec/opcode_table.json, and the operand types they carry.  An operand is what comes from outside
with the event (a frame, a written value, a level, an instant, a measured quantity); everything
else a command acts on is in State.
-/
namespace Sys2Proof

/-- The major modes, Table 16-1 (R437). -/
inductive Mode where
  | boot | dormant | standby | warm | calibrate | run | service | safe
  deriving DecidableEq, Repr

/-- The two image kinds of R448: firmware (objects 0x8800) and microcode (objects 0x8000). -/
inductive ImageKind where
  | firmware | microcode
  deriving DecidableEq, Repr

/-- The two comparator results of a pin (R162): comparator-high H, comparator-low L. -/
inductive CmpLine where
  | high | low
  deriving DecidableEq, Repr

/-- A host's IP address (128 bits, IPv4 mapped) and UDP port (R59). -/
structure HostAddr where
  ip : BitVec 128
  port : BitVec 16
  deriving DecidableEq, Repr

/-- What the IP and UDP layers show of a received datagram (R50, R51). -/
structure IpInfo where
  v6 : Bool
  options : Bool
  fragment : Bool
  extHeaders : Bool
  zeroChecksum : Bool
  vlanTagged : Bool
  deriving DecidableEq, Repr

/-- A DAP frame (R53, Table 2-5) as received on port `eth`; OPCODE is the command's row, and
PAYLOAD_LENGTH is the payload's length. -/
structure DapFrame where
  eth : Fin 2
  ip : IpInfo
  src : HostAddr
  magic : BitVec 16
  version : Byte
  flags : BitVec 16
  target : BitVec 16
  session : BitVec 16
  status : BitVec 16
  sequence : BitVec 48
  hops : Byte
  reserved1 : Byte
  window : BitVec 16
  reserved2 : BitVec 48
  payload : List Byte
  crc : BitVec 32
  tag : List Byte
  deriving DecidableEq, Repr

/-- A Stream Transport frame (R222, Table 7-7); TYPE is the command's row. -/
structure StFrame where
  eth : Fin 2
  ip : IpInfo
  src : HostAddr
  magic : BitVec 16
  version : Byte
  device : BitVec 14
  stream : BitVec 16
  seq : BitVec 48
  records : BitVec 16
  units : BitVec 16
  window : BitVec 16
  sender : BitVec 14
  session : BitVec 16
  retransmit : Bool
  auth : Bool
  fromBuddy : Bool
  status : BitVec 16
  payload : List Byte
  crc : BitVec 32
  tag : List Byte
  deriving DecidableEq, Repr

/-- A write of one scalar object: its address, its value as the unsigned number of its bytes, and
the EPOCH field of the entry (Table 2-9). -/
structure ObjWrite where
  index : BitVec 16
  sub : BitVec 8
  value : BitVec 96
  epoch : BitVec 48
  deriving DecidableEq, Repr

/-- The fields of a native microword beside OP (Table 4-2). -/
structure MicroArgs where
  a : BitVec 5
  b : BitVec 5
  imm : BitVec 10
  wait : BitVec 4
  cyc : BitVec 2
  deriving DecidableEq, Repr

/-- A parity error met while the window opens (R136): the item (0 control word, 1 dispatch, 2 timer,
3 nano-word), its address, and whether the second read passes. -/
structure ParityUpset where
  item : BitVec 2
  address : BitVec 16
  rereadOk : Bool
  deriving DecidableEq, Repr

/-- What the tracker measures on one path of a pin that the calibration source exercises, in one of the rounds after the foreground
calibration, counted from 0 (R199): count, sum, sum of squares and largest magnitude of its residuals, in ticks. -/
structure SourceResid where
  round : Nat
  path : Fin 20
  n : Nat
  sum : Int
  squares : Nat
  largest : Nat
  deriving DecidableEq, Repr

/-- What foreground calibration measured on one pin (R199): the junction temperature in m-degC, the 20 path offsets, the eight
coarse-position tables of 32 entries and EYE_CAL; and what the rounds after it find on its paths (log 107). -/
structure CalResult where
  pin : Fin 256
  tempMc : Int
  offsets : List Int
  coarse : List (List Nat)
  eye : BitVec 32
  source : List SourceResid
  deriving DecidableEq, Repr

/-- What the sensor of a pin group reads, in steps of 0.125 degC (R185). -/
structure ThermalReading where
  group : Fin 16
  eighths : Int
  deriving DecidableEq, Repr

/-- The outcome of an eMRAM record write as the controller sees it (Table 15-5, JOURNAL). -/
inductive EmramWrite where
  | good | retried | failedTwice
  deriving DecidableEq, Repr

/-- An edge at a TDC source (R230, R232): the source code of Table 8-1, its polarity, the ns count
of the stamp-clock period it fell in, and the raw code of the fine stage that converts it. -/
structure TdcEdge where
  ch : Fin 264
  source : BitVec 8
  rising : Bool
  ns : BitVec 52
  raw : BitVec 12
  deriving DecidableEq, Repr

/-- The training outcome of one HBM stack: pseudo-channels that failed, and lanes repaired (R310, Table 11-7). -/
structure StackTraining where
  failed : BitVec 32
  lanes : BitVec 16
  deriving DecidableEq, Repr

/-- What the patrol scrub finds in the unit it reads (R320, R321): whether the stack reports an error that its on-die ECC corrected, and
the wrong bytes of the unit with its side-band: which of the 72, and what is added to each. -/
structure ScrubFound where
  onDie : Bool
  errors : List (Fin 72 × Byte)
  deriving DecidableEq, Repr

/-- The register fields and funct7 of an R-type Xsaw instruction (R335). -/
structure RType where
  rd : BitVec 5
  rs1 : BitVec 5
  rs2 : BitVec 5
  funct7 : BitVec 7
  deriving DecidableEq, Repr

/-- A message slot: 16 bytes, as one number with byte 0 lowest (R366). -/
abbrev Slot := BitVec 128

/-- A flit (Table 13-1); KIND is the command's row. -/
structure Flit where
  fseq : BitVec 12
  ack : BitVec 12
  credit0 : Byte
  credit1 : Byte
  credit2 : Byte
  credit3 : Byte
  slots : List Slot
  crc : BitVec 32
  deriving DecidableEq, Repr

/-- A Withy message (Table 13-3) with its body slots; TYPE is the command's row. -/
structure Msg where
  src : BitVec 14
  dst : BitVec 14
  block : Bool
  tag : BitVec 16
  addr : BitVec 48
  status : Byte
  size : Byte
  body : List Byte
  deriving DecidableEq, Repr

/-- A TIME message as received (R375, R396): the sender's stamp of the message, the local stamp of
its arrival, the partner's echo of our last exchange, and the values and states of TB0 to TB2. -/
structure TimeMsg where
  senderStamp : BitVec 64
  localStamp : BitVec 64
  echoSent : BitVec 64
  echoReceived : BitVec 64
  tb0 : BitVec 96
  tb1 : BitVec 96
  tb2 : BitVec 96
  st0 : BitVec 3
  st1 : BitVec 3
  st2 : BitVec 3
  deriving DecidableEq, Repr

/-- What a mirrored item is (R384). -/
inductive ItemKind where
  | record | job | journal
  deriving DecidableEq, Repr

/-- One mirrored item: its owner, its stream or boom, its sequence and its bytes. -/
structure MirrorItem where
  kind : ItemKind
  id : BitVec 16
  sequence : BitVec 48
  bytes : List Byte
  deriving DecidableEq, Repr

/-- A MIRROR message (R384) for device `dst`: an item of device `owner` and its highest acknowledged sequence. -/
structure MirrorMsg where
  owner : BitVec 14
  dst : BitVec 14
  item : MirrorItem
  acked : BitVec 48
  deriving DecidableEq, Repr

/-- A CONFIRM message (R384) of device `src` for an item of `device`; `fence` is the fence the buddy holds (R387). -/
structure ConfirmMsg where
  src : BitVec 14
  device : BitVec 14
  kind : ItemKind
  id : BitVec 16
  sequence : BitVec 48
  status : Byte
  fence : BitVec 64
  deriving DecidableEq, Repr

/-- Where a token came from: a Withy link or an Ethernet endpoint (R377, R378). -/
inductive TokenFrom where
  | link (l : Fin 8)
  | peer (a : HostAddr)
  deriving DecidableEq, Repr

/-- A token (Table 13-4) and its origin; KIND is the command's row.  `stamp`, `tgroup` and `unit`
are the FIRE fields. -/
structure Token where
  arrival : TokenFrom
  src : BitVec 14
  number : BitVec 32
  epoch : BitVec 48
  id : BitVec 32
  stamp : BitVec 64
  tgroup : Byte
  unit : BitVec 3
  deriving DecidableEq, Repr

/-- A token datagram (R378): the two slots of the token message, the CRC and the tag. -/
structure TokenDatagram where
  ip : IpInfo
  src : HostAddr
  header : Slot
  body : Slot
  crc : BitVec 32
  tag : List Byte
  deriving DecidableEq, Repr

/-- A received PTP message (R402, R403): the port, the fields of the standard's header and body that
an ordinary clock uses, and the stamp of its arrival. -/
structure PtpMsg where
  port : Fin 2
  transport : BitVec 2
  domain : Byte
  clockId : BitVec 64
  sourcePort : BitVec 16
  sequence : BitVec 16
  twoStep : Bool
  correction : BitVec 64
  origin : BitVec 96
  reqClockId : BitVec 64
  priority1 : Byte
  quality : BitVec 32
  priority2 : Byte
  steps : BitVec 16
  gmId : BitVec 64
  stamp : BitVec 64
  deriving DecidableEq, Repr

/-- The message intervals of a PTP port (R402). -/
inductive PtpTimer where
  | announce | sync | delayReq | announceReceipt
  deriving DecidableEq, Repr

/-- What a Sawyer access does: AMO operations of the A extension, and LR/SC (R331, R332). -/
inductive MemOp where
  | load (signed : Bool)
  | store
  | fetch
  | lr | sc
  | amoSwap | amoAdd | amoXor | amoAnd | amoOr | amoMin | amoMax | amoMinu | amoMaxu
  deriving DecidableEq, Repr

/-- An ordinary load, store, fetch or AMO of a hart: the operation, log2 of its size in bytes, its
virtual address, the value stored, and the destination register. -/
structure MemAccess where
  op : MemOp
  size : BitVec 2
  vaddr : BitVec 64
  value : BitVec 64
  rd : BitVec 5
  deriving DecidableEq, Repr

/-- An ICMP or ICMPv6 echo request (R50). -/
structure EchoFrame where
  eth : Fin 2
  ip : IpInfo
  src : HostAddr
  dst : BitVec 128
  payload : List Byte
  deriving DecidableEq, Repr

/-- An ARP request or Neighbor Solicitation for `target` (R50). -/
structure ArpFrame where
  eth : Fin 2
  v6 : Bool
  senderMac : BitVec 48
  senderIp : BitVec 128
  target : BitVec 128
  vlanTagged : Bool
  deriving DecidableEq, Repr

/-- The commands: one constructor per row of spec/opcode_table.json; each docstring gives the row's
mnemonic and the rule it names. -/
inductive Instr where
  /-- POWER_ON_RESET (R445). -/
  | powerOnReset
  /-- WARM_RESET (R445). -/
  | warmReset
  /-- TAP_RESET (R445). -/
  | tapReset
  /-- BOOT_COMPLETE (R447). -/
  | bootComplete
  /-- SUPPLY_FAULT (R460). -/
  | supplyFault
  /-- THERMAL_ALARM (R427). -/
  | thermalAlarm (reading : ThermalReading)
  /-- FIRMWARE_WATCHDOG (R427). -/
  | firmwareWatchdog
  /-- REFCLK_PRESENT (R30). -/
  | refclkPresent
  /-- REF_LOCK_COMPLETE (R30). -/
  | refLockComplete
  /-- REFCLK_LOSS (R442). -/
  | refclkLoss
  /-- SYNC_PULSE (R374). -/
  | syncPulse (instant : BitVec 64)
  /-- SYNC_LOSS (R374). -/
  | syncLoss
  /-- EPOCH_BOUNDARY (R374). -/
  | epochBoundary
  /-- CRYSTAL_SECOND (R395). -/
  | crystalSecond
  /-- REGISTER_WRITE (R46). -/
  | registerWrite (o : ObjWrite)
  /-- DEVICE_ID (R38). -/
  | deviceId (v : BitVec 16)
  /-- READ (R56). -/
  | read (f : DapFrame)
  /-- WRITE (R66). -/
  | write (f : DapFrame)
  /-- READ_BLOCK (R57). -/
  | readBlock (f : DapFrame)
  /-- WRITE_BLOCK (R58). -/
  | writeBlock (f : DapFrame)
  /-- SUBSCRIBE (R72). -/
  | subscribe (f : DapFrame)
  /-- UNSUBSCRIBE (R72). -/
  | unsubscribe (f : DapFrame)
  /-- SUBSCRIPTION_EVERY_N (R72). -/
  | subscriptionEveryN (n : BitVec 16)
  /-- NOTIFY_ACK (R73). -/
  | notifyAck (f : DapFrame)
  /-- NOTIFY_RESEND (R73). -/
  | notifyResend (sid : BitVec 16) (number : BitVec 48)
  /-- SESSION_OPEN (R59). -/
  | sessionOpen (f : DapFrame)
  /-- SESSION_CLOSE (R59). -/
  | sessionClose (f : DapFrame)
  /-- SESSION_IDLE_TIMEOUT (R59). -/
  | sessionIdleTimeout (sid : BitVec 16)
  /-- HELD_REQUEST_EXECUTE (R62). -/
  | heldRequestExecute (sid : BitVec 16)
  /-- PARTNER_PROBE (R74). -/
  | partnerProbe (f : DapFrame)
  /-- PARTNER_PROBE_REPLY (R386). -/
  | partnerProbeReply (f : DapFrame)
  /-- DAP_FRAME_RELAY (R75). -/
  | dapFrameRelay (op : Byte) (f : DapFrame)
  /-- ETH_LINK_UP (R51). -/
  | ethLinkUp (p : Fin 2)
  /-- ETH_LINK_LOSS (R51). -/
  | ethLinkLoss (p : Fin 2)
  /-- LAUNCH (R96). -/
  | launch (w : Fin 64) (desc : Byte) (epoch : BitVec 48)
  /-- JUMP (R104). -/
  | jump (w : Fin 64) (v : BitVec 16)
  /-- ABORT (R106). -/
  | abort (w : Fin 64)
  /-- STOP_ACK (R113). -/
  | stopAck (w : Fin 64)
  /-- SEG_TABLE (R94). -/
  | segTable (w : Fin 64) (data : List Byte)
  /-- GRANULE_WINDOW_OPEN (R124). -/
  | granuleWindowOpen (w : Fin 64) (upset : Option ParityUpset)
  /-- GRANULE_END (R83). -/
  | granuleEnd (w : Fin 64)
  /-- SAFE_STOP (R111). -/
  | safeStop (w : Fin 64)
  /-- BLOCK_FETCH_COMPLETE (R110). -/
  | blockFetchComplete (w : Fin 64) (block : BitVec 28)
  /-- TRGO_PULSE (R114). -/
  | trgoPulse (w : Fin 64)
  /-- TRGO_PULSE_END (R114). -/
  | trgoPulseEnd (k : Fin 8)
  /-- NOP (R85). -/
  | nop (w : Fin 64)
  /-- TAIL (R99). -/
  | tail (w : Fin 64)
  /-- JMP (R85). -/
  | jmp (w : Fin 64)
  /-- RPT (R89). -/
  | rpt (w : Fin 64)
  /-- LOOP (R89). -/
  | loop (w : Fin 64)
  /-- CALL (R85). -/
  | call (w : Fin 64)
  /-- RET (R85). -/
  | ret (w : Fin 64)
  /-- MATCH (R91). -/
  | pmatch (w : Fin 64)
  /-- JF (R90). -/
  | jf (w : Fin 64)
  /-- JNF (R90). -/
  | jnf (w : Fin 64)
  /-- JMT (R85). -/
  | jmt (w : Fin 64)
  /-- CLRF (R90). -/
  | clrf (w : Fin 64)
  /-- SITEOFF (R92). -/
  | siteoff (w : Fin 64)
  /-- PEC (R85). -/
  | pec (w : Fin 64)
  /-- MARK (R207). -/
  | mark (w : Fin 64)
  /-- TRIG (R114). -/
  | trig (w : Fin 64)
  /-- USER_OPCODE (R131). -/
  | userOpcode (w : Fin 64)
  /-- HSTEP (R141). -/
  | hstep (w : Fin 64)
  /-- HFIN (R141). -/
  | hfin (w : Fin 64)
  /-- HGO (R141). -/
  | hgo (w : Fin 64)
  /-- HRPT (R141). -/
  | hrpt (w : Fin 64)
  /-- HLPA (R141). -/
  | hlpa (w : Fin 64)
  /-- HLPB (R141). -/
  | hlpb (w : Fin 64)
  /-- HSUB (R141). -/
  | hsub (w : Fin 64)
  /-- HBACK (R141). -/
  | hback (w : Fin 64)
  /-- HSEEK (R141). -/
  | hseek (w : Fin 64)
  /-- HFAIL (R141). -/
  | hfail (w : Fin 64)
  /-- HPASS (R141). -/
  | hpass (w : Fin 64)
  /-- HRST (R141). -/
  | hrst (w : Fin 64)
  /-- HLVL (R141). -/
  | hlvl (w : Fin 64)
  /-- HTAG (R141). -/
  | htag (w : Fin 64)
  /-- MICRO_NOP (R127). -/
  | microNop (w : Fin 64) (m : MicroArgs)
  /-- DONE (R126). -/
  | done (w : Fin 64) (m : MicroArgs)
  /-- TRET (R126). -/
  | tret (w : Fin 64) (m : MicroArgs)
  /-- ILL (R129). -/
  | ill (w : Fin 64) (m : MicroArgs)
  /-- MOV (R127). -/
  | mov (w : Fin 64) (m : MicroArgs)
  /-- MOVT (R127). -/
  | movt (w : Fin 64) (m : MicroArgs)
  /-- LDI (R127). -/
  | ldi (w : Fin 64) (m : MicroArgs)
  /-- LDIS (R127). -/
  | ldis (w : Fin 64) (m : MicroArgs)
  /-- ADD (R127). -/
  | add (w : Fin 64) (m : MicroArgs)
  /-- SUB (R127). -/
  | sub (w : Fin 64) (m : MicroArgs)
  /-- ADDI (R127). -/
  | addi (w : Fin 64) (m : MicroArgs)
  /-- AND (R127). -/
  | and (w : Fin 64) (m : MicroArgs)
  /-- OR (R127). -/
  | or (w : Fin 64) (m : MicroArgs)
  /-- XOR (R127). -/
  | xor (w : Fin 64) (m : MicroArgs)
  /-- SHL (R127). -/
  | shl (w : Fin 64) (m : MicroArgs)
  /-- SHR (R127). -/
  | shr (w : Fin 64) (m : MicroArgs)
  /-- TEQ (R127). -/
  | teq (w : Fin 64) (m : MicroArgs)
  /-- TLT (R127). -/
  | tlt (w : Fin 64) (m : MicroArgs)
  /-- TBIT (R127). -/
  | tbit (w : Fin 64) (m : MicroArgs)
  /-- TST (R127). -/
  | tst (w : Fin 64) (m : MicroArgs)
  /-- BRC (R127). -/
  | brc (w : Fin 64) (m : MicroArgs)
  /-- JMPR (R127). -/
  | jmpr (w : Fin 64) (m : MicroArgs)
  /-- CSTEP (R128). -/
  | cstep (w : Fin 64) (m : MicroArgs)
  /-- CCLR (R127). -/
  | cclr (w : Fin 64) (m : MicroArgs)
  /-- PUSH (R127). -/
  | push (w : Fin 64) (m : MicroArgs)
  /-- POP (R127). -/
  | pop (w : Fin 64) (m : MicroArgs)
  /-- STAIL (R127). -/
  | stail (w : Fin 64) (m : MicroArgs)
  /-- FCLR (R127). -/
  | fclr (w : Fin 64) (m : MicroArgs)
  /-- MCLR (R127). -/
  | mclr (w : Fin 64) (m : MicroArgs)
  /-- MTOUT (R127). -/
  | mtout (w : Fin 64) (m : MicroArgs)
  /-- SOFF (R127). -/
  | soff (w : Fin 64) (m : MicroArgs)
  /-- PECQ (R177). -/
  | pecq (w : Fin 64) (m : MicroArgs)
  /-- REC (R127). -/
  | recq (w : Fin 64) (m : MicroArgs)
  /-- TRGS (R127). -/
  | trgs (w : Fin 64) (m : MicroArgs)
  /-- ECFG (R134). -/
  | ecfg (w : Fin 64) (m : MicroArgs)
  /-- ETST (R127). -/
  | etst (w : Fin 64) (m : MicroArgs)
  /-- EACK (R134). -/
  | eack (w : Fin 64) (m : MicroArgs)
  /-- MICRO_TIMER_EXPIRY (R133). -/
  | microTimerExpiry (w : Fin 64) (n : Fin 8)
  /-- NANO_MODE (R138). -/
  | nanoMode (w : Fin 64) (v : Byte)
  /-- SHADOW_SLOT (R143). -/
  | shadowSlot (w : Fin 64) (v : Byte) (readBackOk : Bool)
  /-- USER_UCODE (R132). -/
  | userUcode (w : Fin 64) (data : List Byte)
  /-- EXCHANGE (R144). -/
  | exchange (w : Fin 64)
  /-- COMPARATOR_CHANGE (R163). -/
  | comparatorChange (p : Fin 256) (line : CmpLine) (level : Bool) (instant : BitVec 64)
  /-- GLITCH_FILTER_ACCEPT (R163). -/
  | glitchFilterAccept (p : Fin 256) (line : CmpLine)
  /-- HOLDOFF_END (R164). -/
  | holdoffEnd (p : Fin 256)
  /-- TSET_SHADOW (R159). -/
  | tsetShadow (p : Fin 256) (data : List Byte)
  /-- TSET_COMMIT (R160). -/
  | tsetCommit (p : Fin 256)
  /-- STICKY_CLR (R475). -/
  | stickyClr (p : Fin 256) (mask : BitVec 32)
  /-- LIST_STORE (R173). -/
  | listStore (k : Fin 16) (data : List Byte)
  /-- ISSUE (R175). -/
  | issue (k : Fin 16) (n : BitVec 16)
  /-- PEC_QUEUE_TRANSFER (R177). -/
  | pecQueueTransfer (w : Fin 64)
  /-- PEC_LIST_START (R175). -/
  | pecListStart (k : Fin 16)
  /-- PEC_FRAME_COMPLETE (R174). -/
  | pecFrameComplete (k : Fin 16) (sdi : List Bool)
  /-- TRACKER_ROUND_END (R190). -/
  | trackerRoundEnd
  /-- REBUILD_COMPLETE (R191). -/
  | rebuildComplete
  /-- SWAP_TIMEOUT (R193). -/
  | swapTimeout (w : Fin 64)
  /-- GROUP_EPOCH (R195). -/
  | groupEpoch (e : BitVec 64)
  /-- CAL_START (R199). -/
  | calStart
  /-- FOREGROUND_CAL_COMPLETE (R199). -/
  | foregroundCalComplete (results : List CalResult)
  /-- FIELD_COMMIT (R200). -/
  | fieldCommit
  /-- TAP_QUERY (R202). -/
  | tapQuery (p : Fin 256) (v : BitVec 64)
  /-- RECORD_PLACEMENT (R220). -/
  | recordPlacement (stream : BitVec 16)
  /-- STREAM_TABLE (R219). -/
  | streamTable (data : List Byte)
  /-- JOURNAL_WRITE (R418). -/
  | journalWrite (attempt : EmramWrite)
  /-- ST_DATA (R225). -/
  | stData (stream : BitVec 16)
  /-- ST_OPEN (R224). -/
  | stOpen (f : StFrame)
  /-- ST_ACK (R226). -/
  | stAck (f : StFrame)
  /-- ST_NAK (R226). -/
  | stNak (f : StFrame)
  /-- ST_CLOSE (R224). -/
  | stClose (f : StFrame)
  /-- ST_ACK_TIMEOUT (R227). -/
  | stAckTimeout (stream : BitVec 16)
  /-- TDC_ARM (R236). -/
  | tdcArm (ch : Fin 264)
  /-- TDC_DISARM (R243). -/
  | tdcDisarm (ch : Fin 264)
  /-- TDC_EDGE (R235). -/
  | tdcEdge (e : TdcEdge)
  /-- TDC_GATE_END (R237). -/
  | tdcGateEnd (ch : Fin 264)
  /-- TDC_TIMEOUT (R239). -/
  | tdcTimeout (ch : Fin 264)
  /-- TDC_RESULT_WRITE (R244). -/
  | tdcResultWrite (ch : Fin 264)
  /-- CD_START (R249). -/
  | cdStart
  /-- CD_INTERVAL_EXPIRY (R249). -/
  | cdIntervalExpiry
  /-- CD_TABLE_COMPLETE (R250). -/
  | cdTableComplete (ch : Fin 264) (hitsA : List Nat) (hitsB : List Nat)
  /-- SENSE_CONVERSION (R256). -/
  | senseConversion (v0 : Int) (v1 : Int) (v2 : Int) (v3 : Int)
  /-- DETECTOR_BLOCK_END (R268). -/
  | detectorBlockEnd (c : Fin 8)
  /-- OVR_CLR (R259). -/
  | ovrClr (n : Fin 32)
  /-- FC_START (R265). -/
  | fcStart (c : Fin 8)
  /-- FC_STOP (R265). -/
  | fcStop (c : Fin 8)
  /-- COEFFS (R267). -/
  | coeffs (c : Fin 8) (data : List Byte)
  /-- ACQ_ARM (R286). -/
  | acqArm (u : Fin 8)
  /-- ACQ_DISARM (R277). -/
  | acqDisarm (u : Fin 8)
  /-- GROUP_ARM (R281). -/
  | groupArm (u : Fin 8) (epoch : BitVec 48)
  /-- HOST_FIRE (R274). -/
  | hostFire (u : Fin 8)
  /-- ACQ_CONDITION_TEST (R283). -/
  | acqConditionTest (u : Fin 8)
  /-- ACQ_INTERVAL_END (R269). -/
  | acqIntervalEnd (u : Fin 8)
  /-- ACQ_POST_END (R276). -/
  | acqPostEnd (u : Fin 8)
  /-- ACQ_RECORD_WRITE (R279). -/
  | acqRecordWrite (u : Fin 8)
  /-- MASK (R278). -/
  | mask (u : Fin 8) (data : List Byte)
  /-- CONDITIONS (R273). -/
  | conditions (u : Fin 8) (data : List Byte)
  /-- RASTER_ENABLE (R288). -/
  | rasterEnable (g : Fin 2)
  /-- RASTER_DISABLE (R288). -/
  | rasterDisable (g : Fin 2)
  /-- PRESENT (R294). -/
  | present (g : Fin 2) (n : Byte)
  /-- TIMING (R298). -/
  | timing (g : Fin 2) (data : List Byte)
  /-- RECTS (R300). -/
  | rects (g : Fin 2) (data : List Byte)
  /-- SELF_REFRESH_REQUEST (R303). -/
  | selfRefreshRequest (g : Fin 2)
  /-- SELF_REFRESH_EXIT (R304). -/
  | selfRefreshExit (g : Fin 2)
  /-- MISMATCH_CLR (R302). -/
  | mismatchClr (g : Fin 2) (m : BitVec 32)
  /-- FRAME_START (R296). -/
  | frameStart (g : Fin 2)
  /-- RECT_CRC_COMPLETE (R302). -/
  | rectCrcComplete (g : Fin 2) (returned : Bool)
  /-- HBM_INIT_COMPLETE (R313). -/
  | hbmInitComplete (training : List StackTraining)
  /-- REINIT (R311). -/
  | reinit
  /-- TRAIN_START (R315). -/
  | trainStart
  /-- TRAIN_COMPLETE (R315). -/
  | trainComplete (training : List StackTraining)
  /-- MEM_TEST (R328). -/
  | memTest
  /-- MEM_TEST_COMPLETE (R328). -/
  | memTestComplete (errors : List (BitVec 32))
  /-- HBM_POWER_DOWN_ENTRY (R323). -/
  | hbmPowerDownEntry (pc : Fin 128)
  /-- HBM_SELF_REFRESH_ENTRY (R323). -/
  | hbmSelfRefreshEntry (st : Fin 4)
  /-- HBM_REFRESH (R316). -/
  | hbmRefresh (st : Fin 4) (milliC : Int)
  /-- SCRUB_READ (R321). -/
  | scrubRead (found : ScrubFound)
  /-- SAWYER_LOAD_STORE (R332). -/
  | sawyerLoadStore (c : Fin 1024) (a : MemAccess)
  /-- BQ_ENQ (R335). -/
  | bqEnq (c : Fin 1024) (x : RType)
  /-- BQ_WAIT (R352). -/
  | bqWait (c : Fin 1024) (x : RType)
  /-- BQ_POLL (R335). -/
  | bqPoll (c : Fin 1024) (x : RType)
  /-- BQ_RES (R335). -/
  | bqRes (c : Fin 1024) (x : RType)
  /-- BQ_DONE (R346). -/
  | bqDone (c : Fin 1024) (x : RType)
  /-- BQ_ABORT (R346). -/
  | bqAbort (c : Fin 1024) (x : RType)
  /-- BQ_STAT (R335). -/
  | bqStat (c : Fin 1024) (x : RType)
  /-- TALLY_ADD (R340). -/
  | tallyAdd (c : Fin 1024) (x : RType)
  /-- TALLY_RD (R335). -/
  | tallyRd (c : Fin 1024) (x : RType)
  /-- CRC32C_B (R339). -/
  | crc32cB (c : Fin 1024) (x : RType)
  /-- CRC32C_W (R339). -/
  | crc32cW (c : Fin 1024) (x : RType)
  /-- CRC32C_D (R339). -/
  | crc32cD (c : Fin 1024) (x : RType)
  /-- CRC32C_REC (R339). -/
  | crc32cRec (c : Fin 1024) (x : RType)
  /-- TASK_DELIVERY (R349). -/
  | taskDelivery (k : Fin 8)
  /-- TASK_TIMEOUT (R353). -/
  | taskTimeout (q : BitVec 16) (seq : BitVec 48)
  /-- BOOM_DESC (R342). -/
  | boomDesc (q : BitVec 16) (data : List Byte)
  /-- BOOM_DISABLE (R343). -/
  | boomDisable (q : BitVec 16)
  /-- MIGRATE_FINISH (R355). -/
  | migrateFinish (q : BitVec 16) (group : BitVec 6)
  /-- MIGRATE_ABORT (R355). -/
  | migrateAbort (q : BitVec 16) (group : BitVec 6)
  /-- DRAIN_TIMEOUT (R355). -/
  | drainTimeout (q : BitVec 16)
  /-- PARTITION_RUN (R348). -/
  | partitionRun (k : Fin 8)
  /-- PARTITION_STOP (R358). -/
  | partitionStop (k : Fin 8)
  /-- WIN_SUBMIT (R359). -/
  | winSubmit (data : List Byte)
  /-- WITHY_LINK_UP (R365). -/
  | withyLinkUp (l : Fin 8) (partner : BitVec 16) (link : Fin 8) (level : BitVec 16)
  /-- WITHY_RETRAIN (R365). -/
  | withyRetrain (l : Fin 8)
  /-- WITHY_LINK_DOWN (R368). -/
  | withyLinkDown (l : Fin 8)
  /-- FLIT_DATA (R367). -/
  | flitData (l : Fin 8) (f : Flit)
  /-- FLIT_IDLE (R366). -/
  | flitIdle (l : Fin 8) (f : Flit)
  /-- FLIT_NAK (R367). -/
  | flitNak (l : Fin 8) (f : Flit)
  /-- FLIT_REPLAY_TIMEOUT (R367). -/
  | flitReplayTimeout (l : Fin 8)
  /-- FLIT_ACK_TIMER (R367). -/
  | flitAckTimer (l : Fin 8)
  /-- RD_REQ (R372). -/
  | rdReq (l : Fin 8) (m : Msg)
  /-- WR_REQ (R372). -/
  | wrReq (l : Fin 8) (m : Msg)
  /-- RD_RESP (R372). -/
  | rdResp (l : Fin 8) (m : Msg)
  /-- WR_RESP (R372). -/
  | wrResp (l : Fin 8) (m : Msg)
  /-- DAP_RELAY (R75). -/
  | dapRelay (l : Fin 8) (op : Byte) (f : DapFrame)
  /-- TIME (R396). -/
  | time (l : Fin 8) (m : TimeMsg)
  /-- MIRROR (R384). -/
  | mirror (l : Fin 8) (m : MirrorMsg)
  /-- CONFIRM (R384). -/
  | confirm (l : Fin 8) (m : ConfirmMsg)
  /-- TOKEN_COMMIT (R380). -/
  | tokenCommit (t : Token)
  /-- TOKEN_ABORT (R380). -/
  | tokenAbort (t : Token)
  /-- TOKEN_SWAP (R381). -/
  | tokenSwap (t : Token)
  /-- TOKEN_ARM (R382). -/
  | tokenArm (t : Token)
  /-- TOKEN_FIRE (R382). -/
  | tokenFire (t : Token)
  /-- TOKEN_DATAGRAM (R378). -/
  | tokenDatagram (d : TokenDatagram)
  /-- REMOTE_TIMEOUT (R372). -/
  | remoteTimeout (tag : BitVec 16)
  /-- BLOCK_LOAD (R373). -/
  | blockLoad (data : List Byte)
  /-- TIME_EXCHANGE (R375). -/
  | timeExchange
  /-- EPOCH_ALIGN (R375). -/
  | epochAlign (data : List Byte)
  /-- SYNC_PERIOD (R477). -/
  | syncPeriod (v : BitVec 32)
  /-- SYNC_COMP (R477). -/
  | syncComp (v : BitVec 64)
  /-- PREPARE (R379). -/
  | prepare (data : List Byte)
  /-- CHANGE_COMMIT (R380). -/
  | changeCommit (id : BitVec 32)
  /-- CHANGE_ABORT (R380). -/
  | changeAbort (id : BitVec 32)
  /-- SWAP_SEND (R381). -/
  | swapSend (e : BitVec 64)
  /-- TAKEOVER (R387). -/
  | takeover (fence : BitVec 64)
  /-- PARTNER_PROBE_TIMER (R386). -/
  | partnerProbeTimer
  /-- PARTNER_PROBE_TIMEOUT (R386). -/
  | partnerProbeTimeout
  /-- CONFIRM_TIMEOUT (R386). -/
  | confirmTimeout
  /-- RECOVERY_BUDDY_SYNC (R421). -/
  | recoveryBuddySync (items : List MirrorItem) (fence : BitVec 64)
  /-- SET (R395). -/
  | set (t : Fin 4) (v : BitVec 96)
  /-- ADJUST (R397). -/
  | adjust (t : Fin 4) (c : BitVec 64)
  /-- FORCE (R398). -/
  | force (t : Fin 4)
  /-- CONV_STAMP (R401). -/
  | convStamp (t : Fin 4) (v : BitVec 64)
  /-- HOLDOVER_TIMEOUT (R399). -/
  | holdoverTimeout (t : Fin 4)
  /-- PTP_SYNC (R402). -/
  | ptpSync (m : PtpMsg)
  /-- PTP_FOLLOW_UP (R402). -/
  | ptpFollowUp (m : PtpMsg)
  /-- PTP_DELAY_REQ (R402). -/
  | ptpDelayReq (m : PtpMsg)
  /-- PTP_DELAY_RESP (R402). -/
  | ptpDelayResp (m : PtpMsg)
  /-- PTP_PDELAY_REQ (R402). -/
  | ptpPdelayReq (m : PtpMsg)
  /-- PTP_PDELAY_RESP (R402). -/
  | ptpPdelayResp (m : PtpMsg)
  /-- PTP_PDELAY_RESP_FOLLOW_UP (R402). -/
  | ptpPdelayRespFollowUp (m : PtpMsg)
  /-- PTP_ANNOUNCE (R402). -/
  | ptpAnnounce (m : PtpMsg)
  /-- PTP_MESSAGE_TIMER (R402). -/
  | ptpMessageTimer (p : Fin 2) (k : PtpTimer)
  /-- TPULSE_RISE (R405). -/
  | tpulseRise
  /-- TPULSE_FALL (R405). -/
  | tpulseFall
  /-- AGEING_UPDATE (R404). -/
  | ageingUpdate
  /-- XTAL_MEASUREMENT (R404). -/
  | xtalMeasurement (ppb : BitVec 32)
  /-- FAULT_ACK (R428). -/
  | faultAck (data : List Byte)
  /-- FIRST_CLR (R432). -/
  | firstClr
  /-- HISTORY_RECORD_WRITE (R432). -/
  | historyRecordWrite
  /-- DEVICE_FAULT_SAFE_ENTRY (R431). -/
  | deviceFaultSafeEntry
  /-- TALLY_CLEAR (R434). -/
  | tallyClear (k : Fin 128)
  /-- MODE_REQUEST (R438). -/
  | modeRequest (data : List Byte)
  /-- MODE_TRANSITION_COMPLETE (R439). -/
  | modeTransitionComplete (retrain : List StackTraining)
  /-- RESET (R446). -/
  | reset
  /-- STAGE (R451). -/
  | stage (kind : ImageKind) (data : List Byte)
  /-- INSTALL (R451). -/
  | install (kind : ImageKind) (slot : Byte)
  /-- INSTALL_COMPLETE (R451). -/
  | installComplete (kind : ImageKind)
  /-- FLOOR (R452). -/
  | floor (kind : ImageKind) (v : BitVec 32)
  /-- WAKE_PIN (R453). -/
  | wakePin
  /-- WAKE_ALARM (R453). -/
  | wakeAlarm
  /-- TRGI_EDGE (R453). -/
  | trgiEdge (k : Fin 4) (level : Bool)
  /-- WAKE_NOTIFY_RESEND (R454). -/
  | wakeNotifyResend
  /-- WAKE_CLR (R454). -/
  | wakeClr
  /-- PG_IDLE_EXPIRY (R443). -/
  | pgIdleExpiry (g : Fin 16)
  /-- PG_PLL_LOCK (R444). -/
  | pgPllLock (g : Fin 16)
  /-- PG_PLL_LOCK_TIMEOUT (R444). -/
  | pgPllLockTimeout (g : Fin 16)
  /-- CLOCK_LOCK_LOSS (R32). -/
  | clockLockLoss (d : Fin 48)
  /-- REFWARM_CHANGE (R251). -/
  | refwarmChange (level : Bool)
  /-- TCK_EDGE (R467). -/
  | tckEdge (rising : Bool) (tms : Bool) (tdi : Bool)
  /-- ALIVE_TRANSITION (R433). -/
  | aliveTransition
  /-- SLEW_COMPLETE (R400). -/
  | slewComplete (t : Fin 4)
  /-- MACHINE_TIMER_INTERRUPT (R333). -/
  | machineTimerInterrupt (c : Fin 1024)
  /-- ECHO_REQUEST (R50). -/
  | echoRequest (e : EchoFrame)
  /-- ARP_AND_NEIGHBOR_DISCOVERY (R50). -/
  | arpAndNeighborDiscovery (a : ArpFrame)
  deriving DecidableEq, Repr

end Sys2Proof
end

