-- ==== Sys2Proof/Config.lean ====
section
/-!
DEFINITION. Sys2Proof/Config.lean: what one part, its fuses and its factory fix, and the free values.
Every constant here is opaque: nothing can be proved about its value, so a claim holds whatever the
part holds (notes/assumptions 1, 10, 11, 12).
-/
namespace Sys2Proof.Config

/-- Free values: the n-th value the spec leaves open in a run (log 1). -/
opaque freeValue : Nat → Nat

/-- The ordering code fused at manufacture (R1, R3): true for ZT256-16-FB, false for ZT256-10-FB. -/
opaque grade16 : Bool

/-- DEVICE_SERIAL (R5), factory-assigned. -/
opaque deviceSerial : BitVec 64

/-- MAC_ADDR of each port (R77), factory-assigned. -/
opaque macAddr : Fin 2 → BitVec 48

/-- Byte j of the signal or rail name of a ball in BALL_TABLE (R471). -/
opaque ballSignal : (ball j : Nat) → Byte

/-- Offset of path `path` of factory set `set` of a pin, in ticks (R184, R185). -/
opaque factoryOffset : (pin set path : Nat) → Int

/-- COARSE_POS[g][c] of factory set `set` of a pin (R184, R185). -/
opaque factoryCoarse : (pin set g c : Nat) → Nat

/-- INTERNAL_RT of a pin (R202). -/
opaque internalRt : Nat → Int

/-- map[k] of fine stage `stage` (0 A, 1 B) of the factory code-density table of a TDC channel (R250, R252). -/
opaque factoryCodeDensity : (ch stage k : Nat) → Nat

/-- TEMP_MC of a channel's factory code-density table (Table 8-7). -/
opaque factoryCodeDensityTemp : Nat → Int

/-- How many banks beyond two a pseudo-channel has (R308). -/
opaque bankCount : Nat

/-- The fixed vendor taps of a half-band stage, the centre tap apart (R262). -/
opaque halfBandTap : Nat → Int

/-- The vendor FIR coefficients of the presets FAST, NORMAL and QUIET (R263). -/
opaque firVendor : (preset j : Nat) → Int

/-- ENBW_REL of a CUSTOM chain whose coefficients sum to 0, as the bits of an F32: its DC gain is 0, and R263 states no value (log 12). -/
opaque enbwCustom : (r h d : Nat) → List Int → BitVec 32

/-- The ECDSA P-384 public key fused in a key slot (R448). -/
opaque fusedKey : Nat → Nat × Nat

/-- Whether the device fuses revoke a key slot (R448). -/
opaque keyRevoked : Nat → Bool

/-- The image a factory-new eMRAM holds in each slot (R47, R448, log 6). -/
opaque factoryImage : ImageKind → Nat → List Byte

/-- The number a session, a subscription or a nonce gets from the device (R59, R60, R72, log 11). -/
opaque deviceNumber : Nat → Nat

/-- The microcode image's nano part: whether two slots hold the same nano image (R143). -/
opaque nanoImageEqual : Nat → Nat → Bool

/-- The clockIdentity of a PTP port, which the source leaves to IEEE 1588 (R402, log 56). -/
opaque clockIdentity : Fin 2 → BitVec 64

/-- The clockQuality a port's own dataset has in the best master clock algorithm: class, accuracy and variance as 32 bits,
which the source leaves to IEEE 1588 (R402, log 56). -/
opaque ptpQuality : BitVec 32

/-- The correction of LINK_OFFSET, in ticks, by an ASYM that is not 0 (R375, log 57). -/
opaque asymTerm : Int → Int

end Sys2Proof.Config
end

