-- ==== Sys2Proof/Machine/Bits.lean ====
section
/-!
DEFINITION. Sys2Proof/Machine/Bits.lean: bit fields, byte order, signed readings, rounding and the
CRC-32C of R339, used by every chapter (00_scope.md R8, R9; 12_sawyer_scheduler.md R339).
-/
namespace Sys2Proof.Machine

/-- Field [lo + len - 1 : lo] of a number (R8). -/
def bits (n lo len : Nat) : Nat := n / 2 ^ lo % 2 ^ len

/-- Bit i of a number. -/
def bit (n i : Nat) : Bool := n.testBit i

/-- A number with bit i set. -/
def setBit (n i : Nat) : Nat := n ||| 2 ^ i

/-- A number with the bits of `m` cleared. -/
def clearBits (n m : Nat) : Nat := n - (n &&& m)

/-- A number with bit i cleared. -/
def clearBit (n i : Nat) : Nat := clearBits n (2 ^ i)

/-- A number with bit i given. -/
def putBit (n i : Nat) (b : Bool) : Nat := if b then setBit n i else clearBit n i

/-- 1 for true, 0 for false. -/
def ofBool (b : Bool) : Nat := if b then 1 else 0

/-- How many of the bits below `w` of a number are 1. -/
def popCount (n w : Nat) : Nat := (List.range w).countP (bit n)

/-- The bit positions below `w` at which a number is 1, lowest first. -/
def setBits (n w : Nat) : List Nat := (List.range w).filter (bit n)

/-- The two's-complement reading of the low `w` bits. -/
def toSigned (w n : Nat) : Int :=
  let m := n % 2 ^ w
  if m < 2 ^ (w - 1) then (m : Int) else (m : Int) - (2 ^ w : Nat)

/-- The two's-complement bits of an integer, modulo 2^w. -/
def ofSigned (w : Nat) (i : Int) : Nat := (i % ((2 ^ w : Nat) : Int)).toNat

/-- An integer limited to a range. -/
def clampInt (lo hi i : Int) : Int := if i < lo then lo else if hi < i then hi else i

/-- a / b rounded to nearest, halves away from zero. -/
def roundDiv (a : Int) (b : Nat) : Int :=
  let q := (2 * a.natAbs + b) / (2 * b)
  if a < 0 then -(q : Int) else (q : Int)

/-- ceil(a / b). -/
def ceilDiv (a b : Nat) : Nat := (a + b - 1) / b

/-- Integer square root: the largest r with r * r ≤ n, one bit of the root per step. -/
def isqrtBits : Nat → Nat → Nat → Nat
  | 0, _, r => r
  | k + 1, n, r =>
    let t := r + 2 ^ k
    isqrtBits k n (if t * t ≤ n then t else r)

/-- floor(sqrt n). -/
def isqrt (n : Nat) : Nat := isqrtBits (n.log2 / 2 + 1) n 0

/-- sqrt(a / b) rounded to nearest, halves away from zero. -/
def roundSqrtDiv (a b : Nat) : Nat := (isqrt (4 * a / b) + 1) / 2

/-! ## Non-negative numbers of IEEE 754 binary64 (R247) -/

/-- The number m · 2^e; m has at most 53 bits. -/
structure F64 where
  m : Nat
  e : Int
  deriving DecidableEq, Repr

/-- m · 2^e, and a little more where `sticky`, rounded to 53 bits, ties to even. -/
def F64.fit (m : Nat) (e : Int) (sticky : Bool) : F64 :=
  let k := m.log2 + 1 - 53
  let q := m / 2 ^ k
  let r := 2 * (m % 2 ^ k)
  if k = 0 then ⟨m, e⟩
  else ⟨if 2 ^ k < r ∨ (r = 2 ^ k ∧ (sticky ∨ q % 2 = 1)) then q + 1 else q, e + k⟩

/-- The nearest binary64 of a number. -/
def F64.ofNat (n : Nat) : F64 := F64.fit n 0 false

/-- The product. -/
def F64.mul (a b : F64) : F64 := F64.fit (a.m * b.m) (a.e + b.e) false

/-- The quotient; 0 where the divisor is 0. -/
def F64.div (a b : F64) : F64 :=
  let s := 56 + b.m.log2 - a.m.log2
  let n := a.m * 2 ^ s
  F64.fit (n / b.m) (a.e - b.e - s) (n % b.m != 0)

/-- The square root. -/
def F64.sqrt (a : F64) : F64 :=
  let s := 112 - a.m.log2
  let t := if (a.e - s) % 2 = 0 then s else s + 1
  let n := a.m * 2 ^ t
  let r := isqrt n
  F64.fit r ((a.e - t) / 2) (r * r != n)

/-- The nearest integer, halves away from zero. -/
def F64.round (a : F64) : Nat :=
  if 0 ≤ a.e then a.m * 2 ^ a.e.toNat else (2 * a.m + 2 ^ (-a.e).toNat) / (2 * 2 ^ (-a.e).toNat)

/-- The little-endian bytes of a number (R9). -/
def leBytes : Nat → Nat → List Byte
  | 0, _ => []
  | k + 1, n => BitVec.ofNat 8 n :: leBytes k (n / 256)

/-- The number little-endian bytes spell (R9). -/
def ofLe : List Byte → Nat
  | [] => 0
  | b :: bs => b.toNat + 256 * ofLe bs

/-- The number big-endian bytes spell (fields of published standards, R9). -/
def ofBe (l : List Byte) : Nat := ofLe l.reverse

/-- The big-endian bytes of a number. -/
def beBytes (k n : Nat) : List Byte := (leBytes k n).reverse

/-- `len` bytes from offset `off`; a byte beyond the end reads 0. -/
def slice (l : List Byte) (off len : Nat) : List Byte :=
  let s := (l.drop off).take len
  s ++ List.replicate (len - s.length) 0

/-- The little-endian number at byte offset `off`, `len` bytes wide. -/
def leAt (l : List Byte) (off len : Nat) : Nat := ofLe (slice l off len)

/-- A byte block padded with zeros to a length. -/
def padTo (n : Nat) (l : List Byte) : List Byte := (l ++ List.replicate (n - l.length) 0).take n

/-- Whether every byte is zero. -/
def allZero (l : List Byte) : Bool := l.all (· == 0)

/-- One bit of the reflected CRC-32C register (R339). -/
def crcBit (c : BitVec 32) : BitVec 32 :=
  if c.getLsbD 0 then (c >>> 1) ^^^ 0x82F63B78#32 else c >>> 1

/-- crc(c, b): one byte (R339). -/
def crcByte (c : BitVec 32) (b : Byte) : BitVec 32 :=
  let x := c ^^^ b.zeroExtend 32
  crcBit (crcBit (crcBit (crcBit (crcBit (crcBit (crcBit (crcBit x)))))))

/-- crc(c, bytes), low byte first (R339). -/
def crcBytes (c : BitVec 32) (l : List Byte) : BitVec 32 := l.foldl crcByte c

/-- The standard CRC-32C (R339, R411). -/
def crc32c (l : List Byte) : BitVec 32 := crcBytes 0xFFFFFFFF#32 l ^^^ 0xFFFFFFFF#32

/-- A block that ends in the CRC-32C of the bytes before it (R205). -/
def sealCrc (l : List Byte) : List Byte := l ++ leBytes 4 (crc32c l).toNat

/-- Whether a block ends in the CRC-32C of the bytes before it. -/
def crcOk (l : List Byte) : Bool :=
  4 ≤ l.length && leAt l (l.length - 4) 4 == (crc32c (l.take (l.length - 4))).toNat

/-- Odd parity of the low `w` bits: the bit that makes the count of ones odd (Table 4-10). -/
def oddParity (n w : Nat) : Bool := popCount n w % 2 == 0

/-- Builds a number from fields, each (width, value), lowest first. -/
def packFields : List (Nat × Nat) → Nat
  | [] => 0
  | (w, v) :: r => v % 2 ^ w + 2 ^ w * packFields r

end Sys2Proof.Machine
end

