-- ==== Sys2Proof/Machine/Dict.lean ====
section
/-!
DEFINITION. Sys2Proof/Machine/Dict.lean: the object dictionary as the spec's object tables give it:
index, sub-index, name, type, access right, default and range of every object (02_dictionary_access.md
R43 to R48, R77 and the object table of every chapter).
-/
namespace Sys2Proof.Machine

/-- Dictionary data types (Table 2-1). -/
inductive ObjTy where
  | bool | u8 | u16 | u32 | u64 | i32 | i64 | f32 | ticks | stamp | time96 | string | domain
  deriving DecidableEq, Repr

/-- Access rights (Table 2-2). -/
inductive Acc where
  | const | ro | rw | wo | rwe
  | rwm (modes : List Mode)
  deriving DecidableEq, Repr

/-- The range of a written value and the status of a value outside it (R10): `enum` is an
enumeration (RESERVED_VALUE), the others are ranges or reserved bits (OUT_OF_RANGE). -/
inductive Range where
  | any
  | nat (lo hi : Nat)
  | natOr (lo hi x : Nat)
  | zeroOr (lo hi : Nat)
  | int (lo hi : Int)
  | list (l : List Nat)
  | enum (l : List Nat)
  | mask (m : Nat)
  | multiple (m lo hi : Nat)
  | divisor (lo n : Nat)
  | aperture
  | tapQuery
  | tdcEdge
  | chainSource
  | weights
  deriving DecidableEq, Repr

/-- One row of an object table; `stored` objects keep their value in eMRAM (R47). -/
structure Obj where
  sub : Nat
  name : String
  ty : ObjTy
  acc : Acc
  dflt : Nat
  rng : Range
  stored : Bool
  deriving DecidableEq, Repr

/-- Objects that stand at `count` indices from `base`. -/
structure ObjGroup where
  base : Nat
  count : Nat
  objs : List Obj
  deriving DecidableEq, Repr

/-- Objects at 0x1000 (Table 0-2, Table 17-12). -/
def objs1000 : List Obj := [
  ⟨1, "PART_CODE", .string, .const, 0, .any, false⟩,
  ⟨2, "SPEED_GRADE", .u8, .const, 0, .any, false⟩,
  ⟨3, "DEVICE_SERIAL", .u64, .const, 0, .any, false⟩,
  ⟨4, "BALL_TABLE", .domain, .const, 0, .any, false⟩]

/-- Objects at 0x1008 (Table 0-2). -/
def objs1008 : List Obj := [
  ⟨0, "COMPAT_LEVEL", .u16, .ro, 0, .any, false⟩]

/-- Objects at 0x1009 (Table 2-4). -/
def objs1009 : List Obj := [
  ⟨1, "FW_ACTIVE", .u32, .ro, 0, .any, false⟩,
  ⟨2, "FW_SLOT", .u8, .ro, 0, .any, false⟩]

/-- Objects at 0x100A (Table 2-4). -/
def objs100A : List Obj := [
  ⟨1, "UCODE_ACTIVE", .u32, .ro, 0, .any, false⟩,
  ⟨2, "UCODE_SLOT", .u8, .ro, 0, .any, false⟩]

/-- Objects at 0x1100 (Table 2-10). -/
def objs1100 : List Obj := [
  ⟨1, "MAC_ADDR", .u64, .const, 0, .any, false⟩,
  ⟨2, "IPV4_ADDR", .u32, .rwm [.standby], 0, .any, true⟩,
  ⟨3, "IPV4_PREFIX", .u8, .rwm [.standby], 0, .nat 0 32, true⟩,
  ⟨4, "IPV6_ADDR", .domain, .rwm [.standby], 0, .any, true⟩,
  ⟨5, "MTU", .u16, .rwm [.standby], 0x5dc, .list [1500, 9000], false⟩,
  ⟨6, "PHY_MODE", .u8, .rwm [.standby], 0, .enum [0, 1], true⟩,
  ⟨7, "FEC_ENABLE", .bool, .rwm [.standby], 1, .nat 0 1, true⟩,
  ⟨8, "LINK_STATE", .u8, .ro, 0, .any, false⟩]

/-- Objects at 0x1110 (Table 2-10). -/
def objs1110 : List Obj := [
  ⟨1, "DAP_PORT", .u16, .rwm [.standby], 0x9cae, .nat 1 65535, false⟩,
  ⟨2, "ST_PORT", .u16, .rwm [.standby], 0x9caf, .nat 1 65535, false⟩,
  ⟨3, "AUTH_REQUIRED", .bool, .rw, 0, .nat 0 1, true⟩,
  ⟨4, "PSK", .domain, .wo, 0, .any, true⟩,
  ⟨5, "SESSION_IDLE_TIMEOUT", .u32, .rw, 0x2710, .nat 100 600000, false⟩,
  ⟨6, "MAX_WINDOW", .u16, .rw, 0x10, .nat 1 64, false⟩,
  ⟨8, "FRAMES_DISCARDED", .u64, .ro, 0, .any, false⟩,
  ⟨9, "AUTH_FAILURES", .u64, .ro, 0, .any, false⟩,
  ⟨0xa, "NOTIFY_COALESCED", .u64, .ro, 0, .any, false⟩]

/-- Objects at 0x1200 (Table 16-8). -/
def objs1200 : List Obj := [
  ⟨1, "MODE", .u8, .ro, 0, .any, false⟩,
  ⟨2, "REQUEST", .domain, .wo, 0, .any, false⟩,
  ⟨3, "TRANSITION", .u8, .ro, 0xff, .any, false⟩,
  ⟨4, "YARD_RETAIN", .bool, .rw, 0, .nat 0 1, false⟩,
  ⟨5, "RESET", .bool, .wo, 0, .nat 1 1, false⟩,
  ⟨6, "RESET_CAUSE", .u8, .ro, 0, .any, false⟩,
  ⟨7, "RESETS", .u32, .ro, 0, .any, true⟩,
  ⟨8, "STANDBY_PORT", .u8, .rw, 0, .nat 0 1, true⟩]

/-- Objects at 0x1210 (Table 16-8). -/
def objs1210 : List Obj := [
  ⟨1, "WAKE_CAUSE", .u16, .rw, 0, .any, false⟩,
  ⟨2, "WAKE_SOURCES", .u16, .rw, 0, .mask 0x7C, true⟩,
  ⟨3, "WAKE_ALARM", .time96, .rw, 0, .any, true⟩,
  ⟨4, "WAKE_HOST", .domain, .rw, 0, .any, true⟩,
  ⟨5, "WAKE_REQUEST", .u8, .ro, 0, .any, false⟩,
  ⟨6, "WAKE_CLR", .bool, .wo, 0, .nat 1 1, false⟩]

/-- Objects at 0x1220 (Table 16-8). -/
def objs1220 : List Obj := [
  ⟨1, "CLOCK_LOCKED", .u64, .ro, 0, .any, false⟩,
  ⟨2, "PG_RUNNING", .u16, .ro, 0, .any, false⟩,
  ⟨3, "PG_KEEP", .u16, .rw, 0, .any, false⟩,
  ⟨4, "PG_IDLE", .u32, .rw, 0xa, .nat 1 60000, false⟩]

/-- Objects at 0x1300 (Table 13-7). -/
def objs1300 : List Obj := [
  ⟨1, "EPOCH_COUNT", .u64, .ro, 0, .any, false⟩,
  ⟨2, "EPOCH_ALIGN", .domain, .rwm [.standby, .warm], 0, .any, false⟩]

/-- Objects at 0x1301 (Table 13-7). -/
def objs1301 : List Obj := [
  ⟨1, "SYNC_PERIOD", .u32, .rwm [.standby, .warm], 0x3e8, .nat 100 1000000, false⟩,
  ⟨2, "SYNC_COMP", .ticks, .rwm [.standby, .warm, .calibrate], 0, .nat 0 409599, true⟩,
  ⟨3, "SYNC_OUT_EN", .bool, .rw, 1, .nat 0 1, false⟩]

/-- Objects at 0x1302 (Table 13-7). -/
def objs1302 : List Obj := [
  ⟨1, "REF_STATUS", .u32, .rw, 0, .any, false⟩]

/-- Objects at 0x1310 (Table 13-7). -/
def objs1310 : List Obj := [
  ⟨1, "CHANGE_ID", .u32, .ro, 0, .any, false⟩,
  ⟨2, "CHANGE_EPOCH", .u64, .ro, 0, .any, false⟩,
  ⟨3, "CHANGE_STATE", .u8, .ro, 0, .any, false⟩,
  ⟨4, "COMMIT", .u32, .wo, 0, .any, false⟩,
  ⟨5, "ABORT", .u32, .wo, 0, .any, false⟩,
  ⟨6, "DIVERGED_COUNT", .u64, .ro, 0, .any, false⟩,
  ⟨7, "LATE_TOKENS", .u64, .ro, 0, .any, false⟩]

/-- Objects at 0x1311 (Table 13-7). -/
def objs1311 : List Obj := [
  ⟨1, "SWAP_GROUP_ID", .u8, .rw, 0, .any, false⟩,
  ⟨2, "SWAP_SEND", .u64, .wo, 0, .any, false⟩]

/-- Objects at 0x2000 (Table 3-8, Table 4-15). -/
def objs2000_0 : List Obj := [
  ⟨1, "STATE", .u8, .ro, 0, .any, false⟩,
  ⟨2, "CUR_SEGMENT", .u8, .ro, 0, .any, false⟩,
  ⟨3, "RUN_NUMBER", .u64, .ro, 0, .any, false⟩,
  ⟨4, "VECTORS", .u64, .ro, 0, .any, false⟩,
  ⟨5, "STOP_CAUSE", .u8, .ro, 0, .any, false⟩,
  ⟨6, "STOP_ACK", .bool, .wo, 0, .nat 1 1, false⟩,
  ⟨7, "SITE_ENABLE", .u8, .rw, 0xff, .any, false⟩,
  ⟨8, "PEC_QUEUED", .u8, .ro, 0, .any, false⟩,
  ⟨9, "LEAD_GRANULES", .u16, .ro, 8, .any, false⟩,
  ⟨0xa, "TRGO_DELAY", .ticks, .rw, 0, .nat 0 (2 ^ 24), false⟩,
  ⟨0xb, "HOLD_GRANULES", .u64, .ro, 0, .any, false⟩,
  ⟨0xc, "NANO_MODE", .bool, .rwm [.standby, .warm], 0, .nat 0 1, false⟩,
  ⟨0xd, "UCODE_BANK", .u8, .ro, 0, .any, false⟩,
  ⟨0xe, "SHADOW_STATE", .u8, .ro, 0, .any, false⟩,
  ⟨0xf, "SHADOW_SLOT", .u8, .rw, 0xff, .nat 0 1, false⟩,
  ⟨0x10, "USER_UCODE", .domain, .rw, 0, .any, false⟩,
  ⟨0x11, "EXCHANGE", .bool, .wo, 0, .nat 1 1, false⟩,
  ⟨0x12, "EXCHANGE_PENDING", .bool, .ro, 0, .nat 0 1, false⟩,
  ⟨0x13, "EXCHANGES", .u64, .ro, 0, .any, false⟩,
  ⟨0x14, "TIMER_DISCARDS", .u64, .ro, 0, .any, false⟩]

/-- Objects at 0x2000 (Table 3-8, Table 4-15). -/
def objs2000_1 : List Obj := [
  ⟨0x15, "CS_REREADS", .u64, .ro, 0, .any, false⟩,
  ⟨0x16, "MCHK_ADDR", .u32, .ro, 0xffffffff, .any, false⟩,
  ⟨0x17, "BANK_SUSPECT", .bool, .ro, 0, .nat 0 1, false⟩]

/-- Objects at 0x2000 (Table 3-8, Table 4-15), whole. -/
def objs2000 : List Obj := objs2000_0 ++ objs2000_1

/-- Objects at 0x2040 (Table 3-9). -/
def objs2040 : List Obj := [
  ⟨1, "SEG_TABLE", .domain, .rw, 0, .any, false⟩,
  ⟨2, "TABLE_ERROR", .u16, .ro, 0xffff, .any, false⟩]

/-- Objects at 0x2080 (Table 3-9). -/
def objs2080 : List Obj := [
  ⟨1, "LAUNCH", .u8, .rwe, 0, .any, false⟩,
  ⟨2, "JUMP", .u16, .rw, 0, .nat 0 0x100, false⟩,
  ⟨3, "JUMP_NEAR", .u16, .ro, 0xffff, .any, false⟩,
  ⟨4, "JUMP_FAR", .u16, .ro, 0xffff, .any, false⟩,
  ⟨5, "ABORT", .bool, .wo, 0, .nat 1 1, false⟩,
  ⟨6, "LAUNCH_OFFSET", .ticks, .rw, 0, .nat 0 4095999, false⟩]

/-- Objects at 0x20C0 (Table 3-1). -/
def objs20C0 : List Obj := [
  ⟨1, "WEAVER", .u8, .rwm [.standby, .warm], 0xff, .natOr 0 63 0xFF, false⟩,
  ⟨2, "SITE", .u8, .rwm [.standby, .warm], 0, .nat 0 7, false⟩,
  ⟨3, "LANE", .u8, .rwm [.standby, .warm], 0, .nat 0 63, false⟩]

/-- Objects at 0x3000 (Table 5-13). -/
def objs3000 : List Obj := [
  ⟨1, "PARK_STATE", .u8, .rw, 0, .enum [0, 1, 2], false⟩,
  ⟨2, "SWING", .u8, .rwm [.standby, .warm], 2, .nat 0 6, false⟩,
  ⟨3, "POLARITY", .u8, .rwm [.standby, .warm], 0, .mask 0x0F, false⟩,
  ⟨4, "HOLDOFF", .u16, .rw, 0, .nat 0 1023, false⟩,
  ⟨5, "GLITCH_W", .u16, .rw, 0, .nat 0 1023, false⟩,
  ⟨6, "BOUNDARY_EN", .bool, .rw, 0, .nat 0 1, false⟩,
  ⟨7, "BURST_WORD", .u64, .rw, 0, .any, false⟩,
  ⟨8, "BURST_LEN", .u8, .rw, 0x40, .nat 1 64, false⟩,
  ⟨9, "PIN_STATE", .u8, .ro, 0, .any, false⟩,
  ⟨0xa, "STICKY", .u32, .ro, 0, .any, false⟩,
  ⟨0xb, "STICKY_CLR", .u32, .wo, 0, .any, false⟩,
  ⟨0xc, "BOUNDARY_PASSES", .u64, .ro, 0, .any, false⟩,
  ⟨0xd, "HOLDOFF_STROBES", .u64, .ro, 0, .any, false⟩]

/-- Objects at 0x3100 (Table 5-6). -/
def objs3100 : List Obj := [
  ⟨1, "TSET_ACTIVE", .domain, .ro, 0, .any, false⟩,
  ⟨2, "TSET_SHADOW", .domain, .rw, 0, .any, false⟩,
  ⟨3, "TSET_COMMIT", .bool, .wo, 0, .nat 1 1, false⟩,
  ⟨4, "TSET_STATE", .u8, .ro, 0, .any, false⟩,
  ⟨5, "TSET_BANK", .u8, .ro, 0, .any, false⟩,
  ⟨6, "TSET_ERROR", .u8, .ro, 0xff, .any, false⟩,
  ⟨7, "TSET_SWAPS", .u64, .ro, 0, .any, false⟩]

/-- Objects at 0x3200 (Table 6-5). -/
def objs3200 : List Obj := [
  ⟨1, "CAL_BYTE", .u8, .ro, 1, .any, false⟩,
  ⟨2, "ROUNDS", .u32, .ro, 0, .any, false⟩,
  ⟨3, "RESID_RMS", .u32, .ro, 0xffffffff, .any, false⟩,
  ⟨4, "RESID_MAX", .u32, .ro, 0xffffffff, .any, false⟩,
  ⟨5, "EYE_CAL", .u32, .ro, 0xffffffff, .any, true⟩,
  ⟨6, "EYE_RUN", .u32, .ro, 0xffffffff, .any, false⟩,
  ⟨7, "BASIS_TEMP", .i32, .ro, 0, .any, false⟩,
  ⟨8, "ROUND_AGE", .u32, .ro, 0xffffffff, .any, false⟩,
  ⟨9, "CAL_FLAGS", .u8, .ro, 0, .any, false⟩]

/-- Objects at 0x3300 (Table 6-6). -/
def objs3300 : List Obj := [
  ⟨1, "TJ", .i32, .ro, 0, .any, false⟩,
  ⟨2, "DRIFT", .domain, .ro, 0, .any, false⟩,
  ⟨3, "DRIFT_MAX", .i32, .ro, 0, .any, false⟩,
  ⟨4, "SHADOW_STAMPS", .u64, .ro, 0, .any, false⟩,
  ⟨5, "BANK_ACTIVE", .domain, .ro, 0, .any, false⟩,
  ⟨6, "TAP_QUERY", .u64, .rw, 0, .tapQuery, false⟩,
  ⟨7, "INTERNAL_RT", .i32, .const, 0, .any, false⟩]

/-- Objects at 0x3400 (Table 6-7). -/
def objs3400 : List Obj := [
  ⟨1, "TRACK_ENABLE", .bool, .rw, 1, .nat 0 1, false⟩,
  ⟨2, "SHADOW_DUTY", .u8, .rw, 6, .nat 0 12, false⟩,
  ⟨3, "SWAP_TIMEOUT", .u32, .rw, 0x64, .nat 1 10000, false⟩,
  ⟨4, "SWAP_READY", .u64, .ro, 0, .any, false⟩,
  ⟨5, "CAL_SOURCE", .u8, .rwm [.standby, .warm, .calibrate], 0, .enum [0, 1], true⟩,
  ⟨6, "CAL_START", .bool, .rwm [.calibrate], 0, .nat 1 1, false⟩,
  ⟨7, "CAL_STATUS", .u8, .ro, 0, .any, false⟩,
  ⟨8, "GENERATION", .u32, .ro, 1, .any, false⟩,
  ⟨9, "FIXTURE_DESKEW", .domain, .rwm [.standby, .warm, .calibrate], 0, .any, true⟩,
  ⟨0xa, "FIELD_COMMIT", .bool, .rwm [.calibrate], 0, .nat 1 1, false⟩,
  ⟨0xb, "AGE_LIMIT", .u32, .rw, 0x3e8, .nat 10 60000, false⟩,
  ⟨0xc, "FACTORY_SETS", .domain, .ro, 0, .any, false⟩,
  ⟨0xd, "SWAP_GROUP", .u64, .rw, 0, .any, false⟩,
  ⟨0xe, "GROUP_EPOCH", .u64, .rw, 0, .any, false⟩,
  ⟨0xf, "GROUP_SWAP_MISSED", .u64, .ro, 0, .any, false⟩,
  ⟨0x10, "SWAP_TIMEOUTS", .u64, .ro, 0, .any, false⟩]

/-- Objects at 0x3500 (Table 5-19). -/
def objs3500 : List Obj := [
  ⟨1, "SCK_DIV", .u8, .rwm [.standby, .warm], 4, .nat 2 255, false⟩,
  ⟨2, "SPI_MODE", .u8, .rwm [.standby, .warm], 4, .mask 0x07, false⟩,
  ⟨3, "CS_SETUP", .u8, .rwm [.standby, .warm], 1, .nat 1 255, false⟩,
  ⟨4, "CS_GAP", .u8, .rwm [.standby, .warm], 2, .nat 1 255, false⟩,
  ⟨5, "LIST_STORE", .domain, .rw, 0, .any, false⟩,
  ⟨6, "STORE_ERROR", .u16, .ro, 0xffff, .any, false⟩,
  ⟨7, "ISSUE", .u16, .rwm [.standby, .warm, .calibrate, .run, .service], 0, .nat 1 65535, false⟩,
  ⟨8, "QUEUE_DEPTH", .u8, .ro, 0, .any, false⟩,
  ⟨9, "LISTS_ISSUED", .u64, .ro, 0, .any, false⟩,
  ⟨0xa, "LISTS_DISCARDED", .u64, .ro, 0, .any, false⟩,
  ⟨0xb, "READBACK", .domain, .ro, 0, .any, false⟩,
  ⟨0xc, "READBACK_COUNT", .u64, .ro, 0, .any, false⟩]

/-- Objects at 0x4000 (Table 8-8). -/
def objs4000_0 : List Obj := [
  ⟨1, "MODE", .u8, .rw, 0, .enum [0, 1, 2, 3, 4, 5], false⟩,
  ⟨2, "START_SRC", .u8, .rw, 0, .enum [0, 1, 2, 3, 4], false⟩,
  ⟨3, "STOP_SRC", .u8, .rw, 0, .enum [0, 1, 2, 3, 4, 0x10, 0x11, 0x12, 0x13, 0x14, 0x15, 0x16, 0x17], false⟩,
  ⟨4, "EDGE", .u8, .rw, 5, .tdcEdge, false⟩,
  ⟨5, "DIVIDE", .u16, .rw, 1, .nat 1 65535, false⟩,
  ⟨6, "COUNT", .u32, .rw, 1, .any, false⟩,
  ⟨7, "TIMEOUT", .u64, .rw, 0xf4240, .nat 1 (2 ^ 40), false⟩,
  ⟨8, "HOLDOFF", .u16, .rw, 0, .nat 0 1023, false⟩,
  ⟨9, "GATE_LEN", .u64, .rw, 0, .nat 0 (2 ^ 40), false⟩,
  ⟨0xa, "NOM_PERIOD", .u64, .rw, 0, .any, false⟩,
  ⟨0xb, "TIE_ANCHOR", .stamp, .rw, 0, .any, false⟩,
  ⟨0xc, "RING_BASE", .u64, .rw, 0, .multiple 4096 0 (2 ^ 38 - 4096), false⟩,
  ⟨0xd, "RING_ENTRIES", .u32, .rw, 0, .multiple 128 0 (2 ^ 26), false⟩,
  ⟨0xe, "RING_WRITE", .u64, .ro, 0, .any, false⟩,
  ⟨0xf, "RING_READ", .u64, .rw, 0, .any, false⟩,
  ⟨0x10, "ARM", .bool, .rwm [.warm, .calibrate, .run], 0, .nat 0 1, false⟩,
  ⟨0x11, "ARM_AT", .bool, .rwe, 0, .nat 1 1, false⟩,
  ⟨0x12, "STATE", .u8, .ro, 0, .any, false⟩,
  ⟨0x13, "RUN", .u64, .ro, 0, .any, false⟩,
  ⟨0x14, "LAST_STAMP", .stamp, .ro, 0, .any, false⟩]

/-- Objects at 0x4000 (Table 8-8). -/
def objs4000_1 : List Obj := [
  ⟨0x15, "LAST_VALUE", .i64, .ro, 0, .any, false⟩,
  ⟨0x16, "LAST_FLAGS", .u16, .ro, 0, .any, false⟩,
  ⟨0x17, "FREQ_STATUS", .u8, .ro, 0, .any, false⟩,
  ⟨0x18, "PERIOD_FX", .u64, .ro, 0, .any, false⟩,
  ⟨0x19, "PERIOD_UNC", .u64, .ro, 0, .any, false⟩,
  ⟨0x1a, "FREQ_UHZ", .u64, .ro, 0, .any, false⟩,
  ⟨0x1b, "FREQ_UNC_UHZ", .u64, .ro, 0, .any, false⟩,
  ⟨0x1c, "FREQ_N", .u32, .ro, 0, .any, false⟩,
  ⟨0x1d, "MISSED_STAMPS", .u64, .ro, 0, .any, false⟩,
  ⟨0x1e, "ARMS_DROPPED", .u64, .ro, 0, .any, false⟩,
  ⟨0x1f, "CD_STATE", .u8, .ro, 0, .any, false⟩,
  ⟨0x20, "CD_TABLE", .domain, .ro, 0, .any, false⟩]

/-- Objects at 0x4000 (Table 8-8), whole. -/
def objs4000 : List Obj := objs4000_0 ++ objs4000_1

/-- Objects at 0x4200 (Table 8-9). -/
def objs4200 : List Obj := [
  ⟨1, "CD_START", .bool, .rwm [.warm, .calibrate, .run], 0, .nat 1 1, false⟩,
  ⟨2, "CD_HITS", .u32, .const, 0x400000, .any, false⟩,
  ⟨3, "CD_DONE", .u16, .ro, 0, .any, false⟩,
  ⟨4, "CD_INTERVAL", .u32, .rw, 0, .nat 0 86400, false⟩,
  ⟨5, "CD_FACTORY", .domain, .ro, 0, .any, false⟩,
  ⟨6, "STAMP_NOW", .stamp, .ro, 0, .any, false⟩,
  ⟨7, "RESULT_OVERRUNS", .u64, .ro, 0, .any, false⟩]

/-- Objects at 0x4400 (Table 9-7). -/
def objs4400 : List Obj := [
  ⟨1, "ENABLE", .bool, .rw, 0, .nat 0 1, false⟩,
  ⟨2, "SCAN_LEN", .u8, .ro, 0, .any, false⟩,
  ⟨3, "LAST_CODE", .i32, .ro, 0, .any, false⟩,
  ⟨4, "LAST_STAMP", .stamp, .ro, 0, .any, false⟩,
  ⟨5, "LAST_FLAGS", .u8, .ro, 0, .any, false⟩,
  ⟨6, "OVR", .bool, .ro, 0, .nat 0 1, false⟩,
  ⟨7, "OVR_CLR", .bool, .wo, 0, .nat 1 1, false⟩,
  ⟨8, "OVR_COUNT", .u64, .ro, 0, .any, false⟩,
  ⟨9, "SETTLING_COUNT", .u64, .ro, 0, .any, false⟩]

/-- Objects at 0x4480 (Table 9-8). -/
def objs4480_0 : List Obj := [
  ⟨1, "SOURCE", .u16, .rw, 0xffff, .chainSource, false⟩,
  ⟨2, "PRESET", .u8, .rw, 1, .enum [0, 1, 2, 3], false⟩,
  ⟨3, "CIC_R", .u16, .rw, 8, .nat 1 256, false⟩,
  ⟨4, "HB_STAGES", .u8, .rw, 2, .nat 0 3, false⟩,
  ⟨5, "FIR_DEC", .u8, .rw, 2, .nat 1 16, false⟩,
  ⟨6, "COEFFS", .domain, .rw, 0, .any, false⟩,
  ⟨7, "RUN", .bool, .rwm [.warm, .calibrate, .run], 0, .nat 0 1, false⟩,
  ⟨8, "STATE", .u8, .ro, 0, .any, false⟩,
  ⟨9, "DEC", .u16, .ro, 0x40, .any, false⟩,
  ⟨0xa, "SPAN", .u32, .ro, 0x120d, .any, false⟩,
  ⟨0xb, "TAINT_LEN", .u32, .ro, 0x49, .any, false⟩,
  ⟨0xc, "ENBW_REL", .f32, .ro, 0x3e800000, .any, false⟩,
  ⟨0xd, "LAST_OUT", .i32, .ro, 0, .any, false⟩,
  ⟨0xe, "LAST_OUT_FLAGS", .u8, .ro, 0, .any, false⟩,
  ⟨0xf, "DET_LEN", .u32, .rw, 0x400, .nat 1 (2 ^ 24), false⟩,
  ⟨0x10, "ENV_RELEASE", .u8, .rw, 4, .nat 0 15, false⟩,
  ⟨0x11, "PEAK_MAX", .i32, .ro, 0, .any, false⟩,
  ⟨0x12, "PEAK_MIN", .i32, .ro, 0, .any, false⟩,
  ⟨0x13, "MEAN", .i32, .ro, 0, .any, false⟩,
  ⟨0x14, "RMS", .i32, .ro, 0, .any, false⟩]

/-- Objects at 0x4480 (Table 9-8). -/
def objs4480_1 : List Obj := [
  ⟨0x15, "ENVELOPE", .i32, .ro, 0, .any, false⟩,
  ⟨0x16, "DET_FLAGS", .u8, .ro, 0, .any, false⟩,
  ⟨0x17, "DET_COUNT", .u64, .ro, 0, .any, false⟩,
  ⟨0x18, "OUTPUTS", .u64, .ro, 0, .any, false⟩,
  ⟨0x19, "TAINTED_OUTPUTS", .u64, .ro, 0, .any, false⟩]

/-- Objects at 0x4480 (Table 9-8), whole. -/
def objs4480 : List Obj := objs4480_0 ++ objs4480_1

/-- Objects at 0x44C0 (Table 9-9). -/
def objs44C0_0 : List Obj := [
  ⟨1, "SOURCE", .u8, .rw, 0xff, .natOr 0 0x27 0xFF, false⟩,
  ⟨2, "INTERVAL", .u16, .rw, 0x100, .nat 1 65535, false⟩,
  ⟨3, "STREAM", .u16, .rw, 0, .any, false⟩,
  ⟨4, "CONDITIONS", .domain, .rw, 0, .any, false⟩,
  ⟨5, "MASK", .domain, .rw, 0, .any, false⟩,
  ⟨6, "POST", .u32, .rw, 0, .any, false⟩,
  ⟨7, "ARM", .bool, .rwm [.warm, .calibrate, .run], 0, .nat 0 1, false⟩,
  ⟨8, "ARM_AT", .bool, .rwe, 0, .nat 1 1, false⟩,
  ⟨9, "HOST_FIRE", .bool, .wo, 0, .nat 1 1, false⟩,
  ⟨0xa, "STATE", .u8, .ro, 0, .any, false⟩,
  ⟨0xb, "RUN", .u64, .ro, 0, .any, false⟩,
  ⟨0xc, "TGROUP", .u8, .rw, 0, .any, false⟩,
  ⟨0xd, "ROLE", .u8, .rw, 0, .enum [0, 1], false⟩,
  ⟨0xe, "GROUP_ARM", .bool, .rwe, 0, .nat 1 1, false⟩,
  ⟨0xf, "FIRE_WINDOW", .u32, .rw, 0x32, .nat 1 1000, false⟩,
  ⟨0x10, "STOP_CAUSE", .u8, .ro, 0, .any, false⟩,
  ⟨0x11, "MERGED_INTERVALS", .u64, .ro, 0, .any, false⟩,
  ⟨0x12, "MARKS_MERGED", .u64, .ro, 0, .any, false⟩,
  ⟨0x13, "FIRES_LATE", .u64, .ro, 0, .any, false⟩,
  ⟨0x14, "ARM_MISSED", .u64, .ro, 0, .any, false⟩]

/-- Objects at 0x44C0 (Table 9-9). -/
def objs44C0_1 : List Obj := [
  ⟨0x15, "RECORDS", .u64, .ro, 0, .any, false⟩]

/-- Objects at 0x44C0 (Table 9-9), whole. -/
def objs44C0 : List Obj := objs44C0_0 ++ objs44C0_1

/-- Objects at 0x4800 (Table 10-3). -/
def objs4800_0 : List Obj := [
  ⟨1, "ENABLE", .bool, .rw, 0, .nat 0 1, false⟩,
  ⟨2, "WEAVER", .u8, .rw, 0xff, .natOr 0 63 0xFF, false⟩,
  ⟨3, "SITE", .u8, .rw, 0, .nat 0 7, false⟩,
  ⟨4, "PIN_MAP", .domain, .rw, 0, .any, false⟩,
  ⟨5, "PIXEL_BITS", .u8, .rw, 0x18, .list [16, 24, 32], false⟩,
  ⟨6, "PPS", .u8, .rw, 1, .list [1, 2], false⟩,
  ⟨7, "STEP_SLOTS", .u8, .rw, 1, .nat 1 4, false⟩,
  ⟨8, "RET_PIXEL_BITS", .u8, .rw, 0, .list [0, 16, 24, 32], false⟩,
  ⟨9, "RET_DELAY", .u32, .rw, 0, .nat 0 65535, false⟩,
  ⟨0xa, "FS_BASE", .u8, .rw, 0, .nat 0 95, false⟩,
  ⟨0xb, "FS_SIZE", .u8, .rw, 0, .nat 0 32, false⟩,
  ⟨0xc, "SLOT_MIB", .u8, .rw, 1, .nat 1 32, false⟩,
  ⟨0xd, "TIMING", .domain, .rw, 0, .any, false⟩,
  ⟨0xe, "TIMING_PENDING", .bool, .ro, 0, .nat 0 1, false⟩,
  ⟨0xf, "RECTS", .domain, .rw, 0, .any, false⟩,
  ⟨0x10, "PRESENT", .u8, .wo, 0, .any, false⟩,
  ⟨0x11, "PENDING", .u8, .ro, 0xff, .any, false⟩,
  ⟨0x12, "SHOWN", .u8, .ro, 0xff, .any, false⟩,
  ⟨0x13, "SELF_REFRESH", .bool, .rw, 0, .nat 0 1, false⟩,
  ⟨0x14, "SR_EXIT_LINES", .u16, .rw, 1, .nat 1 4095, false⟩]

/-- Objects at 0x4800 (Table 10-3). -/
def objs4800_1 : List Obj := [
  ⟨0x15, "SR_CTL", .bool, .rw, 0, .nat 0 1, false⟩,
  ⟨0x16, "STATE", .u8, .ro, 0, .any, false⟩,
  ⟨0x17, "FRAMES", .u64, .ro, 0, .any, false⟩,
  ⟨0x18, "REPEATS", .u64, .ro, 0, .any, false⟩,
  ⟨0x19, "PRESENTS_REPLACED", .u64, .ro, 0, .any, false⟩,
  ⟨0x1a, "TE_MISSED", .u64, .ro, 0, .any, false⟩,
  ⟨0x1b, "LAST_VFP_LINES", .u16, .ro, 0, .any, false⟩,
  ⟨0x1c, "SPLIT_STEPS", .u64, .ro, 0, .any, false⟩,
  ⟨0x1d, "FRAMES_ABORTED", .u64, .ro, 0, .any, false⟩,
  ⟨0x1e, "LAST_CRC", .domain, .ro, 0, .any, false⟩,
  ⟨0x1f, "MISMATCH_STICKY", .u32, .ro, 0, .any, false⟩,
  ⟨0x20, "MISMATCH_CLR", .u32, .wo, 0, .any, false⟩,
  ⟨0x21, "MISMATCHES", .u64, .ro, 0, .any, false⟩,
  ⟨0x22, "FIRST_MISMATCH_FRAME", .u64, .ro, 0, .any, false⟩,
  ⟨0x23, "RECT_SKIPS", .u64, .ro, 0, .any, false⟩,
  ⟨0x24, "RET_INVALID", .u64, .ro, 0, .any, false⟩]

/-- Objects at 0x4800 (Table 10-3), whole. -/
def objs4800 : List Obj := objs4800_0 ++ objs4800_1

/-- Objects at 0x5000 (Table 11-5). -/
def objs5000_0 : List Obj := [
  ⟨1, "GRAIN", .u8, .rwm [.standby, .service], 2, .enum [0, 1, 2, 3, 4], true⟩,
  ⟨2, "ORDER", .u8, .ro, 0, .any, false⟩,
  ⟨3, "STACK_HEALTH", .u8, .ro, 0xf, .any, false⟩,
  ⟨4, "DEGRADE_MASK", .u8, .rwm [.standby, .service], 0, .mask 0x0F, true⟩,
  ⟨5, "CAPACITY", .u64, .ro, 0x4000000000, .any, false⟩,
  ⟨6, "FETCH_TOTAL", .u16, .ro, 0x4e2, .any, false⟩,
  ⟨7, "FETCH_FREE", .u16, .ro, 0x4e2, .any, false⟩,
  ⟨8, "CAPTURE_TOTAL", .u16, .ro, 0xfa, .any, false⟩,
  ⟨9, "PAGE_IDLE", .u16, .rw, 0x64, .nat 10 10000, false⟩,
  ⟨0xa, "PD_IDLE", .u32, .rw, 0x3e8, .zeroOr 100 1000000, false⟩,
  ⟨0xb, "SR_IDLE", .u32, .rw, 0x2710, .zeroOr 1000 10000000, false⟩,
  ⟨0xc, "BE_WEIGHTS", .u64, .rw, 0x820204080, .weights, false⟩,
  ⟨0xd, "SCRUB_PERIOD", .u32, .rw, 0x18, .nat 0 168, false⟩,
  ⟨0xe, "CE_COUNT", .u64, .ro, 0, .any, false⟩,
  ⟨0xf, "UE_COUNT", .u64, .ro, 0, .any, false⟩,
  ⟨0x10, "ONDIE_CORRECTED", .u64, .ro, 0, .any, false⟩,
  ⟨0x11, "UE_LOG", .domain, .ro, 0, .any, false⟩,
  ⟨0x12, "TRAIN_START", .bool, .rwm [.calibrate], 0, .nat 1 1, false⟩,
  ⟨0x13, "TRAIN_STATUS", .u8, .ro, 0, .any, false⟩,
  ⟨0x14, "MEM_TEST", .bool, .rwm [.service], 0, .nat 1 1, false⟩]

/-- Objects at 0x5000 (Table 11-5). -/
def objs5000_1 : List Obj := [
  ⟨0x15, "MEM_TEST_STATUS", .u8, .ro, 0, .any, false⟩,
  ⟨0x16, "INIT_STATE", .u8, .ro, 0, .any, false⟩,
  ⟨0x17, "REINIT", .bool, .rwm [.warm, .calibrate, .service], 0, .nat 1 1, false⟩]

/-- Objects at 0x5000 (Table 11-5), whole. -/
def objs5000 : List Obj := objs5000_0 ++ objs5000_1

/-- Objects at 0x5010 (Table 11-7). -/
def objs5010 : List Obj := [
  ⟨1, "TEMP", .i32, .ro, 0, .any, false⟩,
  ⟨2, "REFRESH_RATE", .u8, .ro, 0, .any, false⟩,
  ⟨3, "POWER_STATE", .u8, .ro, 1, .any, false⟩,
  ⟨4, "PC_FAILED", .u32, .ro, 0, .any, false⟩,
  ⟨5, "PC_ERRORS", .u32, .ro, 0, .any, false⟩,
  ⟨6, "LANES_REPAIRED", .u16, .ro, 0, .any, false⟩,
  ⟨7, "CE_COUNT", .u64, .ro, 0, .any, false⟩]

/-- Objects at 0x5400 (Table 12-8). -/
def objs5400 : List Obj := [
  ⟨1, "BOOM_REGION_BASE", .u8, .rwm [.standby, .warm], 0x20, .nat 0 88, false⟩,
  ⟨2, "DRAIN_TIMEOUT", .u32, .rw, 0x2710, .nat 1 10000000, false⟩,
  ⟨3, "STAGING_FREE", .u16, .ro, 0x1000, .any, false⟩,
  ⟨4, "RERUNS", .u64, .ro, 0, .any, false⟩,
  ⟨5, "TIMEOUT_ABORTS", .u64, .ro, 0, .any, false⟩]

/-- Objects at 0x5402 (Table 12-8). -/
def objs5402 : List Obj := [
  ⟨1, "BOOM_SEL", .u16, .rw, 0, .any, false⟩,
  ⟨2, "BOOM_DESC", .domain, .rw, 0, .any, false⟩,
  ⟨3, "HEAD", .u64, .ro, 0, .any, false⟩,
  ⟨4, "DISPATCH", .u64, .ro, 0, .any, false⟩,
  ⟨5, "TAIL", .u64, .ro, 0, .any, false⟩,
  ⟨6, "MARK", .u64, .ro, 0, .any, false⟩,
  ⟨7, "INFLIGHT", .u8, .ro, 0, .any, false⟩,
  ⟨8, "STATE", .u8, .ro, 0, .any, false⟩,
  ⟨9, "MIGRATE", .u16, .wo, 0, .mask 0x13F, false⟩,
  ⟨0xa, "STALE", .u64, .ro, 0, .any, false⟩,
  ⟨0xb, "ABORTS", .u64, .ro, 0, .any, false⟩,
  ⟨0xc, "MIGRATIONS", .u64, .ro, 0, .any, false⟩]

/-- Objects at 0x5403 (Table 12-8). -/
def objs5403 : List Obj := [
  ⟨1, "CORE_SEL", .u16, .rw, 0, .nat 0 1023, false⟩,
  ⟨2, "CORE_STATE", .u8, .ro, 0, .any, false⟩,
  ⟨3, "HELD", .domain, .ro, 0, .any, false⟩]

/-- Objects at 0x5410 (Table 12-9). -/
def objs5410 : List Obj := [
  ⟨1, "CLUSTERS", .u64, .rwm [.standby, .warm], 0, .any, false⟩,
  ⟨2, "DISPATCH_MODE", .u8, .ro, 0, .any, false⟩,
  ⟨3, "BOOT_ADDR", .u64, .rw, 0, .multiple 4 0 (2 ^ 64 - 4), false⟩,
  ⟨4, "RUN", .bool, .rwm [.warm, .calibrate, .run, .service], 0, .nat 0 1, false⟩,
  ⟨5, "DELIVERED", .u64, .ro, 0, .any, false⟩,
  ⟨6, "PREEMPTIONS", .u64, .ro, 0, .any, false⟩]

/-- Objects at 0x5420 (Table 12-10). -/
def objs5420 : List Obj := [
  ⟨1, "PARTITION", .u8, .rw, 0, .nat 0 7, false⟩,
  ⟨2, "WEIGHT", .u8, .rw, 1, .nat 1 255, false⟩,
  ⟨3, "LEVEL", .u8, .rw, 0, .nat 0 3, false⟩,
  ⟨4, "TASK_TIMEOUT", .u32, .rw, 0, .any, false⟩,
  ⟨5, "DEFICIT", .u16, .ro, 0, .any, false⟩,
  ⟨6, "DISPATCHED", .u64, .ro, 0, .any, false⟩]

/-- Objects at 0x5800 (Table 12-11). -/
def objs5800 : List Obj := [
  ⟨1, "WIN_BOOM", .u16, .rw, 0, .any, false⟩,
  ⟨2, "WIN_SUBMIT", .domain, .wo, 0, .any, false⟩,
  ⟨3, "WIN_NEXT_SEQ", .u64, .ro, 1, .any, false⟩,
  ⟨4, "WIN_FREE", .u64, .ro, 0, .any, false⟩,
  ⟨5, "WIN_DUPLICATES", .u64, .ro, 0, .any, false⟩]

/-- Objects at 0x5C00 (Table 7-8). -/
def objs5C00 : List Obj := [
  ⟨1, "LANDING_BASE", .u16, .rwm [.standby, .warm], 0, .nat 0 95, false⟩,
  ⟨2, "LANDING_SIZE", .u16, .rwm [.standby, .warm], 0x20, .nat 1 96, false⟩,
  ⟨3, "LANDING_FREE", .u64, .ro, 0, .any, false⟩,
  ⟨4, "LANDING_HELD", .u64, .ro, 0, .any, false⟩,
  ⟨5, "RATE_FREE", .u16, .ro, 0xfa, .any, false⟩,
  ⟨6, "PRIORITY_AGE", .u32, .rw, 0x64, .nat 1 (2 ^ 32 - 1), false⟩,
  ⟨7, "ACK_TIMEOUT", .u32, .rw, 0x7d0, .nat 100 100000, false⟩,
  ⟨8, "ST_RETRANSMITS", .u64, .ro, 0, .any, false⟩,
  ⟨9, "ACK_INVALID", .u64, .ro, 0, .any, false⟩]

/-- Objects at 0x5C01 (Table 7-8). -/
def objs5C01 : List Obj := [
  ⟨0, "STREAM_TABLE", .domain, .rw, 0, .any, false⟩]

/-- Objects at 0x5C02 (Table 7-8). -/
def objs5C02 : List Obj := [
  ⟨1, "QUERY_STREAM", .u16, .rw, 0, .any, false⟩,
  ⟨2, "NEXT_SEQ", .u64, .ro, 0, .any, false⟩,
  ⟨3, "JOURNAL_SEQ", .u64, .ro, 0, .any, false⟩,
  ⟨4, "ACKED_SEQ", .u64, .ro, 0, .any, false⟩,
  ⟨5, "RING_FREE", .u64, .ro, 0, .any, false⟩]

/-- Objects at 0x5C40 (Table 7-8). -/
def objs5C40 : List Obj := [
  ⟨1, "LAUNCH_WAIT_CAUSE", .u8, .ro, 0, .any, false⟩,
  ⟨2, "WAIT_EPOCHS", .u64, .ro, 0, .any, false⟩,
  ⟨3, "CREDIT_NEEDED", .u64, .ro, 0, .any, false⟩,
  ⟨4, "LIMIT_HITS", .u64, .ro, 0, .any, false⟩]

/-- Objects at 0x6000 (Table 13-6). -/
def objs6000 : List Obj := [
  ⟨1, "LINK_ENABLE", .bool, .rw, 1, .nat 0 1, false⟩,
  ⟨2, "LINK_STATE", .u8, .ro, 0, .any, false⟩,
  ⟨3, "PARTNER_ID", .u16, .ro, 0xffff, .any, false⟩,
  ⟨4, "PARTNER_LINK", .u8, .ro, 0xff, .any, false⟩,
  ⟨5, "LINK_LEVEL", .u16, .ro, 0, .any, false⟩,
  ⟨6, "REPLAYS", .u64, .ro, 0, .any, false⟩,
  ⟨7, "FEC_CORRECTED", .u64, .ro, 0, .any, false⟩,
  ⟨8, "DOWN_EVENTS", .u64, .ro, 0, .any, false⟩,
  ⟨9, "LINK_OFFSET", .i64, .ro, 0, .any, false⟩,
  ⟨0xa, "ASYM", .i32, .rw, 0, .int (-4096) 4096, false⟩]

/-- Objects at 0x6010 (Table 13-9). -/
def objs6010 : List Obj := [
  ⟨1, "BUDDY_ID", .u16, .rwm [.standby, .warm], 0xffff, .natOr 0 16383 0xFFFF, false⟩,
  ⟨2, "MIRROR_LINKS", .u8, .rwm [.standby, .warm], 0, .any, false⟩,
  ⟨3, "MIRROR_BASE", .u64, .rwm [.standby, .warm], 0, .multiple 4096 0 (2 ^ 38 - 4096), false⟩,
  ⟨4, "MIRROR_UNITS", .u64, .rwm [.standby, .warm], 0, .zeroOr 65536 (2 ^ 31), false⟩,
  ⟨5, "BUDDY_ADDR", .domain, .rwm [.standby, .warm], 0, .any, false⟩,
  ⟨6, "ALLOW_UNPROTECTED", .bool, .rw, 0, .nat 0 1, false⟩,
  ⟨7, "PAIR_STATE", .u8, .ro, 0, .any, false⟩,
  ⟨8, "TAKEOVER", .u64, .wo, 0, .any, false⟩,
  ⟨9, "LAST_FENCE", .u64, .ro, 0, .any, true⟩,
  ⟨0xa, "MIRROR_FREE", .u64, .ro, 0, .any, false⟩,
  ⟨0xb, "UNPROTECTED_RECORDS", .u64, .ro, 0, .any, false⟩,
  ⟨0xc, "UNPROTECTED_ACCEPTS", .u64, .ro, 0, .any, false⟩]

/-- Objects at 0x6020 (Table 1-8). -/
def objs6020 : List Obj := [
  ⟨0, "DEVICE_ID", .u16, .rwm [.standby, .warm], 0xffff, .natOr 0 16383 0xFFFF, false⟩]

/-- Objects at 0x6021 (Table 1-8). -/
def objs6021 : List Obj := [
  ⟨1, "APERTURE_0", .u64, .rw, 0, .aperture, false⟩,
  ⟨2, "APERTURE_1", .u64, .rw, 0, .aperture, false⟩,
  ⟨3, "APERTURE_2", .u64, .rw, 0, .aperture, false⟩,
  ⟨4, "APERTURE_3", .u64, .rw, 0, .aperture, false⟩,
  ⟨5, "APERTURE_4", .u64, .rw, 0, .aperture, false⟩,
  ⟨6, "APERTURE_5", .u64, .rw, 0, .aperture, false⟩,
  ⟨7, "APERTURE_6", .u64, .rw, 0, .aperture, false⟩,
  ⟨8, "APERTURE_7", .u64, .rw, 0, .aperture, false⟩,
  ⟨9, "APERTURE_8", .u64, .rw, 0, .aperture, false⟩,
  ⟨0xa, "APERTURE_9", .u64, .rw, 0, .aperture, false⟩,
  ⟨0xb, "APERTURE_10", .u64, .rw, 0, .aperture, false⟩,
  ⟨0xc, "APERTURE_11", .u64, .rw, 0, .aperture, false⟩,
  ⟨0xd, "APERTURE_12", .u64, .rw, 0, .aperture, false⟩,
  ⟨0xe, "APERTURE_13", .u64, .rw, 0, .aperture, false⟩,
  ⟨0xf, "APERTURE_14", .u64, .rw, 0, .aperture, false⟩,
  ⟨0x10, "APERTURE_15", .u64, .rw, 0, .aperture, false⟩]

/-- Objects at 0x6022 (Table 13-7). -/
def objs6022 : List Obj := [
  ⟨1, "ROUTE", .domain, .rwm [.standby, .warm], 0, .any, false⟩,
  ⟨2, "FLOOD_MASK", .u8, .rw, 0, .any, false⟩,
  ⟨3, "REMOTE_TIMEOUT", .u32, .rw, 0x64, .nat 1 100000, false⟩,
  ⟨4, "TOKEN_PORT", .u16, .rwm [.standby], 0x9cb0, .nat 1 65535, false⟩,
  ⟨5, "TOKEN_PEERS", .domain, .rw, 0, .any, false⟩,
  ⟨6, "BLOCK_LOAD", .domain, .rwm [.warm, .calibrate, .run, .service], 0, .any, false⟩,
  ⟨7, "LOAD_STATE", .u8, .ro, 0, .any, false⟩,
  ⟨8, "LOAD_BLOCKS", .u32, .ro, 0, .any, false⟩,
  ⟨9, "LOAD_ERROR", .u8, .ro, 0xff, .any, false⟩]

/-- Objects at 0x6400 (Table 14-3). -/
def objs6400_0 : List Obj := [
  ⟨1, "SOURCE", .u8, .rw, 0, .any, false⟩,
  ⟨2, "SERVO_OWNER", .u8, .rw, 0, .enum [0, 1], false⟩,
  ⟨3, "STATE", .u8, .ro, 0, .any, false⟩,
  ⟨4, "NOW", .time96, .ro, 0, .any, false⟩,
  ⟨5, "SET", .time96, .wo, 0, .any, false⟩,
  ⟨6, "INCREMENT", .u64, .rw, 0x100000000, .nat 0x0FFBE76C9 0x100418937, false⟩,
  ⟨7, "ADJUST", .i64, .wo, 0, .any, false⟩,
  ⟨8, "SLEW_RATE", .u32, .rw, 0x2710, .nat 1 10000, false⟩,
  ⟨9, "JUMP_THRESHOLD", .u64, .rw, 0x3e8, .nat 1 (10 ^ 9), false⟩,
  ⟨0xa, "PENDING_STEP", .i64, .ro, 0, .any, false⟩,
  ⟨0xb, "FORCE", .bool, .wo, 0, .nat 1 1, false⟩,
  ⟨0xc, "STATUS", .u8, .ro, 0, .any, false⟩,
  ⟨0xd, "JUMP_REFUSALS", .u64, .ro, 0, .any, false⟩,
  ⟨0xe, "STEPS", .u64, .ro, 0, .any, false⟩,
  ⟨0xf, "MEAS_OFFSET", .i64, .ro, 0, .any, false⟩,
  ⟨0x10, "SLEW_REMAINING", .i64, .ro, 0, .any, false⟩,
  ⟨0x11, "EPOCH_TIME", .time96, .ro, 0, .any, false⟩,
  ⟨0x12, "CONV_STAMP", .stamp, .rw, 0, .any, false⟩,
  ⟨0x13, "CONV_TIME", .time96, .ro, 0, .any, false⟩,
  ⟨0x20, "TPULSE_SRC", .u8, .rw, 0xff, .natOr 0 3 0xFF, false⟩]

/-- Objects at 0x6400 (Table 14-3). -/
def objs6400_1 : List Obj := [
  ⟨0x21, "TPULSE_PERIOD", .u32, .rw, 0x3b9aca00, .divisor 1000 (10 ^ 9), false⟩,
  ⟨0x22, "TPULSE_PHASE", .u32, .rw, 0, .any, false⟩,
  ⟨0x23, "TPULSE_WIDTH", .u32, .rw, 0x186a0, .any, false⟩,
  ⟨0x24, "TPULSE_COUNT", .u64, .ro, 0, .any, false⟩,
  ⟨0x25, "TPULSE_SKIPPED", .u64, .ro, 0, .any, false⟩]

/-- Objects at 0x6400 (Table 14-3), whole. -/
def objs6400 : List Obj := objs6400_0 ++ objs6400_1

/-- Objects at 0x6401 (Table 14-3). -/
def objs6401 : List Obj := [
  ⟨1, "SOURCE", .u8, .rw, 0, .any, false⟩,
  ⟨2, "SERVO_OWNER", .u8, .rw, 0, .enum [0, 1], false⟩,
  ⟨3, "STATE", .u8, .ro, 0, .any, false⟩,
  ⟨4, "NOW", .time96, .ro, 0, .any, false⟩,
  ⟨5, "SET", .time96, .wo, 0, .any, false⟩,
  ⟨6, "INCREMENT", .u64, .rw, 0x100000000, .nat 0x0FFBE76C9 0x100418937, false⟩,
  ⟨7, "ADJUST", .i64, .wo, 0, .any, false⟩,
  ⟨8, "SLEW_RATE", .u32, .rw, 0x2710, .nat 1 10000, false⟩,
  ⟨9, "JUMP_THRESHOLD", .u64, .rw, 0x3e8, .nat 1 (10 ^ 9), false⟩,
  ⟨0xa, "PENDING_STEP", .i64, .ro, 0, .any, false⟩,
  ⟨0xb, "FORCE", .bool, .wo, 0, .nat 1 1, false⟩,
  ⟨0xc, "STATUS", .u8, .ro, 0, .any, false⟩,
  ⟨0xd, "JUMP_REFUSALS", .u64, .ro, 0, .any, false⟩,
  ⟨0xe, "STEPS", .u64, .ro, 0, .any, false⟩,
  ⟨0xf, "MEAS_OFFSET", .i64, .ro, 0, .any, false⟩,
  ⟨0x10, "SLEW_REMAINING", .i64, .ro, 0, .any, false⟩,
  ⟨0x11, "EPOCH_TIME", .time96, .ro, 0, .any, false⟩,
  ⟨0x12, "CONV_STAMP", .stamp, .rw, 0, .any, false⟩,
  ⟨0x13, "CONV_TIME", .time96, .ro, 0, .any, false⟩]

/-- Objects at 0x6402 (Table 14-3). -/
def objs6402 : List Obj := [
  ⟨1, "SOURCE", .u8, .rw, 0, .any, false⟩,
  ⟨2, "SERVO_OWNER", .u8, .rw, 0, .enum [0, 1], false⟩,
  ⟨3, "STATE", .u8, .ro, 0, .any, false⟩,
  ⟨4, "NOW", .time96, .ro, 0, .any, false⟩,
  ⟨5, "SET", .time96, .wo, 0, .any, false⟩,
  ⟨6, "INCREMENT", .u64, .rw, 0x100000000, .nat 0x0FFBE76C9 0x100418937, false⟩,
  ⟨7, "ADJUST", .i64, .wo, 0, .any, false⟩,
  ⟨8, "SLEW_RATE", .u32, .rw, 0x2710, .nat 1 10000, false⟩,
  ⟨9, "JUMP_THRESHOLD", .u64, .rw, 0x3e8, .nat 1 (10 ^ 9), false⟩,
  ⟨0xa, "PENDING_STEP", .i64, .ro, 0, .any, false⟩,
  ⟨0xb, "FORCE", .bool, .wo, 0, .nat 1 1, false⟩,
  ⟨0xc, "STATUS", .u8, .ro, 0, .any, false⟩,
  ⟨0xd, "JUMP_REFUSALS", .u64, .ro, 0, .any, false⟩,
  ⟨0xe, "STEPS", .u64, .ro, 0, .any, false⟩,
  ⟨0xf, "MEAS_OFFSET", .i64, .ro, 0, .any, false⟩,
  ⟨0x10, "SLEW_REMAINING", .i64, .ro, 0, .any, false⟩,
  ⟨0x11, "EPOCH_TIME", .time96, .ro, 0, .any, false⟩,
  ⟨0x12, "CONV_STAMP", .stamp, .rw, 0, .any, false⟩,
  ⟨0x13, "CONV_TIME", .time96, .ro, 0, .any, false⟩]

/-- Objects at 0x6403 (Table 14-3). -/
def objs6403_0 : List Obj := [
  ⟨1, "SOURCE", .u8, .rw, 0, .any, false⟩,
  ⟨2, "SERVO_OWNER", .u8, .rw, 0, .enum [0, 1], false⟩,
  ⟨3, "STATE", .u8, .ro, 1, .any, false⟩,
  ⟨4, "NOW", .time96, .ro, 0, .any, false⟩,
  ⟨5, "SET", .time96, .wo, 0, .any, false⟩,
  ⟨6, "INCREMENT", .u64, .rw, 0x100000000, .nat 0x0FFBE76C9 0x100418937, false⟩,
  ⟨7, "ADJUST", .i64, .wo, 0, .any, false⟩,
  ⟨8, "SLEW_RATE", .u32, .rw, 0x2710, .nat 1 10000, false⟩,
  ⟨9, "JUMP_THRESHOLD", .u64, .rw, 0x3e8, .nat 1 (10 ^ 9), false⟩,
  ⟨0xa, "PENDING_STEP", .i64, .ro, 0, .any, false⟩,
  ⟨0xb, "FORCE", .bool, .wo, 0, .nat 1 1, false⟩,
  ⟨0xc, "STATUS", .u8, .ro, 0, .any, false⟩,
  ⟨0xd, "JUMP_REFUSALS", .u64, .ro, 0, .any, false⟩,
  ⟨0xe, "STEPS", .u64, .ro, 0, .any, false⟩,
  ⟨0xf, "MEAS_OFFSET", .i64, .ro, 0, .any, false⟩,
  ⟨0x10, "SLEW_REMAINING", .i64, .ro, 0, .any, false⟩,
  ⟨0x11, "EPOCH_TIME", .time96, .ro, 0, .any, false⟩,
  ⟨0x12, "CONV_STAMP", .stamp, .rw, 0, .any, false⟩,
  ⟨0x13, "CONV_TIME", .time96, .ro, 0, .any, false⟩,
  ⟨0x14, "AGE_RATE", .i32, .rw, 0, .int (-100000) 100000, true⟩]

/-- Objects at 0x6403 (Table 14-3). -/
def objs6403_1 : List Obj := [
  ⟨0x15, "AGE_REF", .time96, .rw, 0, .any, true⟩,
  ⟨0x16, "XTAL_PPB", .i32, .ro, 0, .any, true⟩]

/-- Objects at 0x6403 (Table 14-3), whole. -/
def objs6403 : List Obj := objs6403_0 ++ objs6403_1

/-- Objects at 0x6480 (Table 14-5). -/
def objs6480 : List Obj := [
  ⟨1, "PTP_ENABLE", .bool, .rwm [.standby, .warm], 0, .nat 0 1, false⟩,
  ⟨2, "PTP_TB", .u8, .rwm [.standby, .warm], 1, .list [1, 2], false⟩,
  ⟨3, "DOMAIN_NUMBER", .u8, .rwm [.standby, .warm], 0, .nat 0 127, false⟩,
  ⟨4, "DELAY_MECH", .u8, .rwm [.standby, .warm], 0, .enum [0, 1], false⟩,
  ⟨5, "TRANSPORT", .u8, .rwm [.standby, .warm], 0, .enum [0, 1, 2], false⟩,
  ⟨6, "STEP_MODE", .u8, .rw, 1, .enum [0, 1], false⟩,
  ⟨7, "SLAVE_ONLY", .bool, .rwm [.standby, .warm], 1, .nat 0 1, false⟩,
  ⟨8, "PRIORITY1", .u8, .rw, 0x80, .any, false⟩,
  ⟨9, "PRIORITY2", .u8, .rw, 0x80, .any, false⟩,
  ⟨0xa, "LOG_SYNC_INTERVAL", .i32, .rw, 0, .int (-4) 1, false⟩,
  ⟨0xb, "LOG_ANNOUNCE_INTERVAL", .i32, .rw, 1, .int 0 4, false⟩,
  ⟨0xc, "LOG_MIN_DELAY_REQ_INTERVAL", .i32, .rw, 0, .int 0 5, false⟩,
  ⟨0xd, "ASYMMETRY", .i64, .rw, 0, .any, false⟩,
  ⟨0xe, "LOSS_TIMEOUT", .u32, .rw, 0xbb8, .nat 100 60000, false⟩,
  ⟨0xf, "PORT_STATE", .u8, .ro, 1, .any, false⟩,
  ⟨0x10, "MEAN_DELAY", .i64, .ro, 0, .any, false⟩]

/-- Objects at 0x6481 (Table 14-5). -/
def objs6481 : List Obj := [
  ⟨1, "PTP_ENABLE", .bool, .rwm [.standby, .warm], 0, .nat 0 1, false⟩,
  ⟨2, "PTP_TB", .u8, .rwm [.standby, .warm], 2, .list [1, 2], false⟩,
  ⟨3, "DOMAIN_NUMBER", .u8, .rwm [.standby, .warm], 0, .nat 0 127, false⟩,
  ⟨4, "DELAY_MECH", .u8, .rwm [.standby, .warm], 0, .enum [0, 1], false⟩,
  ⟨5, "TRANSPORT", .u8, .rwm [.standby, .warm], 0, .enum [0, 1, 2], false⟩,
  ⟨6, "STEP_MODE", .u8, .rw, 1, .enum [0, 1], false⟩,
  ⟨7, "SLAVE_ONLY", .bool, .rwm [.standby, .warm], 1, .nat 0 1, false⟩,
  ⟨8, "PRIORITY1", .u8, .rw, 0x80, .any, false⟩,
  ⟨9, "PRIORITY2", .u8, .rw, 0x80, .any, false⟩,
  ⟨0xa, "LOG_SYNC_INTERVAL", .i32, .rw, 0, .int (-4) 1, false⟩,
  ⟨0xb, "LOG_ANNOUNCE_INTERVAL", .i32, .rw, 1, .int 0 4, false⟩,
  ⟨0xc, "LOG_MIN_DELAY_REQ_INTERVAL", .i32, .rw, 0, .int 0 5, false⟩,
  ⟨0xd, "ASYMMETRY", .i64, .rw, 0, .any, false⟩,
  ⟨0xe, "LOSS_TIMEOUT", .u32, .rw, 0xbb8, .nat 100 60000, false⟩,
  ⟨0xf, "PORT_STATE", .u8, .ro, 1, .any, false⟩,
  ⟨0x10, "MEAN_DELAY", .i64, .ro, 0, .any, false⟩]

/-- Objects at 0x7000 (Table 15-10). -/
def objs7000 : List Obj := [
  ⟨1, "STICKY", .domain, .ro, 0, .any, false⟩,
  ⟨2, "FAULT_ACK", .domain, .wo, 0, .any, false⟩,
  ⟨3, "LEVEL", .u8, .ro, 0xff, .any, false⟩,
  ⟨4, "FIRST_SOURCE", .u32, .ro, 0xffffffff, .any, false⟩,
  ⟨5, "FIRST_STAMP", .stamp, .ro, 0, .any, false⟩,
  ⟨6, "FIRST_CLR", .bool, .wo, 0, .nat 1 1, false⟩,
  ⟨7, "FIRST_MIN", .u8, .rw, 2, .nat 0 4, false⟩,
  ⟨8, "ESCALATE_MASK", .u32, .rw, 0x3ffffff, .mask 0x03FFFFFF, false⟩,
  ⟨9, "L3_ACTION", .u8, .rw, 0, .enum [0, 1], true⟩,
  ⟨0xa, "EVENTS_COALESCED", .u64, .ro, 0, .any, false⟩,
  ⟨0xb, "QUEUE_DEPTH", .u16, .ro, 0, .any, false⟩,
  ⟨0xc, "HISTORY", .domain, .ro, 0, .any, true⟩,
  ⟨0xd, "HISTORY_NEXT", .u16, .ro, 0, .any, true⟩]

/-- Objects at 0x7001 (Table 15-10). -/
def objs7001 : List Obj := [
  ⟨1, "SOURCE_SEL", .u16, .rw, 0, .nat 0 511, false⟩,
  ⟨2, "SOURCE_COUNT", .u64, .ro, 0, .any, false⟩,
  ⟨3, "SOURCE_LAST", .u8, .ro, 0, .any, false⟩,
  ⟨4, "SOURCE_STAMP", .stamp, .ro, 0, .any, false⟩]

/-- Objects at 0x7200 (Table 15-10). -/
def objs7200 : List Obj := [
  ⟨1, "ALIVE_STATE", .u8, .ro, 0, .any, false⟩]

/-- Objects at 0x7400 (Table 15-11). -/
def objs7400 : List Obj := [
  ⟨1, "SOURCE", .u8, .rw, 0xff, .natOr 0 0xEF 0xFF, false⟩,
  ⟨2, "VALUE", .u64, .ro, 0, .any, false⟩,
  ⟨3, "CLEAR", .bool, .wo, 0, .nat 1 1, false⟩,
  ⟨4, "EPOCH_VALUE", .u64, .ro, 0, .any, false⟩]

/-- Objects at 0x7800 (Table 15-10). -/
def objs7800 : List Obj := [
  ⟨1, "JSEQ", .u64, .ro, 0, .any, true⟩,
  ⟨2, "JOURNAL_LAG", .u32, .ro, 0, .any, false⟩,
  ⟨3, "JOURNAL_COALESCED", .u64, .ro, 0, .any, false⟩,
  ⟨4, "JOURNAL_WRAPS", .u64, .ro, 0, .any, true⟩,
  ⟨5, "CRC_FAILS", .domain, .ro, 0, .any, false⟩,
  ⟨6, "RECOVERED", .u64, .ro, 0, .any, false⟩,
  ⟨7, "VOID_RECORDS", .u64, .ro, 0, .any, false⟩,
  ⟨8, "RECOVERY_STATE", .u8, .ro, 1, .any, false⟩]

/-- Objects at 0x8000 (Table 16-8). -/
def objs8000 : List Obj := [
  ⟨1, "STAGE", .domain, .rwm [.service], 0, .any, false⟩,
  ⟨2, "INSTALL", .u8, .rwm [.service], 0, .nat 0 1, false⟩,
  ⟨3, "STATUS", .u8, .ro, 0, .any, false⟩,
  ⟨4, "SLOT0_VERSION", .u32, .ro, 0, .any, true⟩,
  ⟨5, "SLOT1_VERSION", .u32, .ro, 0, .any, true⟩,
  ⟨6, "BOOT_SLOT", .u8, .rw, 0, .nat 0 1, true⟩,
  ⟨7, "FLOOR", .u32, .rw, 0, .any, true⟩]

/-- Objects at 0x8800 (Table 16-8). -/
def objs8800 : List Obj := [
  ⟨1, "STAGE", .domain, .rwm [.service], 0, .any, false⟩,
  ⟨2, "INSTALL", .u8, .rwm [.service], 0, .nat 0 1, false⟩,
  ⟨3, "STATUS", .u8, .ro, 0, .any, false⟩,
  ⟨4, "SLOT0_VERSION", .u32, .ro, 0, .any, true⟩,
  ⟨5, "SLOT1_VERSION", .u32, .ro, 0, .any, true⟩,
  ⟨6, "BOOT_SLOT", .u8, .rw, 0, .nat 0 1, true⟩,
  ⟨7, "FLOOR", .u32, .rw, 0, .any, true⟩]

/-- The dictionary: every group of indices with its objects (Table 2-3). -/
def dictGroups_0 : List ObjGroup := [
  ⟨0x1000, 1, objs1000⟩,
  ⟨0x1008, 1, objs1008⟩,
  ⟨0x1009, 1, objs1009⟩,
  ⟨0x100A, 1, objs100A⟩,
  ⟨0x1100, 2, objs1100⟩,
  ⟨0x1110, 1, objs1110⟩,
  ⟨0x1200, 1, objs1200⟩,
  ⟨0x1210, 1, objs1210⟩,
  ⟨0x1220, 1, objs1220⟩,
  ⟨0x1300, 1, objs1300⟩,
  ⟨0x1301, 1, objs1301⟩,
  ⟨0x1302, 1, objs1302⟩,
  ⟨0x1310, 1, objs1310⟩,
  ⟨0x1311, 1, objs1311⟩,
  ⟨0x2000, 64, objs2000⟩,
  ⟨0x2040, 64, objs2040⟩,
  ⟨0x2080, 64, objs2080⟩,
  ⟨0x20C0, 64, objs20C0⟩,
  ⟨0x3000, 256, objs3000⟩,
  ⟨0x3100, 256, objs3100⟩]

/-- The dictionary: every group of indices with its objects (Table 2-3). -/
def dictGroups_1 : List ObjGroup := [
  ⟨0x3200, 256, objs3200⟩,
  ⟨0x3300, 256, objs3300⟩,
  ⟨0x3400, 1, objs3400⟩,
  ⟨0x3500, 16, objs3500⟩,
  ⟨0x4000, 264, objs4000⟩,
  ⟨0x4200, 1, objs4200⟩,
  ⟨0x4400, 32, objs4400⟩,
  ⟨0x4480, 8, objs4480⟩,
  ⟨0x44C0, 8, objs44C0⟩,
  ⟨0x4800, 2, objs4800⟩,
  ⟨0x5000, 1, objs5000⟩,
  ⟨0x5010, 4, objs5010⟩,
  ⟨0x5400, 1, objs5400⟩,
  ⟨0x5402, 1, objs5402⟩,
  ⟨0x5403, 1, objs5403⟩,
  ⟨0x5410, 8, objs5410⟩,
  ⟨0x5420, 64, objs5420⟩,
  ⟨0x5800, 1, objs5800⟩,
  ⟨0x5C00, 1, objs5C00⟩,
  ⟨0x5C01, 1, objs5C01⟩]

/-- The dictionary: every group of indices with its objects (Table 2-3). -/
def dictGroups_2 : List ObjGroup := [
  ⟨0x5C02, 1, objs5C02⟩,
  ⟨0x5C40, 64, objs5C40⟩,
  ⟨0x6000, 8, objs6000⟩,
  ⟨0x6010, 1, objs6010⟩,
  ⟨0x6020, 1, objs6020⟩,
  ⟨0x6021, 1, objs6021⟩,
  ⟨0x6022, 1, objs6022⟩,
  ⟨0x6400, 1, objs6400⟩,
  ⟨0x6401, 1, objs6401⟩,
  ⟨0x6402, 1, objs6402⟩,
  ⟨0x6403, 1, objs6403⟩,
  ⟨0x6480, 1, objs6480⟩,
  ⟨0x6481, 1, objs6481⟩,
  ⟨0x7000, 1, objs7000⟩,
  ⟨0x7001, 1, objs7001⟩,
  ⟨0x7200, 1, objs7200⟩,
  ⟨0x7400, 128, objs7400⟩,
  ⟨0x7800, 1, objs7800⟩,
  ⟨0x8000, 1, objs8000⟩,
  ⟨0x8800, 1, objs8800⟩]

/-- The dictionary, whole. -/
def dictGroups : List ObjGroup := dictGroups_0 ++ dictGroups_1 ++ dictGroups_2

/-- The key of an object: index times 256 plus sub-index (R43). -/
abbrev Key := Nat

/-- The key of index:sub-index. -/
def mkKey (ix sub : Nat) : Key := ix * 256 + sub

/-- The index of a key. -/
def keyIx (k : Key) : Nat := k / 256

/-- The sub-index of a key. -/
def keySub (k : Key) : Nat := k % 256

/-- The objects of an index, if the index is defined (R48). -/
def groupAt (ix : Nat) : List ObjGroup → Option (List Obj)
  | [] => none
  | g :: gs => if g.base ≤ ix ∧ ix < g.base + g.count then some g.objs else groupAt ix gs

/-- The object with a sub-index. -/
def objIn (sub : Nat) : List Obj → Option Obj
  | [] => none
  | o :: os => if o.sub = sub then some o else objIn sub os

/-- The dictionary row of a key, if it is defined (R48). -/
def objOf (k : Key) : Option Obj := (groupAt (keyIx k) dictGroups).bind (objIn (keySub k))

/-- The default of an object (R47); a key with no row reads 0. -/
def dfltOf (k : Key) : Nat :=
  match objOf k with
  | some o => o.dflt
  | none => 0

/-- Whether an object is held in eMRAM (R47). -/
def storedKey (k : Key) : Bool :=
  match objOf k with
  | some o => o.stored
  | none => false

/-- The width of a type in bytes (Table 2-1); 0 for STRING and DOMAIN. -/
def ObjTy.width : ObjTy → Nat
  | .bool | .u8 => 1
  | .u16 => 2
  | .u32 | .i32 | .f32 => 4
  | .u64 | .i64 | .ticks | .stamp => 8
  | .time96 => 12
  | .string | .domain => 0

/-- The type code of Table 2-1. -/
def ObjTy.code : ObjTy → Nat
  | .bool => 1 | .u8 => 2 | .u16 => 3 | .u32 => 4 | .u64 => 5 | .i32 => 6 | .i64 => 7
  | .f32 => 8 | .ticks => 9 | .stamp => 10 | .time96 => 11 | .string => 12 | .domain => 13

end Sys2Proof.Machine
end

