-- ==== Sys2Proof/Machine/Map.lean ====
section
/-!
DEFINITION. Sys2Proof/Machine/Map.lean: finite maps as plain data, a list of (key, value) pairs in ONE
canonical form: keys strictly rising, and no entry equal to what an unlisted key reads as.
-/
namespace Sys2Proof.Machine

/-- A finite map from numbers. -/
abbrev SMap (α : Type) := List (Nat × α)

/-- The value listed for a key, if any. -/
def mfind {α : Type} : SMap α → Nat → Option α
  | [], _ => none
  | (k, v) :: m, i => if k = i then some v else mfind m i

/-- The value of a key; `d` is what an unlisted key reads as. -/
def mget {α : Type} (d : α) (m : SMap α) (i : Nat) : α := (mfind m i).getD d

/-- The map without a key. -/
def merase {α : Type} : SMap α → Nat → SMap α
  | [], _ => []
  | (k, v) :: m, i => if k = i then merase m i else (k, v) :: merase m i

/-- The map with a key, placed before the first larger key. -/
def minsert {α : Type} : SMap α → Nat → α → SMap α
  | [], i, x => [(i, x)]
  | (k, v) :: m, i, x => if i < k then (i, x) :: (k, v) :: m else (k, v) :: minsert m i x

/-- Write a key: a value equal to the default removes the entry. -/
def mset {α : Type} [DecidableEq α] (d : α) (m : SMap α) (i : Nat) (x : α) : SMap α :=
  if x = d then merase m i else minsert (merase m i) i x

/-- Change the value of a key. -/
def mmod {α : Type} [DecidableEq α] (d : α) (m : SMap α) (i : Nat) (f : α → α) : SMap α :=
  mset d m i (f (mget d m i))

/-- The canonical form: keys strictly rising. -/
def mwf {α : Type} : SMap α → Bool
  | [] => true
  | [_] => true
  | (a, _) :: (b, y) :: m => decide (a < b) && mwf ((b, y) :: m)

/-- Whether the numbers of a list rise strictly. -/
def rising : List Nat → Bool
  | [] => true
  | [_] => true
  | a :: b :: l => decide (a < b) && rising (b :: l)

end Sys2Proof.Machine
end

