-- ==== Sys2Proof/Machine/State.lean ====
section
/-!
DEFINITION. Sys2Proof/Machine/State.lean: the state of the block as plain data: the waiting commands, the
addressed memory, and the core, which holds every register, buffer, counter, mode and pin the spec gives.
Scalar dictionary objects live in `Core.regs`, keyed index and sub-index, DOMAIN objects in `Core.doms`;
what the spec describes beside the dictionary lives in the structures of this file.  The value after the
comment mark of a field's `:=` is its value at reset (INVENTORY.md, '## State').
-/
namespace Sys2Proof.Machine

/-! ## Flow of a Weaver (03_weaver_sequencer.md, 04_microcode.md) -/

/-- A counter of R89 and R128: RC, MC or an LC. -/
structure Ctr where
  value : Nat := 0
  active : Bool := false
  owner : Nat := 0
  deriving DecidableEq, Repr

/-- An edge detector (R134): source code, edge selection (0 OFF, 1 RISE, 2 FALL, 3 BOTH), LAST and FLAG, and the
micro-cycle, on the model clock, of the last edge that set FLAG. -/
structure EdgeDet where
  src : Nat := 0
  edge : Nat := 0
  last : Bool := false
  flag : Bool := false
  edgeAt : Option Nat := none
  deriving DecidableEq, Repr

/-- A control-store bank (R118 to R121, R139): the microcode slot of its vendor part (none: EMPTY), whether that part is the
Horot part, whether a user part has been loaded, the control words with their parity (36 bits, an unlisted word reads 0), and
the dispatch and timer entries with their parity (16 bits, an unlisted entry is not VALID and reads 0x8000, log 101). -/
structure CsBank where
  slot : Option Nat := none
  nano : Bool := false
  user : Bool := false
  words : SMap Nat := []
  dispatch : SMap Nat := []
  timers : SMap Nat := []
  deriving DecidableEq, Repr

/-- A segment descriptor (Table 3-5). -/
structure SegDesc where
  dataBase : Nat := 0
  instrBase : Nat := 0
  imageGranules : Nat := 0
  entryGranule : Nat := 0
  maxGranules : Nat := 0
  period : Nat := 0
  rateMul : Nat := 0
  dense : Bool := false
  swapOk : Bool := false
  noGap : Bool := false
  fin : Bool := false
  next : Nat := 0
  trgMask : Nat := 0
  pecList : Nat := 0
  streamBase : Nat := 0
  units : Nat := 0
  rate : Nat := 0
  dest : Nat := 0
  tag : Nat := 0
  dir : Nat := 0
  deriving DecidableEq, Repr

/-- Where a window's microprogram stands (R124 to R126). -/
inductive Phase where
  | closed
  | dispatched
  | running
  | ended
  | abandoned
  deriving DecidableEq, Repr

/-- The micro-machine of a Weaver (R122 to R129, R133, R136): `handler` is the timer whose handler runs, `todo` the expiries this
window still serves, `prog` tells that the instruction's microprogram has begun, `stalled` that its word waits for an event from
outside, and `upset` is the item that fails its parity check when this window next reads it. -/
structure Micro where
  phase : Phase := .closed
  iw : Nat := 0
  nxt : Nat := 0
  t : Bool := false
  upc : Nat := 0
  cycles : Nat := 0
  handler : Option Nat := none
  todo : Nat := 0
  prog : Bool := false
  stalled : Bool := false
  upset : Option ParityUpset := none
  g : SMap Nat := []
  mt : SMap Nat := []
  pending : Nat := 0
  deriving DecidableEq, Repr

/-- What a segment run has made for one site (R216, Table 7-4). -/
structure SiteRun where
  made : Nat := 0
  unrecorded : Nat := 0
  firstUnrecorded : Option Nat := none
  deriving DecidableEq, Repr

/-- The successor fixed at the commit point (R101): its descriptor index and copy, the sites its checks counted, whether its
checks have passed, and whether it is refused for good (R217, R219). -/
structure Succ where
  index : Nat
  desc : SegDesc
  sites : Nat
  granted : Bool
  refused : Bool
  deriving DecidableEq, Repr

/-- A record waiting in the microcode-record queue (R210, R216): KIND, value, and for MATCH_TIMEOUT the sites. -/
structure QueuedRec where
  kind : Nat
  value : Nat
  sites : Nat
  deriving DecidableEq, Repr

/-- The sample of a strobe that reaches the detectors and the pin in the granule after the segment's last but one (R134, Table
4-16). -/
structure LateSample where
  site : Nat
  lp : Nat
  pin : Nat
  h : Bool
  l : Bool
  deriving DecidableEq, Repr

/-- What a launched segment does at its first vector: descriptor index, origin, origin value, hold granules (R97, R115). -/
structure Opening where
  index : Nat
  origin : Nat
  originValue : Nat
  hold : Nat
  deriving DecidableEq, Repr

/-- One Weaver beside its objects.  `acc` and `latch` hold the fails and, per MSEL code, the match latches of
the granules up to e − 2 while granule e is emitted (R90, R91); `recHold` holds the queued records of granule
e − 1 (R210); `pulses` are the TRGO pulses to come, as mask and instant; `sites` are the sites enabled now, `ran` those the running segment started with, `off` those SITEOFF
disables at the granule's end; `late` and `lateFlow` (accumulators and latches) are the samples of the granule that ended the last
segment, `opening` waits for the first vector of a launched segment, and `nano` is the nano store (R138), filled from `nanoSlot`. -/
structure Weaver where
  desc : Option SegDesc := none
  k : Nat := 0
  e : Nat := 0
  gStart : Nat := 0
  inHold : Bool := false
  rc : Ctr := {}
  mc : Ctr := {}
  lc : SMap Ctr := []
  stack : List Nat := []
  mto : Bool := false
  acc : Nat := 0
  latch : SMap Nat := []
  tailed : Bool := false
  tailLeft : Nat := 0
  forced : Bool := false
  committed : Bool := false
  succ : Option Succ := none
  stopReq : Option (Nat × Nat) := none
  launchEpoch : Nat := 0
  waitFrom : Option Nat := none
  waitAge : Nat := 0
  holdHere : Nat := 0
  sites : Nat := 0
  ran : Nat := 0
  off : Nat := 0
  siteRuns : SMap SiteRun := []
  blocks : SMap Bool := []
  lists : List Nat := []
  listsWaiting : List Nat := []
  trgo : Nat := 0
  pulses : List (Nat × Nat) := []
  recq : List QueuedRec := []
  recHold : List QueuedRec := []
  late : List LateSample := []
  lateFlow : Option (Nat × SMap Nat) := none
  opening : Option Opening := none
  micro : Micro := {}
  eds : SMap EdgeDet := []
  bankA : CsBank := {}
  bankB : CsBank := {}
  nanoSlot : Option Nat := none
  nano : SMap Nat := []
  swapSince : Option Nat := none
  swapRaised : Bool := false
  recent : List Nat := []
  deriving DecidableEq, Repr

/-! ## Pins, correction banks, control ports (05_pin_timing.md, 06_calibration.md) -/

/-- A correction bank or set (Table 6-2): basis temperature, generation, CAL_BYTE, the 20 offsets, and
the coarse-position tables of the 8 generators. -/
structure CorrBank where
  temp : Int := 0
  gen : Nat := 0
  calByte : Nat := 0
  ofs : List Int := []
  coarse : List (List Nat) := []
  deriving DecidableEq, Repr

/-- The values of the objects of R170 that are in force for the running segment. -/
structure PinForce where
  holdoff : Nat := 0
  glitch : Nat := 0
  boundary : Bool := false
  burstWord : Nat := 0
  burstLen : Nat := 64
  deriving DecidableEq, Repr

/-- The residuals one path received in the round (R190, R197): count, sum, sum of squares, largest |e|. -/
structure Resid where
  n : Nat := 0
  sum : Int := 0
  squares : Nat := 0
  largest : Nat := 0
  deriving DecidableEq, Repr

/-- An accepted change of a comparator result (R163): instant, line, level. -/
structure CmpChange where
  at_ : Nat
  line : CmpLine
  level : Bool
  deriving DecidableEq, Repr

/-- A strobe whose granule has been emitted and whose result is still on its way (R165): the vector within the
segment, slot, strobe (0 A, 1 B), full-mode code, programmed open and close on the stamp scale, WINDOW mode, and for a
returned raster lane (R301) 1 + the sample's number. -/
structure Strobe where
  vector : Nat
  slot : Nat
  ab : Nat
  code : Nat
  opens : Nat
  closes : Nat
  window : Bool
  tag : Nat := 0
  deriving DecidableEq, Repr

/-- A transition a pin has placed: its placed time, whether it is of the enable pair, and its level. -/
structure Swing where
  at_ : Int
  enable : Bool
  level : Bool
  deriving DecidableEq, Repr

/-- One pin beside its objects.  `due` lists the loop-back transitions waiting for the TDC: path and placed time, and `passed` the
placed times of those due in the last granules (R189); `eye` the places in the slot of the changes stamped in the round (R198);
`staged` is the field delta of the last foreground calibration, made with REFWARM low if `stagedCold`, and `measured` its valid
coarse-position tables until the next rebuild takes them (R183, R199). -/
structure Pin where
  data : Bool := false
  en : Bool := false
  lastDrive : Nat := 2
  placedData : Option Int := none
  placedEn : Option Int := none
  trans : List Swing := []
  burst : Nat := 0
  rawH : Bool := false
  rawL : Bool := false
  candH : Option (Nat × Bool) := none
  candL : Option (Nat × Bool) := none
  accH : Bool := false
  accL : Bool := false
  history : List CmpChange := []
  strobes : List Strobe := []
  sampleH : Bool := false
  sampleL : Bool := false
  force : PinForce := {}
  calByte : Nat := 1
  tsetA : List Byte := []
  tsetB : List Byte := []
  corrA : CorrBank := {}
  corrB : CorrBank := {}
  corrActiveB : Bool := false
  drift : SMap Int := []
  resid : SMap Resid := []
  used : Nat := 0
  shadow : SMap Nat := []
  due : List (Nat × Int) := []
  passed : List Int := []
  eye : List Nat := []
  lastRound : Option Nat := none
  staged : SMap Int := []
  stagedCold : Bool := false
  measured : List (List Nat) := []
  field : SMap Int := []
  fieldCold : Bool := false
  deriving DecidableEq, Repr

/-- Where a list in a port queue came from (R175). -/
inductive ListFrom where
  | weaver (w : Nat)
  | host
  deriving DecidableEq, Repr

/-- A list in a port queue: its number, where it came from, and the instant it entered (R175). -/
structure PortList where
  list : Nat
  source : ListFrom
  since : Nat
  deriving DecidableEq, Repr

/-- One control port beside its objects: queue, the list in progress (its store, frame offset, frames left), the level of CS_N,
the instant at which it falls for the list's next or running frame, and the end of the last CS_GAP (R174, R175). -/
structure Pec where
  queue : List PortList := []
  active : Option (List Byte × Nat × Nat) := none
  csHigh : Bool := true
  falls : Nat := 0
  gapEnd : Nat := 0
  deriving DecidableEq, Repr

/-- The tracker and the foreground calibration (R189 to R200): the junction temperature of each pin group and the
reading a rebuild took, the instant a rebuild began, whether another must follow, whether one is held for a group epoch, whether REFWARM was low in the round in progress or in a
round since the drifts were cleared, whether a foreground calibration runs, has reached DONE, and saw REFWARM low, and
the pin groups that are below 15 or above 95 degC; what the calibration source gives the pins in the rounds after the last foreground
calibration, and the rounds in CALIBRATE since (R199). -/
structure Cal where
  temps : SMap Int := []
  rebuilding : Option Nat := none
  rebuildAgain : Bool := false
  rebuildHeld : Bool := false
  coldNow : Bool := false
  roundCold : Bool := false
  fgRunning : Bool := false
  fgDone : Bool := false
  fgCold : Bool := false
  outOfSpan : Nat := 0
  source : List (Nat × SourceResid) := []
  sourceRound : Nat := 0
  deriving DecidableEq, Repr

/-! ## Capture, streams and the journal (07_capture_credit.md, 15_integrity_faults.md) -/

/-- A record staged in the Landing (R204, R215): its stream, sequence and bytes, the Weaver and run that
hold its credit, the units that return with it, its destination code, and whether it waits only for the
host's ACK (DIRECT) or the boom (BOOM). -/
structure Staged where
  stream : Nat
  seq : Nat
  bytes : List Byte
  weaver : Nat
  run : Nat
  credit : Nat
  dest : Nat
  placed : Bool
  deriving DecidableEq, Repr

/-- The capture-write share of a segment (R213, R215): Weaver, run (0 before the start), RATE, and whether the
run has ended. -/
structure Reserve where
  weaver : Nat
  run : Nat
  rate : Nat
  ended : Bool
  deriving DecidableEq, Repr

/-- The Landing (R211, R213): allocatable units reserved or staged, staged records, capture shares held, and
the fetch steps each Weaver holds (R326). -/
structure Landing where
  held : Nat := 0
  staged : List Staged := []
  shares : List Reserve := []
  fetch : SMap Nat := []
  deriving DecidableEq, Repr

/-- A record held in a stream's ring: sequence, first ring unit, units. -/
structure RingRec where
  seq : Nat
  pos : Nat
  units : Nat
  deriving DecidableEq, Repr

/-- One stream (R209, R217, R224 to R227, Table 15-3). -/
structure Stream where
  next : Nat := 1
  journal : Nat := 0
  acked : Nat := 0
  confirmed : Nat := 0
  sent : Nat := 0
  everSent : Nat := 0
  window : Nat := 0
  bound : Option HostAddr := none
  session : Nat := 0
  eth : Nat := 0
  openRun : Option Nat := none
  ringPos : Nat := 0
  ring : List RingRec := []
  lastAck : Nat := 0
  acqOpen : Bool := false
  deriving DecidableEq, Repr

/-- A journal entry (Table 15-3); the pointers of the streams of `tie` go into the same record as it (R419). -/
structure JEntry where
  kind : Nat
  id : Nat
  value : Nat
  open_ : Bool
  run : Nat
  since : Nat
  tie : List Nat := []
  deriving DecidableEq, Repr

/-- The journal (R416 to R418): the log's slots, the entries waiting, whether it is closed (R430), and
per Weaver the armed launch that is not yet retired: STREAM_BASE, its sites with 256 times those whose first record the
pointers have passed, descriptor, and epoch. -/
structure Journal where
  slots : SMap (List Byte) := []
  head : Nat := 0
  waiting : List JEntry := []
  closed : Bool := false
  armed : SMap (Nat × Nat × Nat × Nat) := []
  deriving DecidableEq, Repr

/-! ## Faults and tally counters (15_integrity_faults.md) -/

/-- What the collector holds for one source (R428, R435). -/
structure FaultSrc where
  sticky : Bool := false
  count : Nat := 0
  level : Nat := 0
  raised : Nat := 0
  stamp : Nat := 0
  unacked : Option Nat := none
  deriving DecidableEq, Repr

/-- An event of the 256-entry queue (Table 15-7). -/
structure FaultEvent where
  source : Nat
  level : Nat
  raised : Nat
  first : Bool
  coalesced : Nat
  stamp : Nat
  epoch : Nat
  detail : Nat
  deriving DecidableEq, Repr

/-- The fault collector (R428 to R433). -/
structure Faults where
  srcs : SMap FaultSrc := []
  queue : List FaultEvent := []
  firstTime : Nat := 0
  coalesced : Nat := 0
  history : SMap (List Byte) := []
  reaction : Nat := 0
  safeDue : Bool := false
  aliveHigh : Bool := true
  aliveStopping : Bool := false
  deriving DecidableEq, Repr

/-- A tally counter (R434). -/
structure Tally where
  source : Nat := 0xFF
  value : Nat := 0
  epochValue : Nat := 0
  deriving DecidableEq, Repr

/-! ## Time (08_time_stamping.md R232, 13_withy_multidevice.md R374 to R477, 14_time_bases.md) -/

/-- The stamp scale and the epoch counter (R232, R374, R375, R401, R477): the stamp and the instant of the latest boundary, the
latches of the last 1,024 boundaries, newest first (epoch, stamp, value per time base), the count and time of EPOCH_ALIGN, the
written SYNC_PERIOD and SYNC_COMP values not yet in force with the instants of their writes, those in force, whether a SYNC pulse has set
the phase since the lock, since when REF_LOCKED has read 1, and whether the counter
runs. -/
structure Clk where
  boundary : Nat := 0
  latches : List (Nat × Nat × List (Option Nat)) := []
  at_ : Nat := 0
  align : Option (Nat × Nat) := none
  periods : List (Nat × Nat) := []
  comps : List (Nat × Nat) := []
  curPeriod : Nat := 1000
  comp : Nat := 0
  phased : Bool := false
  lockedSince : Option Nat := none
  counting : Bool := false
  deriving DecidableEq, Repr

/-- One time base (R392 to R400): its value in 2^-32 ns, the phase in its base-clock cycle, the slew
left in 2^-32 ns with the fraction carried between cycles, a due SET and a due FORCE, the time of the last
measurement, and the increments of the last 60 s under MGMT. -/
structure Tb where
  val : Nat := 0
  phase : Nat := 0
  slew : Int := 0
  carry : Nat := 0
  setDue : Option Nat := none
  forceDue : Bool := false
  measAt : Option Nat := none
  incLog : List (Nat × Nat) := []
  ageing : Int := 0
  deriving DecidableEq, Repr

/-- The time pulse (R405 to R407): output level, last boundary emitted, settings to take over. -/
structure Tpulse where
  high : Bool := false
  last : Option Nat := none
  src : Nat := 0xFF
  period : Nat := 1000000000
  phase : Nat := 0
  width : Nat := 100000
  deriving DecidableEq, Repr

/-! ## DAP, sessions and what leaves the block (02_dictionary_access.md) -/

/-- What the block sends (log 8): a UDP payload from a port and service, an echo or ARP answer, a Withy
message or flit, a PTP message, and the pulses on SYNC_OUT, TRGO and TPULSE. -/
inductive Out where
  | udp (eth : Nat) (service : Nat) (dontFragment : Bool) (checksum : Nat) (dst : HostAddr) (bytes : List Byte)
  | echoReply (eth : Nat) (dontFragment : Bool) (dst : HostAddr) (bytes : List Byte)
  | neighbour (eth : Nat) (v6 : Bool) (mac : Nat) (toMac : Nat) (ip : Nat) (toIp : Nat)
  | withy (link : Nat) (bytes : List Byte)
  | flit (link : Nat) (kind : Nat) (fseq : Nat) (bytes : List Byte)
  | ptp (port : Nat) (kind : Nat) (values : List Nat)
  | syncOut (tick : Nat)
  | trgo (output : Nat) (tick : Nat)
  | tpulse (high : Bool) (tick : Nat)
  | transition (pin : Nat) (enable : Bool) (level : Bool) (tick : Int)
  | pecFrame (port : Nat) (falls : Nat) (rises : Nat) (cpol : Bool) (cpha : Bool) (setup : Nat) (period : Nat) (sent : List Bool)
  deriving DecidableEq, Repr

/-- A DOMAIN being staged in a session (R58): the frames' offsets and bytes. -/
structure StagedDomain where
  key : Nat
  parts : List (Nat × List Byte)
  deriving DecidableEq, Repr

/-- A NOTIFY sent and not acknowledged, with the TARGET_DEVICE it bears (R73). -/
structure SentNotify where
  number : Nat
  target : Nat
  subs : List Nat
  bytes : List Byte
  deriving DecidableEq, Repr

/-- An open session (R59 to R63, R73). -/
structure Session where
  id : Nat
  eth : Nat
  host : HostAddr
  auth : Bool
  key : List Byte
  done : Nat
  window : Nat
  held : List (Byte × DapFrame)
  replies : List (Nat × List Byte)
  lastSeen : Nat
  staging : List StagedDomain
  notified : Nat
  unacked : List SentNotify
  due : List (Nat × List Byte)
  deriving DecidableEq, Repr

/-- A subscription (R72): number, session, object, N (0: ON_CHANGE), epochs left, value last seen. -/
structure Subscription where
  number : Nat
  session : Nat
  key : Nat
  every : Nat
  left : Nat
  last : List Byte
  deriving DecidableEq, Repr

/-- A reply that waits for the journal (R419): its session, port, host, sequence and bytes, and per journal KIND and ID the
entries it waits for, with the highest sequence of the job items among them. -/
structure Deferred where
  session : Nat
  port : Nat
  host : HostAddr
  sequence : Nat
  bytes : List Byte
  waits : List (Nat × Nat × Nat)
  deriving DecidableEq, Repr

/-- The DAP engine; `paths` tells for a target device and a host the port through which its frames came (0 and 1 Ethernet, 2 + l
Withy link l, R75). -/
structure Dap where
  sessions : List Session := []
  subs : List Subscription := []
  merges : Nat := 0
  deferred : List Deferred := []
  paths : List (Nat × HostAddr × Nat) := []
  wakeNotify : Option Nat := none
  wakeBody : List Byte := []
  wakeNext : Nat := 1
  deriving DecidableEq, Repr

/-- A pending RWE entry (R69, R70). -/
structure PendingWrite where
  key : Nat
  value : Nat
  epoch : Nat
  deriving DecidableEq, Repr

/-! ## Modes, images, wake, TAP (16_modes_power_boot.md, 17_package_electrical.md R467) -/

/-- The transition in progress (R439): target, whether it waits for an epoch boundary (and which one),
and whether it comes of a prepared change. -/
structure Transition where
  target : Nat
  boundary : Option Nat
  prepared : Bool
  deriving DecidableEq, Repr

/-- The mode machine beside its objects: the transition in progress, the prepared change (ID, target, epoch), whether a warm reset is due,
whether the ROM is in recovery, the wake cause PIN and device causes of this stay in DORMANT, whether WAKE_N is driven, the causes notified, the levels of
TRGI0 to TRGI3, since when each pin group is idle, when its PLL started (plus 1), the entry to RUN, the images in the eMRAM slots
(kind times 2 plus slot), and per kind the slot being installed (plus 1). -/
structure ModeSt where
  transition : Option Transition := none
  prepared : Option (Nat × Nat × Nat) := none
  resetDue : Bool := false
  recovery : Bool := false
  wakePinSeen : Bool := false
  wakeDriven : Bool := false
  wakeOwed : Bool := false
  wakeNotified : Nat := 0
  trgi : Nat := 0
  pgIdleSince : SMap Nat := []
  pgStart : SMap Nat := []
  runSince : Nat := 0
  slots : SMap (List Byte) := []
  installing : SMap Nat := []
  deriving DecidableEq, Repr

/-- The sixteen states of the IEEE 1149.1 TAP controller. -/
inductive TapState where
  | testLogicReset | runTestIdle
  | selectDr | captureDr | shiftDr | exit1Dr | pauseDr | exit2Dr | updateDr
  | selectIr | captureIr | shiftIr | exit1Ir | pauseIr | exit2Ir | updateIr
  deriving DecidableEq, Repr

/-- The TAP (R445, R467): controller state, whether IDCODE is selected, the shift register, TDO, TCK's
last edge. -/
structure Tap where
  state : TapState := .testLogicReset
  idcode : Bool := true
  shift : Nat := 0
  tdo : Bool := false
  lastEdge : Option Nat := none
  deriving DecidableEq, Repr

/-! ## TDC channels (08_time_stamping.md) -/

/-- The configuration in force at the arm instant (R236). -/
structure TdcCfg where
  mode : Nat := 0
  start : Nat := 0
  stop : Nat := 0
  edge : Nat := 0
  divide : Nat := 1
  count : Nat := 0
  timeout : Nat := 0
  holdoff : Nat := 0
  gate : Nat := 0
  nom : Nat := 0
  anchor : Nat := 0
  ringBase : Nat := 0
  ringEntries : Nat := 0
  deriving DecidableEq, Repr

/-- The exact sums of a gate (R247): stamps, and the sums of n, t, n squared, n t, t squared. -/
structure FreqSums where
  n : Nat := 0
  sn : Nat := 0
  st : Nat := 0
  snn : Nat := 0
  snt : Nat := 0
  stt : Nat := 0
  truncated : Bool := false
  deriving DecidableEq, Repr

/-- One TDC channel beside its objects.  An empty table is the factory table; `coldRef` tells that REFWARM was low since the arm
instant, `coldEdge` that it was up to the last edge; `ending` is an END entry that waits for a place in the FIFO. -/
structure Tdc where
  cfg : TdcCfg := {}
  arm : Nat := 0
  since : Nat := 0
  edges : Nat := 0
  stops : Nat := 0
  prev : Option (Nat × Nat) := none
  anchor : Option Nat := none
  results : Nat := 0
  sums : FreqSums := {}
  fifo : List (List Byte) := []
  holdStart : Option Nat := none
  holdStop : Option Nat := none
  busyA : Option Nat := none
  busyB : Option Nat := none
  missed : Bool := false
  coldRef : Bool := false
  table : List Byte := []
  armTable : List Byte := []
  cdRunning : Bool := false
  coldEdge : Bool := false
  ending : Option (List Byte) := none
  deriving DecidableEq, Repr

/-- The code-density run (R249 to R251). -/
structure CdRun where
  running : Bool := false
  coldRef : Bool := false
  started : Bool := false
  generation : Nat := 0
  restart : Bool := false
  deriving DecidableEq, Repr
/-! ## Raster groups (10_raster_source.md) -/

/-- The CRCs of one stream of a frame, ready to be written (R302): returned or emitted, frame number, and rectangle with CRC and, where
it is compared, the value the frame's RECTS expect. -/
structure RectDue where
  returned : Bool
  frame : Nat
  crcs : List (Nat × Nat × Option Nat)
  deriving DecidableEq, Repr

/-- A returned step whose samples are on their way (R301): its number, the frame it belongs to, the value so far, the samples
outstanding, whether the step is still being emitted, the pixels that rectangles take (pixel of the step, rectangle), the
rectangles whose CRC starts with it, and those that complete with it, each with the value it is compared with. -/
structure RetStep where
  id : Nat
  frame : Nat
  value : Nat
  left : Nat
  going : Bool
  hits : List (Nat × Nat)
  starts : List Nat
  ends : Option (List (Nat × Option Nat))
  deriving DecidableEq, Repr

/-- One raster group beside its objects: line of the frame's body, front-porch line (0 in the body), pixel of
the line, slot of the step; whether a frame is in progress, whether a frame-start decision is due, whether the group is
in SELF_REFRESH, and in the exit lines of R304, and how many these are; start of front-porch line 1, TE edges with their instants
and directions, the instant of the pending present, and the presents it replaced that a boundary before it may still take;
staged DOMAINs with their instants, oldest first; the last writes of SELF_REFRESH, SR_EXIT_LINES and SR_CTL: instant, sub-index and the
value before; the step counter, the step of the running frame, and the returned steps on their way. -/
structure Raster where
  line : Nat := 0
  porch : Nat := 0
  px : Nat := 0
  slot : Nat := 0
  inFrame : Bool := false
  deciding : Bool := false
  resting : Bool := false
  exiting : Bool := false
  exitLines : Nat := 0
  porchAt : Nat := 0
  tes : List (Nat × Bool) := []
  presentAt : Nat := 0
  older : List (Nat × Nat) := []
  timing : List (List Byte × Nat) := []
  rects : List (List Byte × Nat) := []
  writes : List (Nat × Nat × Nat) := []
  step : Nat := 0
  pos : Nat := 0
  rets : List RetStep := []
  crcE : SMap Nat := []
  crcR : SMap Nat := []
  dues : List RectDue := []
  deriving DecidableEq, Repr

/-! ## Sense inputs, filter chains, acquisition units (09_sense_acquisition.md) -/

/-- A sense ADC (R256, R260): whether its next conversion carries SETTLING, and its last conversion slot. -/
structure Adc where
  settling : Bool := false
  lastSlot : Option Nat := none
  deriving DecidableEq, Repr

/-- A decimating FIR stage: the newest inputs, newest first, and the inputs since its last output. -/
structure FirStage where
  taps : List Int := []
  phase : Nat := 0
  deriving DecidableEq, Repr

/-- One filter chain beside its objects (R262 to R268).  Stage values are exact: numerators over the gains
still to be removed.  `inputs` counts the inputs since the start, `seriesFrom` is the first input of the running series,
the last over-range, substituted and warming inputs are numbered from 1, `taintLeft` and `fillLeft` count the outputs still to be
marked TAINTED and FILL; then the block in progress of the detectors. -/
structure Chain where
  integ : List Int := [0, 0, 0, 0]
  comb : List Int := [0, 0, 0, 0]
  cicPhase : Nat := 0
  hb : List FirStage := []
  fir : FirStage := {}
  inputs : Nat := 0
  seriesFrom : Nat := 0
  lastOvr : Nat := 0
  lastHeld : Nat := 0
  lastWarm : Nat := 0
  fillLeft : Nat := 0
  taintLeft : Nat := 0
  blockN : Nat := 0
  blockMax : Int := 0
  blockMin : Int := 0
  blockSum : Int := 0
  blockSq : Nat := 0
  blockFlags : Nat := 0
  env : Nat := 0
  deriving DecidableEq, Repr

/-- A sample an acquisition unit has accepted and not yet tested (R283). -/
structure AcqSample where
  value : Int
  stamp : Nat
  flags : Nat
  deriving DecidableEq, Repr

/-- The interval in progress, or intervals merged (R269, R279). -/
structure AcqSpan where
  index : Nat
  first : Nat
  last : Nat
  least : Int
  most : Int
  count : Nat
  merged : Nat
  flags : Nat
  deriving DecidableEq, Repr

/-- A mark (R275, R280, R283). -/
structure AcqMark where
  met : Nat
  decider : Nat
  stop : Bool
  late : Bool
  sample : Nat
  stamp : Nat
  value : Int
  fire : Option (Nat × Nat)
  merged : Nat
  flags : Nat
  deriving DecidableEq, Repr

/-- A record of an acquisition before it is numbered: stream, KIND, flags, RUN_LO and body fields. -/
structure AcqRec where
  stream : Nat
  kind : Nat
  flags : Nat
  run : Nat
  body : List (Nat × Nat)
  deriving DecidableEq, Repr

/-- What waits for a place in the FIFO, in record order (R272, R279, R280): a record made, or the intervals or the mark that become one,
with their stream and run, and whether the last interval is closed by a stop. -/
inductive AcqWait where
  | made (r : AcqRec)
  | span (stream run : Nat) (closed : Bool) (s : AcqSpan)
  | mark (stream run : Nat) (m : AcqMark)
  deriving DecidableEq, Repr

/-- One acquisition unit beside its objects (R269 to R283).  `notBefore` is the boundary a group arm waits for, then the stamp of sample 0;
`quiet` holds per condition the last sample at which it cannot meet again; `postLeft` the samples a STOP still takes; `ends`
the cause of an end that falls at the next accepted sample. -/
structure Acq where
  started : Bool := false
  origin : Bool := false
  armEpoch : Nat := 0
  notBefore : Nat := 0
  samples : Nat := 0
  tested : Nat := 0
  prev : Int := 0
  prevStamp : Nat := 0
  held : List AcqSample := []
  span : Option AcqSpan := none
  quiet : SMap Nat := []
  trgi : List (Nat × Nat) := []
  hostFires : List Nat := []
  fires : List (Nat × Nat × Nat) := []
  postLeft : Option Nat := none
  ends : Option Nat := none
  marks : Nat := 0
  mergedSpans : Nat := 0
  mergedMarks : Nat := 0
  late : Nat := 0
  fifo : List AcqRec := []
  waiting : List AcqWait := []
  deriving DecidableEq, Repr

/-! ## The memory controller (11_vector_memory.md) -/

/-- A page hint (Table 11-3). -/
inductive PageHint where
  | auto | stay | close
  deriving DecidableEq, Repr

/-- An open row of a bank (R322): the row, whether the hint was OPEN, and the instant of its last hit. -/
structure OpenRow where
  row : Nat
  stay : Bool
  last : Nat
  deriving DecidableEq, Repr

/-- The best-effort classes (R327). -/
inductive BeClass where
  | sawyer | stream | host | remote | maint
  deriving DecidableEq, Repr

/-- A request that waits for its turn (R315, R327): class, bytes, the hart that makes it, and the command it came by. -/
structure BestEffort where
  cls : BeClass
  bytes : Nat
  hart : Option Nat
  cmd : Instr
  deriving DecidableEq, Repr

/-- The controller beside its objects: the grain in force, whether training results are held, whether the running
initialisation discards a retrain, whether best-effort traffic waits for a retrain, the pseudo-channels in power-down, the next
unit of the patrol scrub, the degrade mask in force, and the UE_LOG, newest first; the open rows by pseudo-channel and bank (R322); the
best-effort requests that wait, in order of arrival, the deficits of the classes, and the class whose turn it is (R327). -/
structure Hbm where
  grain : Nat := 2
  mask : Nat := 0
  trained : Bool := false
  training : Bool := false
  powerDown : Nat := 0
  scrub : Nat := 0
  ueLog : List (Nat × Nat) := []
  rows : SMap OpenRow := []
  waiting : List BestEffort := []
  deficits : SMap Nat := []
  turn : Nat := 0
  deriving DecidableEq, Repr

/-! ## Sawyer cores, booms, the scheduler (12_sawyer_scheduler.md) -/

/-- What a hart waits for: a BQ.WAIT (R352), its turn at the memory (R315), or the answer to an access through the global window (R332): tag, access, global
address, and whether its write is on its way. -/
inductive HartWait where
  | task (rd buf : Nat)
  | memory
  | remote (tag : Nat) (acc : MemAccess) (addr : Nat) (wrote : Bool)
  deriving DecidableEq, Repr

/-- One hart (R331 to R334): integer and floating-point registers, pc, privilege mode (0 U, 1 S, 3 M), control and
status registers by number, the LR reservation, mtimecmp, the tasks held, the delivered task, and what it waits for.
A register or CSR not listed reads 0; mtimecmp is all ones until it is written (log 7). -/
structure Hart where
  running : Bool := false
  x : SMap Nat := []
  f : SMap Nat := []
  pc : Nat := 0
  mode : Nat := 3
  csr : SMap Nat := []
  reserved : Option (Nat × Nat) := none
  mtimecmp : Nat := 2 ^ 64 - 1
  held : List (Nat × Nat) := []
  delivered : Option (Nat × Nat) := none
  waits : Option HartWait := none
  deriving DecidableEq, Repr

/-- How a task has closed (R346, R347): outcome, cause, and the bytes 31 to 59 of BQ.DONE's buffer. -/
structure Closed where
  outcome : Nat
  cause : Nat
  buf : Option (List Byte)
  deriving DecidableEq, Repr

/-- A task of a boom from its delivery to its commit (R345 to R347, Table 12-7): `lent` entries of the result boom and, with
`area`, a staging area are reserved for it. -/
structure Task where
  first : Nat
  count : Nat
  core : Option Nat
  placement : Nat
  rerun : Bool
  idem : Bool
  group : Nat
  level : Nat
  delivered : Nat
  since : Nat
  staged : List (List Byte)
  lent : Nat
  area : Bool
  closed : Option Closed
  deriving DecidableEq, Repr

/-- One boom (R341, R349, R355 to R357): its descriptor, counters, tasks not yet committed, whether it is DRAINING
and to which group, the tasks the drain aborted, and the last sequence that may have been delivered before a reset, stop
or takeover; `covered` is the tail that the journal covers or is to cover. -/
structure Boom where
  desc : Nat := 2 ^ 96 + 2 ^ 104
  head : Nat := 0
  dispatch : Nat := 0
  tail : Nat := 0
  mark : Nat := 0
  tasks : List Task := []
  draining : Option Nat := none
  drainSince : Nat := 0
  drainAborts : Nat := 0
  redo : Nat := 0
  again : List Nat := []
  stale : Nat := 0
  aborts : Nat := 0
  migrations : Nat := 0
  lent : Nat := 0
  covered : Nat := 0
  deriving DecidableEq, Repr

/-- The scheduler (R348 to R352): per partition the ACTIVE groups, per group the READY booms. -/
structure Sched where
  active : SMap (List Nat) := []
  ready : SMap (List Nat) := []
  areas : Nat := 0
  deriving DecidableEq, Repr

/-! ## Withy links, remote access, tokens, buddy (13_withy_multidevice.md) -/

/-- One DATA flit in a replay buffer (R367): FSEQ, slots, how often it was replayed. -/
structure SentFlit where
  fseq : Nat
  slots : List Slot
  replays : Nat
  deriving DecidableEq, Repr

/-- One link beside its objects (R364 to R369, R375): the partner's COMPAT_LEVEL, the channel served last, the next FSEQ to send and to receive, the replay buffer, whether a
NAK stands for the discards since the last accepted flit, the slots received and not yet taken by a message, per VC the
slots freed for the partner and the slots it has still to free for us, messages that wait for credit or for the replay buffer, the time of the
last ACK progress, the last ACK sent, and the offsets of the last exchanges. -/
structure Link where
  level : Nat := 0
  turn : Nat := 0
  next : Nat := 0
  expect : Nat := 0
  replay : List SentFlit := []
  nakSent : Bool := false
  rx : List Slot := []
  freed : SMap Nat := []
  inUse : SMap Nat := []
  waiting : List (Nat × List Byte) := []
  progress : Nat := 0
  acked : Nat := 0
  heard : Option Nat := none
  offsets : List Int := []
  lastSent : Nat := 0
  lastHeard : Nat := 0
  deriving DecidableEq, Repr

/-- A remote request that awaits its response (R372): tag, target, link, instant, whether it writes, and which part of a
block load or which core asked. -/
structure RemoteReq where
  tag : Nat
  dst : Nat
  link : Nat
  since : Nat
  core : Option Nat
  part : Nat
  deriving DecidableEq, Repr

/-- A block load in progress (R373): global source, local destination, length, block number, and the parts received. -/
structure Load where
  source : Nat
  dest : Nat
  length : Nat
  block : Nat
  parts : SMap (List Byte)
  deriving DecidableEq, Repr

/-- Remote access (R372, R373): outstanding requests, the next tag, the block load. -/
structure Remote where
  reqs : List RemoteReq := []
  tag : Nat := 0
  load : Option Load := none
  deriving DecidableEq, Repr

/-- Tokens (R377, R281): those executed in the last 10 ms (SRC, NUMBER, instant), the next number of this device, and the
arm tokens held (TGROUP, epoch). -/
structure Tokens where
  done : List (Nat × Nat × Nat) := []
  next : Nat := 1
  arms : List (Nat × Nat) := []
  deriving DecidableEq, Repr

/-- A stream of the partner served from the mirror area (R387): the last sequence sent in the present pass, and the highest ever
sent, the highest acknowledged, bound host, window. -/
structure PartnerStream where
  sent : Nat := 0
  everSent : Nat := 0
  acked : Nat := 0
  window : Nat := 0
  bound : Option HostAddr := none
  session : Nat := 0
  eth : Nat := 0
  deriving DecidableEq, Repr

/-- A job of the partner after a takeover (R358, R387): its boom, sequence and entry, whether it is delivered again with RERUN, and the
cause with which it is closed ABORTED. -/
structure PartnerJob where
  boom : Nat
  seq : Nat
  bytes : List Byte
  rerun : Bool
  cause : Option Nat
  deriving DecidableEq, Repr

/-- The buddy pair (R383 to R387): the jobs that recovery got back for booms not yet enabled, the newest record seen of each stream of the partner
with the run it leaves open, the partner's jobs after a takeover, the partner's items held in the mirror area, the own items that await CONFIRM, those made while unmirrored, the
instant of the last CONFIRM, of the first probe and of the last one, the streams of the partner that this device serves, the highest acknowledged
sequence per stream and boom of the partner. -/
structure Buddy where
  held : List MirrorItem := []
  waiting : List MirrorItem := []
  later : List MirrorItem := []
  restored : List MirrorItem := []
  lastRuns : SMap (Nat × Option (Nat × Bool)) := []
  jobs : List PartnerJob := []
  lastConfirm : Nat := 0
  probing : Option Nat := none
  probeLast : Nat := 0
  served : SMap PartnerStream := []
  acked : SMap Nat := []
  fenced : Bool := false
  nonce : Nat := 0
  deriving DecidableEq, Repr

/-! ## PTP ports (14_time_bases.md R402, R403) -/

/-- A foreign time transmitter that a port has heard (R402): its clock identity and port, the dataset of its last Announce, and the instants
of its last two. -/
structure ForeignMaster where
  who : Nat × Nat
  data : List Nat
  heard : List Nat
  deriving DecidableEq, Repr

/-- One PTP port beside its objects: the parent's clock identity and port, the foreign time transmitters heard, the Sync in hand, the Delay_Req and Pdelay_Req in hand, the
sequence numbers, and the last peer delay terms. -/
structure PtpPort where
  parent : Option (Nat × Nat) := none
  foreign : List ForeignMaster := []
  sync : Option (Nat × Nat × Nat × Bool) := none
  syncPair : Option (Nat × Nat) := none
  delayReq : Option (Nat × Nat) := none
  pdelayReq : Option (Nat × Nat) := none
  pdelayResp : Option (Nat × Nat × Nat × Nat) := none
  seqSync : Nat := 0
  seqAnnounce : Nat := 0
  seqDelay : Nat := 0
  measured : Option Nat := none
  deriving DecidableEq, Repr

/-- The crystal keeper (R404): the instant of the last ageing computation. -/
structure Keeper where
  lastHour : Nat := 0
  deriving DecidableEq, Repr


/-! ## The whole -/

/-- Everything but the queue and the addressed memory; `otherStreams` are the streams this device has numbered under another
DEVICE_ID, by 2^16 times that ID plus the stream (R209). -/
structure Core where
  fresh : Nat := 0
  time : Nat := 0
  stamp : Nat := 0
  status : Nat := 0
  outbox : List Out := []
  regs : SMap Nat := []
  doms : SMap (List Byte) := []
  dap : Dap := {}
  rwe : List PendingWrite := []
  faults : Faults := {}
  tally : SMap Tally := []
  clk : Clk := {}
  tbs : SMap Tb := []
  tpulse : Tpulse := {}
  mode : ModeSt := {}
  tap : Tap := {}
  weavers : SMap Weaver := []
  trgoHigh : SMap Nat := []
  pins : SMap Pin := []
  pecs : SMap Pec := []
  cal : Cal := {}
  landing : Landing := {}
  streams : SMap Stream := []
  otherStreams : SMap Stream := []
  journal : Journal := {}
  tdcs : SMap Tdc := []
  cd : CdRun := {}
  rasters : SMap Raster := []
  adcs : SMap Adc := []
  sourceLast : SMap (Option (Int × Bool)) := []
  chains : SMap Chain := []
  acqs : SMap Acq := []
  hbm : Hbm := {}
  harts : SMap Hart := []
  booms : SMap Boom := []
  sched : Sched := {}
  links : SMap Link := []
  remote : Remote := {}
  tokens : Tokens := {}
  buddy : Buddy := {}
  ptps : SMap PtpPort := []
  keeper : Keeper := {}
  deriving DecidableEq, Repr

/-- The addressed memory: the listed bytes of HBM, Yard and scratch at their local addresses, the block-tag
table (the BLOCK_CRC of each 4 KiB block whose TAG_VALID is 1, R317), and the 64-byte units that hold an
uncorrectable error (R320). -/
structure Mem where
  cells : List Host.Cell := []
  tags : SMap Nat := []
  bad : List Nat := []
  deriving DecidableEq, Repr

/-- The block. -/
structure State where
  pending : List Instr
  mem : Mem
  core : Core
  deriving DecidableEq, Repr

/-- Reasons a step stops with a fault.  No meaning of this model raises one: every command of the table
has an effect the spec gives, and a refused write or a discarded frame is such an effect. -/
inductive Fault where
  /-- Raised by no meaning; it stands for a stop the spec would name (safe: the machine stops). -/
  | stuck
  deriving DecidableEq, Repr

/-- Reasons a step answers no meaning. -/
inductive Refusal where
  /-- Raised by an arm of `exec` whose command has no meaning yet (safe: the machine stops). -/
  | notModelled (mnemonic : String)
  deriving DecidableEq, Repr

/-- CLOCK_LOCKED in BOOT before REFCLK is present: AO, MGMT and EMRAM run (Table 1-5, log 98). -/
def bootClocks : Nat := 2 ^ 0 + 2 ^ 2 + 2 ^ 46

/-- The core right after power is applied, before boot: every object at its default, BOOT and its clocks, a factory-new
eMRAM (R47, R445, log 4, 5, 6). -/
def Core.reset : Core := { regs := [(mkKey 0x1220 1, bootClocks)] }

/-- The memory right after power is applied: nothing listed. -/
def Mem.reset : Mem := {}

/-- The block right after power is applied, with no command waiting. -/
def State.reset : State := { pending := [], mem := Mem.reset, core := Core.reset }

end Sys2Proof.Machine
end

