-- ==== Sys2Proof/Machine/Ops.lean ====
section
/-!
DEFINITION. Sys2Proof/Machine/Ops.lean: the named operations every chapter uses: registers of the dictionary,
status codes, free values, the addressed memory with its block tags, tally events, and the fault collector's
raise with its reactions (02_dictionary_access.md, 11_vector_memory.md, 15_integrity_faults.md).
-/
namespace Sys2Proof.Machine

/-! ## Registers -/

/-- The value of a scalar object (R46). -/
def rd (c : Core) (k : Key) : Nat := mget (dfltOf k) c.regs k

/-- Set the value of a scalar object. -/
def wr (c : Core) (k : Key) (v : Nat) : Core := { c with regs := mset (dfltOf k) c.regs k v }

/-- Add to a counter object of 64 bits. -/
def bumpBy (c : Core) (k : Key) (n : Nat) : Core := wr c k ((rd c k + n) % 2 ^ 64)

/-- Count one event in a counter object. -/
def bump (c : Core) (k : Key) : Core := bumpBy c k 1

/-- The contents of a DOMAIN object. -/
def dom (c : Core) (k : Key) : List Byte := mget [] c.doms k

/-- Set the contents of a DOMAIN object. -/
def setDom (c : Core) (k : Key) (l : List Byte) : Core := { c with doms := mset [] c.doms k l }

/-- Whether a BOOL object reads 1. -/
def rdb (c : Core) (k : Key) : Bool := rd c k == 1

/-- Append what the block sends (log 8). -/
def emit (c : Core) (o : Out) : Core := { c with outbox := c.outbox ++ [o] }

/-- The next free value (log 1). -/
def freeNow (c : Core) : Nat := Config.freeValue c.fresh

/-- Use up the next free value. -/
def freeUsed (c : Core) : Core := { c with fresh := c.fresh + 1 }

/-! ## Status codes (Table 2-8) -/

/-- A status code. -/
abbrev Status := Nat

def stOk : Status := 0
def stPartial : Status := 1
def stWakeMerged : Status := 2
def stNoObject : Status := 0x10
def stNoSubindex : Status := 0x11
def stTypeMismatch : Status := 0x12
def stOutOfRange : Status := 0x13
def stReadOnly : Status := 0x14
def stWriteOnly : Status := 0x15
def stWrongMode : Status := 0x16
def stStateConflict : Status := 0x17
def stReservedValue : Status := 0x18
def stEpochPast : Status := 0x19
def stEpochTooFar : Status := 0x1A
def stPendingFull : Status := 0x1B
def stNoPending : Status := 0x1C
def stMixedTiming : Status := 0x1D
def stMixedEpoch : Status := 0x1E
def stAtomicFailed : Status := 0x1F
def stNotApplied : Status := 0x20
def stGradeLimit : Status := 0x21
def stBlockInUse : Status := 0x22
def stIdConflict : Status := 0x23
def stUnavailable : Status := 0x24
def stBadAlign : Status := 0x25
def stIncomplete : Status := 0x26
def stSubscribeFull : Status := 0x27
def stBadVersion : Status := 0x40
def stNoSession : Status := 0x41
def stSessionLimit : Status := 0x42
def stAuthRequired : Status := 0x43
def stWindowExceeded : Status := 0x44
def stStaleSequence : Status := 0x45
def stTooLarge : Status := 0x46
def stNoRoute : Status := 0x47
def stHopLimit : Status := 0x48

/-- Whether a status reports success (R76). -/
def good (s : Status) : Bool := s < 0x10

/-- The outcome of an object write: the new core, or a refusal that leaves it unchanged (R10). -/
abbrev Written := Except Status Core

/-- Accept when a condition holds, else refuse with a status. -/
def guardSt (b : Bool) (s : Status) (k : Written) : Written := if b then k else .error s

/-- What a write answers: its status, and the core after it (a refused write may set an error object). -/
abbrev Answer := Status × Core

/-- The answer of a write that leaves the core as it was when it is refused. -/
def answer (c : Core) (r : Written) : Answer :=
  match r with
  | .ok c' => (stOk, c')
  | .error s => (s, c)

/-- The core after a write command, with the status answered. -/
def settled (a : Answer) : Core := { a.2 with status := a.1 }

/-- The core after a write command: the written core, or the old one, with the status answered. -/
def settle (c : Core) (r : Written) : Core := settled (answer c r)

/-! ## Modes, clocks and identity -/

/-- The major mode's code (R437). -/
def modeNow (c : Core) : Nat := rd c (mkKey 0x1200 1)

/-- The code of a mode (Table 16-1). -/
def modeCode : Mode → Nat
  | .boot => 0 | .dormant => 1 | .standby => 2 | .warm => 3
  | .calibrate => 4 | .run => 5 | .service => 6 | .safe => 7

/-- Whether the device is in a mode. -/
def inMode (c : Core) (m : Mode) : Bool := modeNow c == modeCode m

/-- Whether the device is in one of several modes. -/
def inModes (c : Core) (l : List Mode) : Bool := l.any (inMode c)

/-- CLOCK_LOCKED (Table 1-4). -/
def clockKey : Key := mkKey 0x1220 1

/-- Bit d of CLOCK_LOCKED. -/
def clockBit (c : Core) (d : Nat) : Bool := bit (rd c clockKey) d

/-- Set or clear bit d of CLOCK_LOCKED. -/
def setClock (c : Core) (d : Nat) (b : Bool) : Core := wr c clockKey (putBit (rd c clockKey) d b)

/-- REF_LOCKED of 0x1302 REF_STATUS (Table 13-8: bit 1). -/
def refLocked (c : Core) : Bool := bit (rd c (mkKey 0x1302 1)) 1

/-- The epoch count. -/
def epochNow (c : Core) : Nat := rd c (mkKey 0x1300 1)

/-- DEVICE_ID (R37). -/
def deviceId (c : Core) : Nat := rd c (mkKey 0x6020 0)

/-- Whether the device has no ID (R38). -/
def noDeviceId (c : Core) : Bool := deviceId c == 0xFFFF

/-- The grade minimum of PERIOD (Table 0-1). -/
def gradeMin : Nat := if Config.grade16 then 1024 else 1639

/-- The minimum transition spacing (R157). -/
def minSpacing : Nat := if Config.grade16 then 256 else 409

/-! ## Typed pieces of the core -/

def getW (c : Core) (w : Nat) : Weaver := mget {} c.weavers w
def setW (c : Core) (w : Nat) (x : Weaver) : Core := { c with weavers := mset {} c.weavers w x }
def modW (c : Core) (w : Nat) (f : Weaver → Weaver) : Core := setW c w (f (getW c w))
def getPin (c : Core) (p : Nat) : Pin := mget {} c.pins p
def setPin (c : Core) (p : Nat) (x : Pin) : Core := { c with pins := mset {} c.pins p x }
def modPin (c : Core) (p : Nat) (f : Pin → Pin) : Core := setPin c p (f (getPin c p))
def getStream (c : Core) (n : Nat) : Stream := mget {} c.streams n
def setStream (c : Core) (n : Nat) (x : Stream) : Core := { c with streams := mset {} c.streams n x }
def modStream (c : Core) (n : Nat) (f : Stream → Stream) : Core := setStream c n (f (getStream c n))
def getPec (c : Core) (k : Nat) : Pec := mget {} c.pecs k
def setPec (c : Core) (k : Nat) (x : Pec) : Core := { c with pecs := mset {} c.pecs k x }
def getTb (c : Core) (t : Nat) : Tb := mget {} c.tbs t
def setTb (c : Core) (t : Nat) (x : Tb) : Core := { c with tbs := mset {} c.tbs t x }
def getTdc (c : Core) (n : Nat) : Tdc := mget {} c.tdcs n
def setTdc (c : Core) (n : Nat) (x : Tdc) : Core := { c with tdcs := mset {} c.tdcs n x }

/-- Object `sub` of Weaver w (Table 3-8, Table 4-15). -/
def wk (w sub : Nat) : Key := mkKey (0x2000 + w) sub

/-- STATE of a Weaver: 0 IDLE, 1 ARMED, 2 RUNNING, 3 HOLDING, 4 STOPPED (Table 3-8). -/
def wState (c : Core) (w : Nat) : Nat := rd c (wk w 1)

/-- The Weaver that drives quad q, 0xFF for none (R78). -/
def quadWeaver (c : Core) (q : Nat) : Nat := rd c (mkKey (0x20C0 + q) 1)

/-- The quads of a Weaver, lowest first (R78). -/
def quadsOf (c : Core) (w : Nat) : List Nat := (List.range 64).filter (fun q => quadWeaver c q == w)

/-- The pins of a Weaver. -/
def pinsOf (c : Core) (w : Nat) : List Nat := (quadsOf c w).flatMap (fun q => [4 * q, 4 * q + 1, 4 * q + 2, 4 * q + 3])

/-- The pin groups that hold a quad of a Weaver (R14), lowest first. -/
def groupsOf (c : Core) (w : Nat) : List Nat :=
  (List.range 16).filter (fun g => (quadsOf c w).any (fun q => q / 4 == g))

/-- The Weavers with quads in pin group g. -/
def weaversOfGroup (c : Core) (g : Nat) : List Nat :=
  (List.range 64).filter (fun w => (quadsOf c w).any (fun q => q / 4 == g))

/-! ## Tally counters (R434) -/

/-- Count `n` events of a tally source (Table 15-9). -/
def tallyEvents (c : Core) (src n : Nat) : Core :=
  { c with tally := c.tally.map (fun e =>
      if e.2.source = src then (e.1, { e.2 with value := (e.2.value + n) % 2 ^ 48 }) else e) }

/-- Count one event of a tally source. -/
def tallyEvent (c : Core) (src : Nat) : Core := tallyEvents c src 1

/-! ## Safe-stop requests (R111, R112) -/

/-- Put the earlier of two stop boundaries, and at equal boundaries the lower cause (R112). -/
def earlierStop (old : Option (Nat × Nat)) (cause boundary : Nat) : Option (Nat × Nat) :=
  match old with
  | none => some (cause, boundary)
  | some (c0, b0) =>
    if boundary < b0 ∨ (boundary = b0 ∧ cause < c0) then some (cause, boundary) else some (c0, b0)

/-- The next vector boundary of a Weaver after an instant (Table 3-7). -/
def nextVector (x : Weaver) (now : Nat) : Nat :=
  match x.desc with
  | some d =>
    if d.period = 0 then now
    else if now < x.gStart then x.gStart
    else x.gStart + ((now - x.gStart) / d.period + 1) * d.period
  | none => now

/-- The end of the granule a Weaver is emitting. -/
def granuleEndOf (x : Weaver) : Nat :=
  match x.desc with
  | some d => x.gStart + 64 * d.period
  | none => x.gStart

/-- Boom q beside its objects. -/
def getBoom (c : Core) (q : Nat) : Boom := mget {} c.booms q

/-- SOURCE and ENABLED of a boom's descriptor (Table 12-5), and the code of SOURCE for capture. -/
def bdSource (d : Nat) : Nat := bits d 51 2
def bdEnabled (d : Nat) : Bool := bit d 53
def srcCapture : Nat := 1

/-- Record a stop request at a boundary. -/
def requestStop (c : Core) (w cause boundary : Nat) : Core :=
  modW c w (fun x => { x with stopReq := earlierStop x.stopReq cause boundary })

/-- Ask a RUNNING or HOLDING Weaver for a safe stop at its next vector boundary (Table 3-7, codes 7 and 9). A stop for FAULT is noted for an
ARMED Weaver too, which then never launches (R430, log 18); otherwise there is no vector to stop at. -/
def stopAtVector (c : Core) (cause w : Nat) : Core :=
  if wState c w = 1 ∧ cause = 9 then requestStop c w cause c.stamp
  else if wState c w ≠ 2 ∧ wState c w ≠ 3 then c
  else requestStop c w cause (nextVector (getW c w) c.stamp)

/-! ## The fault collector (R427 to R433) -/

/-- The class of a source (Table 15-5). -/
def faultClass (src : Nat) : Nat :=
  if src < 64 then 0 else if src < 128 then 1 else if src < 192 then 2 else if src < 208 then 3
  else if src < 224 then 4 else if src < 232 then 5 else if src < 236 then 6 else if src < 240 then 7
  else if src < 288 then 8 else if src < 291 then src - 279 else if src < 293 then 12
  else if src < 297 then src - 280 else if src < 301 then 17 else if src < 305 then src - 283
  else if src < 307 then 22 else src - 284

/-- The Weavers in scope of a source at L2 (Table 15-5); `given` are the bound or producing Weavers. -/
def faultScope (c : Core) (src : Nat) (given : List Nat) : List Nat :=
  if src < 192 then [src % 64]
  else if src < 208 then weaversOfGroup c (src - 192)
  else if src < 224 then weaversOfGroup c (src - 208)
  else if src < 232 then List.range 64
  else if src < 240 then []
  else if 246 ≤ src ∧ src < 262 then weaversOfGroup c (src - 246)
  else if src < 291 then List.range 64
  else if src < 293 ∨ src = 303 then given
  else List.range 64

def getFault (c : Core) (src : Nat) : FaultSrc := mget {} c.faults.srcs src

/-- The highest effective level among the unacknowledged raises of a class at L1 or higher (R429). -/
def classLevel (f : Faults) (cls : Nat) : Nat :=
  f.srcs.foldl (fun a e =>
    if faultClass e.1 = cls then (match e.2.unacked with | some l => max a l | none => a) else a) 0

/-- The effective level of a raise at level v (R429). -/
def effectiveLevel (c : Core) (src v : Nat) : Nat :=
  let u := classLevel c.faults (faultClass src)
  if v = 0 ∨ bit (rd c (mkKey 0x7000 8)) (faultClass src) = false ∨ u = 0 then v
  else min 4 (max v (u + 1))

/-- Merge an event into the queue when it is full (R432): the newest event of its source, else the newest. -/
def mergeEvent (q : List FaultEvent) (src : Nat) : List FaultEvent :=
  let one := fun e : FaultEvent => { e with coalesced := min 65535 (e.coalesced + 1) }
  let r := q.reverse
  match r.findIdx? (fun e => e.source == src) with
  | some i => (r.modify i one).reverse
  | none => (r.modify 0 one).reverse

/-- Enter an event into the 256-entry queue (R432). -/
def queueEvent (c : Core) (e : FaultEvent) : Core :=
  if c.faults.queue.length < 256 then
    { c with faults := { c.faults with queue := c.faults.queue ++ [e] } }
  else
    tallyEvent { c with faults := { c.faults with
      queue := mergeEvent c.faults.queue e.source, coalesced := (c.faults.coalesced + 1) % 2 ^ 64 } } 0xEE

/-- Latch the first raise whose effective level is at least FIRST_MIN; of raises in one MGMT cycle of 2 ns
the lowest source is latched (R428, R432). Answers whether this raise set the latch. -/
def latchFirst (c : Core) (src eff : Nat) : Core × Bool :=
  let cur := rd c (mkKey 0x7000 4)
  let empty := cur == 0xFFFFFFFF
  let sameCycle := c.faults.firstTime / 2 == c.time / 2
  if rd c (mkKey 0x7000 7) ≤ eff ∧ (empty ∨ (sameCycle ∧ src < bits cur 0 9)) then
    let c1 := wr (wr c (mkKey 0x7000 4) (src + eff * 512)) (mkKey 0x7000 5) (c.stamp % 2 ^ 64)
    ({ c1 with faults := { c1.faults with firstTime := c.time } }, true)
  else (c, false)

/-- The reaction of Table 15-6 to an effective level; `own` is the Weaver whose own stop raised. -/
def react (c : Core) (src eff : Nat) (given : List Nat) : Core :=
  if eff < 2 then c
  else if eff = 2 then
    (((faultScope c src given).filter (fun w => !(src < 64 && w == src))).foldl
      (fun c w => stopAtVector c 9 w) c)
  else
    let c1 := (List.range 64).foldl (fun c w => stopAtVector c 9 w) c
    let first := c1.faults.reaction < 3
    let c2 := { c1 with
      journal := { c1.journal with closed := true }
      faults := { c1.faults with
        reaction := max c1.faults.reaction eff
        aliveStopping := true } }
    if eff = 3 then
      if first ∧ rd c2 (mkKey 0x7000 9) = 1 then { c2 with mode := { c2.mode with resetDue := true } }
      else if first then { c2 with faults := { c2.faults with safeDue := true } }
      else c2
    else
      let c3 := (List.range 8).foldl (fun c l => wr c (mkKey (0x6000 + l) 2) 0) c2
      { c3 with faults := { c3.faults with safeDue := true } }

/-- A raise of a source at a level (R428 to R432): sticky bit, count, stamp, event, then the reaction. -/
def raiseFor (c : Core) (src lvl detail : Nat) (given : List Nat) : Core :=
  let eff := effectiveLevel c src lvl
  let f := getFault c src
  let unacked := match f.unacked with
    | some l => some (max l eff)
    | none => some eff
  let f' : FaultSrc := { sticky := true, count := (f.count + 1) % 2 ^ 64, level := eff, raised := lvl, stamp := c.stamp % 2 ^ 64, unacked := unacked }
  let c1 := { c with faults := { c.faults with srcs := mset {} c.faults.srcs src f' } }
  let (c2, first) := latchFirst c1 src eff
  let c3 := queueEvent c2 { source := src, level := eff, raised := lvl, first := first, coalesced := 0, stamp := c.stamp % 2 ^ 64, epoch := epochNow c, detail := detail % 2 ^ 48 }
  let c4 := tallyEvent c3 0xED
  let c5 := if 192 ≤ src ∧ src < 208 then tallyEvent c4 (0x50 + (src - 192)) else c4
  react c5 src eff given

/-- A raise whose scope is that of Table 15-5. -/
def raise (c : Core) (src lvl detail : Nat) : Core := raiseFor c src lvl detail []

/-- LEVEL: the highest unacknowledged effective level, 0xFF for none (R435). -/
def faultLevel (f : Faults) : Nat :=
  match f.srcs.filterMap (fun e => e.2.unacked) with
  | [] => 0xFF
  | l :: ls => ls.foldl max l

/-! ## The addressed memory (R36, R317 to R320) -/

/-- The byte at a local address; an unlisted address reads 0 (log 3). -/
def readByte (m : Mem) (a : Nat) : Byte := mget 0 m.cells a

/-- Set the byte at a local address; the block tags and error marks stay. -/
def pokeByte (m : Mem) (a : Nat) (b : Byte) : Mem := { m with cells := mset 0 m.cells a b }

/-- `n` bytes from a local address. -/
def readBytes (m : Mem) (a n : Nat) : List Byte := (List.range n).map (fun i => readByte m (a + i))

/-- Set bytes from a local address up. -/
def pokeBytes (m : Mem) : Nat → List Byte → Mem
  | _, [] => m
  | a, b :: bs => pokeBytes (pokeByte m a b) (a + 1) bs

/-- The little-endian number in `n` bytes from a local address. -/
def readNat (m : Mem) (a n : Nat) : Nat := ofLe (readBytes m a n)

/-- The first address above HBM (R36). -/
def hbmTop : Nat := 0x4000000000

/-- The Yard's addresses (R36). -/
def yardBase : Nat := 0x4000000000

/-- Object `sub` of raster group g (Table 10-3). -/
def rk (g sub : Nat) : Key := mkKey (0x4800 + g) sub

/-- The local address of slot n of a group's frame store. -/
def slotBase (c : Core) (g n : Nat) : Nat := yardBase + (rd c (rk g 0xA) + n * rd c (rk g 0xC)) * 2 ^ 20

/-- Whether bytes [a, a + n) touch a slot that is PENDING or SHOWN (R294). -/
def slotHeld (c : Core) (a n : Nat) : Bool :=
  [0, 1].any (fun g => rdb c (rk g 1) && [rd c (rk g 0x11), rd c (rk g 0x12)].any (fun s =>
    s != 0xFF && decide (a < slotBase c g s + rd c (rk g 0xC) * 2 ^ 20) && decide (slotBase c g s < a + n)))
def yardTop : Nat := 0x4006000000

/-- The 4 KiB blocks that bytes [a, a + n) touch. -/
def blocksOf (a n : Nat) : List Nat :=
  if n = 0 then [] else (List.range ((a + n - 1) / 4096 - a / 4096 + 1)).map (fun i => a / 4096 + i)

/-- The CRC-32C of a whole block as it stands (R18). -/
def blockCrc (m : Mem) (b : Nat) : Nat := (crc32c (readBytes m (4096 * b) 4096)).toNat

/-- The 64-byte units that bytes [a, a + n) cover whole. -/
def unitsWithin (a n : Nat) : List Nat :=
  let first := (a + 63) / 64
  (List.range ((a + n) / 64 - first)).map (fun i => first + i)

/-- Give an HBM block the CRC of its contents with TAG_VALID 1, or TAG_VALID 0 while a unit of it holds an
uncorrectable error (R18, R319, R320). -/
def tagBlock (m : Mem) (b : Nat) : Mem :=
  if hbmTop ≤ 4096 * b then m
  else if m.bad.any (fun u => u / 64 == b) then { m with tags := merase m.tags b }
  else { m with tags := minsert (merase m.tags b) b (blockCrc m b) }

/-- Store bytes: whole units lose an uncorrectable error, and each touched block of HBM gets a new CRC over
the whole block (R18, R319, R320). -/
def store (m : Mem) (a : Nat) (l : List Byte) : Mem :=
  let m1 := pokeBytes m a l
  let m2 := { m1 with bad := m1.bad.filter (fun u => !(unitsWithin a l.length).contains u) }
  (blocksOf a l.length).foldl tagBlock m2

/-- The canonical form of a map whose unlisted keys read `d`. -/
def mcanon {α : Type} [DecidableEq α] (d : α) (m : SMap α) : Bool := mwf m && m.all (fun e => decide (e.2 ≠ d))

/-- The canonical form of the memory: addresses strictly rising, no listed byte 0, tags by rising block, and the
units with an uncorrectable error rising. -/
def Mem.wf (m : Mem) : Bool := mcanon 0 m.cells && mwf m.tags && rising m.bad

/-- Whether a block passes its CRC-32C check: TAG_VALID is 1, the CRC agrees and no unit of it holds an
uncorrectable error (R110, R318, R320). -/
def blockGood (m : Mem) (b : Nat) : Bool :=
  match mfind m.tags b with
  | some t => t == blockCrc m b && !(m.bad.any (fun u => u / 64 == b))
  | none => false

end Sys2Proof.Machine
end

