-- ==== Sys2Proof/Machine/Operands.lean ====
section
/-!
DEFINITION. Sys2Proof/Machine/Operands.lean: the operand forms the spec lays out in bits: instruction words,
microwords, segment descriptors, stream entries, record fields, timing sets
(03_weaver_sequencer.md, 04_microcode.md, 05_pin_timing.md, 07_capture_credit.md).
-/
namespace Sys2Proof.Machine

/-! ## Instruction words (Tables 3-2 and 4-13) -/

def iwOpcode (iw : Nat) : Nat := bits iw 0 8
def iwTset (iw : Nat) : Nat := bits iw 8 6
def iwMsel (iw : Nat) : Nat := bits iw 14 2
def iwLc (iw : Nat) : Nat := bits iw 16 3
def iwTarget (iw : Nat) : Nat := bits iw 20 26
def iwCount (iw : Nat) : Nat := bits iw 46 18
def iwHigh (iw : Nat) : Nat := bits iw 20 44
def hwHop (iw : Nat) : Nat := bits iw 0 6
def hwAux (iw : Nat) : Nat := bits iw 6 2
def hwTarget (iw : Nat) : Nat := bits iw 14 26
def hwCount (iw : Nat) : Nat := bits iw 40 18
def hwHigh (iw : Nat) : Nat := bits iw 14 44

/-- The fields of an instruction word that R87 allows to be non-zero, by vendor opcode (Tables 3-2, 3-3):
whether MSEL, LC, TARGET (its low bits used), and COUNT are used. -/
def usedBits (op : Nat) : Nat :=
  let tgt := (2 ^ 26 - 1) * 2 ^ 20
  let cnt := (2 ^ 18 - 1) * 2 ^ 46
  let base := 0x3FFF
  match op with
  | 0x02 | 0x05 | 0x08 | 0x09 | 0x0A => base + tgt
  | 0x03 => base + cnt
  | 0x04 => base + 7 * 2 ^ 16 + tgt + cnt
  | 0x07 => base + 3 * 2 ^ 14 + tgt + cnt
  | 0x0D => base + 0xFFFF * 2 ^ 20
  | 0x0E => base + tgt + cnt
  | 0x0F => base + 0xFF * 2 ^ 20
  | _ => base

/-- The bits of a ZH64 word its opcode uses (Tables 4-13, 4-14). -/
def usedBitsH (hop : Nat) : Nat :=
  let tgt := (2 ^ 26 - 1) * 2 ^ 14
  let cnt := (2 ^ 18 - 1) * 2 ^ 40
  let base := 0x3F3F
  match hop with
  | 0x02 | 0x06 | 0x09 | 0x0A => base + tgt
  | 0x03 => base + cnt
  | 0x04 | 0x05 => base + tgt + cnt
  | 0x08 => base + 0xC0 + tgt + cnt
  | 0x0C => base + 0xFFFF * 2 ^ 14
  | 0x0D => base + tgt + cnt
  | _ => base

/-! ## Microwords (Tables 4-2, 4-6) -/

/-- A microword's fields, with CYC as a number of micro-cycles. -/
structure MicroWord where
  op : Nat
  a : Nat
  b : Nat
  imm : Nat
  wait : Nat
  cyc : Nat
  deriving DecidableEq, Repr

/-- A control word's data bits read as Table 4-2 lays them out. -/
def decodeMicro (n : Nat) : MicroWord :=
  { op := bits n 0 6, a := bits n 6 5, b := bits n 11 5, imm := bits n 16 10, wait := bits n 26 4, cyc := bits n 30 2 + 1 }

/-- The parity field of a control word: bit n is the odd parity of data byte n (Table 4-2). -/
def wordParity (d : Nat) : Nat := (List.range 4).foldl (fun p n => p + (if oddParity (bits d (8 * n) 8) 8 then 2 ^ n else 0)) 0

/-- A control word with its parity generated (R131). -/
def sealWord (d : Nat) : Nat := d % 2 ^ 32 + 2 ^ 32 * wordParity d

/-- Whether a stored control word passes its parity check (R121). -/
def wordGood (v : Nat) : Bool := bits v 32 4 == wordParity (bits v 0 32)

/-- A dispatch or timer entry with its parity generated (Table 4-1). -/
def sealEntry (v : Nat) : Nat := v % 2 ^ 15 + (if oddParity v 15 then 2 ^ 15 else 0)

/-- Whether a dispatch or timer entry passes its parity check. -/
def csEntryGood (v : Nat) : Bool := v == sealEntry v

/-- The data bits of a microword. -/
def encodeMicro (w : MicroWord) : Nat :=
  packFields [(6, w.op), (5, w.a), (5, w.b), (10, w.imm), (4, w.wait), (2, w.cyc - 1)]

/-- The word a microword row stands for: its operation code and its fields. -/
def wordOf (op : Nat) (m : MicroArgs) : MicroWord :=
  { op := op, a := m.a.toNat, b := m.b.toNat, imm := m.imm.toNat, wait := m.wait.toNat, cyc := m.cyc.toNat + 1 }

/-- sext(IMM): the 10-bit immediate, sign-extended (Table 4-6). -/
def sextImm (imm : Nat) : Int := toSigned 10 imm

/-- Operations that write register A (Table 4-6). -/
def writesA (op : Nat) : Bool := op == 0x04 || op == 0x05 || (0x06 ≤ op && op ≤ 0x0F) || op == 0x19

/-- A register a microword may write: NXT, the micro-timers and the G registers (Table 4-3). -/
def writableReg (r : Nat) : Bool := r == 2 || 16 ≤ r

/-- The reasons for which a load image's word is refused: a reserved code, a register that is read-only, a BRC that leaves the
region (R129, R132); `lo` and `hi` bound its region, `at_` is its address. -/
def wordRefused (w : MicroWord) (at_ lo hi : Nat) : Bool :=
  0x25 ≤ w.op || 12 ≤ w.wait
  || (writesA w.op && !writableReg w.a)
  || ((w.op == 0x13 || w.op == 0x14) && 15 ≤ w.a)
  || (w.op == 0x14 && (let t : Int := at_ + sextImm w.imm; decide (t < lo) || decide ((hi : Int) < t)))
  || ((w.op == 0x16 || w.op == 0x17) && !(w.a ≤ 2 || (8 ≤ w.a && w.a ≤ 15)))
  || (w.op == 0x20 && 2 ≤ w.a)
  || ((w.op == 0x22 || w.op == 0x23 || w.op == 0x24) && 16 ≤ w.a)

/-- The reasons of R129 that a word shows by itself: those of a load image, and ILL, which an image may hold. -/
def wordIllegal (w : MicroWord) (at_ lo hi : Nat) : Bool := w.op == 0x03 || wordRefused w at_ lo hi

/-! ## Nano-words (Tables 4-11 and 4-12) -/

/-- A nano-word: OPA with WAIT and CYC, OPB, and what decides the next short word. -/
structure NanoWord where
  opa : MicroWord
  opb : MicroWord
  bcond : Nat := 0
  ben : Bool := false
  btarget : Nat := 0
  seq : Nat := 0
  reserved : Nat := 0
  deriving DecidableEq, Repr

/-- A nano-word's 112 data bits read as Table 4-12 lays them out. -/
def decodeNano (n : Nat) : NanoWord :=
  { opa := { op := bits n 0 6, a := bits n 6 5, b := bits n 11 5, imm := bits n 16 10, wait := bits n 52 4, cyc := bits n 56 2 + 1 }
    opb := { op := bits n 26 6, a := bits n 32 5, b := bits n 37 5, imm := bits n 42 10, wait := 0, cyc := 1 }
    bcond := bits n 58 5, ben := bit n 63, btarget := bits n 64 14, seq := bits n 78 2, reserved := bits n 80 32 }

/-- The data bits of a nano-word. -/
def encodeNano (w : NanoWord) : Nat :=
  packFields [(6, w.opa.op), (5, w.opa.a), (5, w.opa.b), (10, w.opa.imm), (6, w.opb.op), (5, w.opb.a), (5, w.opb.b), (10, w.opb.imm),
    (4, w.opa.wait), (2, w.opa.cyc - 1), (5, w.bcond), (1, ofBool w.ben), (14, w.btarget), (2, w.seq), (32, w.reserved)]

/-- The parity field of a nano-word: bit i is the odd parity of data bits [7i+6:7i] (Table 4-12). -/
def nanoParity (d : Nat) : Nat := (List.range 16).foldl (fun p i => p + (if oddParity (bits d (7 * i) 7) 7 then 2 ^ i else 0)) 0

/-- A nano-word with its parity generated. -/
def sealNano (d : Nat) : Nat := d % 2 ^ 112 + 2 ^ 112 * nanoParity d

/-- Whether a stored nano-word passes its parity check. -/
def nanoGood (v : Nat) : Bool := bits v 112 16 == nanoParity (bits v 0 112)

/-- A nano-word with the MODIFIER of its short word applied: 0 changes nothing, else the top bit names OPA's or OPB's operand A
and the rest replaces it (Table 4-11). -/
def modified (w : NanoWord) (m : Nat) : NanoWord :=
  if m = 0 then w
  else if bit m 5 then { w with opb := { w.opb with a := m % 32 } }
  else { w with opa := { w.opa with a := m % 32 } }

/-- A native microword as a step of its program: no second operation, and the next word follows. -/
def plainStep (w : MicroWord) : NanoWord := { opa := w, opb := { op := 0, a := 0, b := 0, imm := 0, wait := 0, cyc := 1 } }

/-- Whether an operation may stand in OPB (Table 4-12). -/
def opbAllowed (op : Nat) : Bool := op == 0 || (4 ≤ op && op ≤ 0x13)

/-- The reasons of R129, R139 and R140 that a step shows by itself. -/
def stepIllegal (w : NanoWord) (at_ lo hi : Nat) : Bool :=
  wordIllegal w.opa at_ lo hi || wordIllegal w.opb at_ lo hi || !opbAllowed w.opb.op || 15 ≤ w.bcond || w.seq == 3
  || (w.ben && w.seq != 0) || w.reserved != 0

/-! ## Segment descriptors (Table 3-5) -/

/-- A descriptor's fields from its 128 bytes read as a number. -/
def parseDesc (n : Nat) : SegDesc :=
  { dataBase := bits n 0 40, instrBase := bits n 40 40, imageGranules := bits n 80 27
    entryGranule := bits n 112 26, maxGranules := bits n 144 27, period := bits n 176 37
    rateMul := bits n 216 2, dense := bit n 218, swapOk := bit n 219, noGap := bit n 220, fin := bit n 221
    next := bits n 224 8, trgMask := bits n 232 8, pecList := bits n 240 16, streamBase := bits n 256 16
    units := bits n 288 24, rate := bits n 312 8, dest := bits n 320 8, tag := bits n 352 32
    dir := bits n 512 256 }

/-- The number whose 128 little-endian bytes are a descriptor: every reserved field 0. -/
def encodeDesc (d : SegDesc) : Nat :=
  packFields [(40, d.dataBase), (40, d.instrBase), (27, d.imageGranules), (5, 0), (26, d.entryGranule), (6, 0),
    (27, d.maxGranules), (5, 0), (37, d.period), (3, 0), (2, d.rateMul), (1, ofBool d.dense), (1, ofBool d.swapOk),
    (1, ofBool d.noGap), (1, ofBool d.fin), (2, 0), (8, d.next), (8, d.trgMask), (16, d.pecList), (16, d.streamBase),
    (16, 0), (24, d.units), (8, d.rate), (8, d.dest), (24, 0), (32, d.tag), (128, 0), (256, d.dir), (256, 0)]

/-- The rate multiplier M: 1, 2 or 4 (Table 3-5). -/
def mulOf (d : SegDesc) : Nat := 2 ^ d.rateMul

/-- Code width C in bits (R82). -/
def codeWidth (d : SegDesc) : Nat := if d.dense then 2 else 4

/-- Q, the bytes of a vector word (R81). -/
def vectorBytes (d : SegDesc) : Nat := codeWidth d * mulOf d / 2

/-- The first failing check of a list, in order (R474). -/
def firstFail : List (Bool × Status) → Option Status
  | [] => none
  | (true, s) :: _ => some s
  | (false, _) :: r => firstFail r

/-- The checks of R94 and R212 on one descriptor, in ascending bit order; `len` is the number of descriptors
of the table and `cap` the CAPACITY in force. -/
def descStatus (n len cap : Nat) : Option Status :=
  let d := parseDesc n
  firstFail [
    (d.dataBase % 64 ≠ 0 || cap ≤ d.dataBase, stOutOfRange),
    (d.instrBase % 64 ≠ 0 || cap < d.instrBase + 8 * d.imageGranules, stOutOfRange),
    (d.imageGranules < 16 || 2 ^ 26 < d.imageGranules, stOutOfRange),
    (bits n 107 5 ≠ 0, stOutOfRange),
    (d.imageGranules ≤ d.entryGranule, stOutOfRange),
    (bits n 138 6 ≠ 0, stOutOfRange),
    (d.maxGranules < 16 || 2 ^ 26 < d.maxGranules, stOutOfRange),
    (bits n 171 5 ≠ 0, stOutOfRange),
    (d.period < gradeMin, stGradeLimit),
    (2 ^ 36 < d.period, stOutOfRange),
    (bits n 213 3 ≠ 0, stOutOfRange),
    (d.rateMul = 3, stReservedValue),
    (bits n 222 2 ≠ 0, stOutOfRange),
    (!d.fin && len ≤ d.next, stOutOfRange),
    (bits n 272 16 ≠ 0, stOutOfRange),
    (250 < d.rate || (d.dest == 3 && d.rate ≠ 0), stOutOfRange),
    (!(d.dest == 1 || d.dest == 2 || d.dest == 3), stReservedValue),
    (bits n 328 24 ≠ 0, stOutOfRange),
    (bits n 384 128 ≠ 0, stOutOfRange),
    (bits n 768 256 ≠ 0, stOutOfRange)]

/-! ## Stream table entries (Table 7-6) -/

/-- An entry of STREAM_TABLE. -/
structure StreamEntry where
  ringBase : Nat := 0
  ringUnits : Nat := 0
  boom : Nat := 0
  enabled : Bool := false
  mirror : Bool := false
  port : Nat := 0
  deriving DecidableEq, Repr

/-- Entry `n` of a stream table; an entry beyond its end is all zeros. -/
def streamEntryOf (table : List Byte) (n : Nat) : StreamEntry :=
  let v := leAt table (32 * n) 32
  { ringBase := bits v 0 40, ringUnits := bits v 48 32, boom := bits v 80 16, enabled := bit v 96, mirror := bit v 97, port := bits v 98 2 }

/-- The contents checks of R219 on one entry, in ascending bit order. -/
def streamEntryStatus (v : Nat) : Option Status :=
  firstFail [
    (bits v 0 40 % 4096 ≠ 0, stOutOfRange),
    (bits v 40 8 ≠ 0, stOutOfRange),
    (bits v 48 32 ≠ 0 && (bits v 48 32 % 128 ≠ 0 || 2 ^ 31 < bits v 48 32), stOutOfRange),
    (bits v 98 2 = 3, stReservedValue),
    (bits v 100 156 ≠ 0, stOutOfRange)]

/-- STREAM_TABLE entry of a stream as the device holds it. -/
def streamEntry (c : Core) (n : Nat) : StreamEntry := streamEntryOf (dom c (mkKey 0x5C01 0)) n

/-! ## Timing sets (Table 5-5) -/

/-- TIME_n of a timing set. -/
def tsTime (s n : Nat) : Nat := bits s (48 * n) 36

/-- EN_n of a timing set. -/
def tsEn (s n : Nat) : Bool := bit s (48 * n + 47)

def tsFormat (s : Nat) : Nat := bits s 384 3
def tsWindow (s : Nat) : Bool := bit s 388
def tsPw (s : Nat) : Nat := bits s 392 16
def tsSw (s : Nat) : Nat := bits s 408 16

/-- The contents checks of R159 on one timing set, in ascending bit order. -/
def tsetStatus (s : Nat) : Option Status :=
  firstFail ((List.range 8).map (fun n => (bits s (48 * n + 36) 11 != 0, stOutOfRange)) ++
    [(decide (5 ≤ tsFormat s), stReservedValue), (bit s 387, stOutOfRange), (bits s 389 3 != 0, stOutOfRange),
     (bits s 424 88 != 0, stOutOfRange)])

end Sys2Proof.Machine
end

