-- ==== Sys2Proof/Machine/Flags.lean ====
section
/-!
DEFINITION. Sys2Proof/Machine/Flags.lean: the conditions the flow and the micro-machine test, and the comparator
states: Tables 4-4 and 4-5, ALL_HIGH to ANY_LOW of R91, Table 5-10 with the expectations of R162 and R476.
-/
namespace Sys2Proof.Machine

/-- The sites of a Weaver's SITE_ENABLE that its assignment holds: one site per distinct SITE value (R78). -/
def sitesHeld (c : Core) (w : Nat) : Nat :=
  (List.range 8).foldl (fun m s => if (quadsOf c w).any (fun q => rd c (mkKey (0x20C0 + q) 2) == s) then setBit m s else m) 0

/-- SITES: bit s reads 1 while site s is enabled in the running segment (Table 4-3). -/
def sitesReg (c : Core) (w : Nat) : Nat := (getW c w).sites

/-- FAILS: fail accumulators of enabled sites (Table 4-3, R90). -/
def failsReg (c : Core) (w : Nat) : Nat := (getW c w).acc &&& sitesReg c w

/-- The MSEL code in force for a Weaver's instruction: bits [15:14], or HAUX in nano mode (R91, Table 4-13). -/
def mselOf (c : Core) (w : Nat) : Nat :=
  if rdb c (wk w 0xC) then hwAux (getW c w).micro.iw else iwMsel (getW c w).micro.iw

/-- MATCHL: match latches of enabled sites under the instruction's MSEL (Table 4-3, R91). -/
def matchlReg (c : Core) (w : Nat) : Nat := mget 0 (getW c w).latch (mselOf c w) &&& sitesReg c w

/-- Whether an edge detector's flag is set. -/
def anyEdge (x : Weaver) : Bool := x.eds.any (fun e => e.2.flag)

/-- Whether the record queue has room for one record (R216). -/
def recFree (x : Weaver) : Bool := x.recq.length < 8

/-- Whether the command-list queue has room (R177). -/
def pecFree (x : Weaver) : Bool := x.lists.length < 16

/-- The condition codes of Table 4-5. -/
def condHolds (c : Core) (w code : Nat) : Bool :=
  let x := getW c w
  match code with
  | 0 => true
  | 1 => x.micro.t
  | 2 => !x.micro.t
  | 3 => failsReg c w != 0
  | 4 => failsReg c w == 0
  | 5 => matchlReg c w == sitesReg c w
  | 6 => matchlReg c w != sitesReg c w
  | 7 | 8 => x.mto
  | 9 => x.stack.isEmpty
  | 10 => x.stack.length == 16
  | 11 => x.micro.pending != 0
  | 12 => anyEdge x
  | 13 => x.tailed
  | 14 => x.inHold
  | _ => false

/-- Whether a vector period starts in micro-cycle `cyc` of the window (Table 4-4 VECTOR): the window's cycles are
1 ns, the vectors PERIOD ticks. -/
def vectorStarts (x : Weaver) (cyc : Nat) : Bool :=
  match x.desc with
  | some d =>
    let a := (x.gStart + 4095) / 4096 * 4096 + 4096 * cyc - x.gStart
    d.period ≠ 0 && (a + 4095) / d.period * d.period ≥ a && (a + 4095) / d.period < 64
  | none => false

/-- The WAIT conditions of Table 4-4. -/
def waitMet (c : Core) (w code : Nat) : Bool :=
  let x := getW c w
  match code with
  | 0 => true
  | 1 => pecFree x
  | 2 => recFree x
  | 3 => vectorStarts x x.micro.cycles
  | 4 => x.micro.pending != 0
  | 5 => anyEdge x
  | 6 => x.micro.t
  | 7 => !x.micro.t
  | 8 | 9 | 10 | 11 => bit c.mode.trgi (code - 8)
  | _ => false

/-! ## Comparator states (Table 5-10) -/

/-- The state S of H and L: 0 MID, 1 HIGH, 2 LOW, 3 INVALID (the STATE codes of Table 7-3). -/
def cmpState (h l : Bool) : Nat := ofBool h + 2 * ofBool l

/-- Whether a full-mode code tests an expectation (Table 5-1). -/
def expects (code : Nat) : Bool :=
  code == 4 || code == 5 || code == 6 || code == 7 || code == 9 || code == 0xA

/-- Whether a state meets a code's expectation (R162). -/
def meets (code s : Nat) : Bool :=
  match code with
  | 4 | 9 => s == 2
  | 5 | 0xA => s == 1
  | 6 => s == 0
  | 7 => s == 1 || s == 2
  | _ => true

/-- Whether a full-mode code compares, captures or feeds the match latch (Table 5-1). -/
def strobes (code : Nat) : Bool := expects code || code == 0xC || code == 0xD

/-- Whether a site's granule of `n` MK strobes, `hi` of which read high and `lo` low, meets an MSEL code (R91). -/
def mselMet (msel n hi lo : Nat) : Bool :=
  match msel with
  | 0 => n != 0 && hi == n
  | 1 => n != 0 && lo == n
  | 2 => hi != 0
  | _ => lo != 0

/-- The full-mode code a dense code stands for (Table 5-2). -/
def denseCode (code : Nat) (dir : Bool) : Nat :=
  match code with
  | 0 => if dir then 4 else 0
  | 1 => if dir then 5 else 1
  | 2 => if dir then 8 else 2
  | _ => if dir then 7 else 3

end Sys2Proof.Machine
end

