-- ==== Sys2Proof/Machine/Time.lean ====
section
/-!
DEFINITION. Sys2Proof/Machine/Time.lean: the passing of time: the stamp scale, the micro-timers and the time
bases advance with the clock (08_time_stamping.md R232, 04_microcode.md R133, 14_time_bases.md R392 to R397).
-/
namespace Sys2Proof.Machine

/-- Object `sub` of time base t (Table 14-3). -/
def tbk (t sub : Nat) : Key := mkKey (0x6400 + t) sub

/-- STATE of a time base: 0 UNSET, 1 FREE, 2 LOCKED, 3 HOLDOVER_REF, 4 HOLDOVER_XTAL. -/
def tbState (c : Core) (t : Nat) : Nat := rd c (tbk t 3)

/-- The base-clock cycle of a time base in ns, 0 while it is stopped (Table 14-1). -/
def tbCycle (c : Core) (t : Nat) : Nat :=
  if t = 3 then 40
  else if tbState c t = 0 then 0
  else if tbState c t = 4 then 40
  else if clockBit c 5 then 1
  else if clockBit c 1 then 10
  else 40

/-- The effective increment without the slew term, in 2^-32 ns per ns (R394, R399, R404). -/
def tbIncrement (c : Core) (t : Nat) : Nat :=
  let inc := rd c (tbk t 6)
  if t = 3 then ((inc : Int) + (getTb c 3).ageing).toNat
  else if tbState c t = 4 then
    let ppb := toSigned 32 (rd c (tbk 3 0x16))
    (((inc : Int) * 1000000000) / (1000000000 + ppb) + (getTb c 3).ageing).toNat
  else inc

/-- The slew applied in `m` ns at SLEW_RATE, limited to what remains, with the carried fraction (R397). -/
def slewStep (x : Tb) (rate m : Nat) : Int × Tb :=
  let total := x.carry + rate * m * 2 ^ 32
  let q := total / 1000000000
  if x.slew.natAbs ≤ q then (x.slew, { x with slew := 0, carry := 0 })
  else
    let step : Int := if x.slew < 0 then -(q : Int) else (q : Int)
    (step, { x with slew := x.slew - step, carry := total % 1000000000 })

/-- A time base after `n` ns of its base clock of cycle `cyc` (R392, R397). -/
def tbAdvance (x : Tb) (cyc inc rate n : Nat) : Tb :=
  if cyc = 0 then x
  else
    let total := x.phase + n
    let ns := total / cyc * cyc
    let (step, x1) := slewStep x rate ns
    { x1 with phase := total % cyc, val := ((x1.val : Int) + (inc : Int) * ns + step).toNat }

/-- The micro-timers of a Weaver after `n` micro-cycles (R133): a timer that reaches 0 stops and becomes
pending. -/
def timersAdvance (x : Micro) (n : Nat) : Micro :=
  { x with
    mt := (x.mt.filter (fun e => n < e.2)).map (fun e => (e.1, e.2 - n))
    pending := (x.mt.filter (fun e => e.2 ≤ n)).foldl (fun p e => setBit p e.1) x.pending }

/-- The Weavers after `n` ns: timers count while RUNNING or HOLDING (R133, R135). -/
def weaversAdvance (c : Core) (n : Nat) : SMap Weaver :=
  if clockBit c 4 then
    c.weavers.map (fun e =>
      if wState c e.1 = 2 ∨ wState c e.1 = 3 then (e.1, { e.2 with micro := timersAdvance e.2.micro n }) else e)
  else c.weavers

/-- A control port at an instant: CS_N falls for the next frame of its list once the gap after the last one has ended (R174). -/
def pecAdvance (p : Pec) (now : Nat) : Pec :=
  if p.active.isSome ∧ p.falls ≤ now then { p with csHigh := false } else p

/-- `n` ns pass (log 2). -/
def elapse (c : Core) (n : Nat) : Core :=
  let adv := fun (m : SMap Tb) (t : Nat) => mset {} m t (tbAdvance (getTb c t) (tbCycle c t) (tbIncrement c t) (rd c (tbk t 8)) n)
  let tbs := [0, 1, 2, 3].foldl adv c.tbs
  let c1 := { c with
    time := c.time + n
    stamp := if clockBit c 5 then c.stamp + 4096 * n else c.stamp
    weavers := weaversAdvance c n
    pecs := c.pecs.map (fun e => (e.1, pecAdvance e.2 (c.time + n)))
    tbs := tbs }
  if clockBit c 5 then tallyEvents c1 0xD0 n else c1

/-- Time passes up to the stamp-clock cycle that holds a tick of the stamp scale, if that lies ahead. -/
def elapseTo (c : Core) (tick : Nat) : Core :=
  if clockBit c 5 ∧ c.stamp + 4096 ≤ tick then elapse c ((tick - c.stamp) / 4096) else c

/-- Time passes up to an instant of the model clock, if that lies ahead. -/
def elapseUntil (c : Core) (t : Nat) : Core := if c.time < t then elapse c (t - c.time) else c

/-- The instant nearest to `now` that reads v modulo m (R232). -/
def nearInstant (now m v : Nat) : Nat :=
  let t := now / m * m + v % m
  if t + m / 2 < now then t + m else if now + m / 2 < t ∧ m ≤ t then t - m else t

/-- A TIME96 value as 2^-32 ns (R7, R392). -/
def time96Val (v : Nat) : Nat := (bits v 48 48 * 1000000000 + bits v 16 32) * 2 ^ 32 + bits v 0 16 * 2 ^ 16

/-- 2^-32 ns as a TIME96 value: the sub-ns field is the upper 16 bits of the fraction (R392). -/
def valTime96 (x : Nat) : Nat :=
  let ns := x / 2 ^ 32
  (ns / 1000000000 % 2 ^ 48) * 2 ^ 48 + (ns % 1000000000) * 2 ^ 16 + x % 2 ^ 32 / 2 ^ 16

end Sys2Proof.Machine
end

