-- ==== Sys2Proof/Machine/Records.lean ====
section
/-!
DEFINITION. Sys2Proof/Machine/Records.lean: records, their numbering and staging, credit and shares, and the
entries that wait for the journal (07_capture_credit.md, 11_vector_memory.md R325, R326, 15_integrity_faults.md
R417, R418).
-/
namespace Sys2Proof.Machine

/-! ## The journal's waiting entries (R418) -/

/-- The entries of a list that are not of a KIND and ID. -/
def otherEntries (l : List JEntry) (kind id : Nat) : List JEntry := l.filter (fun e => !(e.kind == kind && e.id == id))

/-- Let an entry wait for a journal record; a waiting entry of the same KIND and ID is replaced and counted (R418). -/
def journalWait (c : Core) (e : JEntry) : Core :=
  let rest := otherEntries c.journal.waiting e.kind e.id
  let c1 := { c with journal := { c.journal with waiting := rest ++ [e] } }
  if rest.length < c.journal.waiting.length then tallyEvent (bump c1 (mkKey 0x7800 3)) 0xDB else c1

/-- Let an entry of a KIND and ID wait for a journal record. -/
def journalAdd (c : Core) (kind id value : Nat) (isOpen : Bool) (run : Nat) : Core :=
  journalWait c { kind := kind, id := id, value := value, open_ := isOpen, run := run, since := c.time }

/-! ## Records (Tables 7-1 to 7-4) -/

/-- The common fields of Table 7-2. -/
def commonFields (c : Core) (kind stream seq cal run : Nat) : List (Nat × Nat) :=
  [(4, kind), (14, deviceId c), (16, stream), (48, seq), (8, cal), (16, rd c (mkKey 0x1008 0)),
   (16, rd c (mkKey 0x1009 1) / 2 ^ 16), (16, rd c (mkKey 0x100A 1) / 2 ^ 16), (16, run)]

/-- A one-unit record: its fields in 28 bytes, then the CRC-32C (R205). -/
def oneUnit (fields : List (Nat × Nat)) : List Byte := sealCrc (leBytes 28 (packFields fields))

/-- A two-unit record: its fields in 60 bytes, then the CRC-32C (R205). -/
def twoUnit (fields : List (Nat × Nat)) : List Byte := sealCrc (leBytes 60 (packFields fields))

/-- The units of a record (R204). -/
def unitsOf (bytes : List Byte) : Nat := bytes.length / 32

/-- KIND of a record's bytes. -/
def recKind (bytes : List Byte) : Nat := leAt bytes 0 1 % 16

/-- SEQUENCE of a record's bytes (Table 7-2). -/
def recSeq (bytes : List Byte) : Nat := bits (leAt bytes 0 16) 34 48

/-- Stage a record in the Landing under the stream's next number (R209). -/
def stageRecord (c : Core) (stream w run credit dest : Nat) (bytes : List Byte) : Core :=
  let st := getStream c stream
  let r : Staged := { stream := stream, seq := st.next, bytes := bytes, weaver := w, run := run, credit := credit, dest := dest, placed := false }
  let c1 := setStream c stream { st with next := (st.next + 1) % 2 ^ 48 }
  { c1 with landing := { c1.landing with staged := c1.landing.staged ++ [r] } }

/-- The site of a Weaver's stream (R80). -/
def siteStream (d : SegDesc) (s : Nat) : Nat := (d.streamBase + s) % 2 ^ 16

/-- The pin of lane pin `lp` of site s of Weaver w (R78). -/
def sitePin (c : Core) (w s lp : Nat) : Option Nat :=
  ((quadsOf c w).find? (fun q => rd c (mkKey (0x20C0 + q) 2) == s && rd c (mkKey (0x20C0 + q) 3) == lp / 4)).map (fun q => 4 * q + lp % 4)

/-- The lanes per site of a Weaver: the quads of its site 0 (R79). -/
def lanesOf (c : Core) (w : Nat) : Nat := (quadsOf c w).countP (fun q => rd c (mkKey (0x20C0 + q) 2) == 0)

/-- Whether a Weaver's assignment is consistent (R79). -/
def assignmentOk (c : Core) (w : Nat) : Bool :=
  let held := sitesHeld c w
  let n := lanesOf c w
  let s := popCount held 8
  s != 0 && held == 2 ^ s - 1 &&
  (List.range s).all (fun i => (List.range n).all (fun l =>
    (quadsOf c w).countP (fun q => rd c (mkKey (0x20C0 + q) 2) == i && rd c (mkKey (0x20C0 + q) 3) == l) == 1)) &&
  (quadsOf c w).length == s * n

/-- The combined CAL_BYTE of a site: STATE the highest of its pins, bits [6:4] the OR (Table 7-2). -/
def siteCalByte (c : Core) (w s : Nat) : Nat :=
  ((quadsOf c w).filter (fun q => rd c (mkKey (0x20C0 + q) 2) == s)).foldl (fun a q =>
    [0, 1, 2, 3].foldl (fun a j =>
      let b := (getPin c (4 * q + j)).calByte
      max (a % 16) (b % 16) + ((a / 16) ||| (b / 16)) % 8 * 16) a) 0

/-- The enabled sites of the running segment, lowest first. -/
def siteList (c : Core) (w : Nat) : List Nat := setBits (sitesReg c w) 8

/-- Make one one-unit record for a site, or count it unrecorded at the UNITS limit (R216). -/
def makeOne (c : Core) (w s : Nat) (d : SegDesc) (kind cal vector : Nat) (body : List (Nat × Nat)) : Core :=
  let x := getW c w
  let sr := mget {} x.siteRuns s
  let run := rd c (wk w 3)
  if sr.made < d.units then
    let stream := siteStream d s
    let seq := (getStream c stream).next
    let c1 := setW c w { x with siteRuns := mset {} x.siteRuns s { sr with made := sr.made + 1 } }
    let c2 := stageRecord c1 stream w run 1 d.dest (oneUnit (commonFields c kind stream seq cal run ++ body))
    tallyEvent c2 w
  else
    let sr' : SiteRun := { sr with unrecorded := sr.unrecorded + 1, firstUnrecorded := some (sr.firstUnrecorded.getD vector) }
    let c1 := setW c w { x with siteRuns := mset {} x.siteRuns s sr' }
    if sr.unrecorded = 0 then raise (bump c1 (mkKey (0x5C40 + w) 4)) 293 0 w else c1

/-- SEGMENT_START of one site (Table 7-4). -/
def makeStart (c : Core) (w s idx : Nat) (d : SegDesc) (origin originValue hold : Nat) : Core :=
  let run := rd c (wk w 3)
  let stream := siteStream d s
  let st := getStream c stream
  let fields := commonFields c 8 stream st.next (siteCalByte c w s) run ++
    [(48, run), (8, idx), (32, d.tag), (1, origin), (48, originValue), (32, min hold (2 ^ 32 - 1)),
     (32, rd c (mkKey 0x1009 1)), (32, rd c (mkKey 0x100A 1)), (3, s), (1, 0), (32, d.units + d.rate * 2 ^ 24), (8, d.dest)]
  stageRecord c stream w run 2 d.dest (twoUnit fields)

/-- SEGMENT_END of one site that ran (R113, Table 7-4); the units the site did not use return with it. -/
def makeEnd (c : Core) (w s : Nat) (d : SegDesc) (outcome cause vectors : Nat) : Core :=
  let run := rd c (wk w 3)
  let stream := siteStream d s
  let st := getStream c stream
  let sr := mget {} (getW c w).siteRuns s
  let fields := commonFields c 9 stream st.next (siteCalByte c w s) run ++
    [(48, run), (2, outcome), (8, cause), (33, vectors), (32, sr.made), (32, sr.unrecorded),
     (32, sr.firstUnrecorded.getD (2 ^ 32 - 1))]
  stageRecord c stream w run (2 + (d.units - sr.made)) d.dest (twoUnit fields)

/-- A REJECTED SEGMENT_END: RUN and VECTORS 0, from the outcome reserve (R208, R211). -/
def makeRejected (c : Core) (w s : Nat) (d : SegDesc) (cause : Nat) : Core :=
  let stream := siteStream d s
  let st := getStream c stream
  let fields := commonFields c 9 stream st.next (siteCalByte c w s) 0 ++
    [(48, 0), (2, 2), (8, cause), (33, 0), (32, 0), (32, 0), (32, 2 ^ 32 - 1)]
  stageRecord c stream w 0 0 d.dest (twoUnit fields)

/-! ## Credit, rate and fetch (R213 to R218, R325, R326) -/

/-- The allocatable units of the Landing (R211). -/
def allocatable (c : Core) : Nat := rd c (mkKey 0x5C00 2) * 32768 - 1024

/-- CREDIT of a segment with `n` enabled sites (R213). -/
def creditOf (d : SegDesc) (n : Nat) : Nat := n * (d.units + 4)

/-- FETCH_RES of a segment (R325). -/
def fetchRes (c : Core) (w : Nat) (d : SegDesc) : Nat :=
  ceilDiv ((lanesOf c w * 4 * mulOf d * codeWidth d + 1) * 4096 * 17) (d.period * 16 * 16)

/-- RATE units reserved (R213). -/
def rateHeld (c : Core) : Nat := (c.landing.shares.map Reserve.rate).sum

/-- Fetch steps reserved (R326). -/
def fetchHeld (c : Core) : Nat := (c.landing.fetch.map Prod.snd).sum

/-- Whether wait `a` stands before wait `b`: older first, then the lower Weaver (R214). -/
def waitBefore (a b : Nat × Nat) : Bool := a.1 < b.1 || (a.1 == b.1 && a.2 < b.2)

/-- The waits older than PRIORITY_AGE epochs: first failed check and Weaver (R214). -/
def oldWaits (c : Core) : List (Nat × Nat) :=
  c.weavers.filterMap (fun e => match e.2.waitFrom with
    | some t => if rd c (mkKey 0x5C00 6) < e.2.waitAge then some (t, e.1) else none
    | none => none)

/-- Whether another Weaver's old wait bars this check (R214). -/
def barred (c : Core) (w : Nat) : Bool :=
  match oldWaits c with
  | [] => false
  | a :: l => (l.foldl (fun m x => if waitBefore x m then x else m) a).2 != w

/-- What a check answers. -/
inductive Checked where
  | pass
  | wait (cause : Nat)
  | never
  deriving DecidableEq, Repr

/-- The credit, capture and fetch checks of a segment (R214, R217, R326): refused for ever, waiting with the
cause code of 0x5C40+w:01, or passing. -/
def checkSegment (c : Core) (w : Nat) (d : SegDesc) (n : Nat) (successor : Bool) : Checked :=
  let f := fetchRes c w d
  let mine := mget 0 c.landing.fetch w
  let need := if successor then f - mine else f
  if allocatable c < creditOf d n ∨ rd c (mkKey 0x5000 8) < d.rate ∨ rd c (mkKey 0x5000 6) < f then .never
  else if allocatable c < c.landing.held + creditOf d n then .wait 1
  else if rd c (mkKey 0x5000 8) < rateHeld c + d.rate then .wait 2
  else if rd c (mkKey 0x5000 6) < fetchHeld c + need then .wait 3
  else if barred c w then .wait 4
  else .pass

/-- Reserve a segment's credit, rate and fetch at once (R214, R326). -/
def reserveSegment (c : Core) (w : Nat) (d : SegDesc) (n : Nat) (successor : Bool) : Core :=
  let f := fetchRes c w d
  let mine := mget 0 c.landing.fetch w
  { c with landing := { c.landing with
      held := c.landing.held + creditOf d n
      shares := c.landing.shares ++ [{ weaver := w, run := 0, rate := d.rate, ended := false }]
      fetch := mset 0 c.landing.fetch w (if successor then max f mine else f) } }

/-- Return what a granted segment that never starts had reserved. -/
def releaseGrant (c : Core) (w : Nat) (d : SegDesc) (n : Nat) : Core :=
  { c with landing := { c.landing with
      held := c.landing.held - creditOf d n
      shares := c.landing.shares.filter (fun r => !(r.weaver == w && r.run == 0)) } }

/-- The shares of a Weaver's granted segment take its run number at its start. -/
def bindShare (l : List Reserve) (w run : Nat) : List Reserve :=
  l.map (fun r => if r.weaver = w ∧ r.run = 0 then { r with run := run } else r)

/-- Drop the shares of ended runs of which no record is left in the Landing (R215). -/
def releaseShares (c : Core) : Core :=
  { c with landing := { c.landing with
      shares := c.landing.shares.filter (fun r =>
        !r.ended || c.landing.staged.any (fun s => s.weaver == r.weaver && s.run == r.run && !s.placed)) } }

/-- Note that a run has ended. -/
def endShare (c : Core) (w run : Nat) : Core :=
  releaseShares { c with landing := { c.landing with
    shares := c.landing.shares.map (fun r => if r.weaver = w ∧ r.run = run then { r with ended := true } else r) } }

/-- Note the cause of a failed check; a wait begins at the first one (R214, R218). -/
def noteWait (c : Core) (w cause credit : Nat) : Core :=
  let c1 := wr (wr c (mkKey (0x5C40 + w) 1) cause) (mkKey (0x5C40 + w) 3) credit
  modW c1 w (fun x => { x with waitFrom := some (x.waitFrom.getD c.time) })

/-- The wait has ended (R218). -/
def endWait (c : Core) (w : Nat) : Core :=
  modW (wr c (mkKey (0x5C40 + w) 1) 0) w (fun x => { x with waitFrom := none, waitAge := 0 })

/-- Whether a stream can take a segment's records: ENABLED, with a ring, and under BOOM with a boom that capture fills (R219, R220,
log 111). -/
def streamUsable (c : Core) (n dest : Nat) : Bool :=
  let e := streamEntry c n
  let b := (getBoom c e.boom).desc
  e.enabled && e.ringUnits != 0 && (dest != 2 || (bdEnabled b && bdSource b == srcCapture))

/-- The units of the Landing that are reserved or staged: staged REJECTED records hold units of the outcome reserve (R211, Table
7-8). -/
def landingUnits (c : Core) : Nat :=
  c.landing.held + ((c.landing.staged.filter (fun s => s.credit == 0)).map (fun s => unitsOf s.bytes)).sum

/-- At an epoch boundary every wait is one epoch older (R214). -/
def ageWaits (c : Core) : Core :=
  { c with weavers := c.weavers.map (fun e => (e.1, if e.2.waitFrom.isSome then { e.2 with waitAge := e.2.waitAge + 1 } else e.2)) }

/-- Insert a Weaver by its wait: the oldest first, then the lowest number (R214). -/
def insertWait (x : Nat × Nat) : List (Nat × Nat) → List (Nat × Nat)
  | [] => [x]
  | y :: l => if waitBefore x y then x :: y :: l else y :: insertWait x l

/-- Weavers in the order of their checks at one instant (R214). -/
def checkOrder (c : Core) (l : List Nat) : List Nat :=
  (l.foldl (fun l w => insertWait ((getW c w).waitFrom.getD c.time, w) l) []).map Prod.snd

end Sys2Proof.Machine
end

