-- ==== Sys2Proof/Machine/Pins.lean ====
section
/-!
DEFINITION. Sys2Proof/Machine/Pins.lean: what a pin channel does with the codes of a granule: formats, placed
transitions and their spacing, hold-off, strobes and their evaluation, the pin states
(05_pin_timing.md R147 to R170, R475, R476, 06_calibration.md R181, R189).
-/
namespace Sys2Proof.Machine

/-- Object `sub` of pin p at 0x3000+p (Table 5-13). -/
def pk (p sub : Nat) : Key := mkKey (0x3000 + p) sub

/-- The active timing-set bank of a pin (R158, R159). -/
def activeBank (c : Core) (p : Nat) : List Byte :=
  if rd c (mkKey (0x3100 + p) 5) = 0 then (getPin c p).tsetA else (getPin c p).tsetB

/-- The shadow timing-set bank of a pin. -/
def shadowBank (c : Core) (p : Nat) : List Byte :=
  if rd c (mkKey (0x3100 + p) 5) = 0 then (getPin c p).tsetB else (getPin c p).tsetA

/-- Timing set n of a pin's active bank (R158). -/
def timingSet (c : Core) (p n : Nat) : Nat := leAt (activeBank c p) (64 * n) 64

/-- The active correction bank of a pin (R184). -/
def activeCorr (x : Pin) : CorrBank := if x.corrActiveB then x.corrB else x.corrA

/-- OFS[path] of a bank (Table 6-2). -/
def ofsOf (b : CorrBank) (path : Nat) : Int := b.ofs.getD path 0

/-- Set STICKY bits of a pin; each bit that changes from 0 to 1 raises the pin group's source at the level its
rule names: INVALID_CMP at L0, the others at L1 (R475). -/
def setSticky (c : Core) (p mask : Nat) : Core :=
  let old := rd c (pk p 0xA)
  (setBits mask 4).foldl (fun c i =>
    if bit old i then c else raise c (192 + p / 16) (if i = 3 then 0 else 1) p) (wr c (pk p 0xA) (old ||| mask))

/-! ## Formatting -/

/-- A programmed transition within a vector: tick, order of issue at one tick (R157), pair (enable or data),
level, generator (R180). -/
structure Edge where
  t : Nat
  ord : Nat
  enable : Bool
  level : Bool
  gen : Nat
  deriving DecidableEq, Repr

/-- What one code does to the driver: the level it drives (none: off), the last drive code (0 D0, 1 D1, 2 DZ),
whether it takes the next serial bit, and whether it sets CODE_ERR (R147, R149, R150, R155). -/
structure SlotDrive where
  level : Option Bool
  last : Nat
  serial : Bool
  err : Bool
  deriving DecidableEq, Repr

/-- The drive part of Table 5-1 for one slot; `sburst` tells whether the timing set's format is SBURST and
`ser` is the next bit of the serial source. -/
def slotDrive (code last : Nat) (sburst ser : Bool) : SlotDrive :=
  match code with
  | 0 | 9 => ⟨some false, 0, false, false⟩
  | 1 | 0xA => ⟨some true, 1, false, false⟩
  | 2 => ⟨none, 2, false, false⟩
  | 3 => ⟨if last = 0 then some false else if last = 1 then some true else none, last, false, false⟩
  | 0xB => if sburst then ⟨some ser, ofBool ser, true, false⟩ else ⟨none, last, false, true⟩
  | 0xE | 0xF => ⟨none, last, false, true⟩
  | _ => ⟨none, last, false, false⟩

/-- The register of the drive edge of slot k (Table 5-3). -/
def driveReg (m k : Nat) : Nat := if m = 1 then 0 else if m = 2 then 2 * k else k

/-- The register and programmed time of the return edge of slot k, and whether it is enabled (Table 5-3, R152). -/
def returnEdge (ts m k : Nat) : Nat × Nat × Bool :=
  let d := driveReg m k
  if m = 1 then (1, tsTime ts 1, tsEn ts 1 && tsEn ts 0)
  else if m = 2 then (2 * k + 1, tsTime ts (2 * k + 1), tsEn ts (2 * k + 1) && tsEn ts d)
  else (d, tsTime ts d + tsPw ts, tsEn ts d)

/-- The register of the enable-on (`on`) or enable-off role of slot k, with the fall-back of R152. -/
def enableReg (ts m k : Nat) (on : Bool) : Nat :=
  if m = 1 then (let r := if on then 2 else 3; if tsEn ts r then r else 0) else driveReg m k

/-- The transitions programmed for a driving slot, and whether one falls at or beyond PERIOD (R152 to R154, R156). -/
def slotEdges (ts m period k : Nat) (level : Option Bool) (on : Bool) : List Edge × Bool :=
  match level with
  | some lv =>
    let d := driveReg m k
    let fmt := tsFormat ts
    let (rg, rt, ren) := returnEdge ts m k
    let er := enableReg ts m k true
    let drive := if tsEn ts d then [Edge.mk (tsTime ts d) 2 false lv d] else []
    let lead := if fmt = 3 && tsEn ts d then [Edge.mk (k * period / m) 0 false (!lv) d] else []
    let ret := if ren && (fmt == 1 || fmt == 2 || fmt == 3) then
        [Edge.mk rt 3 false (if fmt = 1 then false else if fmt = 2 then true else !lv) rg] else []
    let en := if !on && tsEn ts er then [Edge.mk (tsTime ts er) 1 true true er] else []
    let all := lead ++ en ++ drive ++ ret
    (all.filter (fun e => e.t < period), all.any (fun e => period ≤ e.t))
  | none =>
    let er := enableReg ts m k false
    let off := if on && tsEn ts er then [Edge.mk (tsTime ts er) 4 true false er] else []
    (off.filter (fun e => e.t < period), off.any (fun e => period ≤ e.t))

/-- Insert a transition in order of programmed time, then of issue (R157). -/
def insertEdge (e : Edge) : List Edge → List Edge
  | [] => [e]
  | x :: xs => if e.t < x.t ∨ (e.t = x.t ∧ e.ord < x.ord) then e :: x :: xs else x :: insertEdge e xs

/-- Count a transition of a path for the shadow measurement; every 2^duty-th one goes to the TDC (R189). -/
def shadowCount (x : Pin) (duty : Option Nat) (path : Nat) (placed : Int) : Pin :=
  let x1 := { x with used := setBit x.used path }
  match duty with
  | none => x1
  | some d =>
    let n := mget 0 x.shadow path + 1
    if 2 ^ d ≤ n then { x1 with shadow := mset 0 x.shadow path 0, due := x1.due ++ [(path, placed)], passed := x1.passed ++ [placed] }
    else { x1 with shadow := mset 0 x.shadow path n }

/-- Count the instants of a strobe, its open and in WINDOW mode its close, on the paths of both comparator results (R180, R189). -/
def countStrobe (duty : Option Nat) (x : Pin) (s : Strobe) : Pin :=
  ((if s.window then [s.opens, s.closes] else [s.opens]).flatMap (fun t => [(18, t), (19, t)])).foldl (fun y (path, t) =>
    shadowCount y duty path ((t : Int) + ofsOf (activeCorr y) path)) x

/-- The path of a transition (Table 6-2). -/
def edgePath (e : Edge) : Nat :=
  if e.enable then (if e.level then 16 else 17) else if e.level then e.gen else 8 + e.gen

/-- Issue a transition of a pair that is wanted at an instant: it is placed there, or the minimum spacing after the placed time of
the one before it on its pair, if that is later (R157). Answers whether it was moved. -/
def issueAt (x : Pin) (enable level : Bool) (want : Int) : Pin × Bool :=
  let placed := match (if enable then x.placedEn else x.placedData) with
    | some p => max want (p + (minSpacing : Int))
    | none => want
  let x1 := if enable then { x with en := level, placedEn := some placed } else { x with data := level, placedData := some placed }
  ({ x1 with trans := x1.trans ++ [{ at_ := placed, enable := enable, level := level }] }, decide (want < placed))

/-- Issue a transition of a programmed edge: none when the pair already has the level (R157, R181). Answers whether it was moved. -/
def placeEdge (x : Pin) (duty : Option Nat) (start : Nat) (e : Edge) : Pin × Bool :=
  if (if e.enable then x.en else x.data) = e.level then (x, false)
  else
    let path := edgePath e
    let want : Int := (start + e.t : Nat) + ofsOf (activeCorr x) path
    let (y, moved) := issueAt x e.enable e.level want
    (shadowCount y duty path want, moved)

/-- What a granule gives a pin: the period, M, the start of vector 0 on the stamp scale, the number of vector 0
in the segment, the timing set, the shadow duty, and the raster bits of the pin, if it is mapped (R289). -/
structure PinRun where
  period : Nat
  m : Nat
  start : Nat
  vector0 : Nat
  ts : Nat
  duty : Option Nat
  raster : Option (List (Option Bool))
  deriving DecidableEq, Repr

/-- The next bit of the pin's serial source for slot k of vector v (R155): the raster stream, or BURST_WORD. -/
def serialBit (x : Pin) (r : PinRun) (v k : Nat) : Bool :=
  match r.raster with
  | some l => (l.getD (v * r.m + k) none).getD false
  | none => bit x.force.burstWord x.burst

/-- The slots of one vector, in slot order: codes to programmed transitions; STICKY bits accumulate. -/
def vectorSlots (r : PinRun) (v : Nat) : List Nat → Nat → Bool → Pin → List Edge → Nat → Pin × List Edge × Nat
  | [], _, _, x, es, st => (x, es, st)
  | code :: codes, k, on, x, es, st =>
    let sd := slotDrive code x.lastDrive (tsFormat r.ts == 4) (serialBit x r v k)
    let (new, terr) := slotEdges r.ts r.m r.period k sd.level on
    let on' := if new.any (fun e => e.enable) then sd.level.isSome else on
    let x1 := { x with
      lastDrive := sd.last
      burst := if sd.serial ∧ r.raster = none then (if x.burst + 1 ≥ x.force.burstLen then 0 else x.burst + 1) else x.burst }
    vectorSlots r v codes (k + 1) on' x1 (new.foldl (fun l e => insertEdge e l) es)
      (st ||| (if sd.err then 1 else 0) ||| (if terr then 2 else 0))

/-- The open and close registers and times of a strobe of slot k, strobe `ab` (Table 5-3): open time and EN,
close time and EN. -/
def strobeRoles (ts m k ab : Nat) : Nat × Bool × Nat × Bool :=
  let o := if m = 1 then 4 + 2 * ab else if m = 2 then 4 + 2 * k else 4 + k
  if m = 4 then (tsTime ts o, tsEn ts o, tsTime ts o + tsSw ts, true)
  else (tsTime ts o, tsEn ts o, tsTime ts (o + 1), tsEn ts (o + 1))

/-- The strobe of a code, if it is evaluated, and whether it sets TIMING_ERR (R153). -/
def mkStrobe (r : PinRun) (v k ab code : Nat) : Option Strobe × Bool :=
  let (o, oen, cl, cen) := strobeRoles r.ts r.m k ab
  let win := tsWindow r.ts
  if !oen then (none, false)
  else if r.period ≤ o then (none, true)
  else if !win then
    (some { vector := r.vector0 + v, slot := k, ab := ab, code := code, opens := r.start + v * r.period + o, closes := r.start + v * r.period + o, window := false }, false)
  else if !cen then (none, true)
  else
    let late := decide (r.period < cl)
    let cl' := if late then r.period else cl
    if cl' ≤ o then (none, true)
    else (some { vector := r.vector0 + v, slot := k, ab := ab, code := code, opens := r.start + v * r.period + o, closes := r.start + v * r.period + cl', window := true }, late)

/-- The strobes of one vector (R165): at ×1 strobes A and B, else one per slot. -/
def vectorStrobes (r : PinRun) (v : Nat) (codes : List Nat) : List Strobe × Bool :=
  (codes.zipIdx.flatMap (fun (code, k) =>
    if strobes code then (if r.m = 1 then [mkStrobe r v k 0 code, mkStrobe r v k 1 code] else [mkStrobe r v k 0 code]) else []))
  |>.foldl (fun acc s => (acc.1 ++ s.1.toList, acc.2 || s.2)) ([], false)

/-- One vector of a pin: its transitions are placed, its strobes join those on their way. -/
def emitVector (r : PinRun) (x : Pin) (st : Nat) (v : Nat) (codes : List Nat) : Pin × Nat :=
  let (x1, edges, st1) := vectorSlots r v codes 0 x.en x [] st
  let (x2, st2) := edges.foldl (fun (acc : Pin × Nat) e =>
    let (y, moved) := placeEdge acc.1 r.duty (r.start + v * r.period) e
    (y, acc.2 ||| (if moved then 4 else 0))) (x1, st1)
  let (ss, terr) := vectorStrobes r v codes
  let x3 := ss.foldl (countStrobe r.duty) x2
  ({ x3 with strobes := x3.strobes ++ ss }, st2 ||| (if terr then 2 else 0))

/-- All vectors of a granule, or its first ones: the pin after them and the STICKY bits they set. -/
def emitCodes (r : PinRun) : List (List Nat) → Nat → Pin → Nat → Pin × Nat
  | [], _, x, st => (x, st)
  | codes :: rest, v, x, st =>
    let (x1, st1) := emitVector r x st v codes
    emitCodes r rest (v + 1) x1 st1

/-! ## Comparator results -/

/-- The level of a line just after (`incl`) or just before an instant, from the accepted changes (R163). -/
def acceptedLevel (x : Pin) (line : CmpLine) (t : Int) (incl : Bool) : Bool :=
  x.history.foldl (fun lv h =>
    if h.line = line ∧ ((h.at_ : Int) < t ∨ (incl ∧ (h.at_ : Int) = t)) then h.level else lv)
    (match line with | .high => x.accH | .low => x.accL)

/-- The start of the hold-off an instant lies in, chains of hold-offs joined (R164); `len` is its length. -/
def heldFrom (trans : List Int) (len t : Int) : Option Int :=
  let inside := fun (u : Int) => (trans.filter (fun a => decide (a ≤ u) && decide (u < a + len))).foldl min u
  let a0 := inside t
  if trans.any (fun a => decide (a ≤ t) && decide (t < a + len)) then
    some ((List.range trans.length).foldl (fun a _ =>
      (trans.filter (fun b => decide (b < a) && decide (a ≤ b + len))).foldl min a) a0)
  else none

/-- The level of a line as compare sees it, hold-off applied (R164). -/
def lineLevel (x : Pin) (line : CmpLine) (t : Int) : Bool :=
  let len : Int := (x.force.holdoff * 1024 : Nat)
  match (if x.force.holdoff = 0 then none else heldFrom (x.trans.map Swing.at_) len t) with
  | some a => acceptedLevel x line a false
  | none => acceptedLevel x line t true

/-- S at a programmed time on the stamp scale, referred back by the strobe offsets (R165). -/
def stateAt (x : Pin) (t : Int) : Nat :=
  cmpState (lineLevel x .high (t + ofsOf (activeCorr x) 18)) (lineLevel x .low (t + ofsOf (activeCorr x) 19))

/-- Insert an instant in rising order, once. -/
def insertInstant (t : Int) : List Int → List Int
  | [] => [t]
  | u :: us => if t < u then t :: u :: us else if t = u then u :: us else u :: insertInstant t us

/-- The referred instants at which S can change (R164, R165), rising. -/
def changeInstants (x : Pin) : List Int :=
  let o18 := ofsOf (activeCorr x) 18
  let o19 := ofsOf (activeCorr x) 19
  let len : Int := (x.force.holdoff * 1024 : Nat)
  let hs := x.history.map (fun h => (h.at_ : Int) - (match h.line with | .high => o18 | .low => o19))
  let es := if x.force.holdoff = 0 then [] else x.trans.flatMap (fun a => [a.at_ + len - o18, a.at_ + len - o19])
  (hs ++ es).foldl (fun l t => insertInstant t l) []

/-- The instants at which S changes. -/
def stateChanges (x : Pin) : List Int := (changeInstants x).filter (fun t => stateAt x t != stateAt x (t - 1))

/-- The result of one strobe: STATE of its record, whether it passes, meets INVALID, is a boundary case or is
held, whether an MK strobe reads high or low, and the samples of H and L at open. -/
structure StrobeResult where
  strobe : Strobe
  state : Nat
  pass : Bool
  invalid : Bool
  boundary : Bool
  held : Bool
  high : Bool
  low : Bool
  h : Bool
  l : Bool
  deriving DecidableEq, Repr

/-- Evaluate one strobe (R162, R164 to R166, R476). -/
def evalStrobe (x : Pin) (changes : List Int) (s : Strobe) : StrobeResult :=
  let o : Int := s.opens
  let cl : Int := s.closes
  let s0 := stateAt x o
  let inner := if s.window then changes.filter (fun t => decide (o < t) && decide (t < cl)) else []
  let states := s0 :: inner.map (stateAt x)
  let failing := states.filter (fun v => !meets s.code v)
  let st :=
    if s.code = 0xC then (if s.window then (states.find? (fun v => v != s0)).getD s0 else s0)
    else failing.headD s0
  let near := fun (u : Int) => changes.any (fun t => decide (u - 2 ≤ t) && decide (t ≤ u + 2))
  let o18 := ofsOf (activeCorr x) 18
  let o19 := ofsOf (activeCorr x) 19
  let len : Int := (x.force.holdoff * 1024 : Nat)
  let overlaps := fun (ofs : Int) => x.trans.any (fun a =>
    if s.window then decide (a.at_ < cl + ofs) && decide (o + ofs < a.at_ + len) else decide (a.at_ ≤ o + ofs) && decide (o + ofs < a.at_ + len))
  { strobe := s, state := st, pass := failing.isEmpty
    invalid := states.any (fun v => v == 3)
    boundary := x.force.boundary && s.code != 0xD && (near o || (s.window && near cl))
    held := x.force.holdoff != 0 && (overlaps o18 || overlaps o19)
    high := states.all (fun v => v == 1), low := states.all (fun v => v == 2)
    h := lineLevel x .high (o + o18), l := lineLevel x .low (o + o19) }

/-- Evaluate the strobes of a pin that are on their way. -/
def evalStrobes (x : Pin) : List StrobeResult := let ch := stateChanges x; x.strobes.map (evalStrobe x ch)

/-- The instant up to which a pin's past no longer matters once a granule starts: it lies before every strobe on its way, the
longest hold-off (1,023 × 1,024 ticks) before those, and the hold-offs that join them (R164 to R166). -/
def pastLimit (x : Pin) (start : Nat) : Int :=
  let first : Int := (x.strobes.foldl (fun t s => min t s.opens) start : Nat)
  let t0 := first + min (ofsOf (activeCorr x) 18) (ofsOf (activeCorr x) 19) - 4
  min ((heldFrom (x.trans.map Swing.at_) (x.force.holdoff * 1024 : Nat) t0).getD t0) (t0 - 2 ^ 20)

/-- Forget the loop-back transitions due before an instant. -/
def pruneDue (x : Pin) (lim : Int) : Pin :=
  { x with due := x.due.filter (fun e => decide (lim ≤ e.2)), passed := x.passed.filter (fun t => decide (lim ≤ t)) }

/-- Forget a pin's past before an instant; the levels it left stay. -/
def prunePin (x : Pin) (lim : Int) : Pin :=
  let old := x.history.filter (fun h => decide ((h.at_ : Int) < lim))
  { x with
    accH := old.foldl (fun lv h => if h.line = .high then h.level else lv) x.accH
    accL := old.foldl (fun lv h => if h.line = .low then h.level else lv) x.accL
    history := x.history.filter (fun h => decide (lim ≤ (h.at_ : Int)))
    trans := x.trans.filter (fun t => decide (lim ≤ t.at_)) }

/-! ## Pin states (R167, R170) -/

/-- The level the parked data pair and enable pair take (Table 5-12). -/
def parkData (park : Nat) : Bool := park == 2
def parkEnable (park : Nat) : Bool := park != 0

/-- The values of R170 as their objects hold them: in force from the first vector of a segment. -/
def forceNow (c : Core) (p : Nat) : PinForce :=
  { holdoff := rd c (pk p 4), glitch := rd c (pk p 5), boundary := rdb c (pk p 6), burstWord := rd c (pk p 7), burstLen := rd c (pk p 8) }

/-- What leaves the ball for a transition of a pair: its level after POLARITY (R169). -/
def swingOut (c : Core) (p : Nat) (s : Swing) : Out :=
  .transition p s.enable (s.level != bit (rd c (pk p 3)) (if s.enable then 1 else 0)) s.at_

/-- Take one pair of a pin to a level at the present instant, outside any segment: the transition is no edge of a timing set and
takes no correction, and the spacing on its pair is kept (R157, R167, log 106). -/
def holdPair (c : Core) (p : Nat) (enable level : Bool) : Core :=
  let x := getPin c p
  if (if enable then x.en else x.data) = level then c
  else
    let (y, moved) := issueAt x enable level c.stamp
    let c1 := (y.trans.drop x.trans.length).foldl (fun c s => emit c (swingOut c p s)) (setPin c p y)
    if moved then setSticky c1 p 4 else c1

/-- Take both pairs of a pin to their levels outside any segment (R167). -/
def holdPairs (c : Core) (p : Nat) (d en : Bool) : Core := holdPair (holdPair c p false d) p true en

/-- The pin enters ISOLATED (0), PARKED (1) or ACTIVE (2). -/
def enterPin (c : Core) (p st : Nat) : Core :=
  let old := rd c (pk p 9)
  let c1 := wr c (pk p 9) st
  let x := getPin c p
  let x1 := if old = 0 ∧ st ≠ 0 then { x with accH := x.rawH, accL := x.rawL, history := [], candH := none, candL := none } else x
  match st with
  | 0 => holdPairs (setPin c1 p { x1 with candH := none, candL := none }) p false false
  | 1 =>
    let park := rd c (pk p 1)
    holdPairs (setPin c1 p x1) p (parkData park) (parkEnable park)
  | _ => setPin c1 p x1

/-- The state a pin has while no segment runs on it, by the major mode (R167). -/
def restState (m : Nat) : Nat := if m = 0 ∨ m = 1 ∨ m = 2 ∨ m = 7 then 0 else 1

/-- Put every pin that is not ACTIVE into its rest state for the mode (R167). -/
def restPins (c : Core) : Core :=
  let st := restState (modeNow c)
  (List.range 256).foldl (fun c p =>
    let now := rd c (pk p 9)
    if now = 2 ∧ st = 1 then c else if now = st then c else enterPin c p st) c

/-- Park the pins of a Weaver (R111, R167). -/
def parkPins (c : Core) (w : Nat) : Core :=
  (pinsOf c w).foldl (fun c p => if rd c (pk p 9) = 2 then enterPin c p (restState (modeNow c)) else c) c

end Sys2Proof.Machine
end

