-- ==== Sys2Proof/Machine/Cal.lean ====
section
/-!
DEFINITION. Sys2Proof/Machine/Cal.lean: correction banks: temperature sets and interpolation, composition, rounds, rebuilds,
the swap of the banks, CAL_BYTE, foreground calibration and the tap query (06_calibration.md R180 to R203).
-/
namespace Sys2Proof.Machine

/-- Object `sub` of 0x3400 (Table 6-7). -/
def gk (sub : Nat) : Key := mkKey 0x3400 sub

/-- The junction temperature of a pin group in m-degC (R185); 70 degC, the typical junction temperature of R461, until something sets it (log 5). -/
def tempOf (c : Core) (g : Nat) : Int := mget 70000 c.cal.temps g

/-- A sensor's reading in m-degC is kept until the next one (R185, log 107). -/
def setTemp (c : Core) (g : Nat) (t : Int) : Core := { c with cal := { c.cal with temps := mset 70000 c.cal.temps g t } }

/-- REFWARM's level (Table 13-8 bit 4). -/
def refwarm (c : Core) : Bool := bit (rd c (mkKey 0x1302 1)) 4

/-! ## Interpolation (R185 to R187) -/

/-- The lower set of the interpolation at T_B (R186). -/
def setIndex (tb : Int) : Nat :=
  if tb < 25000 then 0 else if 85000 < tb then 3 else min 3 ((tb - 25000) / 15000).toNat

/-- v(T_B) from the sets v_i, rounded to the nearest tick (R186). -/
def interpAt (tb : Int) (v : Nat → Int) : Int :=
  let i := setIndex tb
  let te := clampInt 15000 95000 tb
  roundDiv (15000 * v i + (te - (25000 + 15000 * (i : Int))) * (v (i + 1) - v i)) 15000

/-- The factory coarse-position table of generator g in set i of pin p. -/
def factoryTable (p i g : Nat) : List Nat := (List.range 32).map (fun k => Config.factoryCoarse p i g k % 65536)

/-- The interpolated coarse-position table (R186): an entry that either set leaves unused stays unused. -/
def coarseAt (p g : Nat) (tb : Int) : List Nat :=
  let i := setIndex tb
  ((factoryTable p i g).zip (factoryTable p (i + 1) g)).zipIdx.map (fun ((a, b), k) =>
    if a = 0xFFFF ∨ b = 0xFFFF then 0xFFFF
    else (interpAt tb (fun j => ((factoryTable p j g).getD k 0 : Nat))).toNat)

/-- Whether each step of a list rises, by at most 128. -/
def stepsOk : List Nat → Bool
  | a :: b :: l => decide (a < b) && decide (b - a ≤ 128) && stepsOk (b :: l)
  | _ => true

/-- Whether a coarse-position table is valid (R183). -/
def coarseValid (l : List Nat) : Bool :=
  let used := l.takeWhile (· != 0xFFFF)
  l.length == 32 && used.head? == some 0 && (l.drop used.length).all (· == 0xFFFF) && stepsOk used && decide (897 ≤ used.getLastD 0)

/-- The factory set whose temperature is nearest, the lower at equal distance (R183). -/
def nearestSet (tb : Int) : Nat :=
  (([1, 2, 3, 4] : List Nat).foldl (fun (best : Nat × Nat) (i : Nat) =>
    let d := (tb - (25000 + 15000 * (i : Int))).natAbs
    if d < best.2 then (i, d) else best) (0, (tb - 25000).natAbs)).1

/-- Whether T_B is extrapolated, and whether it is out of the span (R187). -/
def extrapolated (tb : Int) : Bool := (decide (15000 ≤ tb) && decide (tb < 25000)) || (decide (85000 < tb) && decide (tb ≤ 95000))
def beyondSpan (tb : Int) : Bool := decide (tb < 15000) || decide (95000 < tb)

/-! ## Composition (R188, R194) -/

/-- Whether CAL_SOURCE selects the field set. -/
def fieldSource (c : Core) : Bool := rd c (gk 5) == 1

/-- DRIVE_DESKEW and COMPARE_DESKEW of a pin. -/
def deskewOf (c : Core) (p : Nat) : Int × Int :=
  let l := dom c (gk 9)
  (toSigned 32 (leAt l (8 * p) 4), toSigned 32 (leAt l (8 * p + 4) 4))

/-- A path's offset before the range of R181 (R188). -/
def rawOffset (c : Core) (p path : Nat) (tb : Int) : Int :=
  let x := getPin c p
  let base := interpAt tb (fun i => Config.factoryOffset p i path)
  let d := mget 0 x.drift path
  if fieldSource c then
    let (dr, cm) := deskewOf c p
    base + mget 0 x.field path + (if path < 18 then -dr else cm) + d
  else base + d

/-- The coarse-position table a bank takes for a generator, and whether the built one is not valid (R183, R187): the table that
foreground calibration has measured since the last rebuild, else the interpolated one (log 108). -/
def bankCoarse (c : Core) (p g : Nat) (tb : Int) : List Nat × Bool :=
  let t := coarseAt p g tb
  let made := (getPin c p).measured.getD g []
  if coarseValid made then (made, false)
  else if coarseValid t then (t, false)
  else if extrapolated tb || beyondSpan tb then (factoryTable p (if tb < 25000 then 0 else 4) g, true)
  else
    let prev := (activeCorr (getPin c p)).coarse.getD g []
    if coarseValid prev then (prev, true) else (factoryTable p (nearestSet tb) g, true)

/-- CAL_BYTE of a bank as it is built (Table 6-4). -/
def builtByte (c : Core) (p : Nat) (tb : Int) : Nat :=
  let st := if beyondSpan tb then 5 else if extrapolated tb then 4 else if rd c (mkKey (0x3200 + p) 2) < 4 then 1 else 0
  let fld := fieldSource c
  let cold := c.cal.roundCold || (fld && (getPin c p).fieldCold)
  st + 16 * ofBool cold + 32 * ofBool fld + 64 * ofBool (fld && deskewOf c p != (0, 0))

/-- A newly composed bank of a pin, and the CAL_FLAGS it sets (R181, R183, R188). -/
def composeBank (c : Core) (p gen : Nat) (tb : Int) : CorrBank × Nat :=
  let raw := (List.range 20).map (fun path => rawOffset c p path tb)
  let ofs := raw.map (clampInt (-16384) 65535)
  let co := (List.range 8).map (fun g => bankCoarse c p g tb)
  ({ temp := tb, gen := gen, calByte := builtByte c p tb, ofs := ofs, coarse := co.map Prod.fst },
   ofBool (ofs != raw) + 2 * ofBool (co.any Prod.snd))

/-- CAL_BYTE as the pin would latch it now (R194): the bank's, and AGED and STALE_BASIS at this instant. -/
def calByteNow (c : Core) (p : Nat) : Nat :=
  let x := getPin c p
  let b := activeCorr x
  let aged := match x.lastRound with
    | some t => decide (t + rd c (gk 0xB) * 1000000 < c.time)
    | none => false
  let stale := decide (5000 < (tempOf c (p / 16) - b.temp).natAbs)
  let st := max (b.calByte % 16) (if stale then 3 else if aged then 2 else 0)
  b.calByte / 16 * 16 + st

/-- A pin latches its CAL_BYTE at the first vector of a segment (R194). -/
def latchCalByte (c : Core) (p : Nat) : Core := modPin c p (fun x => { x with calByte := calByteNow c p })

/-! ## Rebuilds and swaps (R191 to R195) -/

/-- Put a bank in a pin's shadow. -/
def setShadowCorr (x : Pin) (b : CorrBank) : Pin := if x.corrActiveB then { x with corrA := b } else { x with corrB := b }

/-- The shadow correction bank. -/
def shadowCorr (x : Pin) : CorrBank := if x.corrActiveB then x.corrA else x.corrB

/-- Raise the calibration source of the pin groups of a mask, lowest first. -/
def raiseGroups (c : Core) (groups lvl : Nat) : Core :=
  (setBits groups 16).foldl (fun c g => raise c (208 + g) lvl g) c

/-- The ticks of one epoch: SYNC_PERIOD REFCLK periods of 10 ns. -/
def epochTicks (c : Core) : Nat := c.clk.curPeriod * 40960

/-- Whether a named group epoch lies less than 2 ms ahead (R191). -/
def nearGroupEpoch (c : Core) : Bool :=
  let e := rd c (gk 0xE)
  e != 0 && decide (epochNow c < e) && decide (c.clk.boundary + (e - epochNow c) * epochTicks c < c.stamp + 2000000 * 4096)

/-- Compose a bank of a generation for every pin and place it with `put`; the calibration source raises for each pin group with a
bank that sets OFS_CLAMP or TAP_FAULT, and for each that has come below 15 or above 95 degC (R181, R183, R187). -/
def composeAll (c : Core) (gen : Nat) (put : Pin → CorrBank → Pin) : Core :=
  let one := fun (acc : Core × Nat) p =>
    let (b, fl) := composeBank c p gen (tempOf c (p / 16))
    let c1 := modPin acc.1 p (fun x => put x b)
    let k := mkKey (0x3200 + p) 9
    (if fl = 0 then c1 else wr c1 k (rd c1 k ||| fl), if fl = 0 then acc.2 else setBit acc.2 (p / 16))
  let (c1, faulty) := (List.range 256).foldl one (c, 0)
  let out := (List.range 16).foldl (fun m g => if beyondSpan (tempOf c g) then setBit m g else m) 0
  let entered := out - (out &&& c.cal.outOfSpan)
  raiseGroups (raiseGroups { c1 with cal := { c1.cal with outOfSpan := out } } faulty 1) entered 1

/-- The tracker is to start a rebuild: every shadow bank is composed under the next generation; while one writes, a second follows
it; within 2 ms before a group epoch it is held until that has passed; with TRACK_ENABLE 0 none starts (R190, R191). -/
def startRebuild (c : Core) : Core :=
  if !rdb c (gk 1) then c
  else if c.cal.rebuilding.isSome then { c with cal := { c.cal with rebuildAgain := true } }
  else if nearGroupEpoch c then { c with cal := { c.cal with rebuildHeld := true } }
  else
    composeAll { c with cal := { c.cal with rebuilding := some c.time, rebuildAgain := false, rebuildHeld := false } } (rd c (gk 8) + 1)
      (fun x b => { setShadowCorr x b with measured := [] })

/-- A rebuild that was held for a group epoch starts once no group epoch is near (R191). -/
def startHeld (c : Core) : Core :=
  if c.cal.rebuildHeld ∧ nearGroupEpoch c = false then startRebuild { c with cal := { c.cal with rebuildHeld := false } } else c

/-- A pin swaps to its shadow bank when that is the newer one (R192). -/
def swapPin (c : Core) (p : Nat) : Core :=
  let x := getPin c p
  if (activeCorr x).gen < (shadowCorr x).gen then
    tallyEvent (setPin c p { x with corrActiveB := !x.corrActiveB }) 0xEA
  else c

/-- The pins of a Weaver whose SWAP_READY bit is set swap, unless a rebuild is still writing (R27, R192). -/
def swapWeaver (c : Core) (w : Nat) : Core :=
  if bit (rd c (gk 4)) w ∧ c.cal.rebuilding = none then
    let c1 := (pinsOf c w).foldl swapPin c
    modW (wr c1 (gk 4) (clearBit (rd c1 (gk 4)) w)) w (fun x => { x with swapSince := none, swapRaised := false })
  else c

/-- Whether a Weaver belongs to the swap group (R195); a device without ID is in none (R38). -/
def inSwapGroup (c : Core) (w : Nat) : Bool := !noDeviceId c && bit (rd c (gk 0xD)) w

/-- A permitted point of a Weaver: its pins swap unless it belongs to the swap group (R192). -/
def swapPoint (c : Core) (w : Nat) : Core := if inSwapGroup c w then c else swapWeaver c w

/-- SWAP_READY rises for every Weaver that holds a quad; a wait begins where it was 0 (R191, R193). -/
def raiseReady (c : Core) : Core :=
  (List.range 64).foldl (fun c w =>
    if (quadsOf c w).isEmpty then c
    else if bit (rd c (gk 4)) w then c
    else modW (wr c (gk 4) (setBit (rd c (gk 4)) w)) w (fun x => { x with swapSince := some c.time, swapRaised := false })) c

/-- Whether a quad's pins swap at once: it is unassigned, or its Weaver is IDLE or STOPPED and in no swap group (R192). -/
def quadSwaps (c : Core) (q : Nat) : Bool :=
  let w := quadWeaver c q
  decide (64 ≤ w) || ((wState c w == 0 || wState c w == 4) && !inSwapGroup c w)

/-- The swaps that need no boundary: unassigned pins, and the pins of IDLE and STOPPED Weavers; none while a rebuild writes (R27,
R192). -/
def swapAtOnce (c : Core) : Core :=
  if c.cal.rebuilding.isSome then c
  else
    let c1 := ((List.range 64).filter (quadSwaps c)).foldl (fun c q => [0, 1, 2, 3].foldl (fun c j => swapPin c (4 * q + j)) c) c
    (List.range 64).foldl (fun c w => if wState c w = 0 ∨ wState c w = 4 then swapPoint c w else c) c1

/-- A rebuild completes (R191): the generation rises, SWAP_READY rises, and a second rebuild starts if one is due. -/
def completeRebuild (c : Core) : Core :=
  match c.cal.rebuilding with
  | none => c
  | some _ =>
    let c1 := wr c (gk 8) ((rd c (gk 8) + 1) % 2 ^ 32)
    let again := c1.cal.rebuildAgain
    let c2 := swapAtOnce (raiseReady { c1 with cal := { c1.cal with rebuilding := none, rebuildAgain := false } })
    if again then startRebuild c2 else c2

/-- A swap wait exceeds SWAP_TIMEOUT: raised once per wait (R193). -/
def swapTimedOut (c : Core) (w : Nat) : Core :=
  if bit (rd c (gk 4)) w && !(getW c w).swapRaised then
    raise (bump (modW c w (fun x => { x with swapRaised := true })) (gk 0x10)) 288 1 w
  else c

/-- A write of GROUP_EPOCH (R195); refused without a device ID (R38). -/
def writeGroupEpoch (c : Core) (e : Nat) : Written :=
  if e = 0 then .ok (startHeld (wr c (gk 0xE) 0))
  else guardSt (epochNow c + 2 ≤ e) stEpochPast (guardSt (e ≤ epochNow c + 2 ^ 32) stEpochTooFar
    (guardSt (!noDeviceId c) stStateConflict (.ok (startHeld (wr c (gk 0xE) e)))))

/-- The swap group at its epoch (R195): a member that runs keeps its bank and misses; GROUP_EPOCH then reads 0. -/
def groupSwap (c : Core) : Core :=
  let e := rd c (gk 0xE)
  if e = 0 ∨ epochNow c < e then c
  else if epochNow c = e then
    let c1 := (List.range 64).foldl (fun c w =>
      if inSwapGroup c w && bit (rd c (gk 4)) w then
        if wState c w = 2 ∨ wState c w = 3 then
          raise (bump c (gk 0xF)) (208 + (groupsOf c w).headD 0) 1 w
        else swapWeaver c w
      else c) c
    startHeld (wr c1 (gk 0xE) 0)
  else startHeld (wr c (gk 0xE) 0)

/-! ## Rounds (R189, R190, R197, R198) -/

/-- The largest gap between neighbours of a rising list of instants within [0, len). -/
def largestGap (len : Nat) : List Nat → Nat → Nat → Nat
  | [], prev, g => max g (len - prev)
  | t :: l, prev, g => largestGap len l t (max g (t - prev))

/-- Insert into a rising list. -/
def insertNat (t : Nat) : List Nat → List Nat
  | [] => [t]
  | u :: us => if t ≤ u then t :: u :: us else u :: insertNat t us

/-- EYE_RUN from the stamps of a round, each folded on the slot it fell in (R198). -/
def eyeRun (c : Core) (p : Nat) : Nat :=
  let x := getPin c p
  let w := quadWeaver c (p / 4)
  match (if w < 64 then (getW c w).desc else none) with
  | some d =>
    if x.eye.length < 256 then 0xFFFFFFFF
    else
      let s := d.period / mulOf d
      largestGap s ((x.eye.map (fun t => min t s)).foldl (fun l t => insertNat t l) []) 0 0
  | none => 0xFFFFFFFF

/-- Whether a round counts for a pin (R190). -/
def roundCounts (x : Pin) : Bool :=
  x.resid.any (fun e => decide (64 ≤ e.2.n)) && (setBits x.used 20).all (fun path => decide (64 ≤ (mget {} x.resid path).n))

/-- RESID_RMS and RESID_MAX in fs: 1 tick is 15625/64 fs (R197). -/
def residRms (x : Pin) : Nat :=
  let n := (x.resid.map (fun e => e.2.n)).sum
  let sq := (x.resid.map (fun e => e.2.squares)).sum
  if n = 0 then 0xFFFFFFFF else min (2 ^ 32 - 1) (roundSqrtDiv (sq * 15625 * 15625) (n * 4096))
def residMax (x : Pin) : Nat :=
  min (2 ^ 32 - 1) ((x.resid.foldl (fun m e => max m e.2.largest) 0 * 15625 + 32) / 64)

/-- The end of a round for one pin: drifts, counts and figures; rounds count only in RUN and CALIBRATE (R190, R196 to R198). -/
def roundPin (c : Core) (p : Nat) : Core :=
  let x := getPin c p
  if x.resid = [] ∧ x.used = 0 ∧ x.eye = [] then c
  else
    let drift := x.resid.foldl (fun d e => if 64 ≤ e.2.n then mmod 0 d e.1 (fun v => v + roundDiv e.2.sum e.2.n) else d) x.drift
    let x1 := { x with drift := drift, resid := [], used := 0, eye := [] }
    if roundCounts x && inModes c [.run, .calibrate] then
      let q := 0x3200 + p
      let c1 := wr (wr (wr (wr c (mkKey q 2) ((rd c (mkKey q 2) + 1) % 2 ^ 32)) (mkKey q 3) (residRms x)) (mkKey q 4) (residMax x)) (mkKey q 6) (eyeRun c p)
      setPin c1 p { x1 with lastRound := some c.time }
    else setPin c p x1

/-- Whether a pin's data ask for a rebuild (R191): offsets and temperature against the active bank, CAL_BYTE against the newest bank, as
the events of Table 6-8 have it (log 87). -/
def wantsRebuild (c : Core) (p : Nat) : Bool :=
  let tb := tempOf c (p / 16)
  let x := getPin c p
  let a := activeCorr x
  let newest := if a.gen < (shadowCorr x).gen then shadowCorr x else a
  let (b, _) := composeBank c p a.gen tb
  b.ofs != a.ofs || decide (500 ≤ (tb - a.temp).natAbs) || b.calByte != newest.calByte

/-- What the calibration source gave a path of pin p in a round in CALIBRATE joins the path's figures (R199). -/
def takeSource (c : Core) (p : Nat) (s : SourceResid) : Core :=
  modPin c p (fun x => { x with
    used := setBit x.used s.path.val
    resid := mmod {} x.resid s.path.val (fun r =>
      { n := r.n + s.n, sum := r.sum + s.sum, squares := r.squares + s.squares, largest := max r.largest s.largest }) })

/-- A round in CALIBRATE takes what the calibration source gives it (R199, log 107). -/
def takeSources (c : Core) : Core :=
  let now := c.cal.source.filter (fun e => e.2.round == c.cal.sourceRound)
  now.foldl (fun c e => takeSource c e.1 e.2) { c with cal := { c.cal with sourceRound := c.cal.sourceRound + 1 } }

/-- The end of a tracker round (R190, R191). -/
def roundEnd (c0 : Core) : Core :=
  if rdb c0 (gk 1) then
    let c := if inMode c0 .calibrate then takeSources c0 else c0
    let c1 := (List.range 256).foldl roundPin c
    let cold := c.cal.coldNow || !refwarm c
    let c2 := { c1 with cal := { c1.cal with roundCold := c1.cal.roundCold || cold, coldNow := !refwarm c } }
    if (List.range 256).any (wantsRebuild c2) then startRebuild c2 else startHeld c2
  else c0

/-- TRACK_ENABLE: rounds stop with what they have gathered, and begin anew (R190). -/
def writeTrackEnable (c : Core) (v : Nat) : Core :=
  let c1 := wr c (gk 1) v
  if rd c (gk 1) = v then c1
  else { c1 with
    pins := c1.pins.map (fun e => (e.1, { e.2 with resid := [], used := 0, eye := [] }))
    cal := { c1.cal with coldNow := !refwarm c } }

/-- A residual of a shadow stamp joins its path's figures while rounds run (R189, R190). -/
def addResid (c : Core) (p path : Nat) (e : Int) : Core :=
  let c1 := if rdb c (gk 1) then modPin c p (fun x => { x with resid := mmod {} x.resid path (fun r =>
    { n := r.n + 1, sum := r.sum + e, squares := r.squares + e.natAbs * e.natAbs, largest := max r.largest e.natAbs }) }) else c
  tallyEvent (bump c1 (mkKey (0x3300 + p) 4)) (0x40 + p / 16)

/-! ## Foreground calibration and the field set (R199, R200) -/

/-- CAL_START: foreground calibration runs (R199). -/
def startForeground (c : Core) : Core :=
  let c1 := wr c (gk 7) 1
  { c1 with cal := { c1.cal with fgRunning := true, fgCold := !refwarm c } }

/-- A pin's valid coarse-position tables and its temperature are taken (R183, R185, R199). -/
def takeTables (c : Core) (r : CalResult) : Core :=
  modPin (setTemp c (r.pin.val / 16) r.tempMc) r.pin.val (fun x =>
    { x with measured := (List.range 8).map (fun g => if coarseValid (r.coarse.getD g []) then r.coarse.getD g [] else []) })

/-- Take one pin's measurements: the staged field delta and EYE_CAL. -/
def takeResult (c : Core) (r : CalResult) : Core :=
  let p := r.pin.val
  let delta := (List.range 20).foldl (fun (m : SMap Int) path =>
    mset 0 m path (r.offsets.getD path 0 - interpAt r.tempMc (fun i => Config.factoryOffset p i path))) []
  wr (modPin c p (fun x => { x with staged := delta, stagedCold := c.cal.fgCold })) (mkKey (0x3200 + p) 5) r.eye.toNat

/-- Foreground calibration completes (R199): FAILED if a coarse table breaks R183; drifts are cleared and a rebuild starts. -/
def completeForeground (c : Core) (results : List CalResult) : Core :=
  if c.cal.fgRunning then
    let bad := results.filter (fun r => !((List.range 8).all (fun g => coarseValid (r.coarse.getD g []))))
    let c0 := results.foldl takeTables c
    let c1 := if bad.isEmpty then results.foldl takeResult c0 else c0
    let c2 := (List.range 256).foldl (fun c p =>
      if (getPin c p).drift = [] then c else modPin c p (fun x => { x with drift := [] })) c1
    let flags := fun (c : Core) => if bad.isEmpty then
        (List.range 256).foldl (fun c p => wr c (mkKey (0x3200 + p) 9) 0) c
      else
        bad.foldl (fun c r => let k := mkKey (0x3200 + r.pin.val) 9; wr c k (rd c k ||| 2)) c
    let c3 := wr (flags c2) (gk 7) (if bad.isEmpty then 2 else 3)
    let groups := bad.foldl (fun m r => setBit m (r.pin.val / 16)) 0
    let c4 := raiseGroups { c3 with cal := { c3.cal with
      fgRunning := false, fgDone := c3.cal.fgDone || bad.isEmpty, roundCold := false, coldNow := !refwarm c
      source := results.flatMap (fun r => r.source.map (fun e => (r.pin.val, e))), sourceRound := 0 } } groups 1
    startRebuild c4
  else c

/-- FIELD_COMMIT: the staged delta becomes the field set (R200). -/
def commitField (c : Core) : Written :=
  guardSt c.cal.fgDone stStateConflict (.ok ((List.range 256).foldl (fun c p =>
    let x := getPin c p
    if x.field = x.staged ∧ x.fieldCold = x.stagedCold then c
    else setPin c p { x with field := x.staged, fieldCold := x.stagedCold }) c))

/-- The banks at the end of BOOT: composed with T_B read now and all drifts 0, generation 1 (R196). -/
def bootBanks (c : Core) : Core :=
  composeAll c 1 (fun x b => { x with corrA := b, corrB := b, corrActiveB := false, calByte := b.calByte })

/-! ## Tap query (R182, Table 6-6) -/

/-- The tap word and the cycles of a placement by generator g of a bank (R182). -/
def tapWord (b : CorrBank) (g : Nat) (placed : Int) : Nat :=
  let u := (placed + 16384).toNat
  let r := u % 1024
  let tab := b.coarse.getD g []
  let k := (tab.zipIdx.filter (fun e => e.1 ≤ r)).foldl (fun m e => max m e.2) 0
  let fine := r - tab.getD k 0
  fine % 128 + 128 * k + 65536 * (u / 1024)

/-- A write of TAP_QUERY: it decomposes the written time with the active bank. -/
def writeTapQuery (c : Core) (p v : Nat) : Core :=
  let b := activeCorr (getPin c p)
  wr c (mkKey (0x3300 + p) 6) (tapWord b (bits v 36 3) ((bits v 0 36 : Nat) + ofsOf b (bits v 40 5)) % 2 ^ 64)

end Sys2Proof.Machine
end

