-- ==== Sys2Proof/Machine/Symbols.lean ====
section
/-!
DEFINITION. Sys2Proof/Machine/Symbols.lean: the side-band of a 64-byte unit of HBM and the controller code over it
(11_vector_memory.md R317, R320, Table 11-1).
-/
namespace Sys2Proof.Machine

/-! ## GF(2^8) (log 116) -/

/-- A symbol times alpha, modulo x^8 + x^4 + x^3 + x^2 + 1. -/
def gfDouble (a : Nat) : Nat := if a < 128 then 2 * a else (2 * a) ^^^ 0x11D

/-- The product of a symbol and a number of `n` bits. -/
def gfTimes : Nat → Nat → Nat → Nat
  | 0, _, _ => 0
  | n + 1, a, b => (if b % 2 = 1 then a else 0) ^^^ gfTimes n (gfDouble a) (b / 2)

/-- The product of two symbols. -/
def gfMul (a b : Nat) : Nat := gfTimes 8 a b

/-- alpha to the i. -/
def gfAlpha : Nat → Nat
  | 0 => 1
  | i + 1 => gfDouble (gfAlpha i)

/-! ## The Reed-Solomon code of 68 data symbols and 4 check symbols -/

/-- One data symbol enters the remainder by the generator with roots alpha^0 to alpha^3. -/
def checkStep (r : Nat × Nat × Nat × Nat) (x : Nat) : Nat × Nat × Nat × Nat :=
  let f := x ^^^ r.1
  (r.2.1 ^^^ gfMul f 15, r.2.2.1 ^^^ gfMul f 54, r.2.2.2 ^^^ gfMul f 120, gfMul f 64)

/-- The 4 check symbols of data symbols. -/
def checkSymbols (l : List Nat) : List Nat :=
  let r := l.foldl checkStep (0, 0, 0, 0)
  [r.1, r.2.1, r.2.2.1, r.2.2.2]

/-- Syndrome i of a word. -/
def syndrome (i : Nat) (l : List Nat) : Nat := l.foldl (fun s x => gfMul s (gfAlpha i) ^^^ x) 0

/-- What the code makes of a word of 72 symbols: no error, one wrong symbol with what must be added to it, or an error that it cannot
correct. -/
inductive CodeVerdict where
  | clean
  | one (at_ err : Nat)
  | detected
  deriving DecidableEq, Repr

/-- Decode a word. -/
def decodeWord (l : List Nat) : CodeVerdict :=
  let s := (List.range 4).map (fun i => syndrome i l)
  if s.all (· == 0) then .clean
  else
    let fits := fun (p : Nat) => (List.range 3).all (fun i => s.getD (i + 1) 0 == gfMul (s.getD i 0) (gfAlpha p)) && s.getD 0 0 != 0
    match (List.range 72).find? fits with
    | some p => .one (71 - p) (s.getD 0 0)
    | none => .detected

/-- Add an error to symbol i of a word. -/
def addError (l : List Nat) (e : Nat × Nat) : List Nat := l.modify e.1 (fun x => x ^^^ e.2)

/-- A word as it comes out of the code. -/
def corrected (l : List Nat) : List Nat :=
  match decodeWord l with
  | .one at_ err => addError l (at_, err)
  | _ => l

/-! ## Units (Table 11-1) -/

/-- META of unit u: BLOCK_CRC in unit 0 of a block, TAG_VALID in unit 1. -/
def unitMeta (m : Mem) (u : Nat) : Nat :=
  let tag := mfind m.tags (u / 64)
  if u % 64 = 0 then tag.getD 0 else if u % 64 = 1 then ofBool tag.isSome else 0

/-- The 72 symbols of unit u: its data, META and CHECK. -/
def unitWord (m : Mem) (u : Nat) : List Nat :=
  let data := (readBytes m (64 * u) 64 ++ leBytes 4 (unitMeta m u)).map BitVec.toNat
  data ++ checkSymbols data

/-- Unit u takes the data and META of a word. -/
def putWord (m : Mem) (u : Nat) (l : List Nat) : Mem :=
  let bytes := l.map (BitVec.ofNat 8)
  let m1 := pokeBytes m (64 * u) (bytes.take 64)
  let v := ofLe ((bytes.drop 64).take 4)
  let b := u / 64
  if v = unitMeta m u ∨ 2 ≤ u % 64 then m1
  else if u % 64 = 0 then (if (mfind m.tags b).isSome then { m1 with tags := minsert (merase m.tags b) b v } else m1)
  else if v % 2 = 1 then m1
  else { m1 with tags := merase m.tags b }

end Sys2Proof.Machine
end

