-- ==== Sys2Proof/Machine/Hbm.lean ====
section
/-!
DEFINITION. Sys2Proof/Machine/Hbm.lean: the in-package memory and its controller: address orders, initialisation, training,
checking, power states and the accesses that other units make (11_vector_memory.md R306 to R330).
-/
namespace Sys2Proof.Machine

/-- Object `sub` of the controller (Table 11-5). -/
def hk (sub : Nat) : Key := mkKey 0x5000 sub

/-- Object `sub` of stack s (Table 11-7). -/
def stk (s sub : Nat) : Key := mkKey (0x5010 + s) sub

/-- CAPACITY (Table 11-5). -/
def capacity (c : Core) : Nat := rd c (hk 5)

/-! ## Address orders (R308, R309) -/

/-- The grain G in bytes. -/
def grainBytes (c : Core) : Nat := 256 * 2 ^ c.hbm.grain

/-- The pseudo-channel and the offset of a local HBM address under the order in force (R308, R309). -/
def placeOf (c : Core) (a : Nat) : Nat × Nat :=
  let order := rd c (hk 2)
  if order = 0 then
    let g := grainBytes c
    let u := a / g
    (32 * (u % 4) + u / 4 % 32, u / 128 * g + a % g)
  else
    let healthy := (List.range 4).filter (fun s => s + 1 != order)
    let u := a / 4096
    let k := u % 96
    (32 * (healthy[k % 3]?.getD 0) + k / 3 % 32, u / 96 * 4096 + a % 4096)

/-- The stack that holds a local HBM address. -/
def stackOf (c : Core) (a : Nat) : Nat := (placeOf c a).1 / 32

/-- The banks of a pseudo-channel: at least two. -/
def bankTotal : Nat := Config.bankCount + 2

/-- Bank and row of an offset in a pseudo-channel (R308): the column lies in a span of 2 KiB, and consecutive spans in consecutive
banks (log 117). -/
def bankRow (o : Nat) : Nat × Nat := (o / 2048 % bankTotal, o / 2048 / bankTotal)

/-! ## Whether memory answers (R36, R310, R312, R313, R328) -/

/-- Whether the HBM is active in the mode (R312). -/
def hbmActive (c : Core) : Bool := inModes c [.warm, .calibrate, .run, .service]

/-- Whether the HBM is initialised and under no memory test (R313, R328). -/
def hbmReady (c : Core) : Bool := rd c (hk 0x16) == 2 && rd c (hk 2) != 0xFF && rd c (hk 0x15) != 1

/-- Whether bytes [a, a + n) lie in the HBM's capacity. -/
def inHbm (c : Core) (a n : Nat) : Bool := decide (a + n ≤ capacity c)

/-- Whether bytes [a, a + n) lie in the Yard. -/
def inYard (a n : Nat) : Bool := decide (yardBase ≤ a) && decide (a + n ≤ yardTop)

/-- The status of a DAP access to local bytes (R36, R309, R310, R312, R313, R328). -/
def dapAccess (c : Core) (a n : Nat) : Status :=
  if inYard a n then stOk
  else if hbmTop < a + n then stOutOfRange
  else if !hbmActive c then stWrongMode
  else if !hbmReady c then stStateConflict
  else if !inHbm c a n then stOutOfRange
  else stOk

/-- Whether local bytes answer a remote or a core's access (R39, R310, R312, R313, R328). -/
def localMapped (c : Core) (a n : Nat) : Bool :=
  inYard a n || (inHbm c a n && hbmActive c && hbmReady c)

/-! ## Pages and power (R322, R323) -/

/-- The key of a bank of a pseudo-channel among the open rows. -/
def bankKey (pc bank : Nat) : Nat := pc + 128 * bank

/-- A request to a place in the HBM under a hint: the row that it leaves open, or none after auto-precharge (R322). -/
def openRow (c : Core) (rows : SMap OpenRow) (a : Nat) (hint : PageHint) : SMap OpenRow :=
  let (pc, o) := placeOf c a
  let (bank, row) := bankRow o
  let rest := merase rows (bankKey pc bank)
  match hint with
  | .close => rest
  | h => minsert rest (bankKey pc bank) { row := row, stay := h == .stay, last := c.time }

/-- How long an open row stays without a hit, in ns (R322). -/
def rowStays (c : Core) (r : OpenRow) : Nat := (if r.stay then 4 else 1) * rd c (hk 9)

/-- The row that a bank of a pseudo-channel has open now (R322). -/
def rowNow (c : Core) (pc bank : Nat) : Option Nat :=
  ((mfind c.hbm.rows (bankKey pc bank)).filter (fun r => decide (c.time < r.last + rowStays c r))).map OpenRow.row

/-- A request to bytes [a, a + n) of HBM wakes its pseudo-channels and stacks (R323), and leaves their rows as its page hint says (R322). -/
def touchHbm (c : Core) (a n : Nat) (hint : PageHint) : Core :=
  if hbmTop ≤ a ∨ n = 0 then c
  else
    let at_ := (List.range (n / 256 + 2)).map (fun i => min (a + 256 * i) (a + n - 1))
    let pcs := at_.map (fun x => (placeOf c x).1)
    let c1 := { c with hbm := { c.hbm with
      powerDown := pcs.foldl clearBit c.hbm.powerDown
      rows := at_.foldl (fun m x => openRow c m x hint) c.hbm.rows } }
    pcs.foldl (fun c p => if rd c (stk (p / 32) 3) = 1 ∧ hbmActive c then wr c (stk (p / 32) 3) 0 else c) c1

/-- Every stack leaves self-refresh, as on an accepted LAUNCH (R323). -/
def wakeStacks (c : Core) : Core := [0, 1, 2, 3].foldl (fun c s => wr c (stk s 3) 0) c

/-- A pseudo-channel without requests for PD_IDLE enters power-down (R323). -/
def powerDownEntry (c : Core) (pc : Nat) : Core :=
  if hbmActive c ∧ rd c (hk 0xA) ≠ 0 ∧ rd c (stk (pc / 32) 3) = 0 then
    { c with hbm := { c.hbm with powerDown := setBit c.hbm.powerDown pc } }
  else c

/-- A stack without requests for SR_IDLE enters self-refresh, unless a Weaver is ARMED, RUNNING or HOLDING (R323). -/
def selfRefreshEntry (c : Core) (s : Nat) : Core :=
  let busy := (List.range 64).any (fun w => wState c w == 1 || wState c w == 2 || wState c w == 3)
  if hbmActive c ∧ rd c (hk 0xB) ≠ 0 ∧ !busy then wr c (stk s 3) 1 else c

/-- The refresh of a stack at its temperature: above 85 degC at the doubled rate (R316). -/
def refreshStack (c : Core) (s : Nat) (milliC : Int) : Core :=
  let c1 := wr c (stk s 1) (ofSigned 32 milliC)
  if hbmActive c then wr c1 (stk s 2) (if 85000 < milliC then 1 else 0) else c1

/-! ## Errors (R320) -/

/-- An uncorrectable error of unit u is met: UE_COUNT, UE_LOG, the memory source at L2 (R320). -/
def ueMet (c : Core) (u : Nat) : Core :=
  let c1 := bump c (hk 0xF)
  let c2 := { c1 with hbm := { c1.hbm with ueLog := ((64 * u, c.stamp) :: c1.hbm.ueLog).take 16 } }
  raise (tallyEvent c2 0xE3) (232 + stackOf c (64 * u)) 2 (64 * u)

/-- The units of bytes [a, a + n) that hold an uncorrectable error. -/
def badUnits (m : Mem) (a n : Nat) : List Nat :=
  m.bad.filter (fun u => decide (64 * u < a + n) && decide (a < 64 * u + 64))

/-- A read of bytes: whether they are free of uncorrectable errors, with the errors met (R320). -/
def checkedRead (m : Mem) (c : Core) (a n : Nat) (hint : PageHint) : Bool × Core :=
  let l := badUnits m a n
  (l.isEmpty, l.foldl ueMet (touchHbm c a n hint))

/-- The blocks that bytes [a, a + n) cover in part. -/
def partBlocks (a n : Nat) : List Nat := (blocksOf a n).filter (fun b => decide (4096 * b < a) || decide (a + n < 4096 * b + 4096))

/-- A write of bytes; a block that it covers in part takes a read-modify-write, under CLOSE: units that the write does not cover and that
hold an uncorrectable error are met (R319, R320, Table 11-3). -/
def checkedStore (m : Mem) (c : Core) (a : Nat) (l : List Byte) (hint : PageHint) : Mem × Core :=
  let whole := unitsWithin a l.length
  let met := m.bad.filter (fun u => (blocksOf a l.length).contains (u / 64) && !whole.contains u)
  let c1 := (partBlocks a l.length).foldl (fun c b => touchHbm c (4096 * b) 4096 .close) (touchHbm c a l.length hint)
  (store m a l, met.foldl ueMet c1)

/-- An error of unit u that the code corrects: CE_COUNT, the stack's share, the memory source at L1 (R320). -/
def ceMet (c : Core) (u : Nat) : Core :=
  let s := stackOf c (64 * u)
  raise (tallyEvent (bump (bump c (hk 0xE)) (stk s 7)) 0xE2) (232 + s) 1 (64 * u)

/-- A unit is read with wrong bytes among its 72: the code corrects it, and it is written back; or it detects what it cannot correct,
and the unit keeps its error (R317, R320). -/
def readUnit (m : Mem) (c : Core) (u : Nat) (errors : List (Nat × Nat)) : Mem × Core :=
  let word := errors.foldl addError (unitWord m u)
  match decodeWord word with
  | .clean => (putWord m u word, c)
  | .one at_ err => (putWord m u (addError word (at_, err)), ceMet c u)
  | .detected => ({ m with bad := (m.bad.filter (· < u)) ++ u :: m.bad.filter (fun v => u < v) }, ueMet c u)

/-- What the patrol scrub finds in the next unit: it corrects or logs it and goes on (R320, R321). -/
def scrubNext (m : Mem) (c : Core) (found : ScrubFound) : Mem × Core :=
  if rd c (hk 0xD) = 0 ∨ !hbmActive c ∨ !hbmReady c then (m, c)
  else
    let u := c.hbm.scrub
    let next := if capacity c ≤ 64 * (u + 1) then 0 else u + 1
    let c1 := touchHbm c (64 * u) 64 .close
    let c2 := { c1 with hbm := { c1.hbm with scrub := next } }
    let c3 := if found.onDie then bump c2 (hk 0x10) else c2
    if m.bad.contains u then (m, ueMet c3 u) else readUnit m c3 u (found.errors.map (fun e => (e.1.val, e.2.toNat)))

/-! ## Best-effort requests (R315, R327) -/

/-- The field of BE_WEIGHTS of a class (Table 11-6), which also orders the classes. -/
def BeClass.field : BeClass → Nat
  | .sawyer => 0
  | .stream => 1
  | .host => 2
  | .remote => 3
  | .maint => 4

/-- The bytes a class may send at each of its turns: 64 for each unit of its weight (log 118). -/
def beQuantum (c : Core) (k : Nat) : Nat := 64 * bits (rd c (hk 0xC)) (8 * k) 8

/-- The oldest request of a class that waits. -/
def beHead (c : Core) (k : Nat) : Option BestEffort := c.hbm.waiting.find? (fun r => r.cls.field == k)

/-- Deficit round-robin over the classes that have requests: the request served next, with the turn and the deficits after it. -/
def bePick (c : Core) : Nat → Nat → SMap Nat → Option (BestEffort × Nat × SMap Nat)
  | 0, _, _ => none
  | n + 1, k, d =>
    let on := (k + 1) % 5
    let topped := fun (d : SMap Nat) => if (beHead c on).isSome then mset 0 d on (mget 0 d on + beQuantum c on) else d
    match beHead c k with
    | none => bePick c n on (topped (mset 0 d k 0))
    | some r => if r.bytes ≤ mget 0 d k then some (r, k, mset 0 d k (mget 0 d k - r.bytes)) else bePick c n on (topped d)

/-- Rounds enough for the largest request that waits. -/
def beRounds (c : Core) : Nat := 5 * ((c.hbm.waiting.map BestEffort.bytes).foldl max 0 / 64 + 2)

/-- A request leaves the queue; its hart waits no longer. -/
def beTake (c : Core) (r : BestEffort) (turn : Nat) (d : SMap Nat) : Core :=
  let c1 := { c with hbm := { c.hbm with waiting := c.hbm.waiting.erase r, turn := turn, deficits := d } }
  match r.hart with
  | some n => { c1 with harts := mset {} c1.harts n { mget {} c1.harts n with waits := none } }
  | none => c1

/-- The best-effort request that the controller serves next, once no retrain keeps it waiting (R315, R327). -/
def nextBest (c : Core) : Option (Instr × Core) :=
  if c.hbm.training then none
  else (bePick c (beRounds c) c.hbm.turn c.hbm.deficits).map (fun p => (p.1.cmd, beTake c p.1 p.2.1 p.2.2))

/-- Whether a request to bytes [a, a + n) must wait: a retrain runs, and the bytes are of the HBM (R315). -/
def beMustWait (c : Core) (a n : Nat) : Bool := c.hbm.training && decide (a < hbmTop) && n != 0

/-- A request joins those that wait; the hart that makes it waits too. -/
def beWait (c : Core) (r : BestEffort) : Core :=
  let c1 := { c with hbm := { c.hbm with waiting := c.hbm.waiting ++ [r] } }
  match r.hart with
  | some n => { c1 with harts := mset {} c1.harts n { mget {} c1.harts n with waits := some .memory } }
  | none => c1

/-! ## Initialisation, training and test (R310, R311, R313 to R315, R328) -/

/-- The HBM lists nothing: every unit zero with TAG_VALID 0, and no error (R313). -/
def clearHbm (m : Mem) : Mem :=
  { cells := m.cells.filter (fun e => decide (hbmTop ≤ e.1)), tags := [], bad := [] }

/-- Whether a stack is degraded (R310). -/
def degraded (c : Core) (s : Nat) : Bool := rd c (stk s 4) != 0 || bit (rd c (hk 4)) s

/-- Choose the order and what follows from it (R308 to R310, R324). -/
def selectOrder (c : Core) : Core :=
  let bad := (List.range 4).filter (degraded c)
  let order := match bad with
    | [] => 0
    | [x] => 1 + x
    | _ => 0xFF
  let health := (List.range 4).foldl (fun h s => putBit h s (!degraded c s)) 0
  let cap := if order = 0 then 2 ^ 38 else if order = 0xFF then 0 else 192 * 2 ^ 30
  let fetch := if order = 0 then 1250 else if order = 0xFF then 0 else 937
  let capture := if order = 0 then 250 else if order = 0xFF then 0 else 187
  let c1 := wr (wr (wr (wr (wr c (hk 2) order) (hk 3) health) (hk 5) cap) (hk 6) fetch) (hk 8) capture
  { c1 with hbm := { c1.hbm with grain := rd c1 (hk 1), scrub := 0 } }

/-- The first entry to a mode that initialises, or a REINIT, starts initialisation in the background (R313). -/
def startInit (c : Core) : Core := wr c (hk 0x16) 1

/-- Results of a training of the stacks: failed pseudo-channels and repaired lanes (Table 11-7). -/
def takeTraining (c : Core) (training : List StackTraining) : Core :=
  (training.zip (List.range 4)).foldl (fun c e =>
    wr (wr c (stk e.2 4) e.1.failed.toNat) (stk e.2 6) e.1.lanes.toNat) c

/-- Initialisation completes: training results unless they are held already, the order, and cleared contents (R313). -/
def initComplete (m : Mem) (c : Core) (training : List StackTraining) : Mem × Core :=
  if rd c (hk 0x16) ≠ 1 then (m, c)
  else
    let c1 := if c.hbm.trained then c else takeTraining c training
    let c2 := selectOrder { c1 with hbm := { c1.hbm with trained := true } }
    let c3 := wr c2 (hk 0x16) 2
    (if rd c3 (hk 2) = 0xFF then m else clearHbm m, c3)

/-- A write of REINIT (R311): refused while INIT_STATE reads RUNNING and while a memory test runs. -/
def writeReinit (c : Core) : Written :=
  guardSt (rd c (hk 0x16) != 1 && rd c (hk 0x15) != 1) stStateConflict (.ok (startInit c))

/-- A write of TRAIN_START (R315). -/
def writeTrainStart (c : Core) : Written := .ok { wr c (hk 0x13) 1 with hbm := { c.hbm with training := true } }

/-- The retrain completes and keeps the contents (R315). -/
def trainComplete (c : Core) (training : List StackTraining) : Core :=
  if !c.hbm.training then c
  else
    let c1 := takeTraining c training
    let failed := training.any (fun t => t.failed != 0)
    { wr c1 (hk 0x13) (if failed then 3 else 2) with hbm := { c1.hbm with training := false } }

/-- A write of MEM_TEST (R328). -/
def writeMemTest (m : Mem) (c : Core) : Status × (Mem × Core) :=
  if rd c (hk 0x15) = 1 ∨ rd c (hk 0x16) ≠ 2 then (stStateConflict, (m, c))
  else (stOk, (clearHbm m, wr c (hk 0x15) 1))

/-- The memory test completes: PC_ERRORS of each stack, TAG_VALID 0 everywhere (R328). -/
def memTestComplete (m : Mem) (c : Core) (errors : List (BitVec 32)) : Mem × Core :=
  if rd c (hk 0x15) ≠ 1 then (m, c)
  else
    let c1 := (errors.zip (List.range 4)).foldl (fun c e => wr c (stk e.2 5) e.1.toNat) c
    (clearHbm m, wr c1 (hk 0x15) (if errors.any (fun e => e != 0) then 3 else 2))

/-- An exit from self-refresh with its fast retrain (R314): a stack that fails raises L3, and initialisation restarts with the
new order. -/
def fastRetrain (c : Core) (retrain : List StackTraining) : Core :=
  let failed := (retrain.zip (List.range 4)).filter (fun e => e.1.failed != 0)
  let c1 := wakeStacks c
  if failed.isEmpty ∨ rd c (hk 0x16) = 0 then c1
  else
    let c2 := failed.foldl (fun c e =>
      raise (wr c (stk e.2 4) (rd c (stk e.2 4) ||| e.1.failed.toNat)) (232 + e.2) 3 e.2) c1
    startInit c2

/-- The stacks enter self-refresh on leaving the modes of R312, and initialisation or a fast retrain follows an entry to them
(R312 to R314). -/
def hbmModeEntry (c : Core) (was now : Bool) (initMode : Bool) (retrain : List StackTraining) : Core :=
  if now ∧ !was then
    let c1 := if rd c (hk 0x16) = 2 then fastRetrain c retrain else wakeStacks c
    if rd c1 (hk 0x16) = 0 ∧ initMode then startInit c1 else c1
  else if was ∧ !now then [0, 1, 2, 3].foldl (fun c s => wr c (stk s 3) 1) c
  else c

end Sys2Proof.Machine
end

