-- ==== Sys2Proof/Machine/Link.lean ====
section
/-!
DEFINITION. Sys2Proof/Machine/Link.lean: the Withy links: flits, credit, the replay buffer, messages, routes
(13_withy_multidevice.md R363 to R371, R388).
-/
namespace Sys2Proof.Machine

def getLink (c : Core) (l : Nat) : Link := mget {} c.links l
def setLink (c : Core) (l : Nat) (x : Link) : Core := { c with links := mset {} c.links l x }
def modLink (c : Core) (l : Nat) (f : Link → Link) : Core := setLink c l (f (getLink c l))

/-- Object `sub` of link l (Table 13-6). -/
def lk (l sub : Nat) : Key := mkKey (0x6000 + l) sub

/-- Whether a link is UP or UP_ONE_LANE. -/
def linkUp (c : Core) (l : Nat) : Bool := 2 ≤ rd c (lk l 2)

/-- The links that are UP, lowest first. -/
def upLinks (c : Core) : List Nat := (List.range 8).filter (linkUp c)

/-! ## Flits (Table 13-1) -/

/-- The 256 bytes of a flit of a link as it stands: KIND, FSEQ and slots. -/
def flitBytes (x : Link) (kind fseq : Nat) (slots : List Slot) : List Byte :=
  let credit := fun vc => min 255 (mget 0 x.freed vc)
  sealCrc (leBytes 252 (packFields ([(12, fseq), (12, (x.expect + 4095) % 4096), (2, kind), (6, 0),
    (8, credit 0), (8, credit 1), (8, credit 2), (8, credit 3)] ++ slots.map (fun s => (128, s.toNat)))))

/-- A received flit's 252 bytes before its CRC (R366). -/
def receivedBytes (kind : Nat) (f : Flit) : List Byte :=
  leBytes 252 (packFields ([(12, f.fseq.toNat), (12, f.ack.toNat), (2, kind), (6, 0), (8, f.credit0.toNat),
    (8, f.credit1.toNat), (8, f.credit2.toNat), (8, f.credit3.toNat)] ++ f.slots.map (fun s => (128, s.toNat))))

/-- Whether a received flit's CRC-32C is correct (R366, R367). -/
def flitGood (kind : Nat) (f : Flit) : Bool := crc32c (receivedBytes kind f) == f.crc

/-- The credit a flit carries leaves the freed counts. -/
def creditTaken (x : Link) : SMap Nat :=
  [0, 1, 2, 3].foldl (fun m vc => mset 0 m vc (mget 0 m vc - min 255 (mget 0 m vc))) x.freed

/-- Send a flit on a link: KIND, FSEQ and slots; it carries the ACK and the credit that stand (R366, R367). -/
def sendFlit (c : Core) (l kind fseq : Nat) (slots : List Slot) : Core :=
  let x := getLink c l
  let c1 := emit c (.flit l kind fseq (flitBytes x kind fseq slots))
  setLink c1 l { x with freed := creditTaken x, acked := (x.expect + 4095) % 4096 }

/-- Send a new DATA flit: it stays in the replay buffer until an ACK covers it (R367). -/
def sendData (c : Core) (l : Nat) (slots : List Slot) : Core :=
  let x := getLink c l
  let c1 := sendFlit c l 0 x.next slots
  modLink c1 l (fun y => { y with
    next := (x.next + 1) % 4096
    progress := if x.replay.isEmpty then c.time else x.progress
    replay := x.replay ++ [{ fseq := x.next, slots := slots, replays := 0 }] })

/-! ## Messages (Tables 13-2 and 13-3) -/

/-- The virtual channel of a message type (Table 13-2); relayed DAP replies travel on VC2. -/
def vcOf (ty : Nat) : Nat :=
  if ty = 6 ∨ ty = 7 then 0 else if ty = 1 ∨ ty = 2 ∨ ty = 5 then 1 else if ty = 3 ∨ ty = 4 then 2 else 3

/-- The partner's receive buffer of a virtual channel in slots (Table 13-2). -/
def vcRoom (vc : Nat) : Nat := if vc = 0 then 64 else if vc = 3 then 2048 else 1024

/-- A message header (Table 13-3). -/
def headerSlot (ty src dst len : Nat) (flood block : Bool) (tag addr status size : Nat) : Slot :=
  BitVec.ofNat 128 (packFields [(4, ty), (4, 0), (14, src), (14, dst), (5, len), (1, ofBool flood), (1, ofBool block), (5, 0),
    (16, tag), (48, addr), (8, status), (8, size)])

/-- Body bytes as whole slots, the last padded with zeros. -/
def slotsOf (l : List Byte) : List Slot :=
  (List.range ((l.length + 15) / 16)).map (fun i => BitVec.ofNat 128 (leAt l (16 * i) 16))

/-- The bytes of slots. -/
def slotBytes (l : List Slot) : List Byte := l.flatMap (fun s => leBytes 16 s.toNat)

/-- Slots cut into flits of 15, the last padded with empty slots. -/
def cutFlits : Nat → List Slot → List (List Slot)
  | 0, _ => []
  | _, [] => []
  | n + 1, l =>
    let h := l.take 15
    (h ++ List.replicate (15 - h.length) 0) :: cutFlits n (l.drop 15)

/-- Whether a message fits the credit and the replay buffer of a link (R367, R369). -/
def fitsLink (x : Link) (vc : Nat) (slots : List Slot) : Bool :=
  mget 0 x.inUse vc + slots.length ≤ vcRoom vc && x.replay.length + (slots.length + 14) / 15 ≤ 1024

/-- Put a message's flits on a link. -/
def putMessage (c : Core) (l vc : Nat) (slots : List Slot) : Core :=
  let c1 := modLink c l (fun x => { x with inUse := mset 0 x.inUse vc (mget 0 x.inUse vc + slots.length) })
  (cutFlits slots.length slots).foldl (fun c f => sendData c l f) c1

/-- Send a message on a link, or let it wait for credit or for the replay buffer behind those of its channel (R369). -/
def sendSlots (c : Core) (l vc : Nat) (slots : List Slot) : Core :=
  let x := getLink c l
  if x.waiting.any (fun e => e.1 == vc) || !fitsLink x vc slots then
    setLink c l { x with waiting := x.waiting ++ [(vc, slotBytes slots)] }
  else putMessage c l vc slots

/-- The first waiting message of a channel that fits. -/
def firstFit (x : Link) (vc : Nat) : Option (Nat × List Byte) :=
  (x.waiting.find? (fun e => e.1 == vc)).bind (fun e => if fitsLink x vc (slotsOf e.2) then some e else none)

/-- The order in which the channels of a link are served: VC0 before all, the others in round-robin after the one served last (R369). -/
def vcOrder (x : Link) : List Nat := 0 :: [0, 1, 2].map (fun i => 1 + (x.turn + i) % 3)

/-- Send waiting messages that credit now admits, channel after channel (R369). -/
def pumpLink : Nat → Core → Nat → Core
  | 0, c, _ => c
  | n + 1, c, l =>
    let x := getLink c l
    match (vcOrder x).filterMap (firstFit x) with
    | [] => c
    | e :: _ =>
      let y := { x with waiting := x.waiting.erase e, turn := if e.1 = 0 then x.turn else e.1 % 3 }
      pumpLink n (putMessage (setLink c l y) l e.1 (slotsOf e.2)) l

/-- The link that ROUTE names for a device, if any (R371). -/
def routeOf (c : Core) (d : Nat) : Option Nat :=
  match (dom c (mkKey 0x6022 1))[d]? with
  | some b => if b.toNat < 8 then some b.toNat else none
  | none => none

/-- A message as slots: a header and its body; a body of more than 16 slots goes in parts, each under a header whose SIZE counts
them (log 47). -/
def messageSlots (ty src dst : Nat) (block : Bool) (tag addr status size : Nat) (body : List Byte) : List Slot :=
  let slots := slotsOf body
  (List.range (max 1 ((slots.length + 15) / 16))).flatMap (fun i =>
    let part := (slots.drop (16 * i)).take 16
    headerSlot ty src dst part.length false block tag addr status (size + i) :: part)

/-- Send a message of device `src` to a device by its route; answers whether it left (R371). -/
def sendFrom (c : Core) (ty vc src dst : Nat) (block : Bool) (tag addr status size : Nat) (body : List Byte) : Core × Bool :=
  match routeOf c dst with
  | some l => if linkUp c l then (sendSlots c l vc (messageSlots ty src dst block tag addr status size body), true) else (c, false)
  | none => (c, false)

/-- Send an own message to a device by its route (R371). -/
def sendTo (c : Core) (ty vc dst : Nat) (block : Bool) (tag addr status size : Nat) (body : List Byte) : Core × Bool :=
  sendFrom c ty vc (deviceId c) dst block tag addr status size body

/-- A message has been taken from a link's receive buffer: its slots are freed for the partner (R369). -/
def takeSlots (c : Core) (l vc n : Nat) : Core :=
  modLink c l (fun x => { x with rx := x.rx.drop n, freed := mset 0 x.freed vc (mget 0 x.freed vc + n) })

/-- The body slots of a received message. -/
def msgSlots (m : Msg) : Nat := (m.body.length + 15) / 16

/-! ## Receiving flits (R366, R367) -/

/-- How far an ACK covers a replay buffer: the flits that remain. -/
def ackFlits (l : List SentFlit) (ack : Nat) : List SentFlit :=
  match l.findIdx? (fun f => f.fseq == ack) with
  | some i => l.drop (i + 1)
  | none => l

/-- What every flit with a correct CRC tells: its ACK and its credit, and that the link is heard (R366 to R368). -/
def heardFlit (c : Core) (l : Nat) (f : Flit) : Core :=
  let x := getLink c l
  let rest := ackFlits x.replay f.ack.toNat
  let freeVc := fun (m : SMap Nat) (e : Nat × Nat) => mset 0 m e.1 (mget 0 m e.1 - e.2)
  let use := [(0, f.credit0.toNat), (1, f.credit1.toNat), (2, f.credit2.toNat), (3, f.credit3.toNat)].foldl freeVc x.inUse
  let x1 := { x with
    replay := rest
    inUse := use
    heard := some c.time
    progress := if rest.length < x.replay.length then c.time else x.progress }
  pumpLink (x1.waiting.length) (setLink c l x1) l

/-- Take a link DOWN: DOWN_EVENTS, the link source at L1, its replay buffer dropped (R368). -/
def linkFell (c : Core) (l : Nat) : Core :=
  let c1 := wr (wr (wr (wr c (lk l 2) 0) (lk l 3) 0xFFFF) (lk l 4) 0xFF) (lk l 5) 0
  let c2 := setLink (bump c1 (lk l 8)) l { (getLink c l) with
    level := 0, next := 0, expect := 0, replay := [], nakSent := false, rx := [], freed := [], inUse := [], waiting := [] }
  raise (tallyEvent c2 0xEF) (224 + l) 1 l

/-- Replay from the first unacknowledged flit: the link has then replayed each of them once more (R367). -/
def replayFlits (c : Core) (l : Nat) : Core :=
  let x := getLink c l
  let again := x.replay.map (fun f => { f with replays := f.replays + 1 })
  let n := again.length
  let c1 := setLink c l { x with replay := again, progress := c.time }
  let c2 := tallyEvents (bumpBy c1 (lk l 6) n) (0x60 + l) n
  again.foldl (fun c f => sendFlit c l 0 f.fseq f.slots) c2

end Sys2Proof.Machine
end

