-- ==== Sys2Proof/Machine/Ring.lean ====
section
/-!
DEFINITION. Sys2Proof/Machine/Ring.lean: the rings of streams, the mirroring of items to the buddy, and the
advance of journal pointers (07_capture_credit.md R209, R220; 13_withy_multidevice.md R383 to R386;
15_integrity_faults.md R413, R414, R419).
-/
namespace Sys2Proof.Machine

/-! ## Rings (R220) -/

/-- The ring units that hold records not yet acknowledged. -/
def ringUsed (st : Stream) : Nat := (st.ring.map RingRec.units).sum

/-- RING_FREE of a stream (Table 7-8). -/
def ringFree (c : Core) (n : Nat) : Nat := (streamEntry c n).ringUnits - ringUsed (getStream c n)

/-- The address of ring unit `pos`. -/
def ringAddr (e : StreamEntry) (pos : Nat) : Nat := e.ringBase + 32 * (pos % e.ringUnits)

/-- Write a record's units from a ring position (log 25). -/
def storeUnits (m : Mem) (c : Core) (e : StreamEntry) (pos : Nat) (hint : PageHint) : Nat → List Byte → Mem × Core
  | 0, _ => (m, c)
  | k + 1, l =>
    let (m1, c1) := checkedStore m c (ringAddr e pos) (l.take 32) hint
    storeUnits m1 c1 e (pos + 1) hint k (l.drop 32)

/-- The page hint of a ring write: OPEN for capture, AUTO for the records of an acquisition (Table 11-3). -/
def ringHint (bytes : List Byte) : PageHint := if 0xA ≤ recKind bytes ∧ recKind bytes ≤ 0xD then .auto else .stay

/-- The bytes of a record held in a ring. -/
def ringBytes (m : Mem) (e : StreamEntry) (r : RingRec) : List Byte :=
  (List.range r.units).flatMap (fun k => readBytes m (ringAddr e (r.pos + k)) 32)

/-- Write a record into the ring of its stream, in sequence order (R220). -/
def ringWrite (m : Mem) (c : Core) (n seq : Nat) (bytes : List Byte) : Mem × Core :=
  let e := streamEntry c n
  let st := getStream c n
  let units := unitsOf bytes
  let r : RingRec := { seq := seq, pos := st.ringPos, units := units }
  let (m1, c1) := storeUnits m c e st.ringPos (ringHint bytes) units bytes
  (m1, setStream c1 n { st with ringPos := (st.ringPos + units) % max 1 e.ringUnits, ring := st.ring ++ [r] })

/-! ## Mirroring (R383 to R385) -/

/-- Object `sub` of the buddy pair (Table 13-9). -/
def bk (sub : Nat) : Key := mkKey 0x6010 sub

/-- PAIR_STATE: 0 UNPAIRED, 1 MIRRORED, 2 UNMIRRORED, 3 PARTNER_LOST, 4 SERVING_PARTNER, 5 FENCED. -/
def pairState (c : Core) : Nat := rd c (bk 7)

/-- The lowest-numbered link of MIRROR_LINKS that is UP (R383). -/
def mirrorLink (c : Core) : Option Nat := (upLinks c).find? (fun l => bit (rd c (bk 2)) l)

/-- The code of an item kind in a MIRROR or CONFIRM message (log 30). -/
def itemCode : ItemKind → Nat
  | .record => 0
  | .job => 1
  | .journal => 2

/-- The owner's highest acknowledged sequence of the stream or boom of an item (R384). -/
def itemAcked (c : Core) (it : MirrorItem) : Nat :=
  match it.kind with
  | .record => (getStream c it.id.toNat).acked
  | .job => (mget {} c.booms it.id.toNat).head
  | .journal => 0

/-- Send an item to the buddy over the mirror link (R383, R384). -/
def sendMirror (c : Core) (it : MirrorItem) : Core :=
  match mirrorLink c with
  | some l =>
    let body := slotsOf it.bytes
    let h := headerSlot 8 (deviceId c) (rd c (bk 1)) body.length false false it.id.toNat (itemAcked c it) 0 (itemCode it.kind)
    sendSlots c l 3 (h :: body)
  | none => c

/-- Let an item wait for its CONFIRM. -/
def awaitConfirm (c : Core) (it : MirrorItem) : Core :=
  let since := if c.buddy.waiting.isEmpty then c.time else c.buddy.lastConfirm
  { c with buddy := { c.buddy with waiting := c.buddy.waiting ++ [it], lastConfirm := since } }

/-- Mirror an item: it waits for its CONFIRM and is sent (R384). -/
def mirrorOut (c : Core) (kind : ItemKind) (id seq : Nat) (bytes : List Byte) : Core :=
  let it : MirrorItem := { kind := kind, id := BitVec.ofNat 16 id, sequence := BitVec.ofNat 48 seq, bytes := bytes }
  sendMirror (awaitConfirm (if kind = .record then tallyEvent c 0xD8 else c) it) it

/-- An item made while the pair is not MIRRORED: it is mirrored first when the pair returns (R385). -/
def laterItem (c : Core) (kind : ItemKind) (id seq : Nat) (bytes : List Byte) : Core :=
  let it : MirrorItem := { kind := kind, id := BitVec.ofNat 16 id, sequence := BitVec.ofNat 48 seq, bytes := bytes }
  if rd c (bk 1) = 0xFFFF then c else { c with buddy := { c.buddy with later := c.buddy.later ++ [it] } }

/-- Whether an item of a stream or boom still awaits its CONFIRM. -/
def awaits (c : Core) (kind : ItemKind) (id : Nat) : Bool :=
  c.buddy.waiting.any (fun it => it.kind == kind && it.id.toNat == id)

/-! ## The journal pointer (R22, R419) -/

/-- RUN of a record: bits [201:154] of a segment record (Table 7-4), RUN_LO of an acquisition's (R271). -/
def recRun (bytes : List Byte) : Nat :=
  if recKind bytes = 0xA then bits (leAt bytes 0 28) 138 16 else bits (leAt bytes 0 28) 154 48

/-- The sites of an armed launch whose first record has passed, and all of them. -/
def armedSites (a : Nat × Nat × Nat × Nat) : Nat × Nat := (a.2.1 / 256, a.2.1 % 256)

/-- The site of an armed launch that a stream is, if any. -/
def armedSite (a : Nat × Nat × Nat × Nat) (n : Nat) : Option Nat :=
  (setBits (armedSites a).2 8).find? (fun s => (a.1 + s) % 2 ^ 16 == n)

/-- A SEGMENT_START or a REJECTED SEGMENT_END of a stream is passed; LAUNCH_RETIRED waits for the journal once every
enabled site stream of the armed launch has passed its own (R419). -/
def passArmed (c : Core) (n : Nat) : Core :=
  match c.journal.armed.find? (fun e => (armedSite e.2 n).isSome) with
  | some (w, a) =>
    let (passed, all) := armedSites a
    let now := setBit passed ((armedSite a n).getD 0)
    if now = all then
      journalWait { c with journal := { c.journal with armed := merase c.journal.armed w } }
        { kind := 7, id := w, value := 0, open_ := false, run := 0, since := c.time, tie := (setBits all 8).map (fun s => (a.1 + s) % 2 ^ 16) }
    else { c with journal := { c.journal with armed := mset (0, 0, 0, 0) c.journal.armed w (a.1, all + 256 * now, a.2.2) } }
  | none => c

/-- A stream's pointer may pass a record: its STREAM_JOURNAL entry waits for the journal, with the run left open at the
pointer (R22, Table 15-3). -/
def coverStream (c : Core) (n seq : Nat) (bytes : List Byte) : Core :=
  let kind := recKind bytes
  let st := getStream c n
  let openRun := if kind = 8 ∨ kind = 0xA then some (recRun bytes) else if (kind = 9 ∧ recRun bytes ≠ 0) ∨ kind = 0xD then none else st.openRun
  let c1 := setStream c n { st with openRun := openRun, acqOpen := kind == 0xA || (st.acqOpen && kind != 0xD), confirmed := max st.confirmed seq }
  let c2 := journalAdd c1 1 n seq openRun.isSome (openRun.getD 0)
  if kind = 8 ∨ (kind = 9 ∧ recRun bytes = 0) then passArmed c2 n else c2

/-- A record stands in its ring or in the Landing with its CRC: it is mirrored where its stream is mirrored, else its
pointer waits for the journal (R22, R384, R385). -/
def recordStands (c : Core) (n seq : Nat) (bytes : List Byte) : Core :=
  if (streamEntry c n).mirror then
    if pairState c = 1 then mirrorOut c .record n seq bytes
    else
      coverStream (laterItem (bump c (bk 0xB)) .record n seq bytes) n seq bytes
  else coverStream c n seq bytes

/-! ## Failed checks (R413, R414) -/

/-- Count a failed check of a checkpoint: 0 placement, 1 buddy, 2 egress, 3 delivery (0x7800:05). -/
def countCrcFail (c : Core) (point : Nat) : Core :=
  let k := mkKey 0x7800 5
  let t := padTo 32 (dom c k)
  let v := (leAt t (8 * point) 8 + 1) % 2 ^ 64
  tallyEvent (setDom c k (t.take (8 * point) ++ leBytes 8 v ++ t.drop (8 * point + 8))) 0xE0

/-- A VOID record of a device's stream and sequence (R414): POINT 1 PLACEMENT, 2 BUDDY, 3 EGRESS. -/
def voidOf (c : Core) (device n seq point : Nat) : List Byte :=
  oneUnit ([(4, 6), (14, device)] ++ (commonFields c 6 n seq 0 0).drop 2 ++ [(8, point)])

/-- A VOID record of an own stream. -/
def voidRecord (c : Core) (n seq point : Nat) : List Byte := voidOf c (deviceId c) n seq point

/-- A good copy has replaced a failed one: RECOVERED and the INTEGRITY source at L1 (R413). -/
def recoveredCopy (c : Core) (seq : Nat) : Core := raise (bump c (mkKey 0x7800 6)) 303 1 seq

/-- No copy passes: VOID_RECORDS and the INTEGRITY source at L2, scoped to the producing Weavers (R413). -/
def voided (c : Core) (seq : Nat) (given : List Nat) : Core :=
  raiseFor (tallyEvent (bump c (mkKey 0x7800 7)) 0xE1) 303 2 seq given

end Sys2Proof.Machine
end

