-- ==== Sys2Proof/Machine/Boom.lean ====
section
/-!
DEFINITION. Sys2Proof/Machine/Boom.lean: booms, their entries, tasks and commits, the deficit round-robin of the
scheduler, migration and re-run (12_sawyer_scheduler.md R341 to R359; 15_integrity_faults.md R415).
-/
namespace Sys2Proof.Machine

/-! ## Descriptors (Table 12-5) -/

def setBoom (c : Core) (q : Nat) (x : Boom) : Core := { c with booms := mset {} c.booms q x }
def modBoom (c : Core) (q : Nat) (f : Boom → Boom) : Core := setBoom c q (f (getBoom c q))

def bdRingBase (d : Nat) : Nat := bits d 0 40
def bdRingLog2 (d : Nat) : Nat := bits d 40 5
def bdGroup (d : Nat) : Nat := bits d 45 6
def bdParallel (d : Nat) : Bool := bit d 54
def bdResEn (d : Nat) : Bool := bit d 55
def bdResEach (d : Nat) : Bool := bit d 56
def bdRecIdempotent (d : Nat) : Bool := bit d 57
def bdStreamOut (d : Nat) : Bool := bit d 58
def bdResultBoom (d : Nat) : Nat := bits d 64 16
def bdStream (d : Nat) : Nat := bits d 80 16
def bdBatch (d : Nat) : Nat := bits d 96 5
def bdResMax (d : Nat) : Nat := bits d 101 3
def bdInflightMax (d : Nat) : Nat := bits d 104 7
def bdPlacement (d : Nat) : Nat := bits d 128 16

/-- A number with field [lo + len - 1 : lo] set. -/
def putField (d lo len v : Nat) : Nat := d - bits d lo len * 2 ^ lo + v % 2 ^ len * 2 ^ lo

/-- The codes of SOURCE. -/
def srcCore : Nat := 0
def srcHost : Nat := 2
def srcResult : Nat := 3

/-- TAIL of a boom; a stream boom's numbers are its stream's (R342). -/
def boomTail (c : Core) (q : Nat) : Nat :=
  let b := getBoom c q
  if bdStreamOut b.desc then (getStream c (bdStream b.desc)).next - 1 else b.tail

/-- HEAD of a boom; the ring of a stream boom frees under R220. -/
def boomHead (c : Core) (q : Nat) : Nat :=
  let b := getBoom c q
  if bdStreamOut b.desc then (getStream c (bdStream b.desc)).acked else b.head

/-- The free entries of a boom beyond its reservations (R349). -/
def boomFree (c : Core) (q : Nat) : Nat :=
  let b := getBoom c q
  if bdStreamOut b.desc then ringFree c (bdStream b.desc) / 2 - b.lent
  else 2 ^ bdRingLog2 b.desc - (b.tail - b.head) - b.lent

/-- The address of entry s (R341). -/
def entryAddr (d s : Nat) : Nat := bdRingBase d + 64 * (s % 2 ^ bdRingLog2 d)

/-- The bytes of entry s of a boom. -/
def entryBytes (m : Mem) (b : Boom) (s : Nat) : List Byte := readBytes m (entryAddr b.desc s) 64

/-! ## Entries (R344, Table 12-6) -/

/-- The STREAM field of a made entry: the boom number, or the stream in a stream boom (R344). -/
def entryStream (c : Core) (q : Nat) : Nat :=
  let b := getBoom c q
  if bdStreamOut b.desc then bdStream b.desc else q

/-- What a job, result or outcome entry holds beside the common fields. -/
structure EntryBody where
  srcBoom : Nat := 0
  srcSeq : Nat := 0
  outcome : Nat := 0
  cause : Nat := 0
  last : Bool := false
  idem : Bool := false
  rerun : Bool := false
  placement : Nat := 0
  buf : List Byte := []
  deriving DecidableEq, Repr

/-- A KIND 0xE entry: SUBTYPE is byte 31 and PAYLOAD bytes 32 to 59 of the buffer, given as 29 bytes. -/
def jobEntry (c : Core) (stream seq cal run : Nat) (b : EntryBody) : List Byte :=
  sealCrc (leBytes 31 (packFields (commonFields c 0xE stream seq cal run ++
    [(16, b.srcBoom), (48, b.srcSeq), (2, b.outcome), (8, b.cause), (1, ofBool b.last), (1, ofBool b.idem), (1, ofBool b.rerun), (1, 0),
     (16, b.placement)])) ++ padTo 29 b.buf)

/-- A KIND 0xF marker (R356). -/
def markerEntry (c : Core) (stream seq q lastSeq old new group aborted : Nat) : List Byte :=
  twoUnit (commonFields c 0xF stream seq 0 0 ++ [(16, q), (48, lastSeq), (16, old), (16, new), (6, group), (24, aborted)])

/-- A one-unit record with its trailer (Table 12-6). -/
def trailed (record : List Byte) (q seq stamp : Nat) : List Byte :=
  record ++ sealCrc (leBytes 28 (packFields [(16, q), (48, seq), (64, stamp)]))

/-- The tail of a boom may be covered up to a sequence: BOOM_TAIL waits for the journal (R419). -/
def coverTail (c : Core) (q seq : Nat) : Core :=
  if (getBoom c q).covered < seq then journalAdd (modBoom c q (fun b => { b with covered := seq })) 4 q seq false 0 else c

/-- Append an entry to a boom: into its ring, or into the ring of its stream under the stream's next number (R341, R342).
A job entry is mirrored before its BOOM_TAIL waits for the journal (R384, R419). -/
def appendEntry (m : Mem) (c : Core) (q : Nat) (job : Bool) (build : Nat → List Byte) : Mem × Core :=
  let b := getBoom c q
  if bdStreamOut b.desc then
    let n := bdStream b.desc
    let st := getStream c n
    let bytes := build st.next
    let (m1, c1) := ringWrite m (setStream c n { st with next := (st.next + 1) % 2 ^ 48 }) n st.next bytes
    (m1, recordStands c1 n st.next bytes)
  else
    let s := (b.tail + 1) % 2 ^ 48
    let bytes := build s
    let c1 := setBoom c q { b with tail := s }
    let c2 := if job ∧ pairState c1 = 1 then mirrorOut c1 .job q s bytes
      else coverTail (if job then laterItem c1 .job q s bytes else c1) q s
    checkedStore m c2 (entryAddr b.desc s) bytes .stay

/-! ## Readiness and the round-robin (R349) -/

/-- Tasks in flight: delivered and not closed. -/
def inFlight (b : Boom) : Nat := b.tasks.countP (fun t => t.closed.isNone && !(b.again.contains t.first))

/-- PARTITION of a group. -/
def groupPartition (c : Core) (g : Nat) : Nat := rd c (mkKey (0x5420 + g) 1)

/-- Whether a boom is ready (R349). -/
def boomReady (c : Core) (b : Boom) : Bool :=
  bdEnabled b.desc && b.draining.isNone && !bdStreamOut b.desc
  && ((!b.again.isEmpty) || decide (b.dispatch < b.tail))
  && decide (inFlight b < (if bdParallel b.desc then bdInflightMax b.desc else 1))
  && (!bdResEn b.desc || decide (bdResMax b.desc + 1 ≤ boomFree c (bdResultBoom b.desc)))
  && decide (c.sched.areas < 4096)

/-- Bring READY and ACTIVE up to date: a boom that has become ready joins the tail of its group, a group that gains one joins
the tail of ACTIVE with DEFICIT 0, and what is no longer ready leaves (R349). -/
def reschedule (c : Core) : Core :=
  let readyBooms := (c.booms.filter (fun e => boomReady c e.2)).map (fun e => (e.1, bdGroup e.2.desc))
  let perGroup := fun g =>
    let now := (readyBooms.filter (fun e => e.2 == g)).map Prod.fst
    let old := (mget [] c.sched.ready g).filter (fun q => now.contains q)
    old ++ now.filter (fun q => !old.contains q)
  let ready := (List.range 64).foldl (fun m g => mset [] m g (perGroup g)) ([] : SMap (List Nat))
  let perPart := fun k =>
    let now := (List.range 64).filter (fun g => groupPartition c g == k && !(mget [] ready g).isEmpty)
    let old := (mget [] c.sched.active k).filter (fun g => now.contains g)
    old ++ now.filter (fun g => !old.contains g)
  let active := (List.range 8).foldl (fun m k => mset [] m k (perPart k)) ([] : SMap (List Nat))
  let idle := (List.range 64).filter (fun g =>
    !(active.any (fun e => e.2.contains g && (mget [] c.sched.active e.1).contains g)))
  let c1 := idle.foldl (fun c g => wr c (mkKey (0x5420 + g) 5) 0) c
  { c1 with sched := { c1.sched with active := active, ready := ready } }

/-! ## Closing and committing (R346, R347) -/

/-- Take a task from the hart that holds it or has it delivered (R346). -/
def takeFromHolder (c : Core) (q first : Nat) : Core :=
  { c with harts := c.harts.map (fun e =>
      (e.1, { e.2 with
        held := e.2.held.filter (fun h => !(h.1 == q && h.2 == first))
        delivered := if e.2.delivered = some (q, first) then none else e.2.delivered })) }

/-- Close a task, if it is open: its holder loses it, and unless it is COMPLETED its staged results are discarded. -/
def closeTask (c : Core) (q first outcome cause : Nat) (buf : Option (List Byte)) : Core :=
  let f := fun (t : Task) =>
    if t.first = first ∧ t.closed.isNone then
      { t with closed := some { outcome := outcome, cause := cause, buf := buf }, core := none, staged := if outcome = 1 then t.staged else [] }
    else t
  takeFromHolder (modBoom c q (fun b => { b with tasks := b.tasks.map f, again := b.again.filter (· != first) })) q first

/-- CAL_BYTE and RUN_LO of the first entry of a task (R344). -/
def firstFields (m : Mem) (b : Boom) (t : Task) : Nat × Nat :=
  let v := leAt (entryBytes m b t.first) 0 32
  (bits v 82 8, bits v 138 16)

/-- The bodies that a closed task appends to its result boom (R347): the staged results, then the final entry. -/
def taskBodies (b : Boom) (q : Nat) (t : Task) (cl : Closed) : List EntryBody :=
  let base : EntryBody := { srcBoom := q, srcSeq := t.first, rerun := t.rerun, placement := t.placement }
  let staged := t.staged.map (fun s => { base with buf := s })
  let final : Option EntryBody :=
    if cl.outcome = 1 then
      match cl.buf with
      | some s => some { base with outcome := 1, last := true, buf := s }
      | none => if bdResEach b.desc then some { base with outcome := 1, last := true } else none
    else some { base with outcome := cl.outcome, cause := cl.cause, last := true }
  match final with
  | some f => staged ++ [f]
  | none =>
    match staged.reverse with
    | [] => []
    | l :: r => r.reverse ++ [{ l with last := true }]

/-- Append entries to a result boom. -/
def appendBodies (m : Mem) (c : Core) (r cal run : Nat) : List EntryBody → Mem × Core
  | [] => (m, c)
  | e :: es =>
    let (m1, c1) := appendEntry m c r false (fun s => jobEntry c (entryStream c r) s cal run e)
    appendBodies m1 c1 r cal run es

/-- What a task reserved returns (R349). -/
def returnReserved (c : Core) (b : Boom) (t : Task) : Core :=
  let c1 := if t.lent = 0 then c else modBoom c (bdResultBoom b.desc) (fun r => { r with lent := r.lent - t.lent })
  if t.area then { c1 with sched := { c1.sched with areas := c1.sched.areas - 1 } } else c1

/-- Commit the lowest task of a boom if it has closed and its entries find room; answers whether it did (R347). -/
def commitOne (m : Mem) (c : Core) (q : Nat) : Option (Mem × Core) :=
  let b := getBoom c q
  match b.tasks with
  | [] => none
  | t :: rest =>
    match t.closed with
    | none => none
    | some cl =>
      let bodies := if bdResEn b.desc then taskBodies b q t cl else []
      if t.lent = 0 ∧ boomFree c (bdResultBoom b.desc) < bodies.length then none
      else
        let (cal, run) := firstFields m b t
        let c1 := returnReserved c b t
        let (m2, c2) := appendBodies m c1 (bdResultBoom b.desc) cal run bodies
        let head := t.first + t.count - 1
        let c3 := modBoom c2 q (fun b => { b with
          tasks := rest, head := head
          aborts := if !bdResEn b.desc && cl.outcome == 2 then b.aborts + 1 else b.aborts })
        some (m2, journalAdd c3 3 q head false 0)

/-- Commit as many tasks as can be. -/
def commitAll : Nat → Mem → Core → Nat → Mem × Core
  | 0, m, c, _ => (m, c)
  | n + 1, m, c, q =>
    match commitOne m c q with
    | some (m1, c1) => commitAll n m1 c1 q
    | none => (m, c)

/-- The end of a migration once nothing of the old placement is uncommitted (R356). -/
def migrated (m : Mem) (c : Core) (q : Nat) : Mem × Core :=
  let b := getBoom c q
  match b.draining with
  | none => (m, c)
  | some g =>
    let r := bdResultBoom b.desc
    if !b.tasks.isEmpty || (bdResEn b.desc && boomFree c r == 0) then (m, c)
    else
      let old := bdPlacement b.desc
      let new := (old + 1) % 2 ^ 16
      let (m1, c1) :=
        if bdResEn b.desc then appendEntry m c r false (fun s => markerEntry c (entryStream c r) s q b.head old new g b.drainAborts)
        else (m, modBoom c q (fun b => { b with migrations := b.migrations + 1 }))
      (m1, modBoom c1 q (fun b => { b with
        desc := putField (putField b.desc 128 16 new) 45 6 g, draining := none, drainAborts := 0 }))

/-- Commit what can be committed in every boom, end the migrations that can end, and bring the scheduler up to date. -/
def settleBooms (m : Mem) (c : Core) : Mem × Core :=
  let one := fun (p : Mem × Core) (q : Nat) =>
    let (m1, c1) := commitAll (getBoom p.2 q).tasks.length p.1 p.2 q
    migrated m1 c1 q
  let (m1, c1) := (c.booms.map Prod.fst).foldl one (m, c)
  (m1, reschedule c1)

/-! ## Tasks (R345, R353, R357, R415) -/

/-- Whether entry s is a job with IDEMPOTENT at 1. -/
def jobIdempotent (m : Mem) (b : Boom) (s : Nat) : Bool :=
  let v := leAt (entryBytes m b s) 0 32
  bits v 0 4 == 0xE && bits v 218 2 == 0 && bit v 229

/-- Whether the entries from `first` form an idempotent task (R345). -/
def taskIdempotent (m : Mem) (b : Boom) (first n : Nat) : Bool :=
  (bdSource b.desc == srcCapture && bdRecIdempotent b.desc) || (List.range n).all (fun i => jobIdempotent m b (first + i))

/-- Whether entry s passes its check at delivery: a job, result, outcome or marker entry carries its CRC-32C (Table 15-1). -/
def entryGood (m : Mem) (b : Boom) (s : Nat) : Bool :=
  bdSource b.desc == srcCapture || (crcOk (entryBytes m b s) && (badUnits m (entryAddr b.desc s) 64).isEmpty)

/-- The scheduler reads entries of a boom: requests to the HBM, with the uncorrectable errors met (R320, log 119). -/
def readEntries (m : Mem) (c : Core) (b : Boom) (first n : Nat) : Core :=
  (List.range n).foldl (fun c i => (checkedRead m c (entryAddr b.desc (first + i)) 64 .auto).2) c

/-- A task that closes as soon as it is formed, holding no reservation. -/
def closedTask (b : Boom) (first count outcome cause : Nat) : Task :=
  { first := first, count := count, core := none, placement := bdPlacement b.desc, rerun := false, idem := false
    group := bdGroup b.desc, level := 0, delivered := 0, since := 0, staged := [], lent := 0, area := false
    closed := some { outcome := outcome, cause := cause, buf := none } }

/-- Undispatched entries from `first` close as one-entry tasks. -/
def closeEntries (c : Core) (q first n outcome cause : Nat) : Core :=
  modBoom c q (fun b => { b with
    tasks := b.tasks ++ (List.range n).map (fun i => closedTask b (first + i) 1 outcome cause)
    dispatch := first + n - 1 })

/-- The leading entries that pass their checks. -/
def goodPrefix (m : Mem) (b : Boom) (first : Nat) : Nat → Nat
  | 0 => 0
  | n + 1 => if entryGood m b first then goodPrefix m b (first + 1) n + 1 else 0

/-- Before DISPATCH passes MARK, MARK rises by 64 and is journalled (R357, log 32). -/
def raiseMark (c : Core) (q upto : Nat) : Core :=
  let b := getBoom c q
  if b.mark < upto then journalAdd (setBoom c q { b with mark := b.mark + 64 }) 5 q (b.mark + 64) false 0 else c

/-- Reserve the result entries and the staging area of a task (R349): what it is lent, and the core. -/
def reserveTask (c : Core) (b : Boom) : Nat × Core :=
  let n := if bdResEn b.desc then bdResMax b.desc + 1 else 0
  let c1 := if n = 0 then c else modBoom c (bdResultBoom b.desc) (fun r => { r with lent := r.lent + n })
  (n, { c1 with sched := { c1.sched with areas := c1.sched.areas + 1 } })

/-- Deliver a task of boom q to a core: a task to be run again, or a new one; a bad entry at the front closes as REJECTED with
cause DATA_ERROR and none is delivered then (R345, R357, R358, R415). Answers the task's first sequence. -/
def deliverFrom (m : Mem) (c : Core) (q core : Nat) : Option Nat × Core :=
  let b := getBoom c q
  let level := rd c (mkKey (0x5420 + bdGroup b.desc) 3)
  match b.again with
  | f :: rest =>
    let held := b.tasks.any (fun t => t.first == f && t.area)
    let (n, c1) := if held then (0, c) else reserveTask c b
    let g := fun (t : Task) =>
      if t.first = f then { t with core := some core, rerun := true, level := level, delivered := c.stamp, since := c.time
                                   lent := if held then t.lent else n, area := true }
      else t
    let c2 := modBoom c1 q (fun b => { b with again := rest, tasks := b.tasks.map g })
    (some f, bump c2 (mkKey 0x5400 4))
  | [] =>
    let first := b.dispatch + 1
    let n := goodPrefix m b first (min (bdBatch b.desc) (b.tail - b.dispatch))
    let c := readEntries m c b first (max 1 n)
    if n = 0 then
      (none, closeEntries (raise (countCrcFail c 3) 303 2 first) q first 1 3 0x86)
    else
      let c1 := raiseMark c q (b.dispatch + n)
      let (lent, c2) := reserveTask c1 b
      let t : Task :=
        { first := first, count := n, core := some core, placement := bdPlacement b.desc, rerun := false
          idem := taskIdempotent m b first n, group := bdGroup b.desc, level := level, delivered := c.stamp
          since := c.time, staged := [], lent := lent, area := true, closed := none }
      (some first, modBoom c2 q (fun b => { b with dispatch := b.dispatch + n, tasks := b.tasks ++ [t] }))

/-- One turn of the round-robin of partition k for a core: which task was delivered (R349). -/
def deliverTurn (m : Mem) (c : Core) (k core : Nat) : Option (Nat × Nat) × Core :=
  match mget [] c.sched.active k with
  | [] => (none, c)
  | g :: gs =>
    match mget [] c.sched.ready g with
    | [] => (none, reschedule c)
    | q :: qs =>
      let dk := mkKey (0x5420 + g) 5
      let d0 := rd c dk
      let d := (if d0 < 1 then d0 + rd c (mkKey (0x5420 + g) 2) else d0) - 1
      let (got, c1) := deliverFrom m (wr c dk d) q core
      let ready := if boomReady c1 (getBoom c1 q) then qs ++ [q] else qs
      let active := if ready.isEmpty then gs else if d < 1 then gs ++ [g] else g :: gs
      let c2 := { c1 with sched := { c1.sched with active := mset [] c1.sched.active k active, ready := mset [] c1.sched.ready g ready } }
      let c3 := if ready.isEmpty then wr c2 dk 0 else c2
      let c4 := reschedule c3
      match got with
      | some f =>
        let c5 := bump (bump c4 (mkKey (0x5420 + g) 6)) (mkKey (0x5410 + k) 5)
        (some (q, f), tallyEvent (tallyEvent c5 (0x80 + g)) (0xC8 + k))
      | none => (none, c4)

/-- The 64-byte header of a task (Table 12-7). -/
def taskHeader (q : Nat) (t : Task) : List Byte :=
  leBytes 64 (packFields [(16, q), (47, t.first), (1, 0), (5, t.count), (11, 0), (16, t.placement), (1, ofBool t.rerun), (1, ofBool t.idem),
    (6, t.group), (2, t.level), (22, 0), (64, t.delivered), (48, t.first)])

/-- The task of a boom with a first sequence. -/
def taskOf (b : Boom) (first : Nat) : Option Task := b.tasks.find? (fun t => t.first == first)

/-- The header and the entries of a task, as BQ.WAIT and BQ.POLL write them (R345). -/
def taskBytes (m : Mem) (c : Core) (q first : Nat) : List Byte :=
  let b := getBoom c q
  match taskOf b first with
  | some t => taskHeader q t ++ (List.range t.count).flatMap (fun i => entryBytes m b (t.first + i))
  | none => []

/-- The handle of a task (R336). -/
def handleOf (q first : Nat) : Nat := q + first % 2 ^ 47 * 2 ^ 16

/-- A task is released by a reset or a stop (R357, R358): an idempotent one returns for delivery, another closes ABORTED. -/
def releaseTask (c : Core) (q first cause : Nat) : Core :=
  match taskOf (getBoom c q) first with
  | some t =>
    if t.closed.isSome then c
    else if t.idem then
      let f := fun (t : Task) => if t.first = first then { t with core := none, staged := [] } else t
      takeFromHolder (modBoom c q (fun b => { b with tasks := b.tasks.map f, again := b.again ++ [first] })) q first
    else closeTask c q first 2 cause none
  | none => c

/-- A task held longer than its group's TASK_TIMEOUT closes ABORTED with cause TIMEOUT (R353). -/
def timeoutTask (m : Mem) (c : Core) (q first : Nat) : Mem × Core :=
  match taskOf (getBoom c q) first with
  | some t =>
    if t.closed.isNone ∧ t.core.isSome ∧ rd c (mkKey (0x5420 + t.group) 4) ≠ 0 then
      settleBooms m (tallyEvent (bump (closeTask c q first 2 0x84 none) (mkKey 0x5400 5)) 0xE8)
    else (m, c)
  | none => (m, c)

/-- Close every open task of a draining boom as ABORTED(MIGRATED) (R355). -/
def drainBoom (m : Mem) (c : Core) (q : Nat) : Mem × Core :=
  let b := getBoom c q
  let open_ := b.tasks.filter (fun t => t.closed.isNone)
  let c1 := open_.foldl (fun c t => closeTask c q t.first 2 0x81 none) c
  settleBooms m (modBoom c1 q (fun b => { b with drainAborts := b.drainAborts + open_.length }))

/-- DRAIN_TIMEOUT has passed since a boom began to drain (R355). -/
def drainTimedOut (m : Mem) (c : Core) (q : Nat) : Mem × Core := if (getBoom c q).draining.isSome then drainBoom m c q else (m, c)

/-! ## Writes (R342, R343, R355, R359) -/

/-- STATE of a boom: 0 DISABLED, 1 ACTIVE, 2 DRAINING (Table 12-8). -/
def boomState (b : Boom) : Nat := if b.draining.isSome then 2 else if bdEnabled b.desc then 1 else 0

/-- The range checks of a descriptor that sets ENABLED, in ascending bit order (R342). -/
def boomDescStatus (d : Nat) : Option Status :=
  let own := !bdStreamOut d
  firstFail [
    (own && bdRingBase d % 4096 != 0, stOutOfRange),
    (own && (bdRingLog2 d < 6 || 26 < bdRingLog2 d), stOutOfRange),
    (bits d 59 5 != 0, stOutOfRange),
    (bdBatch d == 0 || 16 < bdBatch d, stOutOfRange),
    (bdInflightMax d == 0 || 64 < bdInflightMax d, stOutOfRange),
    (bits d 111 17 != 0, stOutOfRange),
    (bits d 144 112 != 0, stOutOfRange)]

/-- Whether a descriptor of an ARMED, RUNNING or HOLDING Weaver names a stream (R219, R270). -/
def namedByWeaver (c : Core) (n : Nat) : Bool :=
  (List.range 64).any (fun w =>
    let st := wState c w
    st != 0 && st != 4 &&
    (let t := dom c (mkKey (0x2040 + w) 1)
     (List.range (t.length / 128)).any (fun i =>
      let d := parseDesc (leAt t (128 * i) 128)
      (List.range 8).any (fun s => siteStream d s == n))))

/-- Whether the stream is used by a descriptor (R219) or by a non-IDLE acquisition unit (R270). -/
def streamTaken (c : Core) (n : Nat) : Bool :=
  namedByWeaver c n
  || (List.range 8).any (fun u => rd c (mkKey (0x44C0 + u) 3) == n && rd c (mkKey (0x44C0 + u) 0xA) != 0)

/-- The state checks of a descriptor that sets ENABLED (R38, R342). -/
def boomDescConflict (c : Core) (q d : Nat) : Bool :=
  let r := bdResultBoom d
  let rb := getBoom c r
  noDeviceId c
  || (bdResEn d && (!bdEnabled rb.desc || bdSource rb.desc != srcResult
       || c.booms.any (fun e => e.1 != q && bdEnabled e.2.desc && bdResEn e.2.desc && bdResultBoom e.2.desc == r)))
  || (bdSource d == srcHost && (!bdResEn d || !bdResEach d))
  || (bdStreamOut d && (bdSource d != srcResult || !(streamEntry c (bdStream d)).enabled
       || decide ((streamEntry c (bdStream d)).ringUnits < 128) || streamTaken c (bdStream d)))

/-- A descriptor write to boom q that does not disable it (R10, R342): a non-zero reserved field is refused whether or not it
sets ENABLED. PLACEMENT is read-only and keeps its value. -/
def writeBoomDesc (c : Core) (q : Nat) (data : List Byte) : Written :=
  let d := ofLe data
  let b := getBoom c q
  let d1 := putField d 128 16 (bdPlacement b.desc)
  if data.length ≠ 32 then .error stOutOfRange
  else if bdEnabled b.desc then .error stStateConflict
  else if bdEnabled d then
    match boomDescStatus d1 with
    | some s => .error s
    | none => guardSt (!boomDescConflict c q d1) stStateConflict (.ok (reschedule (setBoom c q { b with desc := d1 })))
  else guardSt (bits d1 59 5 == 0 && bits d1 111 17 == 0 && bits d1 144 112 == 0) stOutOfRange (.ok (setBoom c q { b with desc := d1 }))

/-- A write of 0 to ENABLED (R343): refused while a task is in flight; every undispatched entry closes REJECTED(DISABLED). -/
def disableBoom (m : Mem) (c : Core) (q : Nat) (d : Nat) : (Status × (Mem × Core)) :=
  let b := getBoom c q
  if inFlight b ≠ 0 ∨ b.draining.isSome then (stStateConflict, (m, c))
  else
    let c0 := b.again.foldl (fun c f => closeTask c q f 3 0x85 none) c
    let c1 := closeEntries c0 q (b.dispatch + 1) (b.tail - b.dispatch) 3 0x85
    let c2 := modBoom c1 q (fun b => { b with
      desc := if b.tasks.isEmpty then putField d 128 16 (bdPlacement b.desc) else clearBit b.desc 53 })
    (stOk, settleBooms m c2)

/-- A DOMAIN write of BOOM_DESC for boom q (R342, R343): an ENABLED boom takes only a write of its own descriptor with ENABLED 0. -/
def writeBoomObject (m : Mem) (c : Core) (q : Nat) (data : List Byte) : (Status × (Mem × Core)) :=
  let b := getBoom c q
  if bdEnabled b.desc ∧ data.length = 32 ∧ putField (ofLe data) 128 16 (bdPlacement b.desc) = clearBit b.desc 53 then disableBoom m c q (ofLe data)
  else
    match writeBoomDesc c q data with
    | .ok c1 => (stOk, (m, c1))
    | .error s => (s, (m, c))

/-- A write of MIGRATE for boom q (R355): `v` holds the group in [5:0] and ABORT in [8]. -/
def writeMigrate (m : Mem) (c : Core) (q v : Nat) : (Status × (Mem × Core)) :=
  let b := getBoom c q
  if bits v 6 2 ≠ 0 ∨ 512 ≤ v then (stOutOfRange, (m, c))
  else if b.draining.isSome ∨ !bdEnabled b.desc then (stStateConflict, (m, c))
  else
    let c1 := reschedule (setBoom c q { b with draining := some (bits v 0 6), drainSince := c.time, drainAborts := 0 })
    if bit v 8 then (stOk, drainBoom m c1 q) else (stOk, settleBooms m c1)

/-- WIN_NEXT_SEQ of a boom. -/
def winNext (c : Core) (q : Nat) : Nat := (getBoom c q).tail + 1

/-- Whether 64 bytes are a job of this device and boom with OUTCOME 0, the reserved bit 0 and a correct CRC-32C (R10, R359). -/
def jobOk (c : Core) (q : Nat) (e : List Byte) : Bool :=
  let v := leAt e 0 32
  crcOk e && bits v 0 4 == 0xE && bits v 4 14 == deviceId c && bits v 18 16 == q && bits v 218 2 == 0 && bit v 231 == false

/-- Cut bytes into entries of 64. -/
def cutEntries (l : List Byte) : List (List Byte) := (List.range (l.length / 64)).map (fun i => slice l (64 * i) 64)

/-- Enter host jobs whose sequence is the boom's next. -/
def enterJobs (m : Mem) (c : Core) (q : Nat) : List (List Byte) → Mem × Core
  | [] => (m, c)
  | e :: es =>
    let (m1, c1) := appendEntry m c q true (fun _ => e)
    enterJobs m1 c1 q es

/-- The contents checks of a WIN_SUBMIT (R359). -/
def winStatus (c : Core) (q : Nat) (entries : List (List Byte)) : Option Status :=
  let n := winNext c q
  let seqs := entries.map recSeq
  let consecutive := (seqs.zip (seqs.drop 1)).all (fun p => p.2 == p.1 + 1)
  firstFail [
    (entries.isEmpty || 1024 < entries.length, stOutOfRange),
    (entries.any (fun e => !jobOk c q e), stOutOfRange),
    (!consecutive, stOutOfRange),
    ((match seqs.find? (fun s => n ≤ s) with | some s => s != n | none => false), stOutOfRange)]

/-- Whether acceptance of new work is unprotected: the pair is not MIRRORED although a buddy is named (R385). -/
def unmirrored (c : Core) : Bool := 2 ≤ pairState c

/-- A complete WIN_SUBMIT (R38, R359, R385). -/
def writeWinSubmit (m : Mem) (c : Core) (q : Nat) (data : List Byte) : (Status × (Mem × Core)) :=
  let b := getBoom c q
  let entries := cutEntries data
  if data.length % 64 ≠ 0 then (stOutOfRange, (m, c))
  else
    match winStatus c q entries with
    | some s => (s, (m, c))
    | none =>
      let fresh := entries.filter (fun e => winNext c q ≤ recSeq e)
      if noDeviceId c ∨ !bdEnabled b.desc ∨ bdSource b.desc ≠ srcHost ∨ (unmirrored c ∧ rd c (bk 6) = 0) ∨ pairState c = 5
          ∨ rd c (mkKey 0x7800 8) = 1 ∨ boomFree c q < fresh.length then (stStateConflict, (m, c))
      else
        let c1 := bumpBy c (mkKey 0x5800 5) (entries.length - fresh.length)
        let c2 := if unmirrored c1 then bumpBy c1 (bk 0xC) fresh.length else c1
        let (m2, c3) := enterJobs m c2 q fresh
        (stOk, (m2, reschedule c3))

/-- Recovery of a boom from its journalled counters (R357): entries of idempotent tasks up to MARK are delivered again, the
others close ABORTED with cause RESET. -/
def recoverEntries : Nat → Mem → Core → Nat → Nat → Core
  | 0, _, c, _, _ => c
  | fuel + 1, m, c, q, upto =>
    let b := getBoom c q
    let n := min (bdBatch b.desc) (upto - b.dispatch)
    if n = 0 then c
    else
      let first := b.dispatch + 1
      if taskIdempotent m b first n then
        let t : Task := { closedTask b first n 0 0 with closed := none, rerun := true, idem := true }
        recoverEntries fuel m (modBoom c q (fun b => { b with dispatch := b.dispatch + n, tasks := b.tasks ++ [t], again := b.again ++ [first] })) q upto
      else recoverEntries fuel m (closeEntries c q first n 2 0x80) q upto

end Sys2Proof.Machine
end

