-- ==== Sys2Proof/Machine/Crypto.lean ====
section
/-!
DEFINITION. Sys2Proof/Machine/Crypto.lean: the published algorithms the spec names: SHA-256 and its HMAC (R53, R60), SHA-384 and
the ECDSA P-384 verification of an image's signature (16_modes_power_boot.md R448).
-/
namespace Sys2Proof.Machine

/-! ## SHA-2 -/

/-- The round constants of SHA-256. -/
def sha256K : List Nat :=
  [0x428a2f98, 0x71374491, 0xb5c0fbcf, 0xe9b5dba5, 0x3956c25b, 0x59f111f1, 0x923f82a4, 0xab1c5ed5] ++
  [0xd807aa98, 0x12835b01, 0x243185be, 0x550c7dc3, 0x72be5d74, 0x80deb1fe, 0x9bdc06a7, 0xc19bf174] ++
  [0xe49b69c1, 0xefbe4786, 0xfc19dc6, 0x240ca1cc, 0x2de92c6f, 0x4a7484aa, 0x5cb0a9dc, 0x76f988da] ++
  [0x983e5152, 0xa831c66d, 0xb00327c8, 0xbf597fc7, 0xc6e00bf3, 0xd5a79147, 0x6ca6351, 0x14292967] ++
  [0x27b70a85, 0x2e1b2138, 0x4d2c6dfc, 0x53380d13, 0x650a7354, 0x766a0abb, 0x81c2c92e, 0x92722c85] ++
  [0xa2bfe8a1, 0xa81a664b, 0xc24b8b70, 0xc76c51a3, 0xd192e819, 0xd6990624, 0xf40e3585, 0x106aa070] ++
  [0x19a4c116, 0x1e376c08, 0x2748774c, 0x34b0bcb5, 0x391c0cb3, 0x4ed8aa4a, 0x5b9cca4f, 0x682e6ff3] ++
  [0x748f82ee, 0x78a5636f, 0x84c87814, 0x8cc70208, 0x90befffa, 0xa4506ceb, 0xbef9a3f7, 0xc67178f2]

/-- The round constants of SHA-512 and SHA-384. -/
def sha512K : List Nat :=
  [0x428a2f98d728ae22, 0x7137449123ef65cd, 0xb5c0fbcfec4d3b2f, 0xe9b5dba58189dbbc] ++
  [0x3956c25bf348b538, 0x59f111f1b605d019, 0x923f82a4af194f9b, 0xab1c5ed5da6d8118] ++
  [0xd807aa98a3030242, 0x12835b0145706fbe, 0x243185be4ee4b28c, 0x550c7dc3d5ffb4e2] ++
  [0x72be5d74f27b896f, 0x80deb1fe3b1696b1, 0x9bdc06a725c71235, 0xc19bf174cf692694] ++
  [0xe49b69c19ef14ad2, 0xefbe4786384f25e3, 0xfc19dc68b8cd5b5, 0x240ca1cc77ac9c65] ++
  [0x2de92c6f592b0275, 0x4a7484aa6ea6e483, 0x5cb0a9dcbd41fbd4, 0x76f988da831153b5] ++
  [0x983e5152ee66dfab, 0xa831c66d2db43210, 0xb00327c898fb213f, 0xbf597fc7beef0ee4] ++
  [0xc6e00bf33da88fc2, 0xd5a79147930aa725, 0x6ca6351e003826f, 0x142929670a0e6e70] ++
  [0x27b70a8546d22ffc, 0x2e1b21385c26c926, 0x4d2c6dfc5ac42aed, 0x53380d139d95b3df] ++
  [0x650a73548baf63de, 0x766a0abb3c77b2a8, 0x81c2c92e47edaee6, 0x92722c851482353b] ++
  [0xa2bfe8a14cf10364, 0xa81a664bbc423001, 0xc24b8b70d0f89791, 0xc76c51a30654be30] ++
  [0xd192e819d6ef5218, 0xd69906245565a910, 0xf40e35855771202a, 0x106aa07032bbd1b8] ++
  [0x19a4c116b8d2d0c8, 0x1e376c085141ab53, 0x2748774cdf8eeb99, 0x34b0bcb5e19b48a8] ++
  [0x391c0cb3c5c95a63, 0x4ed8aa4ae3418acb, 0x5b9cca4f7763e373, 0x682e6ff3d6b2b8a3] ++
  [0x748f82ee5defb2fc, 0x78a5636f43172f60, 0x84c87814a1f0ab72, 0x8cc702081a6439ec] ++
  [0x90befffa23631e28, 0xa4506cebde82bde9, 0xbef9a3f7b2c67915, 0xc67178f2e372532b] ++
  [0xca273eceea26619c, 0xd186b8c721c0c207, 0xeada7dd6cde0eb1e, 0xf57d4f7fee6ed178] ++
  [0x6f067aa72176fba, 0xa637dc5a2c898a6, 0x113f9804bef90dae, 0x1b710b35131c471b] ++
  [0x28db77f523047d84, 0x32caab7b40c72493, 0x3c9ebe0a15c9bebc, 0x431d67c49c100d4c] ++
  [0x4cc5d4becb3e42b6, 0x597f299cfc657e2a, 0x5fcb6fab3ad6faec, 0x6c44198c4a475817]

/-- The initial hash value of SHA-256. -/
def sha256H : List Nat :=
  [0x6a09e667, 0xbb67ae85, 0x3c6ef372, 0xa54ff53a, 0x510e527f, 0x9b05688c, 0x1f83d9ab, 0x5be0cd19]

/-- The initial hash value of SHA-384. -/
def sha384H : List Nat :=
  [0xcbbb9d5dc1059ed8, 0x629a292a367cd507, 0x9159015a3070dd17, 0x152fecd8f70e5939] ++
  [0x67332667ffc00b31, 0x8eb44a8768581511, 0xdb0c2e0d64f98fa7, 0x47b5481dbefa4fa4]

/-- The parameters of a SHA-2 function on `w`-bit words: rotations of the two schedule functions (the third is a shift) and of the
two compression functions, and the round constants. -/
structure Sha where
  w : Nat
  s0 : Nat × Nat × Nat
  s1 : Nat × Nat × Nat
  e0 : Nat × Nat × Nat
  e1 : Nat × Nat × Nat
  k : List Nat
  deriving DecidableEq, Repr

/-- SHA-256. -/
def sha256Par : Sha := { w := 32, s0 := (7, 18, 3), s1 := (17, 19, 10), e0 := (2, 13, 22), e1 := (6, 11, 25), k := sha256K }

/-- SHA-384. -/
def sha384Par : Sha := { w := 64, s0 := (1, 8, 7), s1 := (19, 61, 6), e0 := (28, 34, 39), e1 := (14, 18, 41), k := sha512K }

/-- A `w`-bit word rotated right. -/
def rotr (w n x : Nat) : Nat := (x / 2 ^ n + x * 2 ^ (w - n)) % 2 ^ w

/-- A schedule function: two rotations and a shift. -/
def smallSigma (p : Sha) (r : Nat × Nat × Nat) (x : Nat) : Nat := rotr p.w r.1 x ^^^ rotr p.w r.2.1 x ^^^ (x / 2 ^ r.2.2)

/-- A compression function: three rotations. -/
def bigSigma (p : Sha) (r : Nat × Nat × Nat) (x : Nat) : Nat := rotr p.w r.1 x ^^^ rotr p.w r.2.1 x ^^^ rotr p.w r.2.2 x

/-- Extend the message schedule, newest word first, by `n` words. -/
def schedule (p : Sha) : Nat → List Nat → List Nat
  | 0, l => l
  | n + 1, l =>
    let at_ := fun i => (l[i]?).getD 0
    schedule p n ((smallSigma p p.s1 (at_ 1) + at_ 6 + smallSigma p p.s0 (at_ 14) + at_ 15) % 2 ^ p.w :: l)

/-- One round. -/
def shaRound (p : Sha) (v : List Nat) (kw : Nat) : List Nat :=
  match v with
  | [a, b, c, d, e, f, g, h] =>
    let m := 2 ^ p.w
    let ch := (e &&& f) ^^^ ((m - 1 - e) &&& g)
    let maj := (a &&& b) ^^^ (a &&& c) ^^^ (b &&& c)
    let t1 := (h + bigSigma p p.e1 e + ch + kw) % m
    let t2 := (bigSigma p p.e0 a + maj) % m
    [(t1 + t2) % m, a, b, c, (d + t1) % m, e, f, g]
  | l => l

/-- One block of 16 words. -/
def shaBlock (p : Sha) (h : List Nat) (block : List Nat) : List Nat :=
  let ws := (schedule p (p.k.length - 16) block.reverse).reverse
  let v := (p.k.zip ws).foldl (fun v e => shaRound p v (e.1 + e.2)) h
  (h.zip v).map (fun e => (e.1 + e.2) % 2 ^ p.w)

/-- The padded message: a 1 bit, zeros, and the length in bits. -/
def shaPad (p : Sha) (l : List Byte) : List Byte :=
  let block := 2 * p.w
  let tail := p.w / 4
  let zeros := (2 * block - (l.length + 1 + tail) % block) % block
  l ++ 0x80 :: List.replicate zeros 0 ++ beBytes tail (8 * l.length)

/-- The words of a padded message. -/
def shaWords (p : Sha) (l : List Byte) : List Nat :=
  (List.range (l.length / (p.w / 8))).map (fun i => ofBe (slice l (p.w / 8 * i) (p.w / 8)))

/-- The blocks of a message, one after the other. -/
def shaBlocks (p : Sha) : Nat → List Nat → List Nat → List Nat
  | 0, h, _ => h
  | n + 1, h, ws => shaBlocks p n (shaBlock p h (ws.take 16)) (ws.drop 16)

/-- The words of the digest of a message. -/
def shaDigest (p : Sha) (init : List Nat) (l : List Byte) : List Nat :=
  let ws := shaWords p (shaPad p l)
  shaBlocks p (ws.length / 16) init ws

/-- SHA-256: 32 bytes. -/
def sha256 (l : List Byte) : List Byte := (shaDigest sha256Par sha256H l).flatMap (beBytes 4)

/-- SHA-384: 48 bytes. -/
def sha384 (l : List Byte) : List Byte := ((shaDigest sha384Par sha384H l).take 6).flatMap (beBytes 8)

/-- HMAC-SHA-256 (R53, R60). -/
def hmac256 (key l : List Byte) : List Byte :=
  let k0 := padTo 64 (if 64 < key.length then sha256 key else key)
  sha256 (k0.map (· ^^^ 0x5C) ++ sha256 (k0.map (· ^^^ 0x36) ++ l))

/-! ## ECDSA P-384 (R448) -/

/-- The prime of the curve. -/
def curveP : Nat := 2 ^ 384 - 2 ^ 128 - 2 ^ 96 + 2 ^ 32 - 1

/-- The order of the base point. -/
def curveN : Nat := 0xFFFFFFFFFFFFFFFFFFFFFFFFFFFFFFFFFFFFFFFFFFFFFFFFC7634D81F4372DDF581A0DB248B0A77AECEC196ACCC52973

/-- The base point. -/
def curveG : Nat × Nat :=
  (0xAA87CA22BE8B05378EB1C71EF320AD746E1D3B628BA79B9859F741E082542A385502F25DBF55296C3A545E3872760AB7,
   0x3617DE4A96262C6F5D9E98BF9292DC29F8F41DBD289A147CE9DA3113B5F0B8C00A60B1CE1D7E819D7A431D7C90EA0E5F)

/-- The coefficient b of the curve y^2 = x^3 - 3 x + b. -/
def curveB : Nat := 0xB3312FA7E23EE7E4988E056BE3F82D19181D9C6EFE8141120314088F5013875AC656398D8A2ED19D2A85C8EDD3EC2AEF

/-- Power modulo m, one bit of the exponent a step. -/
def powMod : Nat → Nat → Nat → Nat → Nat
  | 0, _, _, _ => 1
  | k + 1, m, b, e =>
    let h := powMod k m (b * b % m) (e / 2)
    if e % 2 = 1 then h * b % m else h

/-- The inverse modulo a prime. -/
def invMod (m a : Nat) : Nat := powMod 384 m (a % m) (m - 2)

/-- A point of the curve; none is the point at infinity. -/
abbrev Point := Option (Nat × Nat)

/-- A difference modulo the curve's prime. -/
def subP (a b : Nat) : Nat := (a + curveP - b % curveP) % curveP

/-- The sum of two points. -/
def addPoint (p q : Point) : Point :=
  match p, q with
  | none, q => q
  | p, none => p
  | some (x1, y1), some (x2, y2) =>
    if x1 = x2 ∧ (y1 + y2) % curveP = 0 then none
    else
      let l :=
        if x1 = x2 then subP (3 * x1 * x1) 3 * invMod curveP (2 * y1) % curveP
        else subP y2 y1 * invMod curveP (subP x2 x1) % curveP
      let x3 := subP (l * l) (x1 + x2)
      some (x3, subP (l * subP x1 x3) y1)

/-- A multiple of a point, one bit of the factor a step. -/
def mulPoint : Nat → Nat → Point → Point
  | 0, _, _ => none
  | k + 1, n, p =>
    let h := mulPoint k (n / 2) (addPoint p p)
    if n % 2 = 1 then addPoint h p else h

/-- Whether a pair is a point of the curve. -/
def onCurve (q : Nat × Nat) : Bool :=
  decide (q.1 < curveP) && decide (q.2 < curveP) && decide ((q.2 * q.2) % curveP = subP (q.1 * q.1 * q.1 + curveB) (3 * q.1))

/-- Whether (r, s) is the ECDSA signature of a digest under a public key. -/
def ecdsaVerify (key : Nat × Nat) (digest : List Byte) (r s : Nat) : Bool :=
  if r = 0 ∨ curveN ≤ r ∨ s = 0 ∨ curveN ≤ s ∨ !onCurve key then false
  else
    let w := invMod curveN s
    let u1 := ofBe digest * w % curveN
    let u2 := r * w % curveN
    match addPoint (mulPoint 384 u1 (some curveG)) (mulPoint 384 u2 (some key)) with
    | some (x, _) => x % curveN == r
    | none => false

end Sys2Proof.Machine
end

