-- ==== Sys2Proof/Machine/Frames.lean ====
section
/-!
DEFINITION. Sys2Proof/Machine/Frames.lean: datagrams: what is accepted from an Ethernet port, the headers of DAP and Stream
Transport frames, their CRC-32C and tags (02_dictionary_access.md R50 to R54, R60; 07_capture_credit.md R222, R223).
-/
namespace Sys2Proof.Machine

/-- Object `sub` of port p (Table 2-10). -/
def ek (p sub : Nat) : Key := mkKey (0x1100 + p) sub

/-- Object `sub` of DAP (Table 2-10). -/
def dk (sub : Nat) : Key := mkKey 0x1110 sub

/-- Whether port p's link is UP. -/
def portUp (c : Core) (p : Nat) : Bool := rd c (ek p 8) == 2

/-- AUTH_REQUIRED. -/
def authRequired (c : Core) : Bool := rdb c (dk 3)

/-- The pre-shared key. -/
def psk (c : Core) : List Byte := dom c (dk 4)

/-- Whether the IP and UDP layers pass a datagram on (R50, R51). -/
def ipOk (i : IpInfo) : Bool :=
  !i.vlanTagged && !(i.v6 && (i.extHeaders || i.zeroChecksum)) && !(!i.v6 && (i.options || i.fragment))

/-- Whether a port uses IPv4 or IPv6: its address is set (Table 2-10). -/
def ipEnabled (c : Core) (p : Nat) (v6 : Bool) : Bool := if v6 then (dom c (ek p 4)).length == 16 else rd c (ek p 2) != 0

/-- Whether a port passes a datagram on (R50, R51, R77). -/
def ipTaken (c : Core) (p : Nat) (i : IpInfo) : Bool := ipOk i && ipEnabled c p i.v6

/-- Whether a host's address is an IPv4 address, mapped. -/
def isV4 (a : HostAddr) : Bool := bits a.ip.toNat 32 96 == 0xFFFF

/-- A port's own address in the family of a host's, as 128 bits. -/
def ownIp (c : Core) (p : Nat) (a : HostAddr) : Nat := if isV4 a then 0xFFFF * 2 ^ 32 + rd c (ek p 2) else ofBe (dom c (ek p 4))

/-- The sum of big-endian 16-bit words, an odd last byte standing first in its word. -/
def sumWords : List Byte → Nat
  | [] => 0
  | [a] => a.toNat * 256
  | a :: b :: l => a.toNat * 256 + b.toNat + sumWords l

/-- The ones' complement checksum of bytes. -/
def onesSum (l : List Byte) : Nat := 0xFFFF - (if sumWords l = 0 then 0 else (sumWords l - 1) % 0xFFFF + 1)

/-- The UDP checksum of a datagram under the pseudo-header of its family; a sum of 0 is sent as 0xFFFF (R50). -/
def udpChecksum (v4 : Bool) (src dst sport dport : Nat) (l : List Byte) : Nat :=
  let n := 8 + l.length
  let addr := fun (a : Nat) => if v4 then beBytes 4 a else beBytes 16 a
  let pseudo := addr src ++ addr dst ++ beBytes 4 n ++ beBytes 4 17
  let s := onesSum (pseudo ++ beBytes 2 sport ++ beBytes 2 dport ++ beBytes 2 n ++ [0, 0] ++ l)
  if s = 0 then 0xFFFF else s

/-- The UDP port of a service: DAP_PORT, ST_PORT, TOKEN_PORT (Tables 2-10 and 13-7). -/
def servicePort (c : Core) (service : Nat) : Nat := rd c (if service = 2 then mkKey 0x6022 4 else dk (service + 1))

/-- Send a UDP payload to a host from a port, in its family if the port uses it: with Don't Fragment on IPv4, and always with a
checksum (R50). -/
def sendUdp (c : Core) (p service : Nat) (a : HostAddr) (l : List Byte) : Core :=
  if !ipEnabled c p (!isV4 a) then c
  else emit c (.udp p service (isV4 a) (udpChecksum (isV4 a) (ownIp c p a) a.ip.toNat (servicePort c service) a.port.toNat l) a l)

/-- A discard is counted in FRAMES_DISCARDED (R54). -/
def frameDiscarded (c : Core) : Core := bump c (dk 8)

/-- A discard is counted in AUTH_FAILURES (R54). -/
def authFailed (c : Core) : Core := bump c (dk 9)

/-- UDP services of the outbox: DAP, Stream Transport, tokens. -/
def svcDap : Nat := 0
def svcSt : Nat := 1
def svcToken : Nat := 2

/-- A frame with its CRC-32C, and its tag under a key (R53, R222). -/
def sealed (l : List Byte) (key : Option (List Byte)) : List Byte :=
  let s := sealCrc l
  match key with
  | some k => s ++ hmac256 k s
  | none => s

/-! ## DAP frames (Tables 2-5 and 2-6) -/

def flagReply : Nat := 0
def flagAtomic : Nat := 1
def flagAuth : Nat := 2
def flagRetry : Nat := 3
def flagPending : Nat := 4
def flagRelayed : Nat := 5
def flagLast : Nat := 6

/-- The fields of a DAP header. -/
structure DapHead where
  magic : Nat := 0xDA50
  version : Nat := 1
  opcode : Nat
  flags : Nat
  target : Nat
  session : Nat
  status : Nat
  sequence : Nat
  hops : Nat := 0
  reserved1 : Nat := 0
  length : Nat
  window : Nat := 0
  reserved2 : Nat := 0
  deriving DecidableEq, Repr

/-- The 32 bytes of a DAP header. -/
def dapHeader (h : DapHead) : List Byte :=
  leBytes 32 (packFields [(16, h.magic), (8, h.version), (8, h.opcode), (16, h.flags), (16, h.target), (16, h.session), (16, h.status),
    (48, h.sequence), (8, h.hops), (8, h.reserved1), (32, h.length), (16, h.window), (48, h.reserved2)])

/-- The header of a received frame of an operation. -/
def headOf (op : Nat) (f : DapFrame) : DapHead :=
  { magic := f.magic.toNat, version := f.version.toNat, opcode := op, flags := f.flags.toNat, target := f.target.toNat
    session := f.session.toNat, status := f.status.toNat, sequence := f.sequence.toNat, hops := f.hops.toNat
    reserved1 := f.reserved1.toNat, length := f.payload.length, window := f.window.toNat, reserved2 := f.reserved2.toNat }

/-- A received frame's bytes before its CRC. -/
def dapBytes (op : Nat) (f : DapFrame) : List Byte := dapHeader (headOf op f) ++ f.payload

/-- A received frame's bytes before its tag. -/
def dapSigned (op : Nat) (f : DapFrame) : List Byte := dapBytes op f ++ leBytes 4 f.crc.toNat

/-- A whole frame as received. -/
def dapWhole (op : Nat) (f : DapFrame) : List Byte := dapSigned op f ++ f.tag

/-- Whether a flag of a frame is 1. -/
def hasFlag (f : DapFrame) (i : Nat) : Bool := bit f.flags.toNat i

/-- Whether MAGIC and CRC-32C are right (R54). -/
def dapIntact (op : Nat) (f : DapFrame) : Bool := f.magic == 0xDA50 && crc32c (dapBytes op f) == f.crc

/-- Whether a frame's tag is right under a key.  The tag of a relayed frame is over the frame as its host sent it: RELAYED 0 and a
HOPS_LEFT from which the relays have counted down (R53, R75, log 79). -/
def dapTagOk (op : Nat) (f : DapFrame) (key : List Byte) : Bool :=
  if !hasFlag f flagRelayed then f.tag == hmac256 key (dapSigned op f)
  else (List.range (255 - f.hops.toNat)).any (fun i =>
    let g := { f with flags := f.flags &&& 0xFFDF, hops := BitVec.ofNat 8 (f.hops.toNat + 1 + i) }
    f.tag == hmac256 key (dapSigned op { g with crc := crc32c (dapBytes op g) }))

/-- The opcodes of Table 2-7. -/
def opRead : Nat := 0x01
def opWrite : Nat := 0x02
def opReadBlock : Nat := 0x03
def opWriteBlock : Nat := 0x04
def opSubscribe : Nat := 0x05
def opUnsubscribe : Nat := 0x06
def opNotify : Nat := 0x07
def opNotifyAck : Nat := 0x08
def opProbe : Nat := 0x09
def opOpen : Nat := 0x10
def opClose : Nat := 0x11

/-- An entry with its value, padded to a multiple of 8 bytes (R56, Table 2-9); the status stands in the last two bytes. -/
def dapEntry (k tyCode : Nat) (value : List Byte) (epoch st : Nat) : List Byte :=
  leBytes 16 (packFields [(16, keyIx k), (8, keySub k), (8, tyCode), (32, value.length), (48, epoch), (16, st)]) ++
  padTo ((value.length + 7) / 8 * 8) value

/-- The reply to a request: flags REPLY and RELAYED, with a tag under a key. -/
def dapReply (op : Nat) (f : DapFrame) (session : Nat) (st : Status) (window : Nat) (key : Option (List Byte)) (payload : List Byte) :
    List Byte :=
  let flags := 1 + ofBool (hasFlag f flagRelayed) * 32 + ofBool key.isSome * 4
  sealed (dapHeader { opcode := op, flags := flags, target := f.target.toNat, session := session, status := st
                      sequence := f.sequence.toNat, hops := f.hops.toNat, length := payload.length, window := window } ++ payload) key

/-- The open session with an ID. -/
def sessionOf (c : Core) (id : Nat) : Option Session := c.dap.sessions.find? (fun s => s.id == id)

/-- Change a session. -/
def modSession (c : Core) (id : Nat) (f : Session → Session) : Core :=
  { c with dap := { c.dap with sessions := c.dap.sessions.map (fun s => if s.id = id then f s else s) } }

/-- The key of an authenticated session. -/
def keyOf (s : Session) : Option (List Byte) := if s.auth then some s.key else none

/-! ## Stream Transport frames (Table 7-7) -/

def stTypeOpen : Nat := 1
def stTypeOpenReply : Nat := 2
def stTypeData : Nat := 3
def stTypeAck : Nat := 4
def stTypeNak : Nat := 5
def stTypeClose : Nat := 6

/-- The fields of an ST header. -/
structure StHead where
  magic : Nat := 0x5354
  version : Nat := 1
  ty : Nat
  device : Nat
  stream : Nat
  seq : Nat
  records : Nat := 0
  units : Nat := 0
  window : Nat := 0
  sender : Nat
  session : Nat
  retransmit : Bool := false
  auth : Bool
  fromBuddy : Bool := false
  status : Nat := 0
  deriving DecidableEq, Repr

/-- The 32 bytes of an ST header. -/
def stHeader (h : StHead) : List Byte :=
  leBytes 32 (packFields [(16, h.magic), (8, h.version), (8, h.ty), (14, h.device), (2, 0), (16, h.stream), (48, h.seq), (16, h.records),
    (16, h.units), (16, h.window), (14, h.sender), (2, 0), (16, h.session), (1, ofBool h.retransmit), (1, ofBool h.auth),
    (1, ofBool h.fromBuddy), (5, 0), (16, h.status)])

/-- A received ST frame's bytes before its CRC. -/
def stBytes (ty : Nat) (f : StFrame) : List Byte :=
  stHeader { magic := f.magic.toNat, version := f.version.toNat, ty := ty, device := f.device.toNat, stream := f.stream.toNat
             seq := f.seq.toNat, records := f.records.toNat, units := f.units.toNat, window := f.window.toNat, sender := f.sender.toNat
             session := f.session.toNat, retransmit := f.retransmit, auth := f.auth, fromBuddy := f.fromBuddy
             status := f.status.toNat } ++ f.payload

/-- Whether a received ST frame is whole: it comes over a port in use, and its MAGIC, CRC-32C and VERSION are right (R223). -/
def stWhole (c : Core) (ty : Nat) (f : StFrame) : Bool :=
  portUp c f.eth.val && ipTaken c f.eth.val f.ip && f.magic == 0x5354 && crc32c (stBytes ty f) == f.crc && f.version == 1

/-- What becomes of a received ST frame: discarded with the core that counts it, or accepted with the key of its session (R223). -/
def stAccept (c : Core) (ty : Nat) (f : StFrame) : Except Core (Option (List Byte)) :=
  let bytes := stBytes ty f
  if !portUp c f.eth.val ∨ !ipTaken c f.eth.val f.ip then .error c
  else if !stWhole c ty f then .error (frameDiscarded c)
  else if !f.auth then .ok none
  else
    match (sessionOf c f.session.toNat).bind keyOf with
    | some k => if f.tag = hmac256 k (bytes ++ leBytes 4 f.crc.toNat) then .ok (some k) else .error (authFailed c)
    | none => .error (authFailed c)

end Sys2Proof.Machine
end

