-- ==== Sys2Proof/Machine/Capture.lean ====
section
/-!
DEFINITION. Sys2Proof/Machine/Capture.lean: placement of staged records, the stream table and the Stream Transport
(07_capture_credit.md R215, R219 to R228; 13_withy_multidevice.md R387; 15_integrity_faults.md R412 to R414).
-/
namespace Sys2Proof.Machine

/-! ## Placement (R215, R220, R221) -/

/-- The first staged record of a stream that still waits for its place. -/
def nextStaged (c : Core) (n : Nat) : Option Staged := c.landing.staged.find? (fun s => s.stream == n && !s.placed)

/-- The record as placed: its own bytes, or a VOID record in its place when its check fails (R221, R413). -/
def checkedRecord (c : Core) (s : Staged) : List Byte × Core :=
  if crcOk s.bytes then (s.bytes, c)
  else (voidRecord c s.stream s.seq 1, voided (countCrcFail c 0) s.seq [s.weaver])

/-- Whether a record goes to its stream's ring: all but one-unit records under BOOM and DIRECT; VOID records do (R220, R414). -/
def goesToRing (dest : Nat) (bytes : List Byte) : Bool :=
  let k := recKind bytes
  dest == 1 || 8 ≤ k || (k == 6 && dest == 2)

/-- Whether a record enters the stream's boom (R220, R414). -/
def goesToBoom (dest : Nat) (bytes : List Byte) : Bool := dest == 2 && recKind bytes != 6

/-- Whether the ring of a stream takes a record now. -/
def ringTakes (c : Core) (n units : Nat) : Bool := (streamEntry c n).enabled && decide (units ≤ ringFree c n)

/-- Whether a boom takes one more capture entry now. -/
def boomTakes (c : Core) (q : Nat) : Bool :=
  let b := getBoom c q
  bdEnabled b.desc && bdSource b.desc == srcCapture && decide (1 ≤ boomFree c q)

/-- The boom entry of a record: a two-unit record fills it, a one-unit record takes the trailer (R344). -/
def captureEntry (q : Nat) (bytes : List Byte) (stamp seq : Nat) : List Byte :=
  if unitsOf bytes = 1 then trailed bytes q seq stamp else bytes

/-- A unit's credit returns (R215). -/
def returnCredit (c : Core) (s : Staged) : Core := { c with landing := { c.landing with held := c.landing.held - s.credit } }

/-- Place the next staged record of a stream, if its destination has room (R215, R220, R221). -/
def placeRecord (m : Mem) (c : Core) (n : Nat) : Mem × Core :=
  match nextStaged c n with
  | none => (m, c)
  | some s =>
    let (bytes, c0) := checkedRecord c s
    let ring := goesToRing s.dest bytes
    let boom := goesToBoom s.dest bytes
    let q := (streamEntry c n).boom
    if (ring && !ringTakes c n (unitsOf bytes)) || (boom && !boomTakes c q) then (m, c)
    else
      let (m1, c1) := if ring then ringWrite m c0 n s.seq bytes else (m, c0)
      let (m2, c2) := if boom then appendEntry m1 c1 q false (captureEntry q bytes c.stamp) else (m1, c1)
      let rest := if ring || boom then c2.landing.staged.erase s
        else c2.landing.staged.map (fun x => if x = s then { x with bytes := bytes, placed := true } else x)
      let c3 := { c2 with landing := { c2.landing with staged := rest } }
      let c4 := if ring || boom then returnCredit c3 s else c3
      (m2, reschedule (recordStands (releaseShares c4) n s.seq bytes))

/-! ## The stream table (R219) -/

/-- The contents checks of a stream table, entry by entry. -/
def streamTableStatus (data : List Byte) : Option Status :=
  (List.range (data.length / 32)).findSome? (fun i => streamEntryStatus (leAt data (32 * i) 32))

/-- The streams used by ARMED, RUNNING or HOLDING Weavers, for their segments and the successors fixed for them (R101, R219). -/
def usedStreams (c : Core) : List Nat :=
  (List.range 64).flatMap (fun w =>
    let st := wState c w
    if st = 0 ∨ st = 4 then []
    else
      let x := getW c w
      (x.desc.toList ++ x.succ.toList.map Succ.desc).flatMap (fun d => (setBits (sitesHeld c w) 8).map (siteStream d)))

/-- A write of STREAM_TABLE: a positive multiple of 32 bytes (R219, Table 7-8). -/
def writeStreamTable (c : Core) (data : List Byte) : Written :=
  match (if data.length = 0 ∨ data.length % 32 ≠ 0 then some stOutOfRange else streamTableStatus data) with
  | some s => .error s
  | none =>
    let old := dom c (mkKey 0x5C01 0)
    guardSt ((usedStreams c).all (fun n => slice old (32 * n) 32 == slice data (32 * n) 32)) stStateConflict
      (.ok (setDom c (mkKey 0x5C01 0) data))

/-! ## Acknowledgement (R215, R220, R224, R226) -/

/-- Records of a stream up to `seq` are acknowledged: ring units and DIRECT units free, the journal and the buddy learn it. -/
def ackStream (m : Mem) (c : Core) (n seq : Nat) : Mem × Core :=
  let st := getStream c n
  if seq ≤ st.acked then (m, c)
  else
    let gone := c.landing.staged.filter (fun s => s.stream == n && s.placed && decide (s.seq ≤ seq))
    let c1 := setStream c n { st with acked := seq, ring := st.ring.filter (fun r => decide (seq < r.seq)) }
    let c2 := gone.foldl returnCredit { c1 with landing := { c1.landing with staged := c1.landing.staged.filter (fun s => !gone.contains s) } }
    settleBooms m (releaseShares (journalAdd c2 2 n seq false 0))

/-! ## Sending (R222, R223, R225, R227) -/

/-- Units that a DATA frame may carry on a port (R223). -/
def frameUnits (c : Core) (p : Nat) : Nat := if rd c (ek p 5) = 9000 then 256 else 40

/-- The port that a stream with a PORT field uses: its own, or either with preference for the one in use (R227). -/
def streamPort (c : Core) (port eth : Nat) : Option Nat :=
  if port < 2 then (if portUp c port then some port else none)
  else if portUp c eth then some eth
  else if portUp c (1 - eth) then some (1 - eth)
  else none

/-- A record on its way to the host: its sequence, and where it is held. -/
inductive Held where
  | ring (r : RingRec)
  | landing (s : Staged)
  | lost (seq : Nat)
  deriving DecidableEq, Repr

/-- The sequence of a held record. -/
def heldSeq : Held → Nat
  | .ring r => r.seq
  | .landing s => s.seq
  | .lost s => s

/-- The record of a stream with a sequence: in the ring, in the Landing, or lost with the Landing in a reset (log 39). -/
def heldAt (c : Core) (n seq : Nat) : Held :=
  match (getStream c n).ring.find? (fun r => r.seq == seq) with
  | some r => .ring r
  | none =>
    match c.landing.staged.find? (fun s => s.stream == n && s.placed && s.seq == seq) with
    | some s => .landing s
    | none => .lost seq

/-- A record read from its ring: a VOID record that replaced a longer one fills one unit. -/
def trimRecord (l : List Byte) : List Byte := if recKind l < 8 then l.take 32 else l

/-- The bytes of a held record after the egress check; a record that fails is replaced by a VOID record (R225, R413). -/
def egress (m : Mem) (c : Core) (n : Nat) (h : Held) : List Byte × (Mem × Core) :=
  let e := streamEntry c n
  match h with
  | .ring r =>
    let l := trimRecord (ringBytes m e r)
    let bad := (List.range r.units).flatMap (fun k => badUnits m (ringAddr e (r.pos + k)) 32)
    let c1 := bad.foldl ueMet ((List.range r.units).foldl (fun c k => touchHbm c (ringAddr e (r.pos + k)) 32 .auto) c)
    if bad.isEmpty ∧ crcOk l then (l, (m, c1))
    else
      let own := c.buddy.waiting.find? (fun it => it.kind == .record && it.id.toNat == n && it.sequence.toNat == r.seq && crcOk it.bytes)
      match own with
      | some it => (it.bytes, storeUnits m (recoveredCopy (countCrcFail c1 2) r.seq) e r.pos .auto r.units it.bytes)
      | none =>
        let v := voidRecord c n r.seq 3
        (v, storeUnits m (voided (countCrcFail c1 2) r.seq []) e r.pos .auto 1 v)
  | .landing s =>
    if crcOk s.bytes then (s.bytes, (m, c))
    else
      let v := voidRecord c n s.seq 3
      let f := fun (x : Staged) => if x = s then { x with bytes := v } else x
      (v, (m, voided { (countCrcFail c 2) with landing := { c.landing with staged := c.landing.staged.map f } } s.seq [s.weaver]))
  | .lost seq => (voidRecord c n seq 3, (m, voided (countCrcFail c 2) seq []))

/-- Whether the next record of a stream after `seq` may be sent as a ring, Landing or lost one: under BOOM one-unit records stay with
the device, so the next held record is sent (R220). -/
def nextHeld (c : Core) (n after top : Nat) : Option Held :=
  let st := getStream c n
  let inRing := (st.ring.find? (fun r => decide (after < r.seq))).map Held.ring
  let inLanding := (c.landing.staged.find? (fun s => s.stream == n && s.placed && decide (after < s.seq))).map Held.landing
  let cand := inRing.toList ++ inLanding.toList
  let best := cand.foldl (fun (b : Option Held) h =>
    match b with
    | some x => if heldSeq h < heldSeq x then some h else b
    | none => some h) none
  match best with
  | some h => if heldSeq h ≤ top then some h else none
  | none => none

/-- Gather records for one frame: at most `units`, all sent before or all new; each passes its egress check. -/
def gather : Nat → Mem → Core → Nat → Nat → Nat → Nat → Bool → List (List Byte) × (Nat × (Mem × Core))
  | 0, m, c, _, after, _, _, _ => ([], (after, (m, c)))
  | k + 1, m, c, n, after, top, units, again =>
    match nextHeld c n after top with
    | none => ([], (after, (m, c)))
    | some h =>
      let seq := heldSeq h
      if decide (seq ≤ (getStream c n).everSent) != again then ([], (after, (m, c)))
      else
        let (l, (m1, c1)) := egress m c n h
        if units < unitsOf l then ([], (after, (m, c)))
        else
          let (rest, r) := gather k m1 c1 n seq top (units - unitsOf l) again
          (l :: rest, r)

/-- The key with which a bound stream's frames are tagged. -/
def streamKey (c : Core) (session : Nat) : Option (List Byte) := if session = 0 then none else (sessionOf c session).bind keyOf

/-- The bytes of a DATA frame; SESSION_ID is 0 without authentication (Table 7-7). -/
def dataFrame (c : Core) (device n seq session : Nat) (retransmit fromBuddy : Bool) (records : List (List Byte)) : List Byte :=
  let key := streamKey c session
  let body := records.flatten
  sealed (stHeader { ty := stTypeData, device := device, stream := n, seq := seq, records := records.length, units := body.length / 32
                     sender := deviceId c, session := if key.isSome then session else 0, retransmit := retransmit, auth := key.isSome, fromBuddy := fromBuddy } ++ body) key

/-- Whether the Stream Transport stands still: after an L4 raise (R430). -/
def stStopped (c : Core) : Bool := c.faults.reaction == 4

/-- Send the next DATA frame of an own stream (R22, R225, R387). -/
def sendOwn (m : Mem) (c : Core) (n : Nat) : Mem × Core :=
  let st := getStream c n
  let e := streamEntry c n
  match st.bound, streamPort c e.port st.eth with
  | some host, some p =>
    let top := min st.journal (st.lastAck + st.window)
    if stStopped c ∨ (pairState c = 5 ∧ e.mirror) then (m, c)
    else
      match nextHeld c n st.sent top with
      | none => (m, c)
      | some h =>
        let again := decide (heldSeq h ≤ st.everSent)
        let (records, (last, (m1, c1))) := gather 256 m c n st.sent top (frameUnits c p) again
        if records.isEmpty then (m, c)
        else
          let frame := dataFrame c1 (deviceId c) n (heldSeq h) st.session again false records
          let c2 := modStream c1 n (fun st => { st with sent := last, everSent := max st.everSent last, eth := p })
          (m1, tallyEvent (sendUdp c2 p svcSt host frame) 0xDC)
  | _, _ => (m, c)

/-! ## The partner's streams (R387) -/

def getServed (c : Core) (n : Nat) : PartnerStream := mget {} c.buddy.served n
def setServed (c : Core) (n : Nat) (x : PartnerStream) : Core := { c with buddy := { c.buddy with served := mset {} c.buddy.served n x } }

/-- The records of a partner's stream in the mirror area. -/
def partnerRecords (c : Core) (n : Nat) : List MirrorItem :=
  c.buddy.held.filter (fun it => it.kind == .record && it.id.toNat == n)

/-- The first record of a partner's stream above `after`. -/
def partnerNext (c : Core) (n after : Nat) : Option MirrorItem :=
  (partnerRecords c n).foldl (fun (b : Option MirrorItem) it =>
    if it.sequence.toNat ≤ after then b
    else match b with
      | some x => if it.sequence.toNat < x.sequence.toNat then some it else b
      | none => some it) none

/-- A partner's record after the egress check (R21, R225): the mirror copy is the last one there is, so a VOID record of the partner
takes the place of one that fails (R413, log 112). -/
def partnerEgress (c : Core) (it : MirrorItem) : List Byte × Core :=
  if crcOk it.bytes then (it.bytes, c)
  else
    let v := voidOf c (rd c (bk 1)) it.id.toNat it.sequence.toNat 3
    let swap := fun (x : MirrorItem) => if x = it then { x with bytes := v } else x
    (v, voided { (countCrcFail c 2) with buddy := { c.buddy with held := c.buddy.held.map swap } } it.sequence.toNat [])

/-- Gather a partner's records for one frame: all sent before, or all new. -/
def gatherPartner : Nat → Core → Nat → Nat → Nat → Nat → Bool → List (List Byte) × (Nat × Core)
  | 0, c, _, after, _, _, _ => ([], (after, c))
  | k + 1, c, n, after, top, units, again =>
    match partnerNext c n after with
    | none => ([], (after, c))
    | some it =>
      let seq := it.sequence.toNat
      let (bytes, c1) := partnerEgress c it
      if top < seq ∨ units < unitsOf bytes ∨ decide (seq ≤ (getServed c n).everSent) ≠ again then ([], (after, c))
      else
        let (rest, r) := gatherPartner k c1 n seq top (units - unitsOf bytes) again
        (bytes :: rest, r)

/-- Send the next DATA frame of a partner's stream: its DEVICE, own SENDER, FROM_BUDDY at 1, RETRANSMIT for what was sent before (R227,
R387). -/
def sendPartner (c : Core) (n : Nat) : Core :=
  let x := getServed c n
  match x.bound, streamPort c 2 x.eth with
  | some host, some p =>
    match partnerNext c n x.sent with
    | some it =>
      let again := decide (it.sequence.toNat ≤ x.everSent)
      let (records, (last, c1)) := gatherPartner 256 c n x.sent (x.acked + x.window) (frameUnits c p) again
      if stStopped c ∨ pairState c ≠ 4 ∨ records.isEmpty then c
      else
        let frame := dataFrame c1 (rd c (bk 1)) n it.sequence.toNat x.session again true records
        tallyEvent (sendUdp (setServed c1 n { x with sent := last, everSent := max x.everSent last, eth := p }) p svcSt host frame) 0xDC
    | none => c
  | _, _ => c

/-- The device sends the next DATA frame of a stream: its own, or where it has none to send, the partner's (R225, R387). -/
def sendStream (m : Mem) (c : Core) (n : Nat) : Mem × Core :=
  let (m1, c1) := sendOwn m c n
  if c1.outbox.length = c.outbox.length ∧ pairState c = 4 then (m1, sendPartner c1 n) else (m1, c1)

/-! ## Receiving (R223, R224, R226, R227) -/

/-- The OPEN_REPLY to an OPEN (R224). -/
def openReply (c : Core) (f : StFrame) (key : Option (List Byte)) (low : Nat) (st : Status) : Core :=
  let frame := sealed (stHeader { ty := stTypeOpenReply, device := f.device.toNat, stream := f.stream.toNat, seq := low
                                  sender := deviceId c, session := if key.isSome then f.session.toNat else 0, auth := key.isSome
                                  status := st, fromBuddy := f.device.toNat != deviceId c }) key
  sendUdp c f.eth.val svcSt f.src frame

/-- The status of an OPEN of a stream whose lowest held sequence is `low` and whose next one is `next` (R223, R224). -/
def openStatus (c : Core) (f : StFrame) (key : Option (List Byte)) (low next : Nat) : Status :=
  if authRequired c ∧ key.isNone then stAuthRequired
  else if f.seq.toNat < low then stStaleSequence
  else if next < f.seq.toNat then stOutOfRange
  else stOk

/-- Whether an ST frame names the streams of the partner that this device serves, or its own (R224, R387). -/
def forPartner (c : Core) (f : StFrame) : Bool := pairState c == 4 && f.device.toNat == rd c (bk 1)
def forOwn (c : Core) (f : StFrame) : Bool := f.device.toNat == deviceId c

/-- OPEN (R224): it binds the stream in place of any earlier binding and is answered; with status OK it acts as an ACK of SEQ - 1, and
the stream is sent from SEQ. Under AUTH_REQUIRED one without a valid tag is answered AUTH_REQUIRED and binds nothing (R223). One
for the streams of another device is discarded (log 113). -/
def stOpenFrame (m : Mem) (c : Core) (f : StFrame) : Mem × Core :=
  match stAccept c stTypeOpen f with
  | .error c1 =>
    (m, if stWhole c stTypeOpen f && authRequired c && (forPartner c f || forOwn c f) then openReply c1 f none 0 stAuthRequired else c1)
  | .ok key =>
    let n := f.stream.toNat
    let seq := f.seq.toNat
    let session := if key.isSome then f.session.toNat else 0
    if forPartner c f then
      let x := getServed c n
      let low := match partnerNext c n x.acked with
        | some it => it.sequence.toNat
        | none => x.acked + 1
      let next := ((partnerRecords c n).map (fun it => it.sequence.toNat)).foldl max x.acked + 1
      let s := openStatus c f key low next
      let c1 := openReply c f key low s
      let y := { x with bound := some f.src, session := session, eth := f.eth.val, window := f.window.toNat }
      if s = stAuthRequired then (m, c1)
      else if s ≠ stOk then (m, setServed c1 n y)
      else
        let c2 := setServed c1 n { y with sent := seq - 1, everSent := max x.everSent (seq - 1), acked := seq - 1 }
        (m, { c2 with buddy := { c2.buddy with held := c2.buddy.held.filter (fun it =>
          !(it.kind == .record && it.id.toNat == n && decide (it.sequence.toNat < seq))) } })
    else if forOwn c f then
      let st := getStream c n
      let s := openStatus c f key (st.acked + 1) st.next
      let c1 := openReply c f key (st.acked + 1) s
      let y := { st with bound := some f.src, session := session, eth := f.eth.val, window := f.window.toNat }
      if s = stAuthRequired then (m, c1)
      else if s ≠ stOk then (m, setStream c1 n y)
      else
        let c2 := setStream c1 n { y with sent := seq - 1, everSent := max st.everSent (seq - 1), lastAck := seq - 1 }
        ackStream m c2 n (seq - 1)
    else (m, c)

/-- Whether a later frame of a stream comes from its bound host, tagged where AUTH_REQUIRED asks it. -/
def stBoundFrame (c : Core) (ty : Nat) (f : StFrame) : Except Core Unit :=
  match stAccept c ty f with
  | .error c1 => .error c1
  | .ok key => if authRequired c ∧ key.isNone then .error (authFailed c) else .ok ()

/-- ACK (R226): cumulative; below an earlier one it is ignored, above the highest sequence sent it counts in ACK_INVALID. -/
def stAckFrame (m : Mem) (c : Core) (f : StFrame) : Mem × Core :=
  match stBoundFrame c stTypeAck f with
  | .error c1 => (m, c1)
  | .ok _ =>
    let n := f.stream.toNat
    let seq := f.seq.toNat
    let c0 := tallyEvent c 0xDE
    if forPartner c f then
      let x := getServed c n
      if x.bound ≠ some f.src then (m, c)
      else if seq < x.acked then (m, c0)
      else if x.everSent < seq then (m, bump c0 (mkKey 0x5C00 9))
      else
        let c1 := setServed c0 n { x with acked := seq, sent := max x.sent seq, window := f.window.toNat }
        (m, { c1 with buddy := { c1.buddy with held := c1.buddy.held.filter (fun it =>
          !(it.kind == .record && it.id.toNat == n && decide (it.sequence.toNat ≤ seq))) } })
    else if !forOwn c f then (m, c)
    else
      let st := getStream c n
      if st.bound ≠ some f.src then (m, c)
      else if seq < st.lastAck then (m, c0)
      else if st.everSent < seq then (m, bump c0 (mkKey 0x5C00 9))
      else ackStream m (setStream c0 n { st with lastAck := seq, window := f.window.toNat, sent := max st.sent seq }) n seq

/-- A resend is counted in ST_RETRANSMITS (R227). -/
def countResend (c : Core) : Core := tallyEvent (bump c (mkKey 0x5C00 8)) 0xDD

/-- NAK (R226): the device resends from SEQ. -/
def stNakFrame (c : Core) (f : StFrame) : Core :=
  match stBoundFrame c stTypeNak f with
  | .error c1 => c1
  | .ok _ =>
    let n := f.stream.toNat
    let seq := f.seq.toNat
    if forPartner c f then
      let x := getServed c n
      if x.bound ≠ some f.src ∨ x.everSent < seq then c
      else countResend (setServed c n { x with sent := max x.acked (seq - 1) })
    else if !forOwn c f then c
    else
      let st := getStream c n
      if st.bound ≠ some f.src ∨ st.everSent < seq then c
      else countResend (setStream c n { st with sent := max st.acked (seq - 1) })

/-- CLOSE (R224): ends the binding; records stay held. -/
def stCloseFrame (c : Core) (f : StFrame) : Core :=
  match stBoundFrame c stTypeClose f with
  | .error c1 => c1
  | .ok _ =>
    let n := f.stream.toNat
    if forPartner c f then
      let x := getServed c n
      if x.bound = some f.src then setServed c n { x with bound := none } else c
    else if !forOwn c f then c
    else
      let st := getStream c n
      if st.bound = some f.src then setStream c n { st with bound := none } else c

/-- ACK_TIMEOUT passes with the lowest unacknowledged record sent: the device resends from it (R227). -/
def stTimeout (c : Core) (n : Nat) : Core :=
  let st := getStream c n
  if st.bound.isSome ∧ st.acked < st.sent then countResend (setStream c n { st with sent := st.acked })
  else
    let x := getServed c n
    if x.bound.isSome ∧ x.acked < x.sent then countResend (setServed c n { x with sent := x.acked }) else c

/-- A port has lost its link: streams with PORT 2, and those of the partner, continue on the other port from the lowest
unacknowledged record (R227, R387). -/
def streamsOffPort (c : Core) (p : Nat) : Core :=
  { c with
    streams := c.streams.map (fun e =>
      if e.2.eth = p ∧ (streamEntry c e.1).port = 2 then (e.1, { e.2 with eth := 1 - p, sent := e.2.acked }) else e)
    buddy := { c.buddy with served := c.buddy.served.map (fun e =>
      if e.2.eth = p then (e.1, { e.2 with eth := 1 - p, sent := e.2.acked }) else e) } }

/-! ## Journal pointers in force (R22, R419, R420) -/

/-- A journal entry is whole: stream pointers and MARKs that it covers are in force. -/
def entryWhole (c : Core) (e : JEntry) : Core :=
  match e.kind with
  | 1 => modStream c e.id (fun st => { st with journal := max st.journal e.value })
  | _ => c

end Sys2Proof.Machine
end

