-- ==== Sys2Proof/Machine/Remote.lean ====
section
/-!
DEFINITION. Sys2Proof/Machine/Remote.lean: apertures, the service of remote reads and writes, and the requests this
device makes (01_architecture.md R35 to R42; 13_withy_multidevice.md R372, R373).
-/
namespace Sys2Proof.Machine

/-- Whether bytes [a, a + n) meet a region of `mib` MiB from `base` MiB of the Yard. -/
def meetsYard (a n base mib : Nat) : Bool :=
  decide (a < yardBase + (base + mib) * 2 ^ 20) && decide (yardBase + base * 2 ^ 20 < a + n)

/-- Whether bytes lie in the Landing or in the boom region of the Yard (R39, Table 12-1). -/
def protectedYard (c : Core) (a n : Nat) : Bool :=
  meetsYard a n (rd c (mkKey 0x5C00 1)) (rd c (mkKey 0x5C00 2)) || meetsYard a n (rd c (mkKey 0x5400 1)) 8

/-- Whether a running block load has bytes [a, a + n) in its destination range (R373). -/
def loadHolds (c : Core) (a n : Nat) : Bool :=
  match c.remote.load with
  | some l => rd c (mkKey 0x6022 7) == 1 && decide (a < l.dest + l.length) && decide (l.dest < a + n)
  | none => false

/-- The local address that an aperture gives `n` bytes at a global address, or the status of R39: of several the lowest, and
ADDRESS_UNMAPPED for an access that runs past the end of its aperture (log 90). -/
def apertureOf (c : Core) (g n : Nat) (write : Bool) : Except Nat Nat :=
  let ap := rd c (mkKey 0x6021 (bits g 30 4 + 1))
  let a := bits ap 0 10 * 2 ^ 30 + bits g 0 30
  if !bit ap 63 then .error 1
  else if 2 ^ 30 < bits g 0 30 + n ∨ !localMapped c a n then .error 2
  else if write ∧ !bit ap 62 then .error 3
  else if write ∧ (protectedYard c a n || slotHeld c a n || loadHolds c a n) then .error 4
  else .ok a

/-- Hart reservations that a store to bytes [a, a + n) breaks (R331, R332). -/
def breakReservations (c : Core) (a n : Nat) : Core :=
  { c with harts := c.harts.map (fun e =>
      match e.2.reserved with
      | some (r, k) => if r < a + n ∧ a < r + k then (e.1, { e.2 with reserved := none }) else e
      | none => e) }

/-- A remote read of `n` bytes: its status and its data (R39, R372); with `block` the answer carries the block's BLOCK_CRC. -/
def serveRead (m : Mem) (c : Core) (g n : Nat) (block : Bool) : (Nat × List Byte × Nat) × Core :=
  match apertureOf c g n false with
  | .error s => ((s, [], 0), c)
  | .ok a =>
    let (okRead, c1) := checkedRead m c a n .auto
    let tag := mfind m.tags (a / 4096)
    if !okRead ∨ (block ∧ tag = none) then ((5, [], 0), c1)
    else ((0, readBytes m a n, if block then tag.getD 0 else 0), c1)

/-- A remote write of bytes: its status (R39, R40, R372). -/
def serveWrite (m : Mem) (c : Core) (g : Nat) (l : List Byte) : Nat × (Mem × Core) :=
  match apertureOf c g l.length true with
  | .error s => (s, (m, c))
  | .ok a =>
    let (m1, c1) := checkedStore m c a l .auto
    (0, (m1, breakReservations c1 a l.length))

/-- Device of a global address (R35). -/
def deviceOf (g : Nat) : Nat := bits g 34 14

/-- The status that keeps a request from leaving: no route, or a link that is DOWN (R372). -/
def cannotSend (c : Core) (dst : Nat) : Option Nat :=
  match routeOf c dst with
  | none => some 7
  | some l => if linkUp c l then none else some 6

/-- Note a request that awaits its response; answers its tag. -/
def newRequest (c : Core) (dst : Nat) (core : Option Nat) (part : Nat) : Nat × Core :=
  let tag := c.remote.tag
  let r : RemoteReq := { tag := tag, dst := dst, link := (routeOf c dst).getD 0, since := c.time, core := core, part := part }
  (tag, { c with remote := { c.remote with tag := (tag + 1) % 2 ^ 16, reqs := c.remote.reqs ++ [r] } })

/-- Send an RD_REQ of `n` bytes at a global address (R372). -/
def askRead (c : Core) (g n : Nat) (block : Bool) (core : Option Nat) (part : Nat) : Nat × Core :=
  let (tag, c1) := newRequest c (deviceOf g) core part
  (tag, (sendTo c1 1 1 (deviceOf g) block tag g 0 (n / 64 - 1) []).1)

/-- Send a WR_REQ of bytes at a global address (R372). -/
def askWrite (c : Core) (g : Nat) (l : List Byte) (core : Option Nat) : Nat × Core :=
  let (tag, c1) := newRequest c (deviceOf g) core 0
  (tag, (sendTo c1 2 1 (deviceOf g) false tag g 0 0 l).1)

/-- Take the request that a response answers: same tag, from the device asked. -/
def takeRequest (c : Core) (tag src : Nat) : Option RemoteReq × Core :=
  match c.remote.reqs.find? (fun r => r.tag == tag && r.dst == src) with
  | some r => (some r, { c with remote := { c.remote with reqs := c.remote.reqs.filter (fun x => x.tag != tag) } })
  | none => (none, c)

end Sys2Proof.Machine
end

