-- ==== Sys2Proof/Machine/Journal.lean ====
section
/-!
DEFINITION. Sys2Proof/Machine/Journal.lean: the journal in eMRAM, the acceptance it gives, the scan of its log and the recovery
after a reset (15_integrity_faults.md R416 to R422; 13_withy_multidevice.md R385, R387).
-/
namespace Sys2Proof.Machine

/-- Object `sub` of the journal (Table 15-10). -/
def jo (sub : Nat) : Key := mkKey 0x7800 sub

/-- The slots of the log (R417). -/
def journalSlots : Nat := 65536

/-- A journal entry's 16 bytes (Table 15-3). -/
def entryImage (e : JEntry) : List Byte :=
  leBytes 16 (packFields [(48, e.value), (16, e.id), (4, e.kind), (1, ofBool e.open_), (48, e.run), (11, 0)])

/-- The trailer word of a record whose preceding bytes are given (R416). -/
def trailerWord (body : List Byte) : List Byte := leBytes 4 (crc32c body).toNat ++ leBytes 4 0xA5

/-- A journal record of 256 bytes (Table 15-2). -/
def journalRecord (jseq : Nat) (l : List JEntry) : List Byte :=
  let body := padTo 248 (leBytes 16 (packFields [(16, 0x4A4C), (48, jseq), (8, l.length), (56, 0)]) ++ l.flatMap entryImage)
  body ++ trailerWord body

/-- An entry of 16 bytes. -/
def parseEntry (v : Nat) : JEntry :=
  { value := bits v 0 48, id := bits v 48 16, kind := bits v 64 4, open_ := bit v 68, run := bits v 69 48, since := 0 }

/-- A whole record: its number and its entries; any other slot's record is absent (R416). -/
def parseRecord (l : List Byte) : Option (Nat × List JEntry) :=
  let n := leAt l 8 1
  if l.length = 256 ∧ leAt l 0 2 = 0x4A4C ∧ leAt l 248 4 = (crc32c (l.take 248)).toNat ∧ leAt l 252 1 = 0xA5 ∧ 1 ≤ n ∧ n ≤ 14 then
    some (leAt l 2 6, (List.range n).map (fun i => parseEntry (leAt l (16 + 16 * i) 16)))
  else none

/-- What the scan keeps for a KIND and ID: place in the log's order, slot, entry. -/
structure Newest where
  order : Nat
  slot : Nat
  entry : JEntry
  deriving DecidableEq, Repr

/-- The key of a KIND and ID. -/
def entryKey (e : JEntry) : Nat := e.kind * 65536 + e.id

/-- Take the entries of one record into the newest ones. -/
def takeRecord (best : SMap Newest) (slot jseq : Nat) (l : List JEntry) : SMap Newest :=
  (l.zip (List.range l.length)).foldl (fun m p =>
    let x : Newest := { order := 16 * jseq + p.2, slot := slot, entry := p.1 }
    match mfind m (entryKey p.1) with
    | some y => if y.order < x.order then minsert (merase m (entryKey p.1)) (entryKey p.1) x else m
    | none => minsert m (entryKey p.1) x) best

/-- For each KIND and ID, the entry of the whole record with the highest JSEQ (R421). -/
def newestEntries (slots : SMap (List Byte)) : SMap Newest :=
  slots.foldl (fun m s =>
    match parseRecord s.2 with
    | some (jseq, l) => takeRecord m s.1 jseq l
    | none => m) []

/-! ## Writing (R417 to R420) -/

/-- The stream of the stream boom to which a boom reports, or its result boom: KIND and ID of what a commit appends to. -/
def resultKey3 (c : Core) (q : Nat) : Option (Nat × Nat) :=
  let d := (getBoom c q).desc
  if bdResEn d then
    let r := (getBoom c (bdResultBoom d)).desc
    some (if bdStreamOut r then (1, bdStream r) else (4, bdResultBoom d))
  else none

/-- Whether two waiting entries go into one record: a BOOM_HEAD with what its commit appended (R347), LAUNCH_RETIRED with the
pointers of its site streams (R419). -/
def tied (c : Core) (a b : JEntry) : Bool :=
  (a.kind == 3 && resultKey3 c a.id == some (b.kind, b.id)) || (b.kind == 3 && resultKey3 c b.id == some (a.kind, a.id))
  || (a.kind == 7 && b.kind == 1 && a.tie.contains b.id) || (b.kind == 7 && a.kind == 1 && b.tie.contains a.id)

/-- The waiting entries that go with one: what is tied to it, and what is tied to those. -/
def groupOf (c : Core) (e : JEntry) : List JEntry :=
  let l := c.journal.waiting
  let one := l.filter (fun x => x == e || tied c e x)
  l.filter (fun x => one.any (fun y => x == y || tied c y x))

/-- Whether an entry must still wait: the pointer of a site stream while another site of its armed launch has not passed its first
record (R419), and a BOOM_HEAD whose results await their CONFIRM (R384). -/
def mustWait (c : Core) (e : JEntry) : Bool :=
  (e.kind == 1 && c.journal.armed.any (fun a =>
    match armedSite a.2 e.id with
    | some s => bit (armedSites a.2).1 s && (armedSites a.2).1 != (armedSites a.2).2
    | none => false))
  || (e.kind == 3 && (match resultKey3 c e.id with
    | some (1, n) => awaits c .record n
    | _ => false))

/-- The entries that the next record takes in waiting order, at most `room`; a group goes whole or not at all. -/
def takeGroups (c : Core) : List JEntry → Nat → List JEntry → List JEntry
  | [], _, got => got
  | e :: l, room, got =>
    if got.contains e then takeGroups c l room got
    else
      let g := groupOf c e
      if g.any (mustWait c) then takeGroups c l room got
      else if room < g.length then got
      else takeGroups c l (room - g.length) (got ++ g)

/-- The entries of the slot after `slot` that are still the newest of their KIND and ID (R418). -/
def carried (slots : SMap (List Byte)) (slot : Nat) : List JEntry :=
  let next := (slot + 1) % journalSlots
  match mfind slots next with
  | none => []
  | some _ => ((newestEntries slots).filter (fun e => e.2.slot == next)).map (fun e => e.2.entry)

/-- A journal record is mirrored as a journal step (R384, log 30). -/
def mirrorStep (c : Core) (jseq : Nat) (l : List Byte) : Core := if pairState c = 1 then mirrorOut c .journal 0 jseq l else c

/-- Send a DAP frame over a Withy link as DAP_RELAY messages (R75, log 50). -/
def relayOver (c : Core) (l vc : Nat) (host : HostAddr) (frame : List Byte) : Core :=
  let slots := slotsOf (beBytes 16 host.ip.toNat ++ beBytes 2 host.port.toNat ++ leBytes 4 frame.length ++ frame)
  if !linkUp c l then c
  else (List.range ((slots.length + 15) / 16)).foldl (fun c i =>
    let part := (slots.drop (16 * i)).take 16
    sendSlots c l vc (headerSlot 5 (deviceId c) (rd c (lk l 3)) part.length false false i 0 0 0 :: part)) c

/-- Send a reply or a NOTIFY on its port: to the host, or back over the Withy link by which requests came (R75). -/
def sendDap (c : Core) (port : Nat) (host : HostAddr) (frame : List Byte) : Core :=
  if port < 2 then (if portUp c port then sendUdp c port svcDap host frame else c)
  else relayOver c (port - 2) 2 host frame

/-- Send a request's reply and keep it while its number is within L − 63 to L (R62). -/
def answerSession (c : Core) (sid port : Nat) (host : HostAddr) (sequence : Nat) (frame : List Byte) : Core :=
  modSession (sendDap c port host frame) sid (fun s => { s with replies := (s.replies.filter (fun r => decide (s.done < r.1 + 64))) ++ [(sequence, frame)] })

/-- Whether what a reply waits for is accepted (R419). -/
def accepted (c : Core) (w : Nat × Nat × Nat) : Bool :=
  !(c.journal.waiting.any (fun e => e.kind == w.1 && e.id == w.2.1)) &&
  !(w.1 == 4 && c.buddy.waiting.any (fun it => it.kind == .job && it.id.toNat == w.2.1 && decide (it.sequence.toNat ≤ w.2.2)))

/-- Send the replies whose items are accepted now (R419). -/
def releaseReplies (c : Core) : Core :=
  let (ready, rest) := c.dap.deferred.partition (fun d => d.waits.all (accepted c))
  ready.foldl (fun c d => answerSession c d.session d.port d.host d.sequence d.bytes) { c with dap := { c.dap with deferred := rest } }

/-- Write a record: the entries are whole in eMRAM and their pointers are in force (R22, R418, R419). -/
def writeRecord (c : Core) : Core :=
  let carry := carried c.journal.slots c.journal.head
  let taken := takeGroups c c.journal.waiting (14 - carry.length) []
  let old := carry.filter (fun e => !taken.any (fun t => t.kind == e.kind && t.id == e.id))
  let entries := (old ++ taken).take 14
  if entries.isEmpty then c
  else
    let slot := c.journal.head
    let jseq := (rd c (jo 1) + 1) % 2 ^ 48
    let bytes := journalRecord jseq entries
    let next := (slot + 1) % journalSlots
    let c1 := { c with journal := { c.journal with
      slots := mset [] c.journal.slots slot bytes
      head := next
      waiting := c.journal.waiting.filter (fun e => !taken.contains e) } }
    let c2 := wr c1 (jo 1) jseq
    let c3 := if next = 0 then bump c2 (jo 4) else c2
    let c4 := taken.foldl entryWhole (mirrorStep (tallyEvent c3 0xDA) jseq bytes)
    releaseReplies c4

/-- JOURNAL_WRITE: a record is written, a failed word was retried (L1), or a second write failed too and nothing stands (L3)
(Table 15-5). After L3 the journal is closed (R430). -/
def journalAttempt (c : Core) (a : EmramWrite) : Core :=
  if c.journal.closed ∨ c.journal.waiting.isEmpty then c
  else
    match a with
    | .good => writeRecord c
    | .retried => raise (writeRecord c) 302 1 0
    | .failedTwice => raise c 302 3 0

/-! ## The scan (R421 step 1) -/

/-- Restore one entry. -/
def restoreEntry (c : Core) (e : JEntry) : Core :=
  match e.kind with
  | 1 => modStream c e.id (fun st => { st with journal := e.value, confirmed := e.value, next := (e.value + 1) % 2 ^ 48, openRun := if e.open_ then some e.run else none
                                               acqOpen := st.acqOpen && e.open_ })
  | 2 => modStream c e.id (fun st => { st with acked := e.value, lastAck := e.value, sent := e.value, everSent := e.value })
  | 3 => modBoom c e.id (fun b => { b with head := e.value, dispatch := e.value, tail := max b.tail e.value })
  | 4 => modBoom c e.id (fun b => { b with tail := max b.tail e.value, covered := e.value })
  | 5 => modBoom c e.id (fun b => { b with mark := e.value, redo := e.value })
  | 6 => { c with journal := { c.journal with
      armed := mset (0, 0, 0, 0) c.journal.armed e.id (bits e.value 0 16, bits e.value 16 8, bits e.value 24 8, e.run) } }
  | _ => c

/-- Whether a LAUNCH_ARMED entry has a later LAUNCH_RETIRED (R421). -/
def retired (best : SMap Newest) (x : Newest) : Bool :=
  match mfind best (7 * 65536 + x.entry.id) with
  | some y => decide (x.order < y.order)
  | none => false

/-- The scan of the log (R421 step 1). -/
def scanJournal (c : Core) : Core :=
  let best := newestEntries c.journal.slots
  let head := c.journal.slots.foldl (fun (a : Nat × Nat) s =>
    match parseRecord s.2 with
    | some (jseq, _) => if a.1 ≤ jseq then (jseq, (s.1 + 1) % journalSlots) else a
    | none => a) (0, c.journal.head)
  let keep := best.filter (fun e => !(e.2.entry.kind == 6 && retired best e.2))
  keep.foldl (fun c e => restoreEntry c e.2.entry) { c with journal := { c.journal with head := head.2, armed := [] } }

/-! ## Recovery (R421 steps 2 and 3, R422, R450) -/

/-- The next `k` free values. -/
def freeMany (c : Core) (k : Nat) : List Nat := (List.range k).map (fun i => Config.freeValue (c.fresh + i))

/-- Use up `k` free values. -/
def freeUsedMany (c : Core) (k : Nat) : Core := { c with fresh := c.fresh + k }

/-- The end record of a run left open at a stream's pointer (R387, R422): an ABORTED SEGMENT_END of a cause whose other fields the
spec leaves open, or an ACQ_END of cause 6. -/
def endRecord (c : Core) (device n seq run cause : Nat) (acq : Bool) : List Byte :=
  let f := freeMany c 4
  let common := (commonFields c (if acq then 0xD else 9) n seq (if acq then 0 else f.getD 0 0) run).set 1 (14, device)
  if acq then
    twoUnit (common ++ [(3, f.getD 1 0), (3, 0), (8, 6), (48, 2 ^ 48 - 1), (48, 2 ^ 48 - 1), (32, 2 ^ 32 - 1), (32, 2 ^ 32 - 1),
      (32, 2 ^ 32 - 1), (16, 65535), (64, f.getD 2 0)])
  else
    twoUnit (common ++ [(48, run), (2, 1), (8, cause), (33, 2 ^ 33 - 1), (32, f.getD 1 0), (32, f.getD 2 0), (32, f.getD 3 0)])

/-- Close the run that a restored stream has open (R422). -/
def closeOpenRun (c : Core) (n : Nat) : Core :=
  let st := getStream c n
  match st.openRun with
  | some run => freeUsedMany (stageRecord c n 0 0 0 1 (endRecord c (deviceId c) n st.next run 11 st.acqOpen)) 4
  | none => c

/-- The outcome of a launch that was armed and not retired (R422): REJECTED, CAUSE 11, on each of its site streams. -/
def closeLaunch (c : Core) (w : Nat) (a : Nat × Nat × Nat × Nat) : Core :=
  let d : SegDesc := { streamBase := a.1, dest := 1 }
  (setBits (a.2.1 % 256) 8).foldl (fun c s => makeRejected c w s d 11) c

/-- Whether recovery owes outcome records (R422). -/
def outcomesOwed (c : Core) : Bool := c.streams.any (fun e => e.2.openRun.isSome) || !c.journal.armed.isEmpty

/-- Whether steps 2 and 3 can run now (R450; log 45). -/
def canRecover (c : Core) : Bool :=
  rd c (jo 8) == 1 && inModes c [.warm, .calibrate, .service] && rd c (hk 0x16) == 2 && !(noDeviceId c && outcomesOwed c)

/-- Whether the own copy of a record stands in its ring and passes its check. -/
def ownCopy (m : Mem) (c : Core) (n seq : Nat) : Bool :=
  match (getStream c n).ring.find? (fun r => r.seq == seq) with
  | some r =>
    let e := streamEntry c n
    let l := trimRecord (ringBytes m e r)
    e.ringUnits != 0 && crcOk l && ((List.range r.units).flatMap (fun k => badUnits m (ringAddr e (r.pos + k)) 32)).isEmpty
  | none => false

/-- Take a confirmed record from the buddy: the own copy is kept where it passes, else the buddy's copy is held for the host (log 45);
the pointer advances over a record above it (R421). -/
def takeRecordBack (m : Mem) (c : Core) (it : MirrorItem) : Core :=
  let n := it.id.toNat
  let seq := it.sequence.toNat
  let st := getStream c n
  if seq ≤ st.acked then c
  else
    let held : Staged := { stream := n, seq := seq, bytes := it.bytes, weaver := 0, run := 0, credit := 0, dest := 1, placed := true }
    let c1 := if ownCopy m c n seq then c
      else setStream { c with landing := { c.landing with staged := c.landing.staged ++ [held] } } n { st with ring := st.ring.filter (fun r => r.seq != seq) }
    if seq = (getStream c1 n).next then coverStream (modStream c1 n (fun st => { st with next := (seq + 1) % 2 ^ 48 })) n seq it.bytes else c1

/-- Take a confirmed job from the buddy: BOOM_TAIL advances over it, and its bytes wait for the boom's descriptor (R421). -/
def takeJobBack (c : Core) (it : MirrorItem) : Core :=
  let q := it.id.toNat
  let seq := it.sequence.toNat
  let b := getBoom c q
  if seq ≤ b.head then c
  else
    let c1 := { c with buddy := { c.buddy with restored := c.buddy.restored ++ [it] } }
    if seq = b.tail + 1 then coverTail (setBoom c1 q { b with tail := seq }) q seq else c1

/-- One item that the buddy returns. -/
def takeItemBack (m : Mem) (c : Core) (it : MirrorItem) : Core :=
  match it.kind with
  | .record => takeRecordBack m c it
  | .job => takeJobBack c it
  | .journal => c

/-- Discard the ring records above what the pointers and the buddy cover; the ring goes on after the last one kept (R420, R421). -/
def dropUncovered (c : Core) : Core :=
  { c with streams := c.streams.map (fun e =>
      let ring := e.2.ring.filter (fun r => decide (r.seq < e.2.next) && decide (e.2.acked < r.seq))
      let pos := match ring.getLast? with
        | some r => r.pos + r.units
        | none => e.2.ringPos
      (e.1, { e.2 with ring := ring, ringPos := pos })) }

/-- Steps 2 and 3: the buddy's items, then the outcomes owed (R421, R422). -/
def recover (m : Mem) (c : Core) (items : List MirrorItem) : Core :=
  let c1 := dropUncovered (items.foldl (takeItemBack m) c)
  let owed := c1.journal.armed
  let c2 := (c1.streams.map Prod.fst).foldl closeOpenRun c1
  let c3 := owed.foldl (fun c a => closeLaunch c a.1 a.2) c2
  wr c3 (jo 8) 0

/-- Recovery where no buddy is named (R421, R450). -/
def tryRecover (m : Mem) (c : Core) : Core := if canRecover c ∧ rd c (bk 1) = 0xFFFF then recover m c [] else c

/-- The buddy holds a higher fence (R387): FENCED, and the buddy source at L4. -/
def enterFenced (c : Core) : Core :=
  if pairState c = 5 then c else raise { wr c (bk 7) 5 with buddy := { c.buddy with fenced := true } } 301 4 0

/-- The buddy tells its fence (R387, log 132). -/
def noteFence (c : Core) (fence : Nat) : Core := if rd c (bk 9) < fence then enterFenced c else c

/-- A boom that is enabled again after a reset: jobs got back whose own copy fails are stored, and the entries up to MARK are
recovered (R357, R421). -/
def resumeBoom (m : Mem) (c : Core) (q : Nat) : Mem × Core :=
  let b := getBoom c q
  if !bdEnabled b.desc then (m, c)
  else
    let mine := c.buddy.restored.filter (fun it => it.id.toNat == q)
    let put := fun (r : Mem × Core) (it : MirrorItem) =>
      let own := entryBytes r.1 b it.sequence.toNat
      let c2 := readEntries r.1 r.2 b it.sequence.toNat 1
      if entryGood r.1 b it.sequence.toNat && crcOk own && recSeq own == it.sequence.toNat then (r.1, c2)
      else checkedStore r.1 c2 (entryAddr b.desc it.sequence.toNat) it.bytes .auto
    let (m1, c0) := mine.foldl put (m, c)
    let c1 := { c0 with buddy := { c0.buddy with restored := c0.buddy.restored.filter (fun it => it.id.toNat != q) } }
    if b.redo ≤ b.dispatch then (m1, c1)
    else
      let upto := min b.redo b.tail
      let c2 := recoverEntries (upto - b.dispatch) m1 c1 q upto
      settleBooms m1 (modBoom c2 q (fun b => { b with redo := 0 }))

end Sys2Proof.Machine
end

