-- ==== Sys2Proof/Machine/ControlStore.lean ====
section
/-!
DEFINITION. Sys2Proof/Machine/ControlStore.lean: what the vendor part of a microcode image puts into a control-store bank and
into the nano store: the microprograms of Table 4-7 and their Horot counterparts (04_microcode.md R118 to R121, R130, R138 to R141).
-/
namespace Sys2Proof.Machine

/-- A word without WAIT: operation, operands, immediate, cycles. -/
def word (op a b imm cyc : Nat) : MicroWord := { op := op, a := a, b := b, imm := imm, wait := 0, cyc := cyc }

/-- DONE. -/
def wDone : MicroWord := word 1 0 0 0 1

/-- The vendor microprograms of opcodes 0x00 to 0x0F (Table 4-7). -/
def vendorPrograms : List (List MicroWord) :=
  [ [wDone],
    [word 0x1A 0 0 0 1, wDone],
    [word 0x04 2 3 0 1, wDone],
    [word 0x16 0 4 0 1, word 0x05 2 1 0 1, wDone],
    [word 0x16 2 4 0 2, word 0x05 2 3 0 1, wDone],
    [word 0x18 0 2 0 2, word 0x04 2 3 0 1, wDone],
    [word 0x19 2 0 0 2, wDone],
    [word 0x14 5 0 6 1, word 0x16 1 4 0 1, word 0x05 2 3 0 1, word 0x14 1 0 2 1, word 0x1D 0 0 0 1, wDone, word 0x1C 0 0 0 1, wDone],
    [word 0x13 3 0 0 2, word 0x05 2 3 0 1, wDone],
    [word 0x13 4 0 0 2, word 0x05 2 3 0 1, wDone],
    [word 0x13 8 0 0 1, word 0x05 2 3 0 1, wDone],
    [word 0x1B 0 0 0 1, wDone],
    [word 0x04 31 7 0 1, word 0x0B 31 9 0 1, word 0x1E 0 31 0 2, wDone],
    [word 0x1F 0 3 0 2, wDone],
    [word 0x20 0 5 0 2, wDone],
    [word 0x21 0 3 0 1, wDone] ]

/-- The entries of programs that follow each other from an address: VALID, with the address of the first word. -/
def entriesFrom {α : Type} : Nat → List (List α) → List Nat
  | _, [] => []
  | a, p :: ps => sealEntry (a + 2 ^ 14) :: entriesFrom (a + p.length) ps

/-- A list as a map from an index up. -/
def storedFrom (base : Nat) (l : List Nat) : SMap Nat := l.zipIdx.map (fun e => (base + e.2, e.1))

/-! ## The Horot part (R138 to R141): the source gives its instructions, not its words (log 24) -/

/-- A nano-word of one operation, the next short word following. -/
def nanoOp (w : MicroWord) : NanoWord := plainStep w

/-- A nano-word that ends the instruction: SEQ is DONE. -/
def nanoDone : NanoWord := { plainStep (word 0 0 0 0 1) with seq := 1 }

/-- A nano-word that branches to a short word. -/
def nanoBranch (cond target : Nat) : NanoWord := { plainStep (word 0 0 0 0 1) with bcond := cond, ben := true, btarget := target }

/-- The nano programs of HOP 0x00 to 0x0D, one nano-word for each short word; HSEEK starts at short word 19. -/
def horotPrograms : List (List NanoWord) :=
  [ [nanoDone],
    [nanoOp (word 0x1A 0 0 0 1), nanoDone],
    [nanoOp (word 0x04 2 3 0 1), nanoDone],
    [nanoOp (word 0x16 0 4 0 1), nanoOp (word 0x05 2 1 0 1), nanoDone],
    [nanoOp (word 0x16 8 4 0 2), nanoOp (word 0x05 2 3 0 1), nanoDone],
    [nanoOp (word 0x16 9 4 0 2), nanoOp (word 0x05 2 3 0 1), nanoDone],
    [nanoOp (word 0x18 0 2 0 2), nanoOp (word 0x04 2 3 0 1), nanoDone],
    [nanoOp (word 0x19 2 0 0 2), nanoDone],
    [nanoBranch 5 25, nanoOp (word 0x16 1 4 0 1), nanoOp (word 0x05 2 3 0 1), nanoBranch 1 24, nanoOp (word 0x1D 0 0 0 1), nanoDone,
     nanoOp (word 0x1C 0 0 0 1), nanoDone],
    [nanoOp (word 0x13 3 0 0 2), nanoOp (word 0x05 2 3 0 1), nanoDone],
    [nanoOp (word 0x13 4 0 0 2), nanoOp (word 0x05 2 3 0 1), nanoDone],
    [nanoOp (word 0x1B 0 0 0 1), nanoDone],
    [nanoOp (word 0x1F 0 3 0 2), nanoDone],
    [nanoOp (word 0x20 0 5 0 2), nanoDone] ]

/-- The nano-words of the Horot part, from address 0. -/
def horotNano : SMap Nat := storedFrom 0 (horotPrograms.flatten.map (fun w => sealNano (encodeNano w)))

/-- Short words packed two per control word (R139). -/
def packShorts : List Nat → List Nat
  | [] => []
  | [a] => [sealWord a]
  | a :: b :: l => sealWord (a + b * 2 ^ 16) :: packShorts l

/-- The short words of the Horot part: word i names nano-word i, without MODIFIER. -/
def horotShorts : List Nat := List.range horotPrograms.flatten.length

/-- A bank that holds the vendor part of a microcode slot, native or Horot, and an empty user part (R119, R138, R142, R143). -/
def vendorBank (slot : Nat) (nano : Bool) : CsBank :=
  if nano then { slot := some slot, nano := true, words := storedFrom 0 (packShorts horotShorts), dispatch := storedFrom 0 (entriesFrom 0 horotPrograms) }
  else { slot := some slot, words := storedFrom 0 (vendorPrograms.flatten.map (fun w => sealWord (encodeMicro w)))
         dispatch := storedFrom 0 (entriesFrom 0 vendorPrograms) }

/-- The loaded entries of a table from an index up; an empty entry stays unlisted. -/
def entryMap (base : Nat) (l : List Nat) : SMap Nat := (storedFrom base (l.map sealEntry)).filter (fun e => e.2 != 0x8000)

/-- A bank with a user part: dispatch entries 0xE0 to 0xFF, timer entries and words from 0x1800, each with its parity
generated (R131); what an earlier user part held is gone. -/
def withUser (b : CsBank) (entries timers words : List Nat) : CsBank :=
  { b with
    user := true
    dispatch := b.dispatch.filter (fun e => decide (e.1 < 0xE0)) ++ entryMap 0xE0 entries
    timers := entryMap 0 timers
    words := b.words.filter (fun e => decide (e.1 < 0x1800)) ++ storedFrom 0x1800 (words.map sealWord) }

end Sys2Proof.Machine
end

