-- ==== Sys2Proof/Machine/Pec.lean ====
section
/-!
DEFINITION. Sys2Proof/Machine/Pec.lean: the pin-electronics control ports: list stores, the Weavers' list queues, the port
queues and frames (05_pin_timing.md R172 to R179).
-/
namespace Sys2Proof.Machine

/-- Object `sub` of control port k (Table 5-19). -/
def ck (k sub : Nat) : Key := mkKey (0x3500 + k) sub

/-- The list store of a port; eight zero bytes until one is written. -/
def listStore (c : Core) (k : Nat) : List Byte :=
  let l := dom c (ck k 5)
  if l = [] then List.replicate 8 0 else l

/-- The bytes a frame takes in a store: header, then its data padded to a multiple of 4 (Table 5-15). -/
def frameBytes (bitsN : Nat) : Nat := 4 + ceilDiv (ceilDiv bitsN 8) 4 * 4

/-- Whether `n` frames from an offset keep their ranges and lie within the store (R173). -/
def framesOk (store : List Byte) : Nat → Nat → Bool
  | 0, _ => true
  | n + 1, off =>
    let h := leAt store off 4
    let b := bits h 0 13
    decide (off + 4 ≤ store.length) && decide (1 ≤ b) && decide (b ≤ 4096) && bits h 14 18 == 0 &&
      decide (off + frameBytes b ≤ store.length) && framesOk store n (off + frameBytes b)

/-- Whether directory entry i is sound; `prev` is the list number before it (Table 5-16). -/
def entryOk (store : List Byte) (e i prev : Nat) : Bool :=
  let v := leAt store (8 + 8 * i) 8
  decide (prev < bits v 0 16) && decide (1 ≤ bits v 16 16) && decide (bits v 16 16 ≤ 256) &&
    bits v 32 16 % 4 == 0 && decide (8 + 8 * e ≤ bits v 32 16) && bits v 48 16 == 0 &&
    framesOk store (bits v 16 16) (bits v 32 16)

/-- The first failing directory entry of a store (R173). -/
def firstBadEntry (store : List Byte) (e : Nat) : Option Nat :=
  (List.range e).find? (fun i => !entryOk store e i (if i = 0 then 0 else leAt store (8 * i) 2))

/-- A write of LIST_STORE (R173). -/
def writeListStore (c : Core) (k : Nat) (data : List Byte) : Answer :=
  let e := leAt data 0 4
  if data.length < 8 ∨ 65536 < data.length ∨ 4096 < e ∨ leAt data 4 4 ≠ 0 ∨ data.length < 8 + 8 * e then
    (stOutOfRange, wr c (ck k 6) 0xFFFF)
  else match firstBadEntry data e with
    | some i => (stOutOfRange, wr c (ck k 6) i)
    | none => (stOk, setDom (wr c (ck k 6) 0xFFFF) (ck k 5) data)

/-- The first frame's offset and the number of frames of list n of a store. -/
def findList (store : List Byte) (n : Nat) : Option (Nat × Nat) :=
  ((List.range (leAt store 0 4)).find? (fun i => leAt store (8 + 8 * i) 2 == n)).map (fun i =>
    let v := leAt store (8 + 8 * i) 8
    (bits v 32 16, bits v 16 16))

/-- The ports that hold list n among those of a Weaver's pin groups (R172). -/
def portsOf (c : Core) (w n : Nat) : List Nat := (groupsOf c w).filter (fun k => (findList (listStore c k) n).isSome)

/-- The place of a source among lists that enter a port at one instant: Weavers by number, then the host (R175). -/
def sourceRank : ListFrom → Nat
  | .weaver w => w
  | .host => 64

/-- Put a list into a queue: behind those that entered before it, and by its source among those of its instant (R175). -/
def insertList (e : PortList) : List PortList → List PortList
  | [] => [e]
  | x :: xs => if e.since = x.since ∧ sourceRank e.source < sourceRank x.source then e :: x :: xs else x :: insertList e xs

/-- Put a list in a port's queue (R175). -/
def enterPort (c : Core) (k n : Nat) (src : ListFrom) : Core :=
  let p := getPec c k
  setPec c k { p with queue := insertList { list := n, source := src, since := c.time } p.queue }

/-- Move lists that found the Weaver's queue full into it as places free (R177). -/
def fillLists (x : Weaver) : Weaver :=
  let n := 16 - x.lists.length
  { x with lists := x.lists ++ x.listsWaiting.take n, listsWaiting := x.listsWaiting.drop n }

/-- The first list of a Weaver's queue enters every port it needs, once all have room (R175, R177). -/
def transferList (c : Core) (w : Nat) : Core :=
  let x := getW c w
  match x.lists with
  | [] => c
  | n :: rest =>
    let ports := portsOf c w n
    if ports.all (fun k => decide ((getPec c k).queue.length < 64)) then
      let c1 := ports.foldl (fun c k => enterPort c k n (.weaver w)) c
      setW c1 w (fillLists { x with lists := rest })
    else c

/-- A descriptor's PEC_LIST: it waits where the Weaver's queue is full (R177). -/
def queuePecList (c : Core) (w n : Nat) : Core :=
  if n = 0 then c
  else modW c w (fun x => if x.lists.length < 16 ∧ x.listsWaiting = [] then { x with lists := x.lists ++ [n] } else { x with listsWaiting := x.listsWaiting ++ [n] })

/-- ISSUE: the host queues a list on one port (R175). -/
def issueList (c : Core) (k n : Nat) : Written :=
  guardSt ((getPec c k).queue.length < 64) stStateConflict (.ok (enterPort c k n .host))

/-- A port starts its next list from the store as it stands, once the last CS_GAP has ended: CS_N falls (R173 to R175); a store that
lacks it sends nothing. -/
def startList (c : Core) (k : Nat) : Core :=
  let p := getPec c k
  match p.active, p.queue with
  | none, e :: rest =>
    let c1 := elapseUntil c p.gapEnd
    let store := listStore c k
    match findList store e.list with
    | some (off, frames) => setPec c1 k { p with queue := rest, active := some (store, off, frames), csHigh := false, falls := c1.time }
    | none => setPec c1 k { p with queue := rest }
  | _, _ => c

/-- The period of a port's SCK in nanoseconds (R174). -/
def sckPeriod (c : Core) (k : Nat) : Nat := 10 * rd c (ck k 1)

/-- The bits of a frame in the order they are sent: byte 0 upward, MSB or LSB first in each byte (R174). -/
def sentBits (msb : Bool) (data : List Byte) (n : Nat) : List Bool :=
  (List.range n).map (fun i => (data.getD (i / 8) 0).getLsbD (if msb then 7 - i % 8 else i % 8))

/-- Pack bits in sent order into bytes, MSB first or LSB first (R174). -/
def packSent (msb : Bool) (l : List Bool) : List Byte :=
  (List.range (ceilDiv l.length 8)).map (fun i =>
    BitVec.ofNat 8 ((List.range 8).foldl (fun v j => if l.getD (8 * i + j) false then setBit v (if msb then 7 - j else j) else v) 0))

/-- The frame in progress ends: it has gone out as Table 5-18 gives, CS_N rises, READBACK is kept, and after CS_GAP CS_N falls for
the list's next frame, or the next list may start (R174, R175, R178). -/
def frameDone (c : Core) (k : Nat) (sdi : List Bool) : Core :=
  let p := getPec c k
  match p.active with
  | none => c
  | some (store, off, left) =>
    let h := leAt store off 4
    let n := bits h 0 13
    let mode := rd c (ck k 2)
    let setup := rd c (ck k 3)
    let rises := p.falls + (setup + n) * sckPeriod c k
    let gap := rises + rd c (ck k 4) * sckPeriod c k
    let c0 := emit (elapseUntil c rises)
      (.pecFrame k p.falls rises (bit mode 1) (bit mode 0) setup (sckPeriod c k) (sentBits (bit mode 2) (slice store (off + 4) (ceilDiv n 8)) n))
    let c1 := if bit h 13 then
        bump (setDom c0 (ck k 0xB) (packSent (bit mode 2) (sdi.take n ++ List.replicate (n - sdi.length) false))) (ck k 0xC)
      else c0
    let idle : Pec := { p with active := none, csHigh := true, gapEnd := gap }
    if left = 0 then setPec c1 k idle
    else if left = 1 then setPec (bump c1 (ck k 9)) k idle
    else setPec c1 k { idle with active := some (store, off + frameBytes n, left - 1), falls := gap, csHigh := decide (c1.time < gap) }

/-- The lists of a Weaver that have not started are discarded (R178). -/
def discardLists (c : Core) (w : Nat) : Core :=
  let x := getW c w
  let c1 := (x.lists ++ x.listsWaiting).foldl (fun c n => (portsOf c w n).foldl (fun c k => bump c (ck k 0xA)) c) c
  let c2 := setW c1 w { x with lists := [], listsWaiting := [] }
  (List.range 16).foldl (fun c k =>
    let p := getPec c k
    let keep := p.queue.filter (fun e => e.source != .weaver w)
    if keep.length = p.queue.length then c
    else bumpBy (setPec c k { p with queue := keep }) (ck k 0xA) (p.queue.length - keep.length)) c2

/-- Entry to SAFE or to a mode whose pins are ISOLATED: every port completes its frame in progress only, and discards its
queue (R178). -/
def haltPorts (c : Core) : Core :=
  (List.range 16).foldl (fun c k =>
    let p := getPec c k
    if p = {} then c
    else
      let busy := if p.csHigh then none else p.active.map (fun (s, o, _) => (s, o, 0))
      bumpBy (setPec c k { p with queue := [], active := busy }) (ck k 0xA) p.queue.length) c

end Sys2Proof.Machine
end

