-- ==== Sys2Proof/Machine/Raster.lean ====
section
/-!
DEFINITION. Sys2Proof/Machine/Raster.lean: the raster groups: binding, steps and slots, frame timing, presenting,
rectangle CRCs, self-refresh (10_raster_source.md R287 to R305).
-/
namespace Sys2Proof.Machine

def getR (c : Core) (g : Nat) : Raster := mget {} c.rasters g
def setR (c : Core) (g : Nat) (r : Raster) : Core := { c with rasters := mset {} c.rasters g r }
def modR (c : Core) (g : Nat) (f : Raster → Raster) : Core := setR c g (f (getR c g))

/-- PIN_MAP; 0xFF throughout until one is written. -/
def pinMap (c : Core) (g : Nat) : List Byte :=
  let l := dom c (rk g 4)
  if l = [] then List.replicate 112 0xFF else l

/-- The lane pin of a PIN_MAP byte; none where the role is unused. -/
def mapLane (c : Core) (g i : Nat) : Option Nat :=
  let v := leAt (pinMap c g) i 1
  if v = 0xFF then none else some v

/-- L and Lr: the used data and returned lanes (Table 10-1). -/
def dataLanes (c : Core) (g : Nat) : Nat := (List.range 48).countP (fun i => (mapLane c g i).isSome)
def retLanes (c : Core) (g : Nat) : Nat := (List.range 48).countP (fun i => (mapLane c g (52 + i)).isSome)

/-- The pin of a role of a group. -/
def rolePin (c : Core) (g i : Nat) : Option Nat :=
  (mapLane c g i).bind (fun l => sitePin c (rd c (rk g 2)) (rd c (rk g 3)) l)

/-- Sp, PPS, PIXEL_BITS, RET_PIXEL_BITS. -/
def stepSlots (c : Core) (g : Nat) : Nat := rd c (rk g 7)
def pps (c : Core) (g : Nat) : Nat := rd c (rk g 6)
def pixelBits (c : Core) (g : Nat) : Nat := rd c (rk g 5)
def retBits (c : Core) (g : Nat) : Nat := rd c (rk g 8)

/-- Whether a group is enabled and bound to a Weaver. -/
def rasterOn (c : Core) (g w : Nat) : Bool := rdb c (rk g 1) && rd c (rk g 2) == w

/-- The enabled groups of a Weaver. -/
def groupsBound (c : Core) (w : Nat) : List Nat := [0, 1].filter (fun g => rasterOn c g w)

/-! ## TIMING and RECTS (R298 to R300) -/

/-- The fields of Table 10-2. -/
structure RTiming where
  hAct : Nat
  hSync : Nat
  hBp : Nat
  hFp : Nat
  vAct : Nat
  vSync : Nat
  vBp : Nat
  vFp : Nat
  vMax : Nat
  blank : Nat
  ctl : Nat
  te : Nat
  deriving DecidableEq, Repr

/-- Read TIMING's bytes. -/
def parseTiming (l : List Byte) : RTiming :=
  { hAct := leAt l 0 2, hSync := leAt l 2 2, hBp := leAt l 4 2, hFp := leAt l 6 2
    vAct := leAt l 8 2, vSync := leAt l 10 2, vBp := leAt l 12 2, vFp := leAt l 14 2
    vMax := leAt l 16 2, blank := leAt l 18 1, ctl := leAt l 19 1, te := leAt l 20 1 }

/-- The pixels of a line, and the lines of a frame's body. -/
def RTiming.hTotal (t : RTiming) : Nat := t.hSync + t.hBp + t.hAct + t.hFp
def RTiming.body (t : RTiming) : Nat := t.vSync + t.vBp + t.vAct

/-- Whether a value lies in a range. -/
def within (lo hi v : Nat) : Bool := decide (lo ≤ v) && decide (v ≤ hi)

/-- The checks of R298 on TIMING. -/
def timingValid (c : Core) (g : Nat) (l : List Byte) : Bool :=
  let t := parseTiming l
  let p := pps c g
  l.length == 32 && within 1 16383 t.hAct && within 1 4095 t.hSync && within 0 4095 t.hBp && within 1 4095 t.hFp &&
  within 1 16383 t.vAct && within 1 4095 t.vSync && within 0 4095 t.vBp && within 1 4095 t.vFp &&
  within t.vFp 16383 t.vMax && (t.blank != 0 || t.vMax == t.vFp) && decide (t.blank ≤ 2) && decide (t.ctl ≤ 1) &&
  (if t.blank = 2 then t.te == 1 || t.te == 2 else t.te == 0) &&
  t.hAct % p == 0 && t.hSync % p == 0 && t.hBp % p == 0 && t.hFp % p == 0 && decide (t.hTotal ≤ 32768) &&
  decide (t.hAct * t.vAct * pixelBits c g ≤ rd c (rk g 0xC) * 2 ^ 23) &&
  decide (rd c (rk g 9) ≤ t.vFp * t.hTotal / p) &&
  (t.blank != 2 || (mapLane c g 100).isSome) && (l.drop 21).all (· == 0)

/-- The timing in force. -/
def timingOf (c : Core) (g : Nat) : RTiming := parseTiming (dom c (rk g 0xD))

/-- A rectangle entry (R300). -/
structure Rect where
  x0 : Nat
  y0 : Nat
  w : Nat
  h : Nat
  emit : Nat
  ret : Nat
  flags : Nat
  deriving DecidableEq, Repr

/-- Entry r of RECTS in force. -/
def rectOf (c : Core) (g r : Nat) : Rect :=
  let l := dom c (rk g 0xF)
  let o := 24 * r
  { x0 := leAt l o 2, y0 := leAt l (o + 2) 2, w := leAt l (o + 4) 2, h := leAt l (o + 6) 2
    emit := leAt l (o + 8) 4, ret := leAt l (o + 12) 4, flags := leAt l (o + 16) 1 }

/-- Whether RECTS' bytes are acceptable: 384 of them, reserved bits 0 (R10, R300). -/
def rectsValid (l : List Byte) : Bool :=
  l.length == 384 && (List.range 16).all (fun r => decide (leAt l (24 * r + 16) 1 < 16) && leAt l (24 * r + 17) 7 == 0)

/-- Whether a rectangle lies wholly inside the active area. -/
def rectInside (t : RTiming) (r : Rect) : Bool := decide (r.x0 + r.w ≤ t.hAct) && decide (r.y0 + r.h ≤ t.vAct)

/-- The rectangles whose CRC of a stream (bit 0 emitted, 1 returned) is made in a frame. -/
def crcRects (c : Core) (g stream : Nat) : List Nat :=
  (List.range 16).filter (fun i => let r := rectOf c g i; r.w != 0 && bit r.flags stream && rectInside (timingOf c g) r)

/-- The value the CRC of rectangle i of a stream is compared with, if it is compared (R300). -/
def rectExpect (c : Core) (g stream i : Nat) : Option Nat :=
  let r := rectOf c g i
  if bit r.flags (2 + stream) then some (if stream = 0 then r.emit else r.ret) else none

/-- Whether a rectangle covers a pixel. -/
def rectCovers (r : Rect) (x y : Nat) : Bool :=
  decide (r.x0 ≤ x) && decide (x < r.x0 + r.w) && decide (r.y0 ≤ y) && decide (y < r.y0 + r.h)

/-- TIMING_PENDING (R299). -/
def timingPending (c : Core) (g : Nat) : Bool := !(getR c g).timing.isEmpty || !(getR c g).rects.isEmpty

/-- Whether a group's Weaver emits granules, so that boundaries before the present instant may still be decided. -/
def rasterRuns (c : Core) (g : Nat) : Bool :=
  let st := wState c (rd c (rk g 2))
  rdb c (rk g 1) && (st == 2 || st == 3)

/-- Stage contents behind those that a boundary before now may still take; without one they replace them (R299). -/
def stageAt (c : Core) (g : Nat) (old : List (List Byte × Nat)) (l : List Byte) : List (List Byte × Nat) :=
  (if rasterRuns c g then old else []) ++ [(l, c.stamp)]

/-- A write of TIMING: it is staged (R298, R299). -/
def writeTiming (c : Core) (g : Nat) (l : List Byte) : Written :=
  guardSt (timingValid c g l) stOutOfRange (.ok (modR c g (fun r => { r with timing := stageAt c g r.timing l })))

/-- A write of RECTS: it is staged (R299, R300). -/
def writeRects (c : Core) (g : Nat) (l : List Byte) : Written :=
  guardSt (rectsValid l) stOutOfRange (.ok (modR c g (fun r => { r with rects := stageAt c g r.rects l })))

/-- Write the CRCs of one stream of a frame and compare them (R302). -/
def writeDue (c : Core) (g : Nat) (d : RectDue) : Core :=
  let side := ofBool d.returned
  d.crcs.foldl (fun c (r, crc, expect) =>
    let old := let l := dom c (rk g 0x1E); if l = [] then List.replicate 128 0 else l
    let off := 64 * side + 4 * r
    let c1 := setDom c (rk g 0x1E) (old.take off ++ leBytes 4 crc ++ old.drop (off + 4))
    if expect.any (fun e => e != crc) then
      let c2 := bump (wr c1 (rk g 0x1F) (setBit (rd c1 (rk g 0x1F)) (16 * side + r))) (rk g 0x21)
      if rd c2 (rk g 0x22) = 0 then wr c2 (rk g 0x22) d.frame else c2
    else c1) c

/-- Write the CRCs that are due of a stream, oldest first: all of them, or the first. -/
def writeDues (c : Core) (g : Nat) (l : List RectDue) : Core :=
  let c1 := l.foldl (fun c d => writeDue c g d) c
  modR c1 g (fun r => { r with dues := r.dues.filter (fun d => !l.contains d) })

/-- The first due of a stream is written (the row RECT_CRC_COMPLETE). -/
def rectComplete (c : Core) (g : Nat) (returned : Bool) : Core :=
  match (getR c g).dues.find? (fun d => d.returned == returned) with
  | some d => writeDues c g [d]
  | none => c

/-! ## Binding (R288, R290) -/

/-- Bo and Br where they are whole numbers that divide STEP_SLOTS (R288). -/
def bitsPerLane (pix lanes sp : Nat) : Bool := lanes != 0 && pix % lanes == 0 && pix / lanes != 0 && sp % (pix / lanes) == 0

/-- Whether two ranges of MiB overlap. -/
def overlaps (a n b m : Nat) : Bool := n != 0 && m != 0 && decide (a < b + m) && decide (b < a + n)

/-- The frame-store region of a group: base and size in MiB, size 0 while it is not enabled. -/
def frameStore (c : Core) (g : Nat) : Nat × Nat := (rd c (rk g 0xA), if rdb c (rk g 1) then rd c (rk g 0xB) else 0)

/-- The first descriptor of a table that breaks R290 for an enabled group of the Weaver. -/
def badStepRate (sp : Nat) (descs : List SegDesc) : Option Nat :=
  descs.findIdx? (fun d => decide (sp * d.period < 4096 * mulOf d))

/-- The descriptors of a Weaver's segment table. -/
def segTableOf (c : Core) (w : Nat) : List SegDesc :=
  let l := dom c (mkKey (0x2040 + w) 1)
  (List.range (l.length / 128)).map (fun i => parseDesc (leAt l (128 * i) 128))

/-- The conditions of R288 on ENABLE. -/
def rasterBinds (c : Core) (g : Nat) : Bool :=
  let w := rd c (rk g 2)
  let s := rd c (rk g 3)
  let lanes := (List.range 101).filterMap (mapLane c g)
  let sp := stepSlots c g
  let fs := rd c (rk g 0xA)
  let size := rd c (rk g 0xB)
  let t := match (getR c g).timing.getLast? with
    | some (l, _) => l
    | none => dom c (rk g 0xD)
  decide (w < 64) && assignmentOk c w && bit (sitesHeld c w) s && lanes.all (fun l => decide (l < 4 * lanesOf c w)) &&
  !(rasterOn c (1 - g) w && rd c (rk (1 - g) 3) == s) &&
  lanes.eraseDups.length == lanes.length && bitsPerLane (pps c g * pixelBits c g) (dataLanes c g) sp &&
  (retBits c g == 0 || bitsPerLane (pps c g * retBits c g) (retLanes c g) sp) &&
  timingValid c g t && decide (fs + size ≤ 96) && decide (rd c (rk g 0xC) ≤ size) &&
  !overlaps fs size (rd c (mkKey 0x5C00 1)) (rd c (mkKey 0x5C00 2)) && !overlaps fs size (rd c (mkKey 0x5400 1)) 8 &&
  (wState c w == 0 || wState c w == 4) && (badStepRate sp (segTableOf c w)).isNone

/-- Whether the modes run the PLLs that the configuration needs (Table 1-5). -/
def pllModes (c : Core) : Bool := inModes c [.warm, .calibrate, .run]

/-- ENABLE 1: the group binds (R288). -/
def enableRaster (c : Core) (g : Nat) : Written :=
  guardSt (rasterBinds c g) stStateConflict
    (let c1 := modR (wr c (rk g 1) 1) g (fun r => { timing := r.timing, rects := r.rects })
     .ok (if pllModes c && refLocked c then setClock c1 (44 + g) true else c1))

/-- ENABLE 0: PENDING and SHOWN are emptied (R288). -/
def disableRaster (c : Core) (g : Nat) : Written :=
  let st := wState c (rd c (rk g 2))
  guardSt (!(rdb c (rk g 1) && (st == 1 || st == 2 || st == 3))) stStateConflict
    (let c1 := wr (wr (wr (writeDues c g (getR c g).dues) (rk g 1) 0) (rk g 0x11) 0xFF) (rk g 0x12) 0xFF
     .ok (setClock (modR c1 g (fun r => { timing := r.timing, rects := r.rects })) (44 + g) false))

/-- STATE of a group (Table 10-3). -/
def rasterState (c : Core) (g : Nat) : Nat :=
  let st := wState c (rd c (rk g 2))
  if !rdb c (rk g 1) then 0 else if (getR c g).resting then 3 else if st = 2 ∨ st = 3 then 2 else 1

/-! ## Frame store and presenting (R293, R294) -/

/-- Whether slot n exists. -/
def slotExists (c : Core) (g n : Nat) : Bool := decide (n < rd c (rk g 0xB) / max 1 (rd c (rk g 0xC)))

/-- A write of PRESENT (R294). -/
def writePresent (c : Core) (g n : Nat) : Written :=
  if !slotExists c g n then .error stOutOfRange
  else guardSt (rdb c (rk g 1)) stStateConflict
    (let old := rd c (rk g 0x11)
     let c1 := if old = 0xFF then c else bump c (rk g 0x19)
     .ok (modR (wr c1 (rk g 0x11) n) g (fun r => { r with
       presentAt := c.stamp, older := if old ≠ 0xFF ∧ rasterRuns c g then r.older ++ [(r.presentAt, old)] else [] })))

/-- The present that counts at a boundary at an instant, if one is PENDING (R296): its slot, and whether it is the latest one. -/
def presentCounted (c : Core) (g t : Nat) : Option (Nat × Bool) :=
  let r := getR c g
  if rd c (rk g 0x11) = 0xFF then none
  else if r.presentAt < t then some (rd c (rk g 0x11), true)
  else (r.older.filter (fun e => decide (e.1 < t))).getLast?.map (fun e => (e.2, false))

/-- A frame takes the present that counts at its start: PENDING keeps one that came later, which then has replaced none. -/
def takePresent (c : Core) (g : Nat) (p : Nat × Bool) (t : Nat) : Core :=
  let c1 := wr c (rk g 0x12) p.1
  if p.2 then modR (wr c1 (rk g 0x11) 0xFF) g (fun r => { r with older := [] })
  else modR (wr c1 (rk g 0x19) (rd c (rk g 0x19) - 1)) g (fun r => { r with older := r.older.filter (fun e => decide (t ≤ e.1)) })

/-! ## Steps (R289, R291, R295, R301) -/

/-- Active column and line of the pixel at (px, line) of a frame's body, if it is active. -/
def activeAt (t : RTiming) (line px : Nat) : Option (Nat × Nat) :=
  if t.vSync + t.vBp ≤ line ∧ line < t.body ∧ t.hSync + t.hBp ≤ px ∧ px < t.hSync + t.hBp + t.hAct then
    some (px - (t.hSync + t.hBp), line - (t.vSync + t.vBp))
  else none

/-- The step value V: PPS pixels of the SHOWN slot (R289, R293). -/
def stepValue (m : Mem) (c : Core) (g x y : Nat) : Nat :=
  let shown := rd c (rk g 0x12)
  if shown = 0xFF then 0
  else
    let b := pixelBits c g
    let n := b / 8 * pps c g
    readNat m (slotBase c g shown + (y * (timingOf c g).hAct + x) * b / 8) n

/-- What the mapped pins drive in one slot: V, the slot of the step, and the role levels. -/
structure RasterOut where
  value : Nat
  t : Nat
  hs : Bool
  vs : Bool
  de : Bool
  ctl : Bool
  deriving DecidableEq, Repr

/-- The bit a data lane drives (R289). -/
def laneBit (c : Core) (g : Nat) (o : RasterOut) (l : Nat) : Bool :=
  let lanes := dataLanes c g
  let h := stepSlots c g / max 1 (pps c g * pixelBits c g / max 1 lanes)
  bit o.value (o.t / max 1 h * lanes + l)

/-- The level of a PIN_MAP byte's role in a slot. -/
def roleBit (c : Core) (g : Nat) (o : RasterOut) (i : Nat) : Bool :=
  if i < 48 then laneBit c g o i else if i = 48 then o.hs else if i = 49 then o.vs else if i = 50 then o.de else o.ctl

/-- Finish the CRC of a stream: the register's complement (R300). -/
def crcFinish (v : Nat) : Nat := (BitVec.ofNat 32 v ^^^ 0xFFFFFFFF#32).toNat

/-- Run the pixels of a step value through the CRCs of the rectangles that take them. -/
def rectStep (crcs : SMap Nat) (hits : List (Nat × Nat)) (value bitsN : Nat) : SMap Nat :=
  hits.foldl (fun m (i, r) =>
    let px := leBytes (bitsN / 8) (bits value (i * bitsN) bitsN)
    mset 0xFFFFFFFF m r (crcBytes (BitVec.ofNat 32 (mget 0xFFFFFFFF m r)) px).toNat) crcs

/-- The pixels of a step at (x, y) that the CRC rectangles of a stream cover: pixel of the step, rectangle. -/
def stepHits (c : Core) (g stream x y : Nat) : List (Nat × Nat) :=
  (List.range (pps c g)).flatMap (fun i => ((crcRects c g stream).filter (fun r => rectCovers (rectOf c g r) (x + i) y)).map (fun r => (i, r)))

/-! ## Frame starts (R296, R297, R299, R303, R304) -/

/-- Of staged contents, those written before an instant: the last of them, and what stays staged. -/
def stagedBefore (t : Nat) (l : List (List Byte × Nat)) : Option (List Byte) × List (List Byte × Nat) :=
  (((l.filter (fun e => decide (e.2 < t))).getLast?).map Prod.fst, l.filter (fun e => decide (t ≤ e.2)))

/-- Apply the staged DOMAINs written before an instant (R299). -/
def applyStaged (c : Core) (g t : Nat) : Core :=
  let (a, timing) := stagedBefore t (getR c g).timing
  let (b, rects) := stagedBefore t (getR c g).rects
  let put := fun (c : Core) (sub : Nat) (l : Option (List Byte)) => l.elim c (setDom c (rk g sub))
  modR (put (put c 0xD a) 0xF b) g (fun r => { r with timing := timing, rects := rects })

/-- The value of SELF_REFRESH, SR_EXIT_LINES or SR_CTL that writes before an instant left (R303, R304). -/
def liveAt (c : Core) (g sub t : Nat) : Nat :=
  match (getR c g).writes.find? (fun e => e.2.1 == sub && decide (t ≤ e.1)) with
  | some e => e.2.2
  | none => rd c (rk g sub)

/-- A write of one of these objects: a boundary or a step before it still sees the value before. -/
def writeLive (c : Core) (g sub v : Nat) : Core :=
  let from_ := (getW c (rd c (rk g 2))).gStart
  modR (wr c (rk g sub) v) g (fun r => { r with writes := r.writes.filter (fun e => decide (from_ ≤ e.1)) ++ [(c.stamp, sub, rd c (rk g sub))] })

/-- A frame starts at instant t after front-porch line n (R297). -/
def startFrame (c : Core) (g t n : Nat) : Core :=
  let c0 := applyStaged (writeDues c g (getR c g).dues) g t
  let c1 := match presentCounted c0 g t with
    | some p => takePresent c0 g p t
    | none => if rd c0 (rk g 0x12) = 0xFF then c0 else bump c0 (rk g 0x18)
  let skipped := (List.range 16).countP (fun i => let r := rectOf c1 g i; r.w != 0 && !rectInside (timingOf c1 g) r)
  let c2 := wr (bumpBy (bump c1 (rk g 0x17)) (rk g 0x23) skipped) (rk g 0x1B) n
  modR c2 g (fun r => { r with line := 0, porch := 0, px := 0, slot := 0, inFrame := true, deciding := false, exiting := false, pos := 0, tes := r.tes.filter (fun e => decide (t ≤ e.1)), crcE := [] })

/-- The lower and upper limits of the decision (R296, R304). -/
def frameLimits (c : Core) (g : Nat) : Nat × Nat :=
  let t := timingOf c g
  let e := if (getR c g).exiting then (getR c g).exitLines else 0
  (max t.vFp e, max t.vMax e)

/-- The frame-start decision at instant t (R296, R303). -/
def decideFrame (c : Core) (g t : Nat) : Core :=
  let r := getR c g
  let n := r.porch
  let (lo, hi) := frameLimits c g
  let next := modR c g (fun r => { r with porch := n + 1, px := 0, deciding := false })
  if liveAt c g 0x13 t = 1 ∧ n = lo then
    setClock (modR c g (fun r => { r with resting := true, inFrame := false, deciding := false, exiting := false })) (44 + g) false
  else
    let counted := (presentCounted c g t).isSome
    let te := r.tes.any (fun e => decide (r.porchAt ≤ e.1) && decide (e.1 < t) && (timingOf c g).te == (if e.2 then 1 else 2))
    match (timingOf c g).blank with
    | 0 => startFrame c g t n
    | 1 => if counted ∨ hi ≤ n then startFrame c g t n else next
    | _ =>
      if te then startFrame c g t n
      else if hi ≤ n then startFrame (raise (bump c (rk g 0x1A)) (291 + g) 0 g) g t n
      else next

/-- The row FRAME_START: a decision that is due is taken at the start of the granule being emitted. -/
def frameStartRow (c : Core) (g : Nat) : Core :=
  let r := getR c g
  let w := rd c (rk g 2)
  if r.deciding && rdb c (rk g 1) then decideFrame c g (getW c w).gStart else c

/-- A segment starts in a step of which slots are missing: it is split (R291). -/
def noteSplit (c : Core) (g : Nat) : Core := if (getR c g).slot = 0 then c else raise (bump c (rk g 0x1C)) (291 + g) 1 g

/-- A launch from IDLE restarts the group at frame position 0 (R292), unless it is in SELF_REFRESH (R303). -/
def launchRaster (c0 : Core) (g t : Nat) : Core :=
  let c := noteSplit c0 g
  let r := getR c g
  if r.resting then modR c g (fun r => { r with slot := 0 })
  else
    let c1 := if r.inFrame then bump c (rk g 0x1D) else c
    startFrame (modR c1 g (fun r => { r with rets := [], step := 0, crcR := [] })) g t (rd c (rk g 0x1B))

/-- A safe stop leaves the group IDLE with its position discarded (R292). -/
def stopRaster (c : Core) (g : Nat) : Core :=
  let c1 := modR c g (fun r => { r with line := 0, porch := 0, px := 0, slot := 0, deciding := false, resting := false, exiting := false, rets := [] })
  if rdb c (rk g 1) && pllModes c && refLocked c then setClock c1 (44 + g) true else c1

/-! ## The returned stream (R301, R302) -/

/-- Take the returned steps that are complete, in order. -/
def drainRets (c : Core) (g : Nat) : List RetStep → Core
  | [] => modR c g (fun r => { r with rets := [] })
  | s :: rest =>
    if s.going ∨ s.left ≠ 0 then modR c g (fun r => { r with rets := s :: rest })
    else
      let r := getR c g
      let base := s.starts.foldl (fun m i => merase m i) r.crcR
      let crcs := rectStep base s.hits s.value (retBits c g)
      let dues := match s.ends with
        | some l => [{ returned := true, frame := s.frame, crcs := l.map (fun i => (i.1, crcFinish (mget 0xFFFFFFFF crcs i.1), i.2)) : RectDue }]
        | none => []
      drainRets (modR c g (fun r => { r with crcR := crcs, dues := r.dues ++ dues })) g rest

/-- A returned sample's state arrives (R301): tag 1 + 256 × step + bit. -/
def retSample (c : Core) (g tag state : Nat) : Core :=
  let id := (tag - 1) / 256
  let b := (tag - 1) % 256
  let c1 := if state = 1 ∨ state = 2 then c else bump c (rk g 0x24)
  let rets := (getR c1 g).rets.map (fun s => if s.id = id then
    { s with value := if state = 1 then setBit s.value b else s.value, left := s.left - 1 } else s)
  drainRets c1 g rets

/-- Open a returned step at its first slot (R301): position p of the emission belongs to position p − RET_DELAY. -/
def openRet (c : Core) (g : Nat) : Core :=
  let r := getR c g
  let t := timingOf c g
  let d := rd c (rk g 9)
  let none_ : RetStep := { id := r.step, frame := 0, value := 0, left := 0, going := true, hits := [], starts := [], ends := none }
  let s : RetStep :=
    if r.pos < d then none_
    else
      let q := (r.pos - d) * pps c g
      match activeAt t (q / t.hTotal) (q % t.hTotal) with
      | some (x, y) =>
        let rs := crcRects c g 1
        { none_ with
          frame := rd c (rk g 0x17), hits := stepHits c g 1 x y
          starts := if x = 0 ∧ y = 0 then rs else []
          ends := if x + pps c g = t.hAct ∧ y + 1 = t.vAct then some (rs.map (fun i => (i, rectExpect c g 1 i))) else none }
      | none => none_
  modR c g (fun r => { r with rets := r.rets ++ [s] })

/-- The samples of one slot: bit number and pin of each returned lane (R301). -/
def retSlots (c : Core) (g t : Nat) : List (Nat × Nat) :=
  if retBits c g = 0 then []
  else
    let lr := retLanes c g
    let h := stepSlots c g / max 1 (pps c g * retBits c g / max 1 lr)
    if t % max 1 h = 0 then
      (List.range lr).filterMap (fun l => (rolePin c g (52 + l)).map (fun p => (t / max 1 h * lr + l, p)))
    else []

/-! ## One slot of the pace pin -/

/-- A step is complete: emitted CRCs, then the position advances (R291, R295, R302). -/
def endStep (c : Core) (g value : Nat) : Core :=
  let r := getR c g
  let t := timingOf c g
  let c1 := modR c g (fun r => { r with slot := 0, step := r.step + 1, pos := r.pos + 1, rets := r.rets.map (fun s => { s with going := false }) })
  let c2 := if r.porch = 0 then
      match activeAt t r.line r.px with
      | some (x, y) =>
        let crcs := rectStep r.crcE (stepHits c g 0 x y) value (pixelBits c g)
        let due := if x + pps c g = t.hAct ∧ y + 1 = t.vAct then
            [{ returned := false, frame := rd c (rk g 0x17), crcs := (crcRects c g 0).map (fun i => (i, crcFinish (mget 0xFFFFFFFF crcs i), rectExpect c g 0 i)) : RectDue }]
          else []
        modR c1 g (fun r => { r with crcE := crcs, dues := r.dues ++ due })
      | none => c1
    else c1
  let c3 := drainRets c2 g (getR c2 g).rets
  let px := r.px + pps c g
  if px < t.hTotal then modR c3 g (fun r => { r with px := px })
  else if r.porch = 0 then
    if r.line + 1 < t.body then modR c3 g (fun r => { r with px := 0, line := r.line + 1 })
    else modR c3 g (fun r => { r with px := 0, porch := 1 })
  else if (frameLimits c g).1 ≤ r.porch then modR c3 g (fun r => { r with px := 0, deciding := true })
  else modR c3 g (fun r => { r with px := 0, porch := r.porch + 1 })

/-- What happens at the start of a step at instant t: the exit from SELF_REFRESH begins, a due decision is taken, and
front-porch line 1 starts. -/
def beginStep (c : Core) (g t : Nat) : Core :=
  let r := getR c g
  let c1 := if r.resting ∧ liveAt c g 0x13 t = 0 then
      setClock (modR c g (fun r => { r with resting := false, exiting := true, exitLines := liveAt c g 0x14 t, porch := 1, px := 0, line := 0 })) (44 + g) true
    else if r.deciding then decideFrame c g t else c
  let r1 := getR c1 g
  let c2 := if r1.porch = 1 ∧ r1.px = 0 ∧ ¬ r1.resting then modR c1 g (fun r => { r with porchAt := t }) else c1
  if r1.resting ∨ retBits c g = 0 then c2 else openRet c2 g

/-- One slot in which the pace pin carries DS, starting at instant t (R289, R303): what the pins drive, the returned samples (tag
and pin), and the advance. -/
def rasterSlot (m : Mem) (c : Core) (g t : Nat) : Core × RasterOut × List (Nat × Nat) :=
  let c1 := if (getR c g).slot = 0 then beginStep c g t else c
  let r := getR c1 g
  let tm := timingOf c1 g
  let sp := stepSlots c1 g
  if r.resting then
    (modR c1 g (fun r => { r with slot := (r.slot + 1) % max 1 sp }),
     { value := 0, t := r.slot, hs := false, vs := false, de := false, ctl := liveAt c g 0x15 t == 1 }, [])
  else
    let act := if r.porch = 0 then activeAt tm r.line r.px else none
    let v := match act with
      | some (x, y) => stepValue m c1 g x y
      | none => 0
    let o : RasterOut := { value := v, t := r.slot, hs := decide (r.px < tm.hSync), vs := r.porch == 0 && decide (r.line < tm.vSync), de := act.isSome, ctl := tm.ctl == 1 }
    let smp := (retSlots c1 g r.slot).map (fun (b, p) => (1 + 256 * r.step + b, p))
    let c2 := modR c1 g (fun r => { r with
      slot := r.slot + 1
      rets := r.rets.map (fun s => if s.id = r.step ∧ s.going then { s with left := s.left + smp.length } else s) })
    (if sp ≤ r.slot + 1 then endStep c2 g v else c2, o, smp)

/-- The first vector of a successor segment: a step that was cut counts as complete (R291). -/
def splitStep (m : Mem) (c0 : Core) (g : Nat) : Core :=
  let c := noteSplit c0 g
  let r := getR c g
  if r.slot = 0 then c
  else if r.resting then modR c g (fun r => { r with slot := 0 })
  else
    let v := match (if r.porch = 0 then activeAt (timingOf c g) r.line r.px else none) with
      | some (x, y) => stepValue m c g x y
      | none => 0
    endStep c g v

/-! ## Writes (R302 to R304) -/

/-- SELF_REFRESH (R303, R304): the group acts at the next eligible boundary or step. -/
def writeSelfRefresh (c : Core) (g v : Nat) : Core := writeLive c g 0x13 v

/-- MISMATCH_CLR (Table 10-3). -/
def clearMismatch (c : Core) (g mask : Nat) : Core :=
  let c1 := wr c (rk g 0x1F) (clearBits (rd c (rk g 0x1F)) mask)
  if mask = 0xFFFFFFFF then wr c1 (rk g 0x22) 0 else c1

/-- The edges of the compare result of a pin's comparator-high in [from_, upto): accepted changes outside a hold-off, and ends of hold-offs
behind which the level differs from the held one (R163, R164, R296). -/
def teEdges (c : Core) (p from_ upto : Nat) : List (Nat × Bool) :=
  let x := getPin c p
  let changes : List Int := (x.history.filter (fun h => h.line == .high)).map (fun h => (h.at_ : Int))
  let ends : List Int := x.trans.map (fun t => t.at_ + (x.force.holdoff * 1024 : Nat))
  let l := ((changes ++ ends).foldl (fun l t => insertInstant t l) []).filter (fun t => decide ((from_ : Int) ≤ t) && decide (t < upto))
  (l.filter (fun t => lineLevel x .high t != lineLevel x .high (t - 1))).map (fun t => (t.toNat, lineLevel x .high t))

/-- The TE edges of a granule of a Weaver, judged once its transitions stand: a hold-off that one of them starts holds the edges behind it. -/
def settleTes (c : Core) (w from_ upto : Nat) : Core :=
  (groupsBound c w).foldl (fun c g =>
    match rolePin c g 100 with
    | some p => modR c g (fun r => { r with tes := r.tes.filter (fun e => decide (e.1 < from_)) ++ teEdges c p from_ upto })
    | none => c) c

/-- An accepted change of comparator-high at an instant: a TE edge of the groups whose TE pin it is (R296). -/
def noteTe (c : Core) (p : Nat) (level : Bool) (t : Nat) : Core :=
  [0, 1].foldl (fun c g =>
    if rdb c (rk g 1) ∧ rolePin c g 100 = some p then modR c g (fun r => { r with tes := r.tes ++ [(t, level)] })
    else c) c

end Sys2Proof.Machine
end

