-- ==== Sys2Proof/Machine/Pattern.lean ====
section
/-!
DEFINITION. Sys2Proof/Machine/Pattern.lean: what a granule of a pattern image gives the pins and what the strobes
of a granule give back: codes, emission, compare results, fail accumulators, match latches, records and edge detectors
(03_weaver_sequencer.md R80 to R92, R107 to R110, 04_microcode.md R134, 07_capture_credit.md R206 to R210, R216).
-/
namespace Sys2Proof.Machine

/-! ## The image (R81 to R83, R107, R109, R110) -/

/-- The bytes of a granule: 64 vectors of Q bytes for each lane (R81). -/
def granuleBytes (c : Core) (w : Nat) (d : SegDesc) : Nat := 64 * lanesOf c w * vectorBytes d

/-- The local address of granule k (R81). -/
def granuleAddr (c : Core) (w : Nat) (d : SegDesc) (k : Nat) : Nat := d.dataBase + k * granuleBytes c w d

/-- The local address of instruction k (R83). -/
def instrAddr (d : SegDesc) (k : Nat) : Nat := d.instrBase + 8 * k

/-- Instruction k of an image (R83). -/
def instrWord (m : Mem) (d : SegDesc) (k : Nat) : Nat := readNat m (instrAddr d k) 8

/-- The blocks that hold any byte of granule k or of its instruction (R110). -/
def granuleBlocks (c : Core) (w : Nat) (d : SegDesc) (k : Nat) : List Nat :=
  blocksOf (granuleAddr c w d k) (granuleBytes c w d) ++ blocksOf (instrAddr d k) 8

/-- Whether a running segment will still fetch a block (R20, R109). -/
def imageBlock (c : Core) (w b : Nat) : Bool :=
  match (getW c w).desc with
  | some d =>
    let spans := [(d.dataBase, d.imageGranules * granuleBytes c w d), (d.instrBase, 8 * d.imageGranules)]
    wState c w == 2 && spans.any (fun (a, n) => decide (n ≠ 0) && decide (a / 4096 ≤ b) && decide (b ≤ (a + n - 1) / 4096))
  | none => false

/-- Whether any running segment will still fetch a block (R20). -/
def blockInUse (c : Core) (b : Nat) : Bool := (List.range 64).any (fun w => imageBlock c w b)

/-- Whether a block passes the streamer's check: below CAPACITY with a good CRC-32C (R110). -/
def streamerCheck (m : Mem) (c : Core) (b : Nat) : Bool := decide (4096 * b < capacity c) && blockGood m b

/-- LEAD of a period (R107). -/
def leadOf (period : Nat) : Nat := min 65535 (max 8 (ceilDiv 131072 (max 1 period)))

/-- Whether an opcode's transfer depends on data (R107): MATCH, JF, JNF, JMT, user opcodes, or HSEEK, HFAIL, HPASS. -/
def dataDependent (nano : Bool) (iw : Nat) : Bool :=
  if nano then [8, 9, 10].contains (hwHop iw)
  else [7, 8, 9, 10].contains (iwOpcode iw) || decide (0xE0 ≤ iwOpcode iw)

/-- The flow state the look-ahead carries: RC, the LCs and the call stack. -/
structure Ahead where
  rc : Ctr
  lc : SMap Ctr
  stack : List Nat
  deriving DecidableEq, Repr

/-- Step a counter at granule k with its load value (R89, R128): the counter after it, and T. -/
def stepCtr (x : Ctr) (load k : Nat) : Ctr × Bool :=
  if !x.active then ({ value := load % 2 ^ 18, active := true, owner := k }, true)
  else if x.value ≤ 1 then ({}, false)
  else ({ x with value := x.value - 1 }, true)

/-- The granule the look-ahead takes after granule g (R107). -/
def aheadNext (nano : Bool) (a : Ahead) (iw g : Nat) : Option Nat × Ahead :=
  let op := if nano then hwHop iw else iwOpcode iw
  let tgt := if nano then hwTarget iw else iwTarget iw
  let cnt := if nano then hwCount iw else iwCount iw
  let isLoop := op = 4 ∨ (nano ∧ op = 5)
  let lcn := if nano then op - 4 else iwLc iw
  let call := if nano then 6 else 5
  if op = 2 then (some tgt, a)
  else if op = 3 then
    let (rc, t) := stepCtr a.rc cnt g
    (some (if t then g else g + 1), { a with rc := rc })
  else if isLoop then
    let (x, t) := stepCtr (mget {} a.lc lcn) cnt g
    (some (if t then tgt else g + 1), { a with lc := mset {} a.lc lcn x })
  else if op = call then (some tgt, { a with stack := a.stack ++ [g + 1] })
  else if op = call + 1 then (a.stack.getLast?, { a with stack := a.stack.dropLast })
  else (some (g + 1), a)

/-- Whether the look-ahead from granule g reaches granule t within n granules (R107). -/
def aheadReaches (m : Mem) (nano : Bool) (d : SegDesc) (t : Nat) : Nat → Nat → Ahead → Bool
  | 0, _, _ => false
  | n + 1, g, a =>
    if g = t then true
    else if d.imageGranules ≤ g then false
    else match aheadNext nano a (instrWord m d g) g with
      | (some g', a') => aheadReaches m nano d t n g' a'
      | (none, _) => false

/-- Whether a set of R107 holds granule t while granule k is current (R108). -/
def inReach (m : Mem) (c : Core) (w : Nat) (d : SegDesc) (k t : Nat) : Bool :=
  let x := getW c w
  x.recent.contains t || (decide (k < t) && decide (t ≤ k + 8)) ||
    aheadReaches m (rdb c (wk w 0xC)) d t (leadOf d.period) (k + 1) { rc := x.rc, lc := x.lc, stack := x.stack }

/-- The streamer reads a block: it stands verified or failing in the stream buffer, and uncorrectable errors of it are met (R110, R320). -/
def fetchBlock (m : Mem) (c : Core) (w b : Nat) : Core :=
  let c1 := if 4096 * b < capacity c then (checkedRead m c (4096 * b) 4096 .stay).2 else c
  modW c1 w (fun x => { x with blocks := minsert (merase x.blocks b) b (streamerCheck m c b) })

/-- Whether every block of granule k stands in the stream buffer. -/
def granuleHeld (c : Core) (w : Nat) (d : SegDesc) (k : Nat) : Bool :=
  (granuleBlocks c w d k).all (fun b => (mfind (getW c w).blocks b).isSome)

/-- Granule k is due at its start: it is fetched if it is in reach, late if it is not and its demand fetch has not
completed, and stops the Weaver if a block of it fails (R108, R110). -/
def granuleDue (m : Mem) (c : Core) (w : Nat) (d : SegDesc) (k start : Nat) (reached : Bool) : Core :=
  let late := !reached && !granuleHeld c w d k
  let c1 := (granuleBlocks c w d k).foldl (fun c b =>
    if (mfind (getW c w).blocks b).isSome then c else fetchBlock m c w b) c
  let bad := (granuleBlocks c1 w d k).any (fun b => mget false (getW c1 w).blocks b == false)
  let c2 := if late then requestStop c1 w 3 start else c1
  if bad then requestStop c2 w 1 start else c2

/-- The full-mode codes of a lane pin in the first `n` vectors of granule k, a list per vector (R81, R82, R148). -/
def codesOf (m : Mem) (c : Core) (w : Nat) (d : SegDesc) (k lp n : Nat) : List (List Nat) :=
  let q := vectorBytes d
  let base := granuleAddr c w d k + lp / 4 * 64 * q
  (List.range n).map (fun v =>
    let word := readNat m (base + v * q) q
    (List.range (mulOf d)).map (fun s =>
      let raw := bits word ((lp % 4 * mulOf d + s) * codeWidth d) (codeWidth d)
      if d.dense then denseCode raw (bit d.dir lp) else raw))

/-! ## Emission -/

/-- The instruction word whose TSET rules the granule being emitted (R83): the one its window read, in a hold granule the last
one (R102), else that of the image. -/
def granuleIw (m : Mem) (x : Weaver) (d : SegDesc) : Nat :=
  if x.inHold ∨ x.micro.phase ≠ .closed then x.micro.iw else instrWord m d x.k

/-- The lane pins of a site with their pins. -/
def lanePins (c : Core) (w s : Nat) : List (Nat × Nat) :=
  (List.range (4 * lanesOf c w)).filterMap (fun lp => (sitePin c w s lp).map (fun p => (lp, p)))

/-- The codes a pin of a site gets: DK in a hold granule, DZ at a disabled site, else the image's (R92, R102). -/
def pinCodes (m : Mem) (c : Core) (w s lp n : Nat) (d : SegDesc) : List (List Nat) :=
  let x := getW c w
  if x.inHold then List.replicate n (List.replicate (mulOf d) 3)
  else if bit x.sites s then codesOf m c w d x.k lp n
  else List.replicate n (List.replicate (mulOf d) 2)

/-- Run the slots of a raster group (R289): per slot what it drives, and the returned samples as slot, tag and pin. -/
def rasterSlots (m : Mem) (g start period mul : Nat) (ds : Bool) :
    List (Nat × Nat) → Core → Core × List (Option RasterOut) × List (Nat × Nat × Nat)
  | [], c => (c, [], [])
  | (i, code) :: rest, c =>
    if code = 0xB ∧ ds then
      let (c1, o, smp) := rasterSlot m c g (start + i / mul * period + i % mul * period / mul)
      let (c2, os, ss) := rasterSlots m g start period mul ds rest c1
      (c2, some o :: os, smp.map (fun (t, p) => (i, t, p)) ++ ss)
    else
      let (c2, os, ss) := rasterSlots m g start period mul ds rest c
      (c2, none :: os, ss)

/-- What a raster group drove in a granule, slot by slot, and its samples. -/
structure RasterRun where
  group : Nat
  outs : List (Option RasterOut)
  samples : List (Nat × Nat × Nat)
  deriving DecidableEq, Repr

/-- The raster groups of a Weaver run through the first `n` vectors of the granule (R289). -/
def runRasters (m : Mem) (c : Core) (w n : Nat) (d : SegDesc) : Core × List RasterRun :=
  (groupsBound c w).foldl (fun (acc : Core × List RasterRun) g =>
    match mapLane acc.1 g 0 with
    | some lp =>
      let s := rd acc.1 (rk g 3)
      let x := getW acc.1 w
      let codes := (pinCodes m acc.1 w s lp n d).flatten
      let sburst := match rolePin acc.1 g 0 with
        | some p => tsFormat (timingSet acc.1 p (iwTset (granuleIw m x d))) == 4
        | none => false
      let (c1, outs, smp) := rasterSlots m g x.gStart d.period (mulOf d) sburst (codes.zipIdx.map (fun (v, i) => (i, v))) acc.1
      (c1, acc.2 ++ [{ group := g, outs := outs, samples := smp }])
    | none => acc) (c, [])

/-- The raster bits of a pin in a granule, if a group maps it as an output (R155, R289). -/
def rasterBitsOf (c : Core) (runs : List RasterRun) (p : Nat) : Option (List (Option Bool)) :=
  runs.findSome? (fun r =>
    ((List.range 52).find? (fun i => rolePin c r.group i == some p)).map (fun i =>
      r.outs.map (fun o => o.map (fun o => roleBit c r.group o i))))

/-- The shadow duty of a pin, while the tracker measures (R189). -/
def shadowDuty (c : Core) : Option Nat := if inModes c [.run, .calibrate] then some (rd c (gk 2)) else none

/-- The returned samples of a pin become strobes in EDGE mode (R301); a lane whose strobe has no open instant is not
sampled and reads 0. -/
def addSamples (m : Mem) (c : Core) (w : Nat) (d : SegDesc) (runs : List RasterRun) : Core :=
  let x := getW c w
  runs.foldl (fun c r => r.samples.foldl (fun c (i, tag, p) =>
    let ts := timingSet c p (iwTset (granuleIw m x d))
    let (o, en, _, _) := strobeRoles ts (mulOf d) (i % mulOf d) 0
    let v := i / mulOf d
    if en && decide (o < d.period) then
      let at_ := x.gStart + v * d.period + o
      let st : Strobe := { vector := 64 * x.e + v, slot := i % mulOf d, ab := 0, code := 8, opens := at_, closes := at_, window := false, tag := tag }
      modPin c p (fun y => countStrobe (shadowDuty c) { y with strobes := y.strobes ++ [st] } st)
    else retSample c r.group tag 2) c) c

/-- Emit the first `n` vectors of a pin in the granule (R147 to R157); while the host measures with the pin's TDC, no loop-back
transition waits for it (R25, R189). -/
def emitPin (m : Mem) (c : Core) (w s lp p n : Nat) (d : SegDesc) (runs : List RasterRun) : Core :=
  let x := getW c w
  let z := getPin c p
  let y := prunePin (pruneDue z ((x.gStart : Int) - 64 * d.period)) (pastLimit z x.gStart)
  let r : PinRun := {
    period := d.period, m := mulOf d, start := x.gStart, vector0 := 64 * x.e
    ts := timingSet c p (iwTset (granuleIw m x d)), duty := shadowDuty c, raster := rasterBitsOf c runs p }
  let (y0, st) := emitCodes r (pinCodes m c w s lp n d) 0 y 0
  let y1 := if rd c (mkKey (0x4000 + p) 0x12) = 1 then { y0 with due := [] } else y0
  let c1 := (y1.trans.drop y.trans.length).foldl (fun c sw => emit c (swingOut c p sw)) (setPin c p y1)
  if st = 0 then c1 else setSticky c1 p st

/-- Emit the first `n` vectors of the granule on every pin of the Weaver: the pins of raster roles last, once the groups have run, and
these once the transitions of the TE pins stand (R289, R296). -/
def emitVectors (m : Mem) (c : Core) (w n : Nat) : Core :=
  match (getW c w).desc with
  | none => c
  | some d =>
    let x := getW c w
    let pins := (List.range 8).flatMap (fun s => (lanePins c w s).map (fun (lp, p) => (s, lp, p)))
    let mapped := fun (p : Nat) => (groupsBound c w).any (fun g => (List.range 52).any (fun i => rolePin c g i == some p))
    let emitAll := fun (c : Core) (l : List (Nat × Nat × Nat)) (runs : List RasterRun) =>
      l.foldl (fun c (s, lp, p) => emitPin m c w s lp p n d runs) c
    let c1 := settleTes (emitAll c (pins.filter (fun e => !mapped e.2.2)) []) w x.gStart (x.gStart + n * d.period)
    let (c2, runs) := if x.inHold then (c1, []) else runRasters m c1 w n d
    addSamples m (emitAll c2 (pins.filter (fun e => mapped e.2.2)) runs) w d runs

/-! ## Results of strobes -/

/-- A strobe's result with its site, lane pin and pin. -/
structure Result where
  site : Nat
  lp : Nat
  pin : Nat
  r : StrobeResult
  deriving DecidableEq, Repr

/-- The place of a result in its stream's order: vector, slot, lane pin, strobe (R210). -/
def resultKey (x : Result) : Nat := ((x.r.strobe.vector * 4 + x.r.strobe.slot) * 256 + x.lp) * 2 + x.r.strobe.ab

/-- The strobes of a site before a vector that are on their way, evaluated, in record order. -/
def siteResults (c : Core) (w s lim : Nat) : List Result :=
  let all := (lanePins c w s).flatMap (fun (lp, p) =>
    ((evalStrobes (getPin c p)).filter (fun r => decide (r.strobe.vector < lim))).map (fun r => { site := s, lp := lp, pin := p, r := r : Result }))
  (all.foldl (fun (acc : SMap Result) x => minsert acc (resultKey x) x) []).map Prod.snd

/-- The body of a FAIL or CAPTURE record (Table 7-3). -/
def strobeBody (x : Result) : List (Nat × Nat) :=
  [(32, x.r.strobe.vector), (8, x.pin), (8, x.lp), (2, x.r.strobe.slot), (1, x.r.strobe.ab), (4, x.r.strobe.code),
   (2, x.r.state), (1, ofBool x.r.boundary), (1, ofBool x.r.held), (11, 0)]

/-- Feed one sample to an edge detector (R134). -/
def sampleEdge (d : EdgeDet) (now : Nat) (v : Bool) : EdgeDet :=
  if v != d.last && ((d.edge == 1 && v) || (d.edge == 2 && !v) || d.edge == 3) then { d with last := v, flag := true, edgeAt := some now }
  else { d with last := v }

/-- Feed a sample to every detector of a Weaver whose source satisfies a test. -/
def sampleEdges (c : Core) (w : Nat) (src : Nat → Bool) (v : Bool) : Core :=
  modW c w (fun x => { x with eds := x.eds.map (fun e => if e.2.edge ≠ 0 ∧ src e.2.src then (e.1, sampleEdge e.2 c.time v) else e) })

/-- The group whose returned lane a pin is (R301). -/
def retGroup (c : Core) (p : Nat) : Option Nat :=
  [0, 1].find? (fun g => rdb c (rk g 1) && (List.range 48).any (fun l => rolePin c g (52 + l) == some p))

/-- A strobe's sample reaches its pin and the detectors that watch it (R134). -/
def deliverSample (c : Core) (w : Nat) (x : LateSample) : Core :=
  let c1 := modPin c x.pin (fun y => { y with sampleH := x.h, sampleL := x.l })
  let c2 := sampleEdges c1 w (fun s => bits s 12 4 == 1 && bits s 8 3 == x.site && bits s 0 8 == x.lp) x.h
  sampleEdges c2 w (fun s => bits s 12 4 == 2 && bits s 8 3 == x.site && bits s 0 8 == x.lp) x.l

/-- What one strobe result does to its pin: counters and STICKY (R162, R164, R166), and its sample, which reaches the detectors at
once or, of the granule that ends a segment, one granule later (R134, Table 4-16). -/
def noteResult (c : Core) (w : Nat) (late : Bool) (x : Result) : Core :=
  let c1 := if x.r.held then bump c (pk x.pin 0xD) else c
  let c2 := if expects x.r.strobe.code && x.r.pass && x.r.boundary then bump c1 (pk x.pin 0xC) else c1
  let c3 := if x.r.invalid then setSticky c2 x.pin 8 else c2
  let s : LateSample := { site := x.site, lp := x.lp, pin := x.pin, h := x.r.h, l := x.r.l }
  if late then modW c3 w (fun y => { y with late := y.late ++ [s] }) else deliverSample c3 w s

/-- The record of a strobe result, if it makes one: FAIL or CAPTURE (R206). -/
def recordResult (c : Core) (w : Nat) (d : SegDesc) (x : Result) : Core :=
  let cal := (getPin c x.pin).calByte
  if x.r.strobe.code = 0xC then makeOne c w x.site d 2 cal x.r.strobe.vector (strobeBody x)
  else if expects x.r.strobe.code ∧ ¬ x.r.pass then makeOne c w x.site d 1 cal x.r.strobe.vector (strobeBody x)
  else c

/-- What a granule's MK strobes of a site read: their number, and how many high and low (R91). -/
def mkCounts (l : List Result) : Nat × Nat × Nat :=
  let mk := l.filter (fun x => x.r.strobe.code == 0xD)
  (mk.length, mk.countP (fun x => x.r.high), mk.countP (fun x => x.r.low))

/-- The results of one site's strobes: records, then the fail accumulator and the match latches (R90, R91); vectors that were
emitted before SITEOFF took effect still make their records (R92, log 102). -/
def takeSite (c : Core) (w : Nat) (d : SegDesc) (late : Bool) (lim s : Nat) : Core :=
  let all := siteResults c w s lim
  let rets := all.filter (fun x => x.r.strobe.tag != 0)
  let l := all.filter (fun x => x.r.strobe.tag == 0)
  let c0 := rets.foldl (fun c x => match retGroup c x.pin with
    | some g => retSample c g x.r.strobe.tag x.r.state
    | none => c) c
  let c1 := l.foldl (fun c x => recordResult (noteResult c w late x) w d x) c0
  let failed := l.any (fun x => expects x.r.strobe.code && !x.r.pass)
  let (n, hi, lo) := mkCounts l
  modW c1 w (fun y => { y with
    acc := if failed then setBit y.acc s else y.acc
    latch := [0, 1, 2, 3].foldl (fun m k => if mselMet k n hi lo then mset 0 m k (setBit (mget 0 m k) s) else m) y.latch })

/-- The detectors that watch latches and accumulators take their samples (R134). -/
def deliverFlow (c : Core) (w acc : Nat) (latch : SMap Nat) : Core :=
  (List.range 8).foldl (fun c s =>
    let c1 := sampleEdges c w (fun v => bits v 12 4 == 3 && bits v 8 3 == s) (bit (mget 0 latch (mselOf c w)) s)
    sampleEdges c1 w (fun v => bits v 12 4 == 4 && bits v 8 3 == s) (bit acc s)) c

/-- The latches and accumulators as a granule left them are sampled, at once or one granule later (R134, Table 4-16). -/
def sampleFlow (c : Core) (w : Nat) (late : Bool) : Core :=
  let x := getW c w
  if late then modW c w (fun y => { y with lateFlow := some (x.acc, x.latch) }) else deliverFlow c w x.acc x.latch

/-- The samples of the granule that ended the last segment arrive (R134, Table 4-16). -/
def deliverLate (c : Core) (w : Nat) : Core :=
  let x := getW c w
  let c1 := x.late.foldl (fun c s => deliverSample c w s) (modW c w (fun y => { y with late := [], lateFlow := none }))
  match x.lateFlow with
  | some (acc, latch) => deliverFlow c1 w acc latch
  | none => c1

/-- The detectors that watch MTO take its value (R134). -/
def sampleMto (c : Core) (w : Nat) : Core := sampleEdges c w (fun v => bits v 12 4 == 6) (getW c w).mto

/-- What the strobes before a vector give: they are evaluated, and the later ones stay on their way (R165). -/
def takeStrobes (c : Core) (w : Nat) (late : Bool) (lim : Nat) : Core :=
  match (getW c w).desc with
  | none => c
  | some d =>
    let c1 := (List.range 8).foldl (fun c s => takeSite c w d late lim s) c
    let c2 := (pinsOf c1 w).foldl (fun c p =>
      if (getPin c p).strobes = [] then c else modPin c p (fun y => { y with strobes := y.strobes.filter (fun s => decide (lim ≤ s.vector)) })) c1
    sampleFlow c2 w late

/-- What the strobes before a vector give, their samples arriving at once. -/
def takeGranule (c : Core) (w lim : Nat) : Core := takeStrobes c w false lim

/-- What all strobes on their way give at a segment's end; their samples arrive one granule later. -/
def takeResults (c : Core) (w : Nat) : Core := takeStrobes c w true (2 ^ 40)

/-! ## Microcode records (R207, R210, R216) -/

/-- The records of a granule made by microcode, one per enabled site, or per site of its mask (R207). -/
def makeQueued (c : Core) (w g : Nat) (d : SegDesc) (q : QueuedRec) : Core :=
  (setBits q.sites 8).foldl (fun c s =>
    let body := if q.kind = 3 then [(26, q.value), (26, g), (18, 0)] else [(44, q.value), (26, g)]
    makeOne c w s d q.kind (siteCalByte c w s) (64 * g + 63) body) c

/-- Make the records held of the granule before (R210): they belong to granule `g`. -/
def drainHold (c : Core) (w g : Nat) : Core :=
  match (getW c w).desc with
  | none => c
  | some d =>
    let l := (getW c w).recHold
    l.foldl (fun c q => makeQueued c w g d q) (modW c w (fun x => { x with recHold := [] }))

/-- The microcode-record queue is emptied into the hold (R216). -/
def drainQueue (c : Core) (w : Nat) : Core := modW c w (fun x => { x with recHold := x.recHold ++ x.recq, recq := [] })

/-! ## Segment triggers (R114) -/

/-- Schedule a pulse of the TRGO outputs of a mask at an instant plus the Weaver's TRGO_DELAY. -/
def pulseTrgo (c : Core) (w mask at_ : Nat) : Core :=
  if mask = 0 then c else modW c w (fun x => { x with pulses := x.pulses ++ [(mask, at_ + rd c (wk w 0xA))] })

/-- The masked outputs go high for 8 ns; a pulse that meets one still high makes it longer. -/
def riseTrgo (c : Core) (mask rise : Nat) : Core :=
  (setBits mask 8).foldl (fun c k =>
    let c1 := if mget 0 c.trgoHigh k < rise then emit c (.trgo k rise) else c
    { c1 with trgoHigh := mset 0 c1.trgoHigh k (max (mget 0 c1.trgoHigh k) (rise + 32768)) }) c

/-- The first scheduled pulse of a Weaver rises. -/
def firePulse (c : Core) (w : Nat) : Core :=
  match (getW c w).pulses with
  | [] => c
  | (mask, rise) :: rest => riseTrgo (elapseTo (modW c w (fun x => { x with pulses := rest })) rise) mask rise

/-- The pulse on output k ends. -/
def endPulse (c : Core) (k : Nat) : Core :=
  let c1 := elapseTo c (mget 0 c.trgoHigh k)
  { c1 with trgoHigh := mset 0 c1.trgoHigh k 0 }

end Sys2Proof.Machine
end

