-- ==== Sys2Proof/Machine/Sawyer.lean ====
section
/-!
DEFINITION. Sys2Proof/Machine/Sawyer.lean: the Sawyer cores: registers, traps, translation, the physical address map, loads
and stores, the Xsaw instructions and partitions (12_sawyer_scheduler.md R331 to R340, R345 to R352, R358).
-/
namespace Sys2Proof.Machine

def getHart (c : Core) (n : Nat) : Hart := mget {} c.harts n
def setHart (c : Core) (n : Nat) (x : Hart) : Core := { c with harts := mset {} c.harts n x }
def modHart (c : Core) (n : Nat) (f : Hart → Hart) : Core := setHart c n (f (getHart c n))

/-! ## Registers -/

/-- Integer register r; x0 reads 0. -/
def getX (h : Hart) (r : Nat) : Nat := if r = 0 then 0 else mget 0 h.x r

/-- Write integer register r; x0 discards the value. -/
def setX (h : Hart) (r v : Nat) : Hart := if r = 0 then h else { h with x := mset 0 h.x r (v % 2 ^ 64) }

/-- A stored control and status register. -/
def csrGet (h : Hart) (a : Nat) : Nat := mget 0 h.csr a

/-- Set a stored control and status register. -/
def csrSet (h : Hart) (a v : Nat) : Hart := { h with csr := mset 0 h.csr a v }

def csrMstatus : Nat := 0x300
def csrMedeleg : Nat := 0x302
def csrMideleg : Nat := 0x303
def csrMie : Nat := 0x304
def csrMtvec : Nat := 0x305
def csrMepc : Nat := 0x341
def csrMcause : Nat := 0x342
def csrMtval : Nat := 0x343
def csrMip : Nat := 0x344
def csrStvec : Nat := 0x105
def csrSepc : Nat := 0x141
def csrScause : Nat := 0x142
def csrStval : Nat := 0x143
def csrSatp : Nat := 0x180
def csrXsawen : Nat := 0x7C0
def csrPghint : Nat := 0x800

/-- mtime: the ns count of the stamp scale (R333). -/
def mtime (c : Core) : Nat := c.stamp / 4096

/-- The partition whose CLUSTERS hold a core, 0 if none does (R348). -/
def partitionOf (c : Core) (n : Nat) : Nat :=
  ((List.range 8).find? (fun k => bit (rd c (mkKey (0x5410 + k) 1)) (n / 16))).getD 0

/-- Whether a partition uses push dispatch: 8 clusters or fewer (R348). -/
def pushes (c : Core) (k : Nat) : Bool := popCount (rd c (mkKey (0x5410 + k) 1)) 64 ≤ 8

/-- What a CSR reads as: mhartid, the time counters and BQSTAT are made by the hardware (R331, R333, R334). -/
def csrRead (c : Core) (n a : Nat) : Nat :=
  let h := getHart c n
  if a = 0xF14 then n
  else if a = 0xC01 then mtime c
  else if a = 0xCC0 then
    h.held.length + ofBool h.delivered.isSome * 4 + partitionOf c n * 8 + ofBool (pushes c (partitionOf c n)) * 64
  else csrGet h a

/-- The registers of a hart as a start gives them: M mode at an address (R348). -/
def hartStart (pc : Nat) : Hart := { running := true, pc := pc }

/-! ## Traps -/

/-- Take a trap: to S mode where it is delegated and the hart is not in M mode, else to M mode. -/
def trap (h : Hart) (interrupt : Bool) (cause tval : Nat) : Hart :=
  let deleg := bit (csrGet h (if interrupt then csrMideleg else csrMedeleg)) cause
  let code := cause + ofBool interrupt * 2 ^ 63
  let st := csrGet h csrMstatus
  let target := fun (v : Nat) => v / 4 * 4 + (if interrupt && v % 4 == 1 then 4 * cause else 0)
  if deleg ∧ h.mode ≠ 3 then
    let st1 := putField (putField (putField st 5 1 (bits st 1 1)) 1 1 0) 8 1 (if h.mode = 0 then 0 else 1)
    { csrSet (csrSet (csrSet (csrSet h csrSepc h.pc) csrScause code) csrStval tval) csrMstatus st1 with
      mode := 1, pc := target (csrGet h csrStvec) }
  else
    let st1 := putField (putField (putField st 7 1 (bits st 3 1)) 3 1 0) 11 2 h.mode
    { csrSet (csrSet (csrSet (csrSet h csrMepc h.pc) csrMcause code) csrMtval tval) csrMstatus st1 with
      mode := 3, pc := target (csrGet h csrMtvec) }

/-- The interrupts pending and enabled in mie. -/
def pendingInts (h : Hart) : Nat := csrGet h csrMip &&& csrGet h csrMie

/-- The interrupt a hart takes now, if any: machine ones before delegated ones, software, timer, then TASKIP (log 33). -/
def interruptNow (h : Hart) : Option Nat :=
  let p := pendingInts h
  let deleg := csrGet h csrMideleg
  let st := csrGet h csrMstatus
  let mOn := h.mode != 3 || bit st 3
  let sOn := h.mode == 0 || (h.mode == 1 && bit st 1)
  let order := [3, 7, 1, 5, 16]
  match order.find? (fun i => bit p i && !bit deleg i && mOn) with
  | some i => some i
  | none => order.find? (fun i => bit p i && bit deleg i && sOn)

/-- Advance past an instruction of `len` bytes. -/
def advance (h : Hart) (len : Nat) : Hart := { h with pc := (h.pc + len) % 2 ^ 64 }

/-- A hart takes the interrupt that is due; a blocked BQ.WAIT ends INTERRUPTED first (R352). -/
def takeInterrupt (h : Hart) : Hart :=
  let h1 := match h.waits with
    | some (.task rd _) => if pendingInts h ≠ 0 then { advance (setX h rd (2 ^ 64 - 6)) 4 with waits := none } else h
    | _ => h
  if !h1.running ∨ h1.waits.isSome then h1
  else
    match interruptNow h1 with
    | some i => trap h1 true i 0
    | none => h1

/-- Take the interrupts due on a hart. -/
def interruptsOf (c : Core) (n : Nat) : Core := modHart c n takeInterrupt

/-! ## Translation and protection (R331) -/

/-- The kind of an access. -/
inductive AccKind where
  | fetch
  | load
  | store
  deriving DecidableEq, Repr

/-- The cause codes of an access: misaligned, access fault, page fault. -/
def alignCause : AccKind → Nat
  | .fetch => 0
  | .load => 4
  | .store => 6

def accessCause : AccKind → Nat
  | .fetch => 1
  | .load => 5
  | .store => 7

def pageCause : AccKind → Nat
  | .fetch => 12
  | .load => 13
  | .store => 15

/-- The privilege of an access: MPRV lends loads and stores that of MPP. -/
def accessMode (h : Hart) (k : AccKind) : Nat :=
  let st := csrGet h csrMstatus
  if h.mode = 3 ∧ bit st 17 ∧ k ≠ .fetch then bits st 11 2 else h.mode

/-- Configuration byte of PMP entry i. -/
def pmpCfg (h : Hart) (i : Nat) : Nat := bits (csrGet h (if i < 8 then 0x3A0 else 0x3A2)) (8 * (i % 8)) 8

/-- pmpaddr of entry i. -/
def pmpAddr (h : Hart) (i : Nat) : Nat := csrGet h (0x3B0 + i) % 2 ^ 54

/-- The number of trailing ones of a number, at most `fuel`. -/
def trailingOnes : Nat → Nat → Nat
  | 0, _ => 0
  | k + 1, n => if n % 2 = 1 then trailingOnes k (n / 2) + 1 else 0

/-- The range [lo, hi) of PMP entry i, if it is on. -/
def pmpRange (h : Hart) (i : Nat) : Option (Nat × Nat) :=
  let a := pmpAddr h i
  match bits (pmpCfg h i) 3 2 with
  | 1 => some ((if i = 0 then 0 else 4 * pmpAddr h (i - 1)), 4 * a)
  | 2 => some (4 * a, 4 * a + 4)
  | 3 =>
    let n := trailingOnes 54 a
    let size := 8 * 2 ^ n
    some (4 * a / size * size, 4 * a / size * size + size)
  | _ => none

/-- Whether the 16 PMP entries allow an access of `len` bytes at physical address p: the lowest entry that matches any byte decides,
and must match all; without a match only M mode passes. -/
def pmpAllows (h : Hart) (mode p len : Nat) (k : AccKind) : Bool :=
  let hit := (List.range 16).find? (fun i =>
    match pmpRange h i with
    | some (lo, hi) => decide (lo < p + len) && decide (p < hi)
    | none => false)
  match hit with
  | none => mode == 3
  | some i =>
    let cfg := pmpCfg h i
    let inside := match pmpRange h i with
      | some (lo, hi) => decide (lo ≤ p) && decide (p + len ≤ hi)
      | none => false
    let right := match k with
      | .fetch => bit cfg 2
      | .load => bit cfg 0
      | .store => bit cfg 1
    inside && (right || (mode == 3 && !bit cfg 7))

/-- The base of a core's scratch in the physical map (Table 12-1). -/
def scratchBase (n : Nat) : Nat := 0x8100000000 + n * 0x10000

/-- What stands at a physical address (Table 12-1). -/
inductive Region where
  | memory (a : Nat)
  | ownTimer (off : Nat)
  | softInt (core off : Nat)
  | global (g : Nat)
  | unmapped
  deriving DecidableEq, Repr

/-- The region that holds bytes [p, p + len) of hart n's physical map (Table 12-1). -/
def regionOf (c : Core) (n p len : Nat) : Region :=
  let inside := fun lo hi => decide (lo ≤ p) && decide (p + len ≤ hi)
  if inside 0 yardTop then (if localMapped c p len then .memory p else .unmapped)
  else if inside 0x8000000000 0x8000010000 then .memory (scratchBase n + (p - 0x8000000000))
  else if inside 0x8100000000 0x8104000000 then .memory p
  else if inside 0x9000000000 0x9000000010 then .ownTimer (p - 0x9000000000)
  else if inside 0x9000001000 0x9000003000 then .softInt ((p - 0x9000001000) / 8) ((p - 0x9000001000) % 8)
  else if inside (2 ^ 48) (2 ^ 49) then .global (p - 2 ^ 48)
  else .unmapped

/-- One level of a page-table walk and those below it: the table at `a`, level i. Answers the entries that it reads, with the physical
address, or whether the fault is an access fault. -/
def walkTable (m : Mem) (c : Core) (n : Nat) (h : Hart) (mode va : Nat) (k : AccKind) : Nat → Nat → List Nat × Except Bool Nat
  | 0, _ => ([], .error false)
  | i + 1, a =>
    let p := a + bits va (12 + 9 * i) 9 * 8
    match regionOf c n p 8 with
    | .memory loc =>
      if !pmpAllows h 1 p 8 .load then ([], .error true)
      else if !(badUnits m loc 8).isEmpty then ([loc], .error true)
      else
        let pte := readNat m loc 8
        let ppn := bits pte 10 44
        let leaf := bit pte 1 || bit pte 3
        if !bit pte 0 ∨ (!bit pte 1 && bit pte 2) ∨ bits pte 54 10 ≠ 0 then ([loc], .error false)
        else if !leaf then
          if bit pte 4 || bit pte 6 || bit pte 7 then ([loc], .error false)
          else
            let below := walkTable m c n h mode va k i (ppn * 4096)
            (loc :: below.1, below.2)
        else
          let st := csrGet h csrMstatus
          let right := match k with
            | .fetch => bit pte 3
            | .load => bit pte 1 || (bit st 19 && bit pte 3)
            | .store => bit pte 2
          let user := if mode = 0 then bit pte 4 else !bit pte 4 || (bit st 18 && k != .fetch)
          let aligned := bits ppn 0 (9 * i) == 0
          if !right || !user || !aligned || !bit pte 6 || (k == .store && !bit pte 7) then ([loc], .error false)
          else ([loc], .ok (ppn * 4096 + bits va 0 (12 + 9 * i)))
    | _ => ([], .error true)

/-- The walk of an access, with the entries that it reads (R331): physical address, or the cause of its exception. -/
def walkOf (m : Mem) (c : Core) (n : Nat) (h : Hart) (va : Nat) (k : AccKind) : List Nat × Except Nat Nat :=
  let mode := accessMode h k
  let satp := csrGet h csrSatp
  let levels := if mode = 3 then 0 else match bits satp 60 4 with
    | 8 => 3
    | 9 => 4
    | _ => 0
  if levels = 0 then ([], if va < 2 ^ 56 then .ok va else .error (accessCause k))
  else
    let top := 12 + 9 * levels - 1
    if bits va top (64 - top) ≠ 0 ∧ bits va top (64 - top) ≠ 2 ^ (64 - top) - 1 then ([], .error (pageCause k))
    else match walkTable m c n h mode va k levels (bits satp 0 44 * 4096) with
      | (l, .ok p) => (l, .ok p)
      | (l, .error access) => (l, .error (if access then accessCause k else pageCause k))

/-- The physical address of an access, or the cause of its exception. -/
def translate (m : Mem) (c : Core) (n : Nat) (h : Hart) (va len : Nat) (k : AccKind) : Except Nat Nat :=
  match (walkOf m c n h va k).2 with
  | .error e => .error e
  | .ok p => if pmpAllows h (accessMode h k) p len k then .ok p else .error (accessCause k)

/-- The page hint of a hart's fills (R334, Table 12-2); 0b11 acts as AUTO (R322). -/
def hartHint (h : Hart) : PageHint :=
  match bits (csrGet h csrPghint) 0 2 with
  | 1 => .stay
  | 2 => .close
  | _ => .auto

/-- The reads of an access's walk reach the memory: uncorrectable errors are met, and for one the Sawyer source raises L2 (R320, R333). -/
def walkMet (m : Mem) (c : Core) (n : Nat) (h : Hart) (va : Nat) (k : AccKind) : Core :=
  (walkOf m c n h va k).1.foldl (fun c a =>
    let (ok, c1) := checkedRead m c a 8 (hartHint h)
    if ok then c1 else raise c1 (236 + n / 256) 2 n) c

/-! ## Loads and stores (R332, R333) -/

/-- The kind of a memory operation. -/
def kindOf : MemOp → AccKind
  | .fetch => .fetch
  | .load _ => .load
  | .lr => .load
  | _ => .store

/-- Whether an operation is of the A extension. -/
def atomic : MemOp → Bool
  | .load _ => false
  | .store => false
  | .fetch => false
  | _ => true

/-- What an AMO stores, from the old value and the operand, both of `w` bits. -/
def amoResult (op : MemOp) (w old v : Nat) : Nat :=
  let a := toSigned w old
  let b := toSigned w v
  match op with
  | .amoAdd => (old + v) % 2 ^ w
  | .amoXor => old ^^^ v
  | .amoAnd => old &&& v
  | .amoOr => old ||| v
  | .amoMin => if a ≤ b then old else v
  | .amoMax => if b ≤ a then old else v
  | .amoMinu => min old v
  | .amoMaxu => max old v
  | _ => v

/-- The register value of a loaded number of `w` bits. -/
def extended (signed : Bool) (w v : Nat) : Nat := if signed then ofSigned 64 (toSigned w v) else v

/-- The length of a load's or store's instruction: 2 or 4 bytes, which the access does not tell (log 34). -/
def lengthOf (c : Core) (op : MemOp) : Nat × Core :=
  match op with
  | .fetch => (0, c)
  | .load _ | .store => ((if bit (freeNow c) 0 then 2 else 4), freeUsed c)
  | _ => (4, c)

/-- A hart takes an exception. -/
def hartTrap (c : Core) (n cause tval : Nat) : Core := modHart c n (fun h => trap h false cause tval)

/-- An access ends in an access fault for an uncorrectable error: the Sawyer source at L2 (R333). -/
def uncorrectableTrap (c : Core) (n cause va : Nat) : Core := hartTrap (raise c (236 + n / 256) 2 n) n cause va

/-- The end of an access that writes a value to rd. -/
def retire (c : Core) (n : Nat) (op : MemOp) (rd v : Nat) : Core :=
  let (len, c1) := lengthOf c op
  modHart c1 n (fun h => advance (setX h rd v) len)

/-- The end of an access that writes no register. -/
def retireStore (c : Core) (n : Nat) (op : MemOp) : Core := retire c n op 0 0

/-- An access to memory at a local address: a fill under the hart's page hint, and what it stores written back under CLOSE (R334). -/
def accessMemory (m : Mem) (c : Core) (n a : Nat) (x : MemAccess) : Mem × Core :=
  let len := 2 ^ x.size.toNat
  let w := 8 * len
  let k := kindOf x.op
  let va := x.vaddr.toNat
  let h := getHart c n
  let writes := match x.op with
    | .store => true
    | .sc => h.reserved == some (a, len)
    | .load _ | .fetch | .lr => false
    | _ => true
  if k = .store ∧ protectedYard c a len then (m, hartTrap c n 7 va)
  else
    let reads := x.op != .store && x.op != .sc
    let (okRead, c1) := if reads then checkedRead m c a len (hartHint h)
      else (true, if writes then touchHbm c a len (hartHint h) else c)
    if !okRead then (m, uncorrectableTrap c1 n (accessCause k) va)
    else
      let old := readNat m a len
      let new := match x.op with
        | .store | .sc => x.value.toNat % 2 ^ w
        | op => amoResult op w old (x.value.toNat % 2 ^ w)
      let (m2, c2) := if writes then checkedStore m c1 a (leBytes len new) .close else (m, c1)
      let c3 := if writes then breakReservations c2 a len else c2
      let rd := x.rd.toNat
      match x.op with
      | .fetch => (m2, c3)
      | .store => (m2, retireStore c3 n x.op)
      | .load signed => (m2, retire c3 n x.op rd (extended signed w old))
      | .lr => (m2, retire (modHart c3 n (fun h => { h with reserved := some (a, len) })) n x.op rd (extended true w old))
      | .sc => (m2, retire (modHart c3 n (fun h => { h with reserved := none })) n x.op rd (if writes then 0 else 1))
      | _ => (m2, retire c3 n x.op rd (extended true w old))

/-- Replace `l.length` bytes of a number from byte `off`. -/
def mergeBytes (v off len new : Nat) : Nat := putField v (8 * off) (8 * len) new

/-- MTIP follows mtime and mtimecmp. -/
def timerPending (c : Core) (h : Hart) : Hart :=
  csrSet h csrMip (putField (csrGet h csrMip) 7 1 (ofBool (decide (h.mtimecmp ≤ mtime c))))

/-- An access to the hart's own mtimecmp and MSIP (Table 12-1). -/
def accessTimer (c : Core) (n off : Nat) (x : MemAccess) : Core :=
  let len := 2 ^ x.size.toNat
  let h := getHart c n
  let v := h.mtimecmp + bits (csrGet h csrMip) 3 1 * 2 ^ 64
  match x.op with
  | .load signed => retire c n x.op x.rd.toNat (extended signed (8 * len) (bits v (8 * off) (8 * len)))
  | .store =>
    let new := mergeBytes v off len x.value.toNat
    let h1 := timerPending c { h with mtimecmp := new % 2 ^ 64 }
    let h2 := csrSet h1 csrMip (putField (csrGet h1 csrMip) 3 1 (bits new 64 1))
    interruptsOf (retireStore (setHart c n h2) n x.op) n
  | op => hartTrap c n (accessCause (kindOf op)) x.vaddr.toNat

/-- An access to the MSIP of core t: a write of 1 raises its software interrupt if it is in the writer's partition (Table 12-1). -/
def accessSoftInt (c : Core) (n t off : Nat) (x : MemAccess) : Core :=
  let len := 2 ^ x.size.toNat
  match x.op with
  | .load signed => retire c n x.op x.rd.toNat (extended signed (8 * len) (bits (bits (csrGet (getHart c t) csrMip) 3 1) (8 * off) (8 * len)))
  | .store =>
    let c1 := retireStore c n x.op
    if off = 0 ∧ x.value.toNat % 2 = 1 ∧ bit (rd c (mkKey (0x5410 + partitionOf c n) 1)) (t / 16) then
      interruptsOf (modHart c1 t (fun h => csrSet h csrMip (setBit (csrGet h csrMip) 3))) t
    else c1
  | op => hartTrap c n (accessCause (kindOf op)) x.vaddr.toNat

/-- What an answered global read gives a waiting load (R332, R42): `unit` is the 64-byte unit read. -/
def globalLoaded (c : Core) (n g : Nat) (x : MemAccess) (unit : List Byte) : Core :=
  let len := 2 ^ x.size.toNat
  let v := leAt unit (g % 64) len
  match x.op with
  | .load signed => retire c n x.op x.rd.toNat (extended signed (8 * len) v)
  | op => retireStore c n op

/-- A 64-byte unit with the stored bytes of an access merged in. -/
def mergedUnit (unit : List Byte) (g : Nat) (x : MemAccess) : List Byte :=
  leBytes 64 (mergeBytes (ofLe (padTo 64 unit)) (g % 64) (2 ^ x.size.toNat) x.value.toNat)

/-- An access through the global window (R332, R39 to R42): the own device answers at once, another one by RD_REQ and WR_REQ of the
64-byte unit, for which the hart waits; an atomic access takes an access fault (log 35). -/
def accessGlobal (m : Mem) (c : Core) (n g : Nat) (x : MemAccess) : Mem × Core :=
  let va := x.vaddr.toNat
  let cause := accessCause (kindOf x.op)
  let base := g / 64 * 64
  if atomic x.op then (m, hartTrap c n cause va)
  else if deviceOf g = deviceId c ∧ !noDeviceId c then
    match x.op with
    | .store =>
      let (s, (m1, c1)) := serveWrite m c g (leBytes (2 ^ x.size.toNat) x.value.toNat)
      if s = 0 then (m1, retireStore c1 n x.op) else (m1, hartTrap c1 n cause va)
    | _ =>
      let ((s, l, _), c1) := serveRead m c base 64 false
      if s = 0 then (m, globalLoaded c1 n g x l)
      else if s = 5 then (m, uncorrectableTrap c1 n cause va)
      else (m, hartTrap c1 n cause va)
  else
    match cannotSend c (deviceOf g) with
    | some _ => (m, hartTrap c n cause va)
    | none =>
      let (tag, c1) := askRead c base 64 false (some n) 0
      (m, modHart c1 n (fun h => { h with waits := some (.remote tag x g false) }))

/-- The answer to a hart's remote request: data, the second half of a store, or the access fault of R372. -/
def remoteAnswer (c : Core) (n status : Nat) (l : List Byte) : Core :=
  let h := getHart c n
  match h.waits with
  | some (.remote _ x g wrote) =>
    let c1 := modHart c n (fun h => { h with waits := none })
    if status ≠ 0 then hartTrap c1 n (accessCause (kindOf x.op)) x.vaddr.toNat
    else if x.op = .store ∧ !wrote then
      match cannotSend c1 (deviceOf g) with
      | some _ => hartTrap c1 n 7 x.vaddr.toNat
      | none =>
        let (tag, c2) := askWrite c1 (g / 64 * 64) (mergedUnit l g x) (some n)
        modHart c2 n (fun h => { h with waits := some (.remote tag x g true) })
    else interruptsOf (globalLoaded c1 n g x l) n
  | _ => c

/-- An ordinary load, store, fetch or AMO of a hart (R332). -/
def loadStore (m : Mem) (c : Core) (n : Nat) (x : MemAccess) : Mem × Core :=
  let h := getHart c n
  let len := 2 ^ x.size.toNat
  let va := x.vaddr.toNat
  let k := kindOf x.op
  let align := if k = .fetch then 2 else len
  if !h.running ∨ h.waits.isSome then (m, c)
  else if atomic x.op ∧ len < 4 then (m, hartTrap c n 2 0)
  else if va % align ≠ 0 then (m, hartTrap c n (alignCause k) va)
  else
    let t := translate m c n h va len k
    let c := walkMet m c n h va k
    match t with
    | .error cause => (m, hartTrap c n cause va)
    | .ok p =>
      match regionOf c n p len with
      | .memory a => accessMemory m c n a x
      | .ownTimer off => (m, accessTimer c n off x)
      | .softInt t off => (m, accessSoftInt c n t off x)
      | .global g => accessGlobal m c n g x
      | .unmapped => (m, hartTrap c n (accessCause k) va)

/-- Whether a hart that executes must wait at the memory for a retrain (R315). -/
def hartMustWait (c : Core) (n : Nat) : Bool := c.hbm.training && (getHart c n).running && (getHart c n).waits.isNone

/-- Whether a load, store, fetch or AMO of a hart reaches HBM, by itself, through its own aperture or by its walk, and must wait (R315). -/
def loadStoreWaits (m : Mem) (c : Core) (n : Nat) (x : MemAccess) : Bool :=
  let h := getHart c n
  let len := 2 ^ x.size.toNat
  let k := kindOf x.op
  hartMustWait c n && ((walkOf m c n h x.vaddr.toNat k).1.any (fun a => beMustWait c a 8) ||
    match translate m c n h x.vaddr.toNat len k with
    | .ok p => (match regionOf c n p len with
      | .memory a => beMustWait c a len
      | .global g => deviceOf g == deviceId c
      | _ => false)
    | .error _ => false)

/-- A core's mtime reaches its mtimecmp (R333). -/
def timerInterrupt (c : Core) (n : Nat) : Core :=
  let h := getHart c n
  if h.running ∧ h.mtimecmp ≤ mtime c then interruptsOf (setHart c n (timerPending c h)) n else c

/-! ## Xsaw (R335 to R340) -/

/-- Whether an Xsaw instruction raises an illegal-instruction exception: a non-zero unused field, or a disabled XSAWEN bit. -/
def xsawIllegal (h : Hart) (x : RType) (unused : List (BitVec 5)) (gate : Option Nat) : Bool :=
  x.funct7 != 0 || unused.any (· != 0)
  || (match gate with
      | some i => h.mode != 3 && !bit (csrGet h csrXsawen) i
      | none => false)

/-- The frame of every Xsaw instruction: nothing on a hart that does not execute, the exception, or the effect. -/
def xsaw (m : Mem) (c : Core) (n : Nat) (x : RType) (unused : List (BitVec 5)) (gate : Option Nat)
    (run : Hart → Mem × Core) : Mem × Core :=
  let h := getHart c n
  if !h.running ∨ h.waits.isSome then (m, c)
  else if xsawIllegal h x unused gate then (m, hartTrap c n 2 0)
  else run h

/-- Write rd and go on to the next instruction. -/
def xret (c : Core) (n : Nat) (x : RType) (v : Nat) : Core := modHart c n (fun h => advance (setX h x.rd.toNat v) 4)

/-- A negative status code of Table 12-4. -/
def bqCode (k : Nat) : Nat := 2 ^ 64 - k

/-- A buffer operand: translated, in the hart's own scratch, aligned; its local address, or the exception (R337). -/
def bufferAt (m : Mem) (c : Core) (n : Nat) (h : Hart) (va len align : Nat) (k : AccKind) : Except Nat Nat :=
  if va % align ≠ 0 then .error (alignCause k)
  else
    match translate m c n h va len k with
    | .error e => .error e
    | .ok p =>
      match regionOf c n p len with
      | .memory a => if scratchBase n ≤ a ∧ a + len ≤ scratchBase n + 0x10000 then .ok a else .error (accessCause k)
      | _ => .error (accessCause k)

/-- Bytes 31 to 59 of a buffer (R337). -/
def bufferBody (m : Mem) (a : Nat) : List Byte := readBytes m (a + 31) 29

/-- The task that a hart holds under a handle (R336). -/
def heldTask (h : Hart) (handle : Nat) : Option (Nat × Nat) :=
  h.held.find? (fun t => handleOf t.1 t.2 == handle)

/-- A STALE operation: the boom counts it (R346). -/
def staleOp (c : Core) (q : Nat) : Core := tallyEvent (modBoom c q (fun b => { b with stale := (b.stale + 1) % 2 ^ 64 })) 0xE7

/-- BQ.ENQ (R335, R336, R354). -/
def bqEnqueue (m : Mem) (c : Core) (n : Nat) (x : RType) : Mem × Core :=
  xsaw m c n x [] (some 0) fun h =>
    let va := getX h x.rs1.toNat
    let q := getX h x.rs2.toNat % 2 ^ 16
    let c := walkMet m c n h va .load
    match bufferAt m c n h va 64 64 .load with
    | .error e => (m, hartTrap c n e va)
    | .ok a =>
      let b := getBoom c q
      if !bdEnabled b.desc ∨ bdSource b.desc ≠ srcCore then (m, xret c n x (bqCode 2))
      else if boomFree c q = 0 then (m, xret (tallyEvent c 0xE6) n x (bqCode 1))
      else
        let body : EntryBody := { idem := bit (readNat m (a + 28) 1) 5, buf := bufferBody m a }
        let (m1, c1) := appendEntry m c q true (fun s => jobEntry c (entryStream c q) s 0 0 body)
        (m1, xret (reschedule c1) n x (boomTail c1 q))

/-- A task is collected into a buffer: it is held, TASKIP falls, rd receives its handle (R345, R350). -/
def collect (m : Mem) (c : Core) (n rd a q first : Nat) : Mem × Core :=
  let m1 := pokeBytes m a (taskBytes m c q first)
  let f := fun (h : Hart) =>
    let h1 := csrSet h csrMip (clearBit (csrGet h csrMip) 16)
    advance (setX { h1 with held := h1.held ++ [(q, first)], delivered := none, waits := none } rd (handleOf q first)) 4
  (m1, modHart c n f)

/-- BQ.WAIT and BQ.POLL (R335, R352): a delivered task is collected; in pull dispatch a BQ.POLL takes a ready boom's task; otherwise
BQ.WAIT blocks and BQ.POLL answers EMPTY. -/
def bqCollect (m : Mem) (c : Core) (n : Nat) (x : RType) (block : Bool) : Mem × Core :=
  xsaw m c n x [x.rs2] (some 0) fun h =>
    let va := getX h x.rs1.toNat
    let c := walkMet m c n h va .store
    match bufferAt m c n h va 1088 64 .store with
    | .error e => (m, hartTrap c n e va)
    | .ok a =>
      if 2 ≤ h.held.length then (m, xret c n x (bqCode 4))
      else
        match h.delivered with
        | some (q, f) =>
          let (m1, c1) := collect m c n x.rd.toNat a q f
          (m1, interruptsOf c1 n)
        | none =>
          let k := partitionOf c n
          if block then (m, interruptsOf (modHart c n (fun h => { h with waits := some (.task x.rd.toNat a) })) n)
          else if pushes c k then (m, xret c n x (bqCode 5))
          else
            match deliverTurn m c k n with
            | (some (q, f), c1) => collect m c1 n x.rd.toNat a q f
            | (none, c1) =>
              let (m2, c2) := settleBooms m c1
              (m2, xret c2 n x (bqCode 5))

/-- BQ.RES (R335, R346). -/
def bqResult (m : Mem) (c : Core) (n : Nat) (x : RType) : Mem × Core :=
  xsaw m c n x [] (some 0) fun h =>
    let va := getX h x.rs1.toNat
    let handle := getX h x.rs2.toNat
    let c := walkMet m c n h va .load
    match bufferAt m c n h va 64 64 .load with
    | .error e => (m, hartTrap c n e va)
    | .ok a =>
      match heldTask h handle with
      | none => (m, xret (staleOp c (handle % 2 ^ 16)) n x (bqCode 3))
      | some (q, f) =>
        let b := getBoom c q
        let staged := match taskOf b f with
          | some t => t.staged.length
          | none => 0
        if !bdResEn b.desc then (m, xret c n x (bqCode 2))
        else if bdResMax b.desc ≤ staged then (m, xret c n x (bqCode 4))
        else
          let g := fun (t : Task) => if t.first = f then { t with staged := t.staged ++ [bufferBody m a] } else t
          (m, xret (modBoom c q (fun b => { b with tasks := b.tasks.map g })) n x 0)

/-- BQ.DONE (R335, R346, R347). -/
def bqComplete (m : Mem) (c : Core) (n : Nat) (x : RType) : Mem × Core :=
  xsaw m c n x [] (some 0) fun h =>
    let va := getX h x.rs1.toNat
    let handle := getX h x.rs2.toNat
    let c := if va = 0 then c else walkMet m c n h va .load
    let buffer : Except Nat (Option Nat) :=
      if va = 0 then .ok none
      else match bufferAt m c n h va 64 64 .load with
        | .error e => .error e
        | .ok a => .ok (some a)
    match buffer with
    | .error e => (m, hartTrap c n e va)
    | .ok a =>
      match heldTask h handle with
      | none => (m, xret (staleOp c (handle % 2 ^ 16)) n x (bqCode 3))
      | some (q, f) => settleBooms m (closeTask (xret c n x 0) q f 1 0 (a.map (bufferBody m)))

/-- The cause of a BQ.ABORT: rs1[7:0] up to 0x7F; above it the spec states none (log 36). -/
def abortCause (c : Core) (v : Nat) : Nat × Core :=
  if v % 256 < 0x80 then (v % 256, c) else (freeNow c % 0x80, freeUsed c)

/-- BQ.ABORT (R335, R346). -/
def bqAbortTask (m : Mem) (c : Core) (n : Nat) (x : RType) : Mem × Core :=
  xsaw m c n x [] (some 0) fun h =>
    let handle := getX h x.rs2.toNat
    match heldTask h handle with
    | none => (m, xret (staleOp c (handle % 2 ^ 16)) n x (bqCode 3))
    | some (q, f) =>
      let (cause, c1) := abortCause c (getX h x.rs1.toNat)
      settleBooms m (closeTask (xret c1 n x 0) q f 2 cause none)

/-- BQ.STAT (R335). -/
def bqStatus (m : Mem) (c : Core) (n : Nat) (x : RType) : Mem × Core :=
  xsaw m c n x [x.rs2] (some 0) fun h =>
    let q := getX h x.rs1.toNat % 2 ^ 16
    let b := getBoom c q
    (m, xret c n x (if bdEnabled b.desc then boomTail c q - b.dispatch else bqCode 7))

/-- TALLY.ADD (R340). -/
def tallyAddTo (m : Mem) (c : Core) (n : Nat) (x : RType) : Mem × Core :=
  xsaw m c n x [x.rd] (some 1) fun h =>
    (m, xret (tallyEvents c (0x70 + getX h x.rs1.toNat % 16) (getX h x.rs2.toNat % 2 ^ 32)) n x 0)

/-- TALLY.RD (R335). -/
def tallyRead (m : Mem) (c : Core) (n : Nat) (x : RType) : Mem × Core :=
  xsaw m c n x [x.rs2] none fun h => (m, xret c n x (mget {} c.tally (getX h x.rs1.toNat % 128)).value)

/-- CRC32C.B, CRC32C.W and CRC32C.D over `k` bytes of rs2 (R339). -/
def crcStep (m : Mem) (c : Core) (n : Nat) (x : RType) (k : Nat) : Mem × Core :=
  xsaw m c n x [] none fun h =>
    (m, xret c n x (crcBytes (BitVec.ofNat 32 (getX h x.rs1.toNat)) (leBytes k (getX h x.rs2.toNat))).toNat)

/-- CRC32C.REC (R339): the record's length comes from its KIND. -/
def crcRecord (m : Mem) (c : Core) (n : Nat) (x : RType) : Mem × Core :=
  xsaw m c n x [x.rs2] none fun h =>
    let va := getX h x.rs1.toNat
    let c := walkMet m c n h va .load
    match bufferAt m c n h va 32 32 .load with
    | .error e => (m, hartTrap c n e va)
    | .ok a =>
      let kind := readNat m a 1 % 16
      if kind = 0 ∨ kind = 7 then (m, xret c n x (bqCode 8))
      else if kind < 7 then (m, xret c n x (if crcOk (readBytes m a 32) then 0 else 1))
      else
        match bufferAt m c n h va 64 32 .load with
        | .error e => (m, hartTrap c n e va)
        | .ok a2 => (m, xret c n x (if crcOk (readBytes m a2 64) then 0 else 1))

/-! ## Delivery and partitions (R348 to R352, R358) -/

/-- The cores of a partition. -/
def coresOf (c : Core) (k : Nat) : List Nat :=
  (setBits (rd c (mkKey (0x5410 + k) 1)) 64).flatMap (fun cl => (List.range 16).map (fun i => 16 * cl + i))

/-- A core of a push partition that can take a task: it holds none and has none delivered (R350). -/
def idleCore (c : Core) (n : Nat) : Bool :=
  let h := getHart c n
  h.running && h.held.isEmpty && h.delivered.isNone

/-- Whether a core blocks in BQ.WAIT. -/
def waitsTask (c : Core) (n : Nat) : Bool :=
  let h := getHart c n
  h.running && (match h.waits with | some (.task _ _) => true | _ => false)

/-- LEVEL of the task of a core that holds exactly one, with none delivered. -/
def soleLevel (c : Core) (n : Nat) : Option Nat :=
  let h := getHart c n
  match h.held, h.delivered with
  | [(q, f)], none => (taskOf (getBoom c q) f).map Task.level
  | _, _ => none

/-- The core that a group of level L pre-empts: exactly one task held, of the lowest level below L, lowest number first (R351). -/
def preemptee (c : Core) (k L : Nat) : Option Nat :=
  let cand := (coresOf c k).filter (fun n => (getHart c n).running)
  ((List.range L).findSome? (fun l => cand.find? (fun n => soleLevel c n == some l)))

/-- The core that takes the next task of partition k, and whether it is pre-empted (R350 to R352). -/
def takerOf (c : Core) (k : Nat) : Option (Nat × Bool) :=
  if pushes c k then
    match (coresOf c k).find? (idleCore c) with
    | some n => some (n, false)
    | none =>
      match mget [] c.sched.active k with
      | [] => none
      | g :: _ =>
        if (mget [] c.sched.ready g).isEmpty then none
        else (preemptee c k (rd c (mkKey (0x5420 + g) 3))).map (fun n => (n, true))
  else ((coresOf c k).find? (waitsTask c)).map (fun n => (n, false))

/-- A delivered task reaches its core: a blocked BQ.WAIT collects it, else it stands in the delivery register with TASKIP pending. -/
def reachCore (m : Mem) (c : Core) (n q first : Nat) : Mem × Core :=
  match (getHart c n).waits with
  | some (.task rd a) =>
    let (m1, c1) := collect m c n rd a q first
    (m1, interruptsOf c1 n)
  | _ =>
    (m, interruptsOf (modHart c n (fun h => { csrSet h csrMip (setBit (csrGet h csrMip) 16) with delivered := some (q, first) })) n)

/-- A partition's scheduler delivers a task from a ready boom to a core (R349 to R352). -/
def deliverTask (m : Mem) (c : Core) (k : Nat) : Mem × Core :=
  let (m0, c0) := settleBooms m c
  if rd c0 (mkKey (0x5410 + k) 4) = 0 then (m0, c0)
  else
    match takerOf c0 k with
    | none => (m0, c0)
    | some (n, pre) =>
      match deliverTurn m0 c0 k n with
      | (none, c1) => settleBooms m0 c1
      | (some (q, f), c1) => reachCore m0 (if pre then bump c1 (mkKey (0x5410 + k) 6) else c1) n q f

/-- The clock of each Sawyer quadrant runs while a cluster of it belongs to a running partition (R331). -/
def sawyerClocks (c : Core) : Core :=
  (List.range 4).foldl (fun c j =>
    setClock c (22 + j) ((List.range 8).any (fun k =>
      rd c (mkKey (0x5410 + k) 4) == 1 && bits (rd c (mkKey (0x5410 + k) 1)) (16 * j) 16 != 0))) c

/-- A write of 1 to RUN: every core starts in M mode at BOOT_ADDR, holding no task (R348). -/
def startPartition (c : Core) (k : Nat) : Core :=
  if rd c (mkKey (0x5410 + k) 4) = 1 then c
  else
    let c1 := wr c (mkKey (0x5410 + k) 4) 1
    reschedule (sawyerClocks ((coresOf c k).foldl (fun c n => setHart c n (hartStart (rd c (mkKey (0x5410 + k) 3)))) c1))

/-- A partition stops: its cores reset, and its tasks return or close ABORTED(STOPPED) (R348, R358). -/
def haltPartition (m : Mem) (c : Core) (k : Nat) : Mem × Core :=
  if rd c (mkKey (0x5410 + k) 4) = 0 then (m, c)
  else
    let free := fun (c : Core) (n : Nat) =>
      let h := getHart c n
      let c1 := (h.held ++ h.delivered.toList).foldl (fun c t => releaseTask c t.1 t.2 0x83) c
      setHart c1 n {}
    let c1 := (coresOf c k).foldl free c
    settleBooms m (sawyerClocks (wr c1 (mkKey (0x5410 + k) 4) 0))

/-- A write of RUN (R348, R358). -/
def writeRun (m : Mem) (c : Core) (k v : Nat) : Mem × Core := if v = 1 then (m, startPartition c k) else haltPartition m c k

/-- Every partition stops, as on leaving the modes of R331 (R358). -/
def haltAll (m : Mem) (c : Core) : Mem × Core :=
  (List.range 8).foldl (fun p k => haltPartition p.1 p.2 k) (m, c)

end Sys2Proof.Machine
end

