-- ==== Sys2Proof/Machine/Withy.lean ====
section
/-!
DEFINITION. Sys2Proof/Machine/Withy.lean: what arrives over the Withy links: training, flits, remote access, block loads, and the
buddy pair (13_withy_multidevice.md R363 to R388; 02_dictionary_access.md R74).
-/
namespace Sys2Proof.Machine

/-! ## The pair (R383 to R387) -/

/-- Whether the buddy, on a link of its own, holds another level than this device (R365, R383). -/
def levelDiffers (c : Core) : Bool :=
  (upLinks c).any (fun l => rd c (lk l 3) == rd c (bk 1) && (getLink c l).level != rd c (mkKey 0x1008 0))

/-- Whether R383 holds as far as this device can tell: the buddy is named, the own mirror area is large enough, a link of MIRROR_LINKS is
UP, and the levels agree (log 46). -/
def pairHolds (c : Core) : Bool :=
  rd c (bk 1) != 0xFFFF && !noDeviceId c && decide (65536 ≤ rd c (bk 4)) && (mirrorLink c).isSome && !levelDiffers c

/-- The pair is MIRRORED: items made in the meantime are mirrored first, in order (R385). -/
def becomeMirrored (c : Core) : Core :=
  let l := c.buddy.later
  let c1 := { wr c (bk 7) 1 with buddy := { c.buddy with later := [], probing := none, lastConfirm := c.time } }
  l.foldl (fun c it => sendMirror (awaitConfirm c it) it) c1

/-- An item that awaits its CONFIRM when the pair is not MIRRORED any more: it is covered without confirmation (R385). -/
def coverUnconfirmed (c : Core) (it : MirrorItem) : Core :=
  let c1 := if it.kind = .journal then c else { c with buddy := { c.buddy with later := c.buddy.later ++ [it] } }
  match it.kind with
  | .record =>
    let n := it.id.toNat
    if (getStream c1 n).confirmed < it.sequence.toNat then coverStream (bump c1 (bk 0xB)) n it.sequence.toNat it.bytes else c1
  | .job => coverTail c1 it.id.toNat it.sequence.toNat
  | .journal => c1

/-- The pair leaves MIRRORED for a state in which nothing is mirrored. -/
def leaveMirrored (c : Core) (state : Nat) : Core :=
  let l := c.buddy.waiting
  l.foldl coverUnconfirmed (wr { c with buddy := { c.buddy with waiting := [] } } (bk 7) state)

/-- Resend what awaits its CONFIRM (R383, R415). -/
def resendMirror (c : Core) (p : MirrorItem → Bool) : Core :=
  (c.buddy.waiting.filter p).foldl (fun c it => sendMirror (tallyEvent c 0xD9) it) c

/-- The buddy's address: BUDDY_ADDR as a host address. -/
def buddyAddr (c : Core) : Option HostAddr :=
  let a := dom c (bk 5)
  if a.length = 20 then some { ip := BitVec.ofNat 128 (ofBe (a.take 16)), port := BitVec.ofNat 16 (leAt a 16 2) } else none

/-- The Ethernet port that a datagram of the device's own leaves by: the lowest one that is UP. -/
def anyPort (c : Core) : Option Nat := [0, 1].find? (portUp c)

/-- Send a PARTNER_PROBE to BUDDY_ADDR (R74, R386). -/
def sendProbe (c : Core) : Core :=
  match buddyAddr c, anyPort c with
  | some a, some p =>
    let nonce := (Config.deviceNumber c.buddy.nonce) % 2 ^ 64
    let key := if authRequired c then some (psk c) else none
    let body := leBytes 16 (packFields [(16, deviceId c), (16, rd c (mkKey 0x1008 0)), (64, nonce), (32, 0)])
    let frame := sealed (dapHeader { opcode := opProbe, flags := ofBool key.isSome * 4, target := 0xFFFF, session := 0, status := 0
                                     sequence := 0, length := 16 } ++ body) key
    sendUdp { c with buddy := { c.buddy with probeLast := c.time } } p svcDap a frame
  | _, _ => { c with buddy := { c.buddy with probeLast := c.time } }

/-- Probing starts with a first probe (R386). -/
def startProbing (c : Core) : Core :=
  if c.buddy.probing.isSome ∨ ¬ (1 ≤ pairState c ∧ pairState c ≤ 3) then c
  else sendProbe { c with buddy := { c.buddy with probing := some c.time, nonce := c.buddy.nonce + 1 } }

/-- Probing ends (R386). -/
def stopProbing (c : Core) : Core := { c with buddy := { c.buddy with probing := none } }

/-- The state of a pair whose own conditions of R383 fail: MIRRORED and PARTNER_LOST stay while no link of MIRROR_LINKS is UP, for R386
to decide; else UNMIRRORED, and unequal levels raise the buddy source at L1 (R383). -/
def unmirrorPair (c : Core) : Core :=
  let s := pairState c
  if (s = 1 ∨ s = 3) ∧ (mirrorLink c).isNone then c
  else
    let c1 := if s = 1 then leaveMirrored c 2 else wr c (bk 7) 2
    if levelDiffers c ∧ s ≠ 2 then raise c1 301 1 0 else c1

/-- Bring PAIR_STATE up to date with the links and the objects (R383, R386, R421); while no link of MIRROR_LINKS is UP, the buddy is
probed, and a link that is UP ends that. -/
def pairRefresh (c : Core) : Core :=
  let s := pairState c
  if s = 4 ∨ s = 5 then c
  else if rd c (bk 1) = 0xFFFF ∨ noDeviceId c then stopProbing (leaveMirrored c 0)
  else if rd c (jo 8) = 1 then wr c (bk 7) 3
  else if pairHolds c then (if s = 1 then c else becomeMirrored c)
  else
    let c1 := unmirrorPair c
    if (mirrorLink c1).isNone then startProbing c1 else stopProbing c1

/-- No CONFIRM for 50 µs while items wait (R386). -/
def confirmTimedOut (c : Core) : Core := if pairState c = 1 ∧ !c.buddy.waiting.isEmpty then startProbing c else c

/-- 500 µs have passed while mirroring has failed: a further probe (R386). -/
def probeAgain (c : Core) : Core := if c.buddy.probing.isSome then sendProbe c else c

/-- 5 ms without a reply: PARTNER_LOST, unmirrored (R386). -/
def probeTimedOut (c : Core) : Core :=
  if c.buddy.probing.isSome ∧ (pairState c = 1 ∨ pairState c = 2) then leaveMirrored c 3 else c

/-- A probe reply of the buddy (R386): UNMIRRORED, and MIRRORED again once R383 holds; unequal levels raise L1 (R383). -/
def probeAnswered (c : Core) (f : DapFrame) : Core :=
  let body := f.payload
  let key := if authRequired c then some (psk c) else none
  let tagBad := match key with
    | some k => !(hasFlag f flagAuth && dapTagOk opProbe f k)
    | none => false
  if !portUp c f.eth.val ∨ !ipTaken c f.eth.val f.ip then c
  else if !dapIntact opProbe f then frameDiscarded c
  else if tagBad then authFailed c
  else if !hasFlag f flagReply ∨ body.length ≠ 16 ∨ c.buddy.probing.isNone ∨ leAt body 0 2 ≠ rd c (bk 1)
      ∨ leAt body 4 8 ≠ Config.deviceNumber c.buddy.nonce % 2 ^ 64 then c
  else
    let c1 := { c with buddy := { c.buddy with probing := none } }
    let c2 := if pairState c1 = 1 then leaveMirrored c1 2 else if pairState c1 = 3 ∧ rd c1 (jo 8) = 0 then wr c1 (bk 7) 2 else c1
    if leAt body 2 2 ≠ rd c2 (mkKey 0x1008 0) then raise c2 301 1 0 else pairRefresh c2

/-- Units of the mirror area in use. -/
def mirrorUsed (c : Core) : Nat := (c.buddy.held.map (fun it => unitsOf it.bytes)).sum

/-- Whether an item passes its check (R384): a record or an entry its CRC-32C, a journal step its trailer. -/
def itemGood (it : MirrorItem) : Bool :=
  match it.kind with
  | .journal => (parseRecord it.bytes).isSome
  | _ => crcOk it.bytes

/-- The journal steps of the partner that this device holds, by number. -/
def partnerSteps (l : List MirrorItem) : SMap (List Byte) :=
  (l.filter (fun it => it.kind == .journal)).foldl (fun m it => mset [] m it.sequence.toNat it.bytes) []

/-- A journal step of which no entry is the newest of its KIND and ID any more is freed (log 30). -/
def freeSteps (l : List MirrorItem) : List MirrorItem :=
  let newest := (newestEntries (partnerSteps l)).map (fun e => e.2.slot)
  l.filter (fun it => it.kind != .journal || newest.contains it.sequence.toNat)

/-- The newest record seen of each stream of the partner, and the run it leaves open (R387). -/
def notePartnerRun (c : Core) (it : MirrorItem) : Core :=
  let n := it.id.toNat
  let seq := it.sequence.toNat
  let old := mget (0, none) c.buddy.lastRuns n
  if it.kind ≠ .record ∨ seq < old.1 then c
  else
    let k := recKind it.bytes
    let run := if k = 8 then some (recRun it.bytes, false)
      else if k = 0xA then some (recRun it.bytes, true)
      else if (k = 9 ∧ recRun it.bytes ≠ 0) ∨ k = 0xD then none
      else old.2
    { c with buddy := { c.buddy with lastRuns := mset (0, none) c.buddy.lastRuns n (seq, run) } }

/-- The buddy frees what the owner's acknowledged sequence covers (R384). -/
def freeHeld (c : Core) (it : MirrorItem) (acked : Nat) : Core :=
  { c with buddy := { c.buddy with
      held := c.buddy.held.filter (fun x => !(x.kind == it.kind && x.id == it.id && decide (x.sequence.toNat ≤ acked)))
      acked := if it.kind = .record then mmod 0 c.buddy.acked it.id.toNat (fun a => max a acked) else c.buddy.acked } }

/-- Answer a MIRROR with a CONFIRM, over the link that carries the mirroring while there is one (R383, R384, logs 30 and 131). -/
def sendConfirm (c : Core) (m : MirrorMsg) (status : Nat) : Core :=
  let it := m.item
  let body := leBytes 8 (rd c (bk 9))
  match mirrorLink c with
  | some k => sendSlots c k 3 (messageSlots 9 (deviceId c) m.owner.toNat false it.id.toNat it.sequence.toNat status (itemCode it.kind) body)
  | none => (sendTo c 9 3 m.owner.toNat false it.id.toNat it.sequence.toNat status (itemCode it.kind) body).1

/-- A MIRROR message for another device goes on by ROUTE (R371). -/
def forwardMirror (c : Core) (m : MirrorMsg) : Core :=
  let it := m.item
  (sendFrom c 8 3 m.owner.toNat m.dst.toNat false it.id.toNat m.acked.toNat 0 (itemCode it.kind) it.bytes).1

/-- A CONFIRM message for another device goes on by ROUTE (R371). -/
def forwardConfirm (c : Core) (f : ConfirmMsg) : Core :=
  (sendFrom c 9 3 f.src.toNat f.device.toNat false f.id.toNat f.sequence.toNat f.status.toNat (itemCode f.kind) (leBytes 8 f.fence.toNat)).1

/-- A MIRROR message (R371, R384, R412): forwarded, or verified, stored and confirmed; with the area full it waits unconfirmed. -/
def mirrorArrived (c : Core) (l : Nat) (m : MirrorMsg) : Core :=
  let n := 1 + (m.item.bytes.length + 15) / 16
  let c0 := freeHeld c m.item m.acked.toNat
  let same := fun (x : MirrorItem) => x.kind == m.item.kind && x.id == m.item.id && x.sequence == m.item.sequence
  let used := if c0.buddy.held.any same then 0 else unitsOf m.item.bytes
  if m.dst.toNat ≠ deviceId c then forwardMirror (takeSlots c l 3 n) m
  else if m.owner.toNat ≠ rd c (bk 1) ∨ noDeviceId c then takeSlots c l 3 n
  else if !itemGood m.item then sendConfirm (countCrcFail (takeSlots c0 l 3 n) 1) m 5
  else if rd c (bk 4) < mirrorUsed c0 + used then c0
  else
    let held := freeSteps (c0.buddy.held.filter (fun x => !same x) ++ [m.item])
    let c1 := takeSlots c0 l 3 n
    sendConfirm (notePartnerRun { c1 with buddy := { c1.buddy with held := held } } m.item) m 0

/-- The first item of a stream or boom that awaits its CONFIRM. -/
def firstWaiting (c : Core) (kind : ItemKind) (id : BitVec 16) : Option MirrorItem :=
  c.buddy.waiting.find? (fun it => it.kind == kind && it.id == id)

/-- A confirmed item: its pointer may pass it (R22, R384, R419). -/
def confirmItem (c : Core) (it : MirrorItem) : Core :=
  let c0 := if (mirrorLink c).isSome then stopProbing c else c
  let c1 := { c0 with buddy := { c0.buddy with waiting := c0.buddy.waiting.erase it, lastConfirm := c0.time } }
  match it.kind with
  | .record =>
    let n := it.id.toNat
    if (getStream c1 n).confirmed < it.sequence.toNat then coverStream c1 n it.sequence.toNat it.bytes else c1
  | .job => coverTail c1 it.id.toNat it.sequence.toNat
  | .journal => c1

/-- A CONFIRM with STATUS 5 (R413, R415): the own copy is sent again once it passes; if it fails too, a VOID record takes the place of
a record, and a job is left to its check at delivery. -/
def confirmFailed (m : Mem) (c : Core) (it : MirrorItem) : Mem × Core :=
  let n := it.id.toNat
  let seq := it.sequence.toNat
  if itemGood it then (m, resendMirror (recoveredCopy c seq) (fun x => x.kind == it.kind && x.id == it.id))
  else
    match it.kind with
    | .record =>
      let v := voidRecord c n seq 2
      let new := { it with bytes := v }
      let c1 := voided (countCrcFail c 1) seq []
      let c2 := { c1 with buddy := { c1.buddy with waiting := c1.buddy.waiting.map (fun x => if x = it then new else x) } }
      let (m1, c3) := match (getStream c n).ring.find? (fun r => r.seq == seq) with
        | some r => storeUnits m c2 (streamEntry c n) r.pos (ringHint v) 1 v
        | none => (m, c2)
      (m1, sendMirror (tallyEvent c3 0xD9) new)
    | _ => (m, confirmItem (countCrcFail c 1) it)

/-- A CONFIRM message (R371, R384, R387); one for another device goes on, and one that does not name the first item waiting is ignored (log 49). -/
def confirmArrived (m : Mem) (c : Core) (l : Nat) (f : ConfirmMsg) : Mem × Core :=
  let c0 := takeSlots c l 3 2
  if f.device.toNat ≠ deviceId c then (m, forwardConfirm c0 f)
  else
    let c1 := noteFence c0 f.fence.toNat
    match firstWaiting c1 f.kind f.id with
    | some it =>
      if it.sequence ≠ f.sequence then (m, c1)
      else if f.status = 0 then (m, confirmItem c1 it)
      else confirmFailed m c1 it
    | none => (m, c1)

/-- The end record of a run that the partner left open, as the next record of its stream (R387). -/
def closePartnerRun (c : Core) (n : Nat) : Core :=
  match mget (0, none) c.buddy.lastRuns n with
  | (top, some (run, acq)) =>
    let it : MirrorItem := { kind := .record, id := BitVec.ofNat 16 n, sequence := BitVec.ofNat 48 (top + 1)
                             bytes := endRecord c (rd c (bk 1)) n (top + 1) run 9 acq }
    notePartnerRun (freeUsedMany { c with buddy := { c.buddy with held := c.buddy.held ++ [it] } } 4) it
  | (_, none) => c

/-- MARK of a boom of the partner, from its journal steps (R357, R384). -/
def partnerMark (c : Core) (q : Nat) : Option Nat :=
  (mfind (newestEntries (partnerSteps c.buddy.held)) (5 * 65536 + q)).map (fun e => e.entry.value)

/-- What a takeover does with a job of the partner (R357, R358, log 40): up to MARK an idempotent one is delivered again with RERUN, and any
other closes ABORTED with cause RESET; above MARK it is delivered normally. -/
def partnerJob (c : Core) (it : MirrorItem) : PartnerJob :=
  let started := match partnerMark c it.id.toNat with
    | some v => decide (it.sequence.toNat ≤ v)
    | none => true
  { boom := it.id.toNat, seq := it.sequence.toNat, bytes := it.bytes, rerun := started && bit (leAt it.bytes 0 32) 229
    cause := if started && !bit (leAt it.bytes 0 32) 229 then some 0x80 else none }

/-- A TAKEOVER write (R387). -/
def writeTakeover (c : Core) (fence : Nat) : Written :=
  guardSt (pairState c == 3 && decide (rd c (bk 9) < fence)) stStateConflict
    (let streams := c.buddy.lastRuns.map Prod.fst
     let jobs := (c.buddy.held.filter (fun it => it.kind == .job)).map (partnerJob c)
     let c0 := wr (wr c (bk 9) fence) (bk 7) 4
     let c1 := { c0 with buddy := { c0.buddy with jobs := jobs, probing := none } }
     let start := fun (c : Core) n => setServed c n { (getServed c n) with acked := mget 0 c.buddy.acked n, sent := mget 0 c.buddy.acked n }
     .ok (streams.foldl closePartnerRun (streams.foldl start c1)))

/-- The buddy answers recovery with its confirmed items and its fence (R421). -/
def buddySync (m : Mem) (c : Core) (items : List MirrorItem) (fence : Nat) : Core :=
  if !canRecover c ∨ rd c (bk 1) = 0xFFFF then c
  else
    let c1 := recover m c items
    if rd c1 (bk 9) < fence then enterFenced c1 else pairRefresh (wr c1 (bk 7) 2)

/-! ## Remote access (R39 to R42, R372) -/

/-- A request of a message that is not for this device goes on by ROUTE (R371). -/
def forwardMsg (c : Core) (ty : Nat) (m : Msg) : Core :=
  (sendFrom c ty (vcOf ty) m.src.toNat m.dst.toNat m.block m.tag.toNat m.addr.toNat m.status.toNat m.size.toNat m.body).1

/-- Whether a message is for this device. -/
def forMe (c : Core) (m : Msg) : Bool := m.dst.toNat == deviceId c

/-- RD_REQ (R38, R39, R372). -/
def readRequest (mem : Mem) (c : Core) (l : Nat) (m : Msg) : Core :=
  let c0 := takeSlots c l 1 (1 + msgSlots m)
  if !forMe c m then forwardMsg c0 1 m
  else if noDeviceId c then c0
  else
    let ((st, data, crc), c1) := serveRead mem c0 (m.addr.toNat / 64 * 64) (64 * (m.size.toNat % 16 + 1)) m.block
    (sendTo c1 3 2 m.src.toNat false m.tag.toNat crc st 0 data).1

/-- WR_REQ (R38 to R40, R372). -/
def writeRequest (mem : Mem) (c : Core) (l : Nat) (m : Msg) : Mem × Core :=
  let c0 := takeSlots c l 1 (1 + msgSlots m)
  if !forMe c m then (mem, forwardMsg c0 2 m)
  else if noDeviceId c then (mem, c0)
  else
    let (st, (mem1, c1)) := serveWrite mem c0 (m.addr.toNat / 64 * 64) m.body
    (mem1, (sendTo c1 4 2 m.src.toNat false m.tag.toNat 0 st 0 []).1)

/-- Whether a request for this device names bytes of its HBM that a retrain keeps waiting (R315). -/
def requestWaits (c : Core) (m : Msg) (write : Bool) (n : Nat) : Bool :=
  forMe c m && !noDeviceId c && match apertureOf c (m.addr.toNat / 64 * 64) n write with
    | .ok a => beMustWait c a (max 1 n)
    | .error _ => false

/-- Whether a response brings a part of a block load while a retrain keeps its write waiting (R315, R373). -/
def loadWaits (c : Core) (m : Msg) : Bool :=
  c.hbm.training && forMe c m && c.remote.reqs.any (fun r => r.tag == m.tag.toNat && r.dst == m.src.toNat && r.core.isNone)

/-! ## Block loads (R373) -/

/-- Object `sub` of routing and block loads (Table 13-7). -/
def wo (sub : Nat) : Key := mkKey 0x6022 sub

/-- A load ends with a failure. -/
def loadFailed (c : Core) (status : Nat) : Core :=
  let c1 := wr (wr c (wo 7) 3) (wo 9) status
  { c1 with remote := { c1.remote with load := none, reqs := c1.remote.reqs.filter (fun r => r.core.isSome) } }

/-- The local block that a load writes now. -/
def loadDest (l : Load) : Nat := l.dest / 4096 + l.block

/-- A whole block of a load, with the source's BLOCK_CRC, or the status its read ended with (R373): the block is stored, its CRC is
made and compared; answers whether the load goes on to a further block. -/
def takeBlock (m : Mem) (c : Core) (status crc : Nat) (data : List Byte) : (Mem × Core) × Bool :=
  match c.remote.load with
  | none => ((m, c), false)
  | some l =>
    let b := loadDest l
    if status ≠ 0 then (({ m with tags := merase m.tags b }, loadFailed c status), false)
    else
      let m1 := store m (4096 * b) (padTo 4096 data)
      let c1 := touchHbm c (4096 * b) 4096 .auto
      if mfind m1.tags b ≠ some crc then (({ m1 with tags := merase m1.tags b }, loadFailed c1 5), false)
      else
        let c2 := wr c1 (wo 8) (rd c1 (wo 8) + 1)
        if l.length ≤ 4096 * (l.block + 1) then ((m1, { wr c2 (wo 7) 2 with remote := { c2.remote with load := none } }), false)
        else ((m1, { c2 with remote := { c2.remote with load := some { l with block := l.block + 1, parts := [] } } }), true)

/-- Ask for the next block of a load (R42, R373): its four parts over the link of the route, or, where the source names this device,
at once through the own aperture, block after block. -/
def askBlock : Nat → Mem → Core → Mem × Core
  | 0, m, c => (m, c)
  | n + 1, m, c =>
    match c.remote.load with
    | none => (m, c)
    | some l =>
      let g := l.source + 4096 * l.block
      if deviceOf g = deviceId c then
        let ((st, data, crc), c1) := serveRead m c g 4096 true
        let ((m2, c2), more) := takeBlock m c1 st crc data
        if more then askBlock n m2 c2 else (m2, c2)
      else match cannotSend c (deviceOf g) with
        | some s => (m, loadFailed c s)
        | none => (m, [0, 1, 2, 3].foldl (fun c i => (askRead c (g + 1024 * i) 1024 true none i).2) c)

/-- How many blocks a load can still ask for. -/
def blocksLeft (c : Core) : Nat :=
  match c.remote.load with
  | some l => l.length / 4096 - l.block
  | none => 0

/-- A part of a block arrives, or its read ends otherwise (R373): four parts make the block. -/
def loadPart (m : Mem) (c : Core) (part status crc : Nat) (data : List Byte) : Mem × Core :=
  match c.remote.load with
  | none => (m, c)
  | some l =>
    let parts := minsert (merase l.parts part) part data
    if status = 0 ∧ parts.length < 4 then (m, { c with remote := { c.remote with load := some { l with parts := parts } } })
    else
      let ((m1, c1), more) := takeBlock m c status crc (parts.flatMap Prod.snd)
      if more then askBlock (blocksLeft c1) m1 c1 else (m1, c1)

/-- What a write of BLOCK_LOAD starts (R373): contents, then state. -/
def startLoad (c : Core) (data : List Byte) : Written :=
  let src := leAt data 0 8
  let dst := leAt data 8 8
  let len := leAt data 16 4
  if data.length ≠ 24 ∨ src % 4096 ≠ 0 ∨ 2 ^ 48 ≤ src ∨ dst % 4096 ≠ 0 ∨ len < 4096 ∨ 2 ^ 30 < len ∨ len % 4096 ≠ 0
      ∨ capacity c < dst + len ∨ leAt data 20 4 ≠ 0 then .error stOutOfRange
  else if rd c (wo 7) = 1 then .error stStateConflict
  else guardSt ((blocksOf dst len).all (fun b => !blockInUse c b)) stBlockInUse
    (let c1 := wr (wr (wr (setDom c (wo 6) data) (wo 7) 1) (wo 8) 0) (wo 9) 0xFF
     let l : Load := { source := src, dest := dst, length := len, block := 0, parts := [] }
     .ok { c1 with remote := { c1.remote with load := some l } })

/-- A write of BLOCK_LOAD (R42, R373). -/
def writeBlockLoad (m : Mem) (c : Core) (data : List Byte) : Status × (Mem × Core) :=
  match startLoad c data with
  | .ok c1 => (stOk, askBlock (blocksLeft c1) m c1)
  | .error s => (s, (m, c))

/-- A request ends with a status and data (R372): a core's access goes on, or a part of a load arrives. -/
def endRequest (m : Mem) (c : Core) (r : RemoteReq) (status crc : Nat) (data : List Byte) : Mem × Core :=
  match r.core with
  | some n => (m, remoteAnswer c n status data)
  | none => loadPart m c r.part status crc data

/-- RD_RESP and WR_RESP (R372). -/
def response (mem : Mem) (c : Core) (l ty : Nat) (m : Msg) : Mem × Core :=
  let c0 := takeSlots c l 2 (1 + msgSlots m)
  if !forMe c m then (mem, forwardMsg c0 ty m)
  else
    match takeRequest c0 m.tag.toNat m.src.toNat with
    | (some r, c1) => endRequest mem c1 r m.status.toNat (m.addr.toNat % 2 ^ 32) m.body
    | (none, c1) => (mem, c1)

/-- A request's response does not arrive within REMOTE_TIMEOUT (R372). -/
def requestTimedOut (m : Mem) (c : Core) (tag : Nat) : Mem × Core :=
  match c.remote.reqs.find? (fun r => r.tag == tag) with
  | some r => endRequest m { c with remote := { c.remote with reqs := c.remote.reqs.filter (fun x => x.tag != tag) } } r 8 0 []
  | none => (m, c)

/-! ## Links (R365 to R368) -/

/-- Whether the mode runs links: all but BOOT and DORMANT; after an L4 raise they are down (R430, Table 1-5). -/
def linksRun (c : Core) : Bool := !inModes c [.boot, .dormant] && c.faults.reaction != 4

/-- Whether the mode runs lane 0 only (R364, Table 1-5). -/
def oneLane (c : Core) : Bool := inModes c [.standby, .service, .safe]

/-- A link comes UP with what training exchanged (R365). -/
def trainedUp (c : Core) (l partner link level : Nat) : Core :=
  if !rdb c (lk l 1) ∨ !linksRun c ∨ linkUp c l then c
  else
    let c1 := wr (wr (wr (wr c (lk l 2) (if oneLane c then 3 else 2)) (lk l 3) partner) (lk l 4) link) (lk l 5) (min level (rd c (mkKey 0x1008 0)))
    let c2 := setClock (setLink c1 l { (getLink c1 l) with heard := some c.time, level := level }) (30 + l) true
    let own := bit (rd c2 (bk 2)) l && pairState c2 == 1
    let c3 := if own ∧ c2.buddy.probing.isSome then resendMirror (stopProbing c2) (fun _ => true) else c2
    pairRefresh (if levelDiffers c2 ∧ !levelDiffers c ∧ pairState c = 2 then raise c3 301 1 0 else c3)

/-- A link that is not UP trains again (R365). -/
def retrain (c : Core) (l : Nat) : Core :=
  if !rdb c (lk l 1) ∨ !linksRun c ∨ linkUp c l then c else wr c (lk l 2) 1

/-- The token messages among slots: header and body. -/
def tokensIn : Nat → List Slot → List (List Slot)
  | 0, _ => []
  | _, [] => []
  | n + 1, h :: l =>
    let v := h.toNat
    if bits v 0 4 = 0 then tokensIn n l
    else
      let k := bits v 36 5
      (if bits v 0 4 = 6 then [h :: l.take k] else []) ++ tokensIn n (l.drop k)

/-- The tokens that a link has not delivered: in its replay buffer and among its waiting messages. -/
def lostTokens (x : Link) : List (List Slot) :=
  let a := x.replay.flatMap SentFlit.slots
  tokensIn a.length a ++ (x.waiting.filter (fun e => e.1 == 0)).flatMap (fun e => let s := slotsOf e.2; tokensIn s.length s)

/-- The recovered clock of a link that has gone DOWN (R32): the bit WL_RX falls, and its CLOCK source raises L1 while the mode and
LINK_ENABLE need it (log 100). -/
def linkClockLost (c : Core) (l : Nat) : Core :=
  let c1 := setClock c (30 + l) false
  if rdb c (lk l 1) ∧ linksRun c then raise c1 (270 + l) 1 0 else c1

/-- A link that is UP goes DOWN (R368, R372, R386): requests on it end with LINK_DOWN, its tokens flood over the others, and
mirroring moves on. -/
def linkDown (m : Mem) (c : Core) (l : Nat) : Mem × Core :=
  if !linkUp c l then (m, c)
  else
    let lost := lostTokens (getLink c l)
    let first := mirrorLink c
    let c1 := linkClockLost (linkFell c l) l
    let others := (upLinks c1).filter (fun k => bit (rd c1 (wo 2)) k)
    let c2 := lost.foldl (fun c t => others.foldl (fun c k => sendSlots c k 0 t) c) c1
    let mine := c2.remote.reqs.filter (fun r => r.link == l)
    let c3 := { c2 with remote := { c2.remote with reqs := c2.remote.reqs.filter (fun r => r.link != l) } }
    let (m4, c4) := mine.foldl (fun (p : Mem × Core) r => endRequest p.1 p.2 r 6 0 []) (m, c3)
    if first ≠ some l then (m4, c4)
    else if (mirrorLink c4).isNone then (m4, startProbing c4)
    else (m4, if pairState c4 = 1 then resendMirror c4 (fun _ => true) else c4)

/-- Slots received, without the empty ones between messages. -/
def tidySlots : Nat → List Slot → List Slot
  | 0, l => l
  | _, [] => []
  | n + 1, h :: l =>
    if bits h.toNat 0 4 = 0 then tidySlots n l
    else
      let k := bits h.toNat 36 5
      h :: (l.take k ++ tidySlots n (l.drop k))

/-- A DATA flit is accepted in order; any other is discarded, and the first discard after an accepted flit sends NAK (R367). -/
def dataFlit (c : Core) (l : Nat) (f : Flit) : Core :=
  if !linkUp c l then c
  else
    let ok := flitGood 0 f
    let c1 := if ok then heardFlit c l f else c
    let x := getLink c1 l
    if ok ∧ f.fseq.toNat = x.expect then
      setLink c1 l { x with expect := (x.expect + 1) % 4096, nakSent := false, rx := tidySlots (x.rx.length + 16) (x.rx ++ f.slots) }
    else if x.nakSent then c1
    else sendFlit (setLink c1 l { x with nakSent := true }) l 2 0 (List.replicate 15 0)

/-- An IDLE flit carries its ACK and credit (R366). -/
def idleFlit (c : Core) (l : Nat) (f : Flit) : Core := if linkUp c l ∧ flitGood 1 f then heardFlit c l f else c

/-- Replay, unless a flit has been replayed 16 times: then the link goes DOWN (R367, R368). -/
def replayOrFall (m : Mem) (c : Core) (l : Nat) : Mem × Core :=
  let x := getLink c l
  if x.replay.isEmpty then (m, c)
  else if x.replay.any (fun f => decide (16 ≤ f.replays)) then linkDown m c l
  else
    let c1 := replayFlits c l
    if (getLink c1 l).replay.any (fun f => decide (16 ≤ f.replays)) then linkDown m c1 l else (m, c1)

/-- A NAK flit (R367): what its ACK does not cover is replayed. -/
def nakFlit (m : Mem) (c : Core) (l : Nat) (f : Flit) : Mem × Core :=
  if linkUp c l ∧ flitGood 2 f then replayOrFall m (heardFlit c l f) l else (m, c)

/-- 2 µs without ACK progress while flits are unacknowledged (R367). -/
def replayTimeout (m : Mem) (c : Core) (l : Nat) : Mem × Core := if linkUp c l then replayOrFall m c l else (m, c)

/-- The ACK that each receiver sends at least every 100 ns (R367): an IDLE flit. -/
def ackTimer (c : Core) (l : Nat) : Core := if linkUp c l then sendFlit c l 1 0 (List.replicate 15 0) else c

/-! ## Sending tokens (R377, R378, R381, R382) -/

def tokCommit : Nat := 1
def tokAbort : Nat := 2
def tokSwap : Nat := 3
def tokArm : Nat := 4
def tokFire : Nat := 5

/-- The slots of a token message of device `src` (Table 13-4): COMMIT, ABORT, SWAP and ARM. -/
def tokenSlots (src kind number epoch id : Nat) : List Slot :=
  [headerSlot 6 src 0 1 true false 0 0 0 0, BitVec.ofNat 128 (packFields [(4, kind), (4, 0), (32, number), (48, epoch), (32, id), (8, 0)])]

/-- The slots of a FIRE token. -/
def fireSlots (src number stamp tgroup unit : Nat) : List Slot :=
  [headerSlot 6 src 0 1 true false 0 0 0 0,
   BitVec.ofNat 128 (packFields [(4, tokFire), (4, 0), (32, number), (64, stamp), (8, tgroup), (3, unit), (13, 0)])]

/-- The endpoints of TOKEN_PEERS. -/
def tokenPeers (c : Core) : List HostAddr :=
  let t := dom c (wo 5)
  (List.range (t.length / 20)).map (fun i =>
    { ip := BitVec.ofNat 128 (ofBe (slice t (20 * i) 16)), port := BitVec.ofNat 16 (leAt t (20 * i + 16) 2) })

/-- Flood a token over the links of FLOOD_MASK but the one it came by, and to the endpoints unless it came from one, known by its
address (R377, R378, log 130). -/
def floodToken (c : Core) (slots : List Slot) (arrival : Option TokenFrom) : Core :=
  let links := (upLinks c).filter (fun k => bit (rd c (wo 2)) k && (match arrival with
    | some (.link l) => l.val != k
    | _ => true))
  let c1 := links.foldl (fun c k => sendSlots c k 0 slots) c
  let fromPeer := match arrival with
    | some (.peer a) => (tokenPeers c1).any (fun e => e.ip == a.ip)
    | _ => false
  match anyPort c1 with
  | some p =>
    if fromPeer then c1
    else
      let bytes := sealed (slotBytes slots) (if authRequired c1 then some (psk c1) else none)
      (tokenPeers c1).foldl (fun c a => sendUdp c p svcToken a bytes) c1
  | none => c1

/-- The number of the next own token, used up; the device has executed it. -/
def ownToken (c : Core) : Nat × Core :=
  let n := c.tokens.next
  (n, { c with tokens := { c.tokens with next := n + 1, done := (deviceId c, n, c.time) :: c.tokens.done } })

/-- Send an own token (R377). -/
def sendToken (c : Core) (kind epoch id : Nat) : Core :=
  let (n, c1) := ownToken c
  floodToken c1 (tokenSlots (deviceId c) kind n epoch id) none

/-- Send an own FIRE token (R282, R382). -/
def sendFire (c : Core) (stamp tgroup unit : Nat) : Core :=
  let (n, c1) := ownToken c
  floodToken c1 (fireSlots (deviceId c) n stamp tgroup unit) none

end Sys2Proof.Machine
end

