-- ==== Sys2Proof/Machine/Acq.lean ====
section
/-!
DEFINITION. Sys2Proof/Machine/Acq.lean: the acquisition units: arming, conditions and marks, masks, intervals, the output FIFO and the
records (09_sense_acquisition.md R269 to R283, R286).
-/
namespace Sys2Proof.Machine

/-- Object `sub` of unit u (Table 9-9). -/
def qk (u sub : Nat) : Key := mkKey (0x44C0 + u) sub

/-- Object `sub` of chain c (Table 9-8). -/
def fk (n sub : Nat) : Key := mkKey (0x4480 + n) sub

def getAcq (c : Core) (u : Nat) : Acq := mget {} c.acqs u
def setAcq (c : Core) (u : Nat) (x : Acq) : Core := { c with acqs := mset {} c.acqs u x }
def modAcq (c : Core) (u : Nat) (f : Acq → Acq) : Core := setAcq c u (f (getAcq c u))

/-- STATE of a unit: 0 IDLE, 1 ACQUIRING, 2 POST. -/
def acqState (c : Core) (u : Nat) : Nat := rd c (qk u 0xA)

/-- CONDITIONS of a unit: 64 bytes. -/
def conditionsOf (c : Core) (u : Nat) : List Byte := padTo 64 (dom c (qk u 4))

/-- Condition n of a unit as a number (Table 9-6). -/
def condOf (c : Core) (u n : Nat) : Nat := leAt (conditionsOf c u) (16 * n) 16

def cdKind (v : Nat) : Nat := bits v 0 4
def cdStop (v : Nat) : Bool := bit v 4
def cdFire (v : Nat) : Bool := bit v 5
def cdTrgi (v : Nat) : Nat := bits v 6 2
def cdLevel (v : Nat) : Int := toSigned 32 (bits v 16 32)
def cdRearm (v : Nat) : Nat := bits v 48 32

/-! ## Contents of CONDITIONS and MASK (R273, R278) -/

/-- The first failing field of a condition entry. -/
def condStatus (v : Nat) : Option Status :=
  firstFail [(decide (8 < cdKind v), stReservedValue), (bits v 8 8 != 0, stOutOfRange), (bits v 80 48 != 0, stOutOfRange)]

/-- A write of CONDITIONS (R273, R286). -/
def writeConditions (c : Core) (u : Nat) (data : List Byte) : Written :=
  if data.length ≠ 64 then .error stOutOfRange
  else
    match [0, 1, 2, 3].findSome? (fun n => condStatus (leAt data (16 * n) 16)) with
    | some s => .error s
    | none => guardSt (acqState c u == 0) stStateConflict (.ok (setDom c (qk u 4) data))

/-- Whether a mask image is valid (R278). -/
def maskOk (l : List Byte) : Bool :=
  let n := leAt l 0 4
  decide (1 ≤ n ∧ n ≤ 4096) && l.length == 16 + 8 * n && decide (leAt l 4 1 ≤ 1) && leAt l 5 11 == 0 &&
  (List.range n).all (fun i => decide (toSigned 32 (leAt l (16 + 8 * i) 4) ≤ toSigned 32 (leAt l (20 + 8 * i) 4)))

/-- A write of MASK (R278, R286). -/
def writeMask (c : Core) (u : Nat) (data : List Byte) : Written :=
  if !maskOk data then .error stOutOfRange else guardSt (acqState c u == 0) stStateConflict (.ok (setDom c (qk u 5) data))

/-- Whether sample s of value x lies outside the mask point of its interval (R278). -/
def outsideMask (c : Core) (u s : Nat) (x : Int) : Bool :=
  let l := dom c (qk u 5)
  let points := leAt l 0 4
  let i := s / max 1 (rd c (qk u 2))
  if points = 0 ∨ (points ≤ i ∧ leAt l 4 1 = 0) then false
  else
    let p := i % points
    decide (x < toSigned 32 (leAt l (16 + 8 * p) 4)) || decide (toSigned 32 (leAt l (20 + 8 * p) 4) < x)

/-! ## The output FIFO (R279, R280) -/

/-- A record of unit u for a stream and a run. -/
def acqRecordOf (u stream kind flags run : Nat) (body : List (Nat × Nat)) : AcqRec :=
  { stream := stream, kind := kind, flags := flags, run := run % 65536, body := [(3, u), (3, 0)] ++ body }

/-- A record of unit u under its present stream and run. -/
def acqRecord (c : Core) (u kind flags run : Nat) (body : List (Nat × Nat)) : AcqRec := acqRecordOf u (rd c (qk u 3)) kind flags run body

/-- The MINMAX record of an interval or of intervals merged (Table 9-5). -/
def spanRecord (u stream run : Nat) (s : AcqSpan) (closed : Bool) : AcqRec :=
  acqRecordOf u stream 0xB s.flags run [(48, s.index), (64, s.first), (64, s.last), (32, ofSigned 32 s.least), (32, ofSigned 32 s.most),
    (32, s.count), (16, min 65535 s.merged), (1, ofBool closed)]

/-- The MARK record of a mark (Table 9-5). -/
def markRecord (u stream run : Nat) (k : AcqMark) : AcqRec :=
  acqRecordOf u stream 0xC k.flags run [(4, k.met), (2, k.decider), (1, ofBool k.stop), (1, ofBool k.late), (48, k.sample), (64, k.stamp),
    (32, ofSigned 32 k.value), (14, (k.fire.getD (0, 0)).1), (3, (k.fire.getD (0, 0)).2), (16, min 65535 k.merged), (1, ofBool k.fire.isSome)]

/-- A span with a stop: the last interval is incomplete. -/
def spanPartial (c : Core) (u : Nat) (s : AcqSpan) : Bool := s.count % max 1 (rd c (qk u 2)) != 0

/-- What waits becomes a record: its stream, run and PARTIAL are those of the time the interval or the mark was made. -/
def waitRecord (u : Nat) : AcqWait → AcqRec
  | .made r => r
  | .span stream run closed s => spanRecord u stream run s closed
  | .mark stream run k => markRecord u stream run k

/-- Move what waits into the FIFO while it has room. -/
def fillFifo : Nat → Core → Nat → Core
  | 0, c, _ => c
  | n + 1, c, u =>
    let x := getAcq c u
    match x.waiting with
    | [] => c
    | w :: ws =>
      if x.fifo.length < 64 then fillFifo n (setAcq c u { x with fifo := x.fifo ++ [waitRecord u w], waiting := ws }) u else c

/-- A START or END record joins what waits. -/
def pushMade (c : Core) (u : Nat) (r : AcqRec) : Core :=
  let c1 := modAcq c u (fun x => { x with waiting := x.waiting ++ [.made r] })
  fillFifo 64 c1 u

/-- Two spans as one (R279). -/
def mergeSpan (a b : AcqSpan) : AcqSpan :=
  { a with last := b.last, least := min a.least b.least, most := max a.most b.most, count := a.count + b.count
           merged := a.merged + 1, flags := a.flags ||| b.flags }

/-- A closed interval joins what waits: while the FIFO is full it is merged into the one pending MINMAX record (R279). -/
def pushSpan (c : Core) (u : Nat) (s : AcqSpan) : Core :=
  let run := rd c (qk u 0xB)
  let stream := rd c (qk u 3)
  let x := getAcq c u
  let pending := x.waiting.findSome? (fun w => match w with
    | .span _ r _ a => if r = run then some a else none
    | _ => none)
  match pending with
  | some a =>
    let rest := x.waiting.filter (fun w => match w with
      | .span _ r _ _ => r != run
      | _ => true)
    bump (setAcq c u { x with waiting := rest ++ [.span stream run (spanPartial c u s) (mergeSpan a s)], mergedSpans := x.mergedSpans + 1 })
      (qk u 0x11)
  | none => fillFifo 64 (setAcq c u { x with waiting := x.waiting ++ [.span stream run (spanPartial c u s) s] }) u

/-- Whether what waits is a mark of the acquisition `run`. -/
def markOfRun (run : Nat) : AcqWait → Bool
  | .mark _ r _ => r == run
  | _ => false

/-- Merge a mark into the newest one of its acquisition that waits (R280). -/
def mergeMark (run : Nat) (l : List AcqWait) (k : AcqMark) : List AcqWait :=
  let r := l.reverse
  match r.findIdx? (markOfRun run) with
  | some i => (r.modify i (fun w => match w with
      | .mark stream n a => .mark stream n { a with met := a.met ||| k.met, merged := a.merged + 1, flags := a.flags ||| k.flags }
      | w => w)).reverse
  | none => l

/-- A mark joins what waits: seven places, and the eighth for a STOP, which is never merged; beyond that it is merged (R280). The places
are those of one acquisition: marks of an earlier one that still wait take none of them (log 115). -/
def pushMark (c : Core) (u : Nat) (k : AcqMark) : Core :=
  let run := rd c (qk u 0xB)
  let x := getAcq c u
  let n := x.waiting.countP (markOfRun run)
  if n < 7 ∨ k.stop then
    fillFifo 64 (setAcq c u { x with waiting := x.waiting ++ [.mark (rd c (qk u 3)) run k], marks := x.marks + 1 }) u
  else bump (setAcq c u { x with waiting := mergeMark run x.waiting k, mergedMarks := x.mergedMarks + 1 }) (qk u 0x12)

/-- The first record of the FIFO is numbered and written into the ring of its stream, once the ring takes it and recovery is done
(R209, R270, R421); a device without ID makes no record (R38). -/
def writeAcqRecord (m : Mem) (c : Core) (u : Nat) : Mem × Core :=
  let x := getAcq c u
  match x.fifo with
  | [] => (m, c)
  | r :: rs =>
    if !ringTakes c r.stream 2 ∨ rd c (jo 8) = 1 ∨ noDeviceId c then (m, c)
    else
      let st := getStream c r.stream
      let bytes := twoUnit (commonFields c r.kind r.stream st.next r.flags r.run ++ r.body)
      let c1 := setStream (setAcq c u { x with fifo := rs }) r.stream { st with next := (st.next + 1) % 2 ^ 48 }
      let (m2, c2) := ringWrite m c1 r.stream st.next bytes
      let c3 := tallyEvent (bump (recordStands c2 r.stream st.next bytes) (qk u 0x15)) (0x68 + u)
      (m2, fillFifo 64 c3 u)

/-! ## Start and end (R269, R276, R277, R281) -/

/-- Whether SOURCE names a chain. -/
def chainSource (c : Core) (u : Nat) : Option Nat :=
  let s := rd c (qk u 1)
  if 0x20 ≤ s ∧ s < 0x28 then some (s - 0x20) else none

/-- DEC of a chain (R262, R263). -/
def chainR (c : Core) (n : Nat) : Nat :=
  match rd c (fk n 2) with
  | 0 => 1
  | 1 => 8
  | 2 => 64
  | _ => rd c (fk n 3)
def chainH (c : Core) (n : Nat) : Nat :=
  match rd c (fk n 2) with
  | 0 => 1
  | 1 => 2
  | 2 => 3
  | _ => rd c (fk n 4)
def chainD (c : Core) (n : Nat) : Nat :=
  match rd c (fk n 2) with
  | 0 => 1
  | 1 => 2
  | 2 => 4
  | _ => rd c (fk n 5)
def chainDec (c : Core) (n : Nat) : Nat := chainR c n * 2 ^ chainH c n * chainD c n

/-- The START record (Table 9-5). -/
def startRecord (c : Core) (u stamp origin epoch : Nat) : AcqRec :=
  let (preset, dec) := match chainSource c u with
    | some n => (rd c (fk n 2), chainDec c n)
    | none => (0, 1)
  acqRecord c u 0xA 0 (rd c (qk u 0xB)) [(8, rd c (qk u 1)), (16, rd c (qk u 2)), (64, stamp), (8, rd c (qk u 0xC)), (1, origin),
    (48, epoch), (32, rd c (mkKey 0x1009 1)), (32, rd c (mkKey 0x100A 1)), (2, preset), (16, dec)]

/-- The END record (Table 9-5). -/
def acqEndRecord (c : Core) (u cause samples intervals marks spans merged late stamp : Nat) : AcqRec :=
  acqRecord c u 0xD 0 (rd c (qk u 0xB)) [(8, cause), (48, samples), (48, intervals), (32, marks), (32, spans), (32, merged),
    (16, min 65535 late), (64, stamp)]

/-- Whether an arm of a unit keeps the rules of R38, R270 and R286 (SOURCE named, stream enabled with a ring and free). -/
def acqStreamFree (c : Core) (u : Nat) : Bool :=
  let n := rd c (qk u 3)
  let e := streamEntry c n
  rd c (qk u 1) != 0xFF && !noDeviceId c && e.enabled && e.ringUnits != 0 && !namedByWeaver c n &&
  !((List.range 8).any (fun v => v != u && rd c (qk v 3) == n && acqState c v != 0))

/-- A unit arms: sample 0 is the first accepted sample at or after `notBefore` (R269, R281). -/
def armAcq (c : Core) (u origin epoch notBefore : Nat) : Core :=
  let old := getAcq c u
  let c1 := setAcq c u { fifo := old.fifo, waiting := old.waiting, origin := origin == 1, armEpoch := epoch, notBefore := notBefore }
  bump (wr c1 (qk u 0xA) 1) (qk u 0xB)

/-- A write of 1 to ARM (R270, R286). -/
def writeArm (c : Core) (u : Nat) : Written := guardSt (acqState c u == 0 && acqStreamFree c u) stStateConflict (.ok (armAcq c u 0 0 c.stamp))

/-- The interval in progress is closed. -/
def closeSpan (c : Core) (u : Nat) : Core :=
  match (getAcq c u).span with
  | some s => pushSpan (modAcq c u (fun x => { x with span := none })) u s
  | none => c

/-- The acquisition ends with a cause: an open interval closes, and ACQ_END follows (R276, R277). A unit that has taken no sample makes its
START first; what only a sample could tell is a free value (log 54). -/
def finishAcq (c : Core) (u cause : Nat) : Core :=
  let x := getAcq c u
  let c1 := if x.started then c else freeUsed (pushMade c u (startRecord c u (freeNow c) (ofBool x.origin) x.armEpoch))
  let c2 := closeSpan c1 u
  let y := getAcq c2 u
  let (stamp, c3) := if 0 < y.tested then (y.prevStamp, c2) else (freeNow c2, freeUsed c2)
  let r := acqEndRecord c3 u cause y.tested (ceilDiv y.tested (max 1 (rd c3 (qk u 2)))) y.marks y.mergedSpans y.mergedMarks y.late stamp
  let c4 := pushMade c3 u r
  modAcq (wr (wr c4 (qk u 0xA) 0) (qk u 0x10) cause) u (fun z => { fifo := z.fifo, waiting := z.waiting })

/-- A group arm that is refused (R281, R382): ARM_MISSED, START and END with their cause, and the acquisition source at L1; a device
without ID makes no record (R38). -/
def refuseArm (c : Core) (u epoch : Nat) : Core :=
  let c0 := wr (bump c (qk u 0x14)) (qk u 0x10) 5
  if noDeviceId c then raise c0 294 1 u
  else
    let f := freeMany c 2
    let c1 := pushMade (freeUsedMany c0 2) u (startRecord c u (f.getD 0 0) 1 epoch)
    let c2 := pushMade c1 u (acqEndRecord c1 u 5 0 0 0 0 0 0 (f.getD 1 0))
    raise c2 294 1 u

/-- The arm tokens of boundary e (R281): every unit of the group arms if it is IDLE, else its arm is refused. -/
def groupArms (c : Core) (e : Nat) : Core :=
  let due := c.tokens.arms.filter (fun t => t.2 == e)
  let one := fun (c : Core) (g : Nat) => (List.range 8).foldl (fun c u =>
    if rd c (qk u 0xC) ≠ g then c
    else if acqState c u = 0 ∧ acqStreamFree c u ∧ inModes c [.warm, .calibrate, .run] then armAcq c u 1 e c.clk.boundary
    else refuseArm c u e) c
  let c1 := (due.map Prod.fst).foldl one c
  { c1 with tokens := { c1.tokens with arms := c1.tokens.arms.filter (fun t => decide (e < t.2)) } }

/-- A pending ARM_AT falls due (R286). -/
def armAtDue (c : Core) (u : Nat) : Core :=
  if acqState c u = 0 ∧ acqStreamFree c u ∧ inModes c [.warm, .calibrate, .run] then armAcq c u 0 (epochNow c) c.clk.boundary
  else bump c (qk u 0x14)

/-! ## Samples, conditions and marks (R274 to R276, R282, R283) -/

/-- The fires that apply at a sample: those stamped at or before it; an earlier one of a tested sample is late (R283). -/
def firesAt (x : Acq) (stamp : Nat) : List (Nat × Nat × Nat) := x.fires.filter (fun f => decide (f.1 ≤ stamp))

/-- Whether a fire has missed its sample. -/
def fireLate (x : Acq) (f : Nat × Nat × Nat) : Bool := decide (0 < x.tested) && decide (f.1 ≤ x.prevStamp)

/-- The deciding fire: lowest stamp, then device, then unit. -/
def decidingFire (l : List (Nat × Nat × Nat)) : Option (Nat × Nat × Nat) :=
  l.foldl (fun (b : Option (Nat × Nat × Nat)) f =>
    match b with
    | none => some f
    | some g => if f.1 < g.1 ∨ (f.1 = g.1 ∧ (f.2.1 < g.2.1 ∨ (f.2.1 = g.2.1 ∧ f.2.2 < g.2.2))) then some f else some g) none

/-- Whether condition v is met by the sample itself (R274); `fires` tells whether a group fire applies. -/
def condMet (c : Core) (u : Nat) (x : Acq) (s : AcqSample) (v : Nat) (fires : Bool) : Bool :=
  match cdKind v with
  | 1 => decide (cdLevel v ≤ s.value)
  | 2 => decide (s.value < cdLevel v)
  | 3 => decide (0 < x.tested) && decide (x.prev < cdLevel v) && decide (cdLevel v ≤ s.value)
  | 4 => decide (0 < x.tested) && decide (cdLevel v ≤ x.prev) && decide (s.value < cdLevel v)
  | 5 => outsideMask c u x.tested s.value
  | 6 => x.trgi.any (fun e => e.1 == cdTrgi v && decide (e.2 / 4096 * 4096 ≤ s.stamp))
  | 7 => fires
  | 8 => x.hostFires.any (fun t => decide (t ≤ s.stamp))
  | _ => false

/-- The conditions met at the sample: those that may meet again (R274). -/
def metMask (c : Core) (u : Nat) (x : Acq) (s : AcqSample) (fires : Bool) : Nat :=
  [0, 1, 2, 3].foldl (fun m n =>
    if decide (mget 0 x.quiet n ≤ x.tested) && condMet c u x s (condOf c u n) fires then setBit m n else m) 0

/-- The lowest bit of a mask of four. -/
def lowestOf (m : Nat) : Nat := (setBits m 4).headD 0

/-- What a sample's test decides: the mask met, the applied fires with the own one, and whether a fire is sent (R275, R282, R283). -/
def decide4 (c : Core) (u : Nat) (x : Acq) (s : AcqSample) : Nat × List (Nat × Nat × Nat) × Bool :=
  let fires := firesAt x s.stamp
  let m0 := metMask c u x s (!fires.isEmpty)
  let fire := m0 != 0 && cdFire (condOf c u (lowestOf m0)) && rd c (qk u 0xC) != 0
  if fire then
    let all := fires ++ [(s.stamp, deviceId c, u)]
    (metMask c u x s true, all, true)
  else (m0, fires, false)

/-- The sample joins its interval (R269). -/
def spanAdd (c : Core) (u : Nat) (x : Acq) (s : AcqSample) : AcqSpan :=
  match x.span with
  | some a => { a with last := s.stamp, least := min a.least s.value, most := max a.most s.value, count := a.count + 1, flags := a.flags ||| s.flags }
  | none => { index := x.tested / max 1 (rd c (qk u 2)), first := s.stamp, last := s.stamp, least := s.value, most := s.value
              count := 1, merged := 1, flags := s.flags }

/-- Whether the interval in progress is complete. -/
def spanFull (c : Core) (u : Nat) : Bool :=
  match (getAcq c u).span with
  | some s => decide (rd c (qk u 2) ≤ s.count)
  | none => false

/-- Due ends: a complete interval closes, then the last sample of POST ends the acquisition (R269, R276). -/
def flushAcq (c : Core) (u : Nat) : Core :=
  let c1 := if spanFull c u then closeSpan c u else c
  if (getAcq c1 u).postLeft = some 0 then finishAcq c1 u 0 else c1

/-- The mark of a sample that meets conditions. -/
def markOf (c : Core) (u : Nat) (x : Acq) (s : AcqSample) (met : Nat) (fires : List (Nat × Nat × Nat)) : AcqMark :=
  let d := lowestOf met
  let group := (setBits met 4).any (fun n => cdKind (condOf c u n) == 7)
  let late := group && fires.any (fireLate x)
  { met := met, decider := d, stop := cdStop (condOf c u d) && x.postLeft.isNone, late := late, sample := x.tested, stamp := s.stamp
    value := s.value, fire := if group then (decidingFire fires).map (fun f => (f.2.1, f.2.2)) else none, merged := 0, flags := s.flags }

/-- A fire of a group reaches this device's units of the group, but for `own`, the unit that made it here: those that run take it, unless
it lies before their sample 0 (R283, R382). -/
def groupFire (c : Core) (tgroup stamp device unit : Nat) (own : Option Nat) : Core :=
  (List.range 8).foldl (fun c u =>
    let x := getAcq c u
    if tgroup = 0 ∨ own = some u ∨ rd c (qk u 0xC) ≠ tgroup ∨ acqState c u = 0 ∨ (x.started ∧ stamp < x.notBefore) then c
    else setAcq c u { x with fires := x.fires ++ [(stamp, device, unit)] }) c

/-- The test of one sample: conditions, mark, interval, and the count of POST (R274 to R276, R282, R283). -/
def testSample (c0 : Core) (u : Nat) (s : AcqSample) : Core :=
  let c := flushAcq c0 u
  if acqState c u = 0 then c
  else
    let x := getAcq c u
    let (met, fires, fire) := decide4 c u x s
    let k := markOf c u x s met fires
    let late := if k.late then fires.countP (fireLate x) else 0
    let quiet := (setBits met 4).foldl (fun q n => mset 0 q n (x.tested + cdRearm (condOf c u n) + 1)) x.quiet
    let c1 := setAcq c u { x with quiet := quiet, late := x.late + late
                                  fires := x.fires.filter (fun f => decide (s.stamp < f.1))
                                  trgi := x.trgi.filter (fun e => decide (s.stamp < e.2 / 4096 * 4096))
                                  hostFires := x.hostFires.filter (fun t => decide (s.stamp < t)) }
    let c2 := if met = 0 then c1 else pushMark (bumpBy c1 (qk u 0x13) late) u k
    let c3 := if fire then groupFire (sendFire c2 s.stamp (rd c2 (qk u 0xC)) u) (rd c2 (qk u 0xC)) s.stamp (deviceId c) u (some u) else c2
    let post := if met ≠ 0 ∧ k.stop then some (rd c3 (qk u 6)) else x.postLeft.map (fun n => n - 1)
    let c4 := modAcq c3 u (fun y => { y with
      span := some (spanAdd c3 u x s), tested := x.tested + 1, prev := s.value, prevStamp := s.stamp, postLeft := post })
    if post.isSome then wr c4 (qk u 0xA) 2 else c4

/-- Test held samples that have left the window behind an instant (R283). -/
def testDue : Nat → Core → Nat → Nat → Core
  | 0, c, _, _ => c
  | n + 1, c, u, upto =>
    match (getAcq c u).held with
    | [] => c
    | s :: rest =>
      if s.stamp ≤ upto then testDue n (testSample (modAcq c u (fun x => { x with held := rest })) u s) u upto else c

/-- The span of held samples in ticks: FIRE_WINDOW µs for a unit of a group (R283). -/
def heldTicks (c : Core) (u : Nat) : Nat := if rd c (qk u 0xC) = 0 then 0 else rd c (qk u 0xF) * 1000 * 4096

/-- Test every held sample. -/
def testAll (c : Core) (u : Nat) : Core :=
  let l := (getAcq c u).held
  testDue l.length c u ((l.map AcqSample.stamp).foldl max 0)

/-- A unit takes a sample of its source (R269, R277, R283). -/
def acqSample (c0 : Core) (u : Nat) (value : Int) (stamp flags : Nat) : Core :=
  let c := flushAcq c0 u
  let x := getAcq c u
  if acqState c u = 0 ∨ stamp < x.notBefore then c
  else
    let c1 := if x.started then c
      else
        let first := fun (f : Nat × Nat × Nat) => decide (stamp ≤ f.1)
        pushMade (setAcq c u { x with started := true, notBefore := stamp, fires := x.fires.filter first }) u
          (startRecord c u stamp (ofBool x.origin) x.armEpoch)
    let c2 := modAcq c1 u (fun y => { y with samples := y.samples + 1
                                             held := y.held ++ [{ value := value, stamp := stamp, flags := flags }] })
    match x.ends with
    | some cause =>
      let c3 := flushAcq (testAll c2 u) u
      if acqState c3 u = 0 then c3 else finishAcq c3 u cause
    | none => testDue (getAcq c2 u).held.length c2 u (stamp - heldTicks c2 u)

/-- Every unit that takes a source gets a sample of it. -/
def acqFeed (c : Core) (source : Nat) (value : Int) (stamp flags : Nat) : Core :=
  (List.range 8).foldl (fun c u => if rd c (qk u 1) = source ∧ acqState c u ≠ 0 then acqSample c u value stamp flags else c) c

/-- An acquisition ends at once with a cause (R277): what is held is tested first. -/
def endAcq (c : Core) (u cause : Nat) : Core :=
  if acqState c u = 0 then c
  else
    let c1 := flushAcq (testAll c u) u
    if acqState c1 u = 0 then c1 else finishAcq c1 u cause

/-- Every acquisition ends (R277). -/
def endAcqs (c : Core) (cause : Nat) : Core := (List.range 8).foldl (fun c u => endAcq c u cause) c

/-- A write of 0 to ARM: the acquisition ends at the next accepted sample (R277). -/
def writeDisarm (c : Core) (u : Nat) : Core := if acqState c u = 0 then c else modAcq c u (fun x => { x with ends := some 1 })

/-- HOST_FIRE (R274). -/
def writeHostFire (c : Core) (u : Nat) : Core :=
  if acqState c u = 0 then c else modAcq c u (fun x => { x with hostFires := x.hostFires ++ [c.stamp] })

/-- A rising edge of TRGIk is noted by the units that run (R274). -/
def noteTrgi (c : Core) (k : Nat) : Core :=
  (List.range 8).foldl (fun c u => if acqState c u = 0 then c else modAcq c u (fun x => { x with trgi := x.trgi ++ [(k, c.stamp)] })) c

/-- The oldest held sample leaves the window: it is tested (R283). -/
def conditionTest (c : Core) (u : Nat) : Core := if acqState c u = 0 then c else testDue 1 c u (c.stamp - heldTicks c u)

/-- A completed interval closes (R269). -/
def intervalEnd (c : Core) (u : Nat) : Core := if acqState c u ≠ 0 ∧ spanFull c u then closeSpan c u else c

/-- The last sample of POST has been tested: the acquisition ends (R276). -/
def postEnd (c : Core) (u : Nat) : Core := if acqState c u ≠ 0 ∧ (getAcq c u).postLeft = some 0 then flushAcq c u else c

/-- The state checks of a GROUP_ARM entry (R38, R281, R286): the master alone sends the arm token. -/
def writeGroupArm (c : Core) (u e : Nat) : Written :=
  guardSt (rd c (qk u 0xD) == 1 && rd c (qk u 0xC) != 0 && !noDeviceId c) stStateConflict
    (let g := rd c (qk u 0xC)
     .ok (sendToken { c with tokens := { c.tokens with arms := c.tokens.arms ++ [(g, e)] } } tokArm e g))

end Sys2Proof.Machine
end

