-- ==== Sys2Proof/Machine/Chain.lean ====
section
/-!
DEFINITION. Sys2Proof/Machine/Chain.lean: the sense scan, the filter chains and their detectors
(09_sense_acquisition.md R255 to R268).
-/
namespace Sys2Proof.Machine

def getChain (c : Core) (n : Nat) : Chain := mget {} c.chains n
def setChain (c : Core) (n : Nat) (x : Chain) : Core := { c with chains := mset {} c.chains n x }
def modChain (c : Core) (n : Nat) (f : Chain → Chain) : Core := setChain c n (f (getChain c n))

/-- The bits of Table 9-1. -/
def flOvr : Nat := 1
def flSettling : Nat := 2
def flTainted : Nat := 4
def flFill : Nat := 8
def flHeld : Nat := 16
def flSaturated : Nat := 32
def flWarming : Nat := 64

/-- Object `sub` of sense input n (Table 9-7). -/
def nk (n sub : Nat) : Key := mkKey (0x4400 + n) sub

/-! ## Stages (R262, R263, R267) -/

/-- SPAN in input samples. -/
def chainSpan (c : Core) (n : Nat) : Nat :=
  let r := chainR c n
  let h := 2 ^ chainH c n
  (4 * r - 3) + 22 * r * (h - 1) + 127 * r * h

/-- TAINT_LEN in outputs. -/
def taintLen (c : Core) (n : Nat) : Nat := ceilDiv (chainSpan c n) (max 1 (chainDec c n))

/-- Coefficient h_j in force, in units of 2^-22. -/
def firCoeff (c : Core) (n j : Nat) : Int :=
  let p := rd c (fk n 2)
  if p < 3 then Config.firVendor p j
  else if dom c (fk n 6) = [] then Config.firVendor 1 j
  else toSigned 32 (leAt (dom c (fk n 6)) (4 * j) 4)

/-- A weighted sum of the newest inputs. -/
def weigh (w : Nat → Int) : Nat → List Int → Int
  | _, [] => 0
  | j, x :: xs => w j * x + weigh w (j + 1) xs

/-- One input of a decimating stage of `len` taps: its output, at every `dec`-th input. -/
def firStep (w : Nat → Int) (len dec : Nat) (s : FirStage) (x : Int) : FirStage × Option Int :=
  let taps := (x :: s.taps).take len
  if s.phase + 1 < dec then ({ taps := taps, phase := s.phase + 1 }, none)
  else ({ taps := taps, phase := 0 }, some (weigh w 0 taps))

/-- Running sums: each integrator adds the one before it. -/
def integrate : List Int → Int → List Int × Int
  | [], x => ([], x)
  | a :: l, x =>
    let s := a + x
    let (r, y) := integrate l s
    (s :: r, y)

/-- Differences: each comb subtracts its last input. -/
def differ : List Int → Int → List Int × Int
  | [], x => ([], x)
  | a :: l, x =>
    let (r, y) := differ l (x - a)
    (x :: r, y)

/-- The CIC stage: its output is R^4 times the stage's (R262). -/
def cicStep (r : Nat) (x : Chain) (v : Int) : Chain × Option Int :=
  if r ≤ 1 then (x, some v)
  else
    let (integ, s) := integrate x.integ v
    if x.cicPhase + 1 < r then ({ x with integ := integ, cicPhase := x.cicPhase + 1 }, none)
    else
      let (comb, y) := differ x.comb s
      ({ x with integ := integ, cicPhase := 0, comb := comb }, some y)

/-- Tap j of a half-band stage in units of 2^-22: the vendor's 23 taps sum to 2^22, since the stage has a DC gain of 1 (R262). -/
def halfTap (j : Nat) : Int :=
  if j = 11 then 4194304 - ((List.range 23).filter (fun i => i != 11)).foldl (fun s i => s + Config.halfBandTap i) 0
  else Config.halfBandTap j

/-- The half-band stages in turn. -/
def halfBands : Nat → List FirStage → Int → List FirStage × Option Int
  | 0, l, v => (l, some v)
  | k + 1, l, v =>
    let s := l.headD {}
    match firStep halfTap 23 2 s v with
    | (s1, none) => (s1 :: l.drop 1, none)
    | (s1, some y) =>
      let (rest, o) := halfBands k (l.drop 1) y
      (s1 :: rest, o)

/-- One input through the three stages: the exact output as a numerator over R^4 2^(22 (H + 1)). -/
def chainStep (c : Core) (n : Nat) (x : Chain) (v : Int) : Chain × Option Int :=
  match cicStep (chainR c n) x v with
  | (x1, none) => (x1, none)
  | (x1, some a) =>
    match halfBands (chainH c n) x1.hb a with
    | (hb, none) => ({ x1 with hb := hb }, none)
    | (hb, some b) =>
      let (fir, o) := firStep (firCoeff c n) 128 (chainD c n) x1.fir b
      ({ x1 with hb := hb, fir := fir }, o)

/-- The gain that remains to be removed from a numerator. -/
def chainScale (c : Core) (n : Nat) : Nat :=
  (if chainR c n ≤ 1 then 1 else chainR c n ^ 4) * 2 ^ (22 * (chainH c n + 1))

/-! ## ENBW_REL of a CUSTOM chain (R263) -/

/-- The sum of two responses. -/
def addTaps : List Int → List Int → List Int
  | [], b => b
  | a, [] => a
  | a :: as, b :: bs => (a + b) :: addTaps as bs

/-- The response of one filter after another. -/
def convolve : List Int → List Int → List Int
  | [], _ => []
  | a :: as, b => addTaps (b.map (fun x => a * x)) (0 :: convolve as b)

/-- The response of a filter that stands behind a decimation by m, at the rate before it. -/
def stretch (m : Nat) (l : List Int) : List Int := l.flatMap (fun x => x :: List.replicate (m - 1) 0)

/-- The response of the whole chain at its input rate, times its gain: the CIC, the half-band stages and the FIR. -/
def chainResponse (c : Core) (n : Nat) : List Int :=
  let r := chainR c n
  let box := List.replicate r (1 : Int)
  let cic := convolve box (convolve box (convolve box box))
  let half := (List.range (chainH c n)).foldl (fun g k => convolve (stretch (r * 2 ^ k) ((List.range 23).map halfTap)) g) cic
  convolve (stretch (r * 2 ^ chainH c n) ((List.range 128).map (firCoeff c n))) half

/-- The bits of the F32 nearest to n / d, ties to even, for a quotient in its normal range. -/
def f32Quotient (n d : Nat) : Nat :=
  let s := d.log2 + 26
  let q := n * 2 ^ s / d
  let k := q.log2 + 1 - 24
  let m := q / 2 ^ k
  let r := 2 * (q % 2 ^ k)
  let up := decide (2 ^ k < r) || (r == 2 ^ k && (n * 2 ^ s % d != 0 || m % 2 == 1))
  ((k : Int) - s + 149).toNat * 2 ^ 23 + m + ofBool up

/-- ENBW_REL of a CUSTOM chain as it starts: the noise bandwidth over positive frequencies, divided by the output rate (R263, log 12). -/
def enbwAtStart (c : Core) (n : Nat) : Nat :=
  let g := chainResponse c n
  let sum := (g.foldl (fun s x => s + x) 0).natAbs
  let sq := g.foldl (fun s x => s + x.natAbs * x.natAbs) 0
  if sum = 0 then (Config.enbwCustom (chainR c n) (chainH c n) (chainD c n) ((List.range 128).map (firCoeff c n))).toNat
  else f32Quotient (chainDec c n * sq) (2 * sum * sum)

/-- ENBW_REL under a preset of Table 9-3: 0.40, 0.25 and 0.20; CUSTOM keeps the value until its next start. -/
def enbwPreset (c : Core) (n p : Nat) : Core :=
  match p with
  | 0 => wr c (fk n 0xC) 0x3ECCCCCD
  | 1 => wr c (fk n 0xC) 0x3E800000
  | 2 => wr c (fk n 0xC) 0x3E4CCCCD
  | _ => c

/-! ## Detectors (R268) -/

/-- The block in progress ends: the detector values are updated. -/
def closeBlock (c : Core) (n : Nat) : Core :=
  let x := getChain c n
  let c1 := wr (wr (wr c (fk n 0x11) (ofSigned 32 x.blockMax)) (fk n 0x12) (ofSigned 32 x.blockMin)) (fk n 0x13)
    (ofSigned 32 (roundDiv x.blockSum x.blockN))
  let c2 := wr (wr (wr c1 (fk n 0x14) (roundSqrtDiv x.blockSq x.blockN)) (fk n 0x15) x.env) (fk n 0x16) x.blockFlags
  setChain (bump c2 (fk n 0x17)) n { x with blockN := 0, blockMax := 0, blockMin := 0, blockSum := 0, blockSq := 0, blockFlags := 0 }

/-- Whether the block in progress is complete. -/
def blockFull (c : Core) (n : Nat) : Bool :=
  let x := getChain c n
  x.blockN != 0 && decide (rd c (fk n 0xF) ≤ x.blockN)

/-- An output enters the detectors. -/
def detect (c0 : Core) (n : Nat) (y : Int) (flags : Nat) : Core :=
  let c := if blockFull c0 n then closeBlock c0 n else c0
  let x := getChain c n
  let a := y.natAbs
  let env := if x.env ≤ a then a else x.env - (x.env - a) / 2 ^ rd c (fk n 0x10)
  setChain c n { x with
    blockN := x.blockN + 1
    blockMax := if x.blockN = 0 then y else max x.blockMax y
    blockMin := if x.blockN = 0 then y else min x.blockMin y
    blockSum := x.blockSum + y
    blockSq := x.blockSq + a * a
    blockFlags := x.blockFlags ||| flags
    env := env }

/-! ## Inputs and outputs (R260 to R265) -/

/-- An output of a chain: rounded, saturated, flagged, detected, and taken by the units that have the chain as source. -/
def chainOutput (c : Core) (n : Nat) (num : Int) (stamp : Nat) : Core :=
  let x := getChain c n
  let y0 := roundDiv num (chainScale c n)
  let y := clampInt (-2147483648) 2147483647 y0
  let span := chainSpan c n
  let holds := fun (last : Nat) => decide (last ≠ 0) && decide (x.inputs < last + span)
  let tainted := decide (0 < x.taintLeft) || holds x.lastOvr
  let fill := decide (0 < x.fillLeft) || decide (x.inputs < x.seriesFrom + span)
  let flags := (if tainted then flTainted else 0) + (if fill then flFill else 0) + (if holds x.lastHeld then flHeld else 0)
    + (if y ≠ y0 then flSaturated else 0) + (if holds x.lastWarm then flWarming else 0)
  let c1 := setChain c n { x with taintLeft := x.taintLeft - 1, fillLeft := x.fillLeft - 1 }
  let c2 := bump (wr (wr c1 (fk n 0xD) (ofSigned 32 y)) (fk n 0xE) flags) (fk n 0x18)
  let c3 := if tainted then tallyEvent (bump c2 (fk n 0x19)) (0xC0 + n) else c2
  acqFeed (detect c3 n y flags) (0x20 + n) y stamp flags

/-- An input of a RUNNING chain: `none` takes the previous accepted sample of its source in its place, with HELD, and with what a sample
over range brings where that one was (R260, R261, R264). A source that has accepted nothing yet gives a free value (log 1). -/
def chainInput (c : Core) (n : Nat) (v : Option Int) (stamp : Nat) (ovr warm : Bool) : Core :=
  if rd c (fk n 8) ≠ 1 then c
  else
    let x := getChain c n
    let i := x.inputs + 1
    let last := mget none c.sourceLast (rd c (fk n 1))
    let first := v.isNone && last.isNone
    let held := last.getD (toSigned 18 (freeNow c), false)
    let value := v.getD held.1
    let isOvr := if v.isNone then held.2 else ovr
    let x1 := { x with
      inputs := i
      lastOvr := if isOvr then i else x.lastOvr
      taintLeft := if isOvr then taintLen c n else x.taintLeft
      lastHeld := if v.isNone then i else x.lastHeld
      lastWarm := if warm then i else x.lastWarm }
    let (x2, o) := chainStep c n x1 (value * 64)
    let c1 := setChain (if first then freeUsed c else c) n x2
    match o with
    | some num => chainOutput c1 n num stamp
    | none => c1

/-- A write of 1 to RUN (R265, R266). -/
def startChain (c : Core) (n : Nat) : Written :=
  let s := rd c (fk n 1)
  guardSt (s != 0xFFFF && (decide (0x20 ≤ s) || rdb c (nk s 1))) stStateConflict
    (if rd c (fk n 8) = 1 then .ok c
     else
       let c1 := if rd c (fk n 2) = 3 then wr c (fk n 0xC) (enbwAtStart c n) else c
       let c2 := wr (wr (wr (wr c1 (fk n 7) 1) (fk n 8) 1) (fk n 0x18) 0) (fk n 0x19) 0
       .ok (setChain c2 n { fillLeft := taintLen c n }))

/-- A write of 0 to RUN: units that take the chain end with cause SOURCE (R265, R277). -/
def stopChain (c : Core) (n : Nat) : Core :=
  let c1 := wr (wr c (fk n 7) 0) (fk n 8) 0
  if rd c (fk n 8) = 0 then c1
  else (List.range 8).foldl (fun c u => if rd c (qk u 1) = 0x20 + n then endAcq c u 4 else c) c1

/-- COEFFS (R267): contents, then state (R266). -/
def writeCoeffs (c : Core) (n : Nat) (data : List Byte) : Written :=
  let bad := (List.range 128).any (fun j =>
    let h := toSigned 32 (leAt data (4 * j) 4)
    decide (h < -8388608) || decide (8388607 < h))
  if data.length ≠ 512 ∨ bad then .error stOutOfRange
  else guardSt (rd c (fk n 8) == 0 && rd c (fk n 2) == 3) stStateConflict (.ok (setDom c (fk n 6) data))

/-- DETECTOR_BLOCK_END: a complete block ends (R268). -/
def blockEnd (c : Core) (n : Nat) : Core := if blockFull c n then closeBlock c n else c

/-- The latest accepted sample of a source, and whether it was over range (R260). -/
def noteAccepted (c : Core) (source : Nat) (v : Int) (ovr : Bool) : Core := { c with sourceLast := mset none c.sourceLast source (some (v, ovr)) }

/-- A TIE result of a TDC channel reaches the chains that take it (R264, R265); `first` is the first result of a measurement. -/
def tieFeed (c : Core) (ch : Nat) (value : Int) (stamp : Nat) (replaced warm first : Bool) : Core :=
  let y := clampInt (-131072) 131071 value
  let c0 := if replaced then c else noteAccepted c (0x100 + ch) y (y != value)
  (List.range 8).foldl (fun c n =>
    if rd c (fk n 1) ≠ 0x100 + ch then c
    else
      let c1 := if first ∧ (getChain c n).inputs ≠ 0 then
          modChain c n (fun x => { x with seriesFrom := x.inputs, fillLeft := taintLen c n })
        else c
      chainInput c1 n (if replaced then none else some y) stamp (!replaced && y != value) warm) c0

/-! ## The sense scan (R256 to R260) -/

/-- The enabled inputs of an ADC, ascending. -/
def enabledInputs (c : Core) (a : Nat) : List Nat := ((List.range 8).map (fun i => 8 * a + i)).filter (fun n => rdb c (nk n 1))

/-- The next conversion slot's ns count: now, if its slot has not been taken, or the next multiple of 500 ns. -/
def nextSlotNs (c : Core) : Nat :=
  let ns := c.stamp / 4096
  if ns % 500 = 0 ∧ (mget {} c.adcs 0).lastSlot ≠ some (ns / 500) then ns else (ns / 500 + 1) * 500

/-- One conversion of ADC a in slot m of a differential input in LSB (R256, R259, R260): it carries SETTLING where the slot before it
made a conversion over range. -/
def convert (c : Core) (a m : Nat) (v : Int) : Core :=
  let x : Adc := mget {} c.adcs a
  let l := enabledInputs c a
  let c0 := { c with adcs := mset {} c.adcs a { lastSlot := some m } }
  let settling := x.settling && x.lastSlot == some (m - 1)
  match l[m % max 1 l.length]? with
  | none => c0
  | some n =>
    let stamp := m * 500 * 4096
    let code := clampInt (-131072) 131071 v
    let ovr := code != v
    let cold := !refwarm c
    let flags := (if ovr then flOvr else 0) + (if settling then flSettling else 0) + (if cold then flWarming else 0)
    let c1 := { c0 with adcs := mset {} c0.adcs a { settling := ovr, lastSlot := some m } }
    let c2 := wr (wr (wr c1 (nk n 3) (ofSigned 32 code)) (nk n 4) (stamp % 2 ^ 64)) (nk n 5) flags
    let c3 := if settling then bump c2 (nk n 9) else c2
    let c4 := if !ovr then c3
      else
        let d := wr (bump c3 (nk n 8)) (nk n 6) 1
        if rdb c3 (nk n 6) then d else raise d 290 0 n
    let feed := fun (c : Core) (k : Nat) =>
      if rd c (fk k 1) = n then chainInput c k (if settling then none else some code) stamp (ovr && !settling) cold else c
    let c5 := (List.range 8).foldl feed (if settling then c4 else noteAccepted c4 n code ovr)
    if settling then c5 else acqFeed c5 n (code * 64) stamp flags

/-- SENSE_CONVERSION: the four ADCs convert at the next slot (R256). -/
def senseSlot (c : Core) (v0 v1 v2 v3 : Int) : Core :=
  if !inModes c [.warm, .calibrate, .run] ∨ !clockBit c 5 then c
  else
    let ns := nextSlotNs c
    let c1 := elapseTo c (ns * 4096)
    let m := ns / 500
    convert (convert (convert (convert c1 0 m v0) 1 m v1) 2 m v2) 3 m v3

/-- Whether an input's ENABLE may be written (R258): no RUNNING chain and no unit at work takes an input of its ADC. -/
def enableFree (c : Core) (n : Nat) : Bool :=
  let same := fun (s : Nat) => decide (s < 32) && s / 8 == n / 8
  !((List.range 8).any (fun k => rd c (fk k 8) == 1 && same (rd c (fk k 1)))) &&
  !((List.range 8).any (fun u => acqState c u != 0 && same (rd c (qk u 1))))

end Sys2Proof.Machine
end

