-- ==== Sys2Proof/Machine/Tdc.lean ====
section
/-!
DEFINITION. Sys2Proof/Machine/Tdc.lean: the time-to-digital converters, the frequency fit, the code-density runs and the shadow stamps
(08_time_stamping.md R230 to R254; 06_calibration.md R189, R198).
-/
namespace Sys2Proof.Machine

/-- Object `sub` of channel ch (Table 8-8). -/
def tdk (ch sub : Nat) : Key := mkKey (0x4000 + ch) sub

/-- Global object `sub` (Table 8-9). -/
def tgk (sub : Nat) : Key := mkKey 0x4200 sub

def modTdc (c : Core) (n : Nat) (f : Tdc → Tdc) : Core := setTdc c n (f (getTdc c n))

/-- Whether a channel is MEASURING. -/
def measuring (c : Core) (ch : Nat) : Bool := rd c (tdk ch 0x12) == 1

/-- Whether a channel's measurement still takes edges: it is MEASURING and its END entry does not wait for a place (R244). -/
def live (c : Core) (ch : Nat) : Bool := measuring c ch && (getTdc c ch).ending.isNone

/-- Whether channels stamp: REF and STAMP are locked (R245). -/
def stampsRun (c : Core) : Bool := clockBit c 1 && clockBit c 5

/-! ## Conversion (R232, R250, R252) -/

/-- map[k] of fine stage `stage` of a table; an empty table is the factory table (R252). -/
def cdMap (ch : Nat) (table : List Byte) (stage k : Nat) : Nat :=
  if table = [] then Config.factoryCodeDensity ch stage k % 65536 else leAt table (64 + 8192 * stage + 2 * k) 2

/-- The stamp of an edge: ns count and the fraction of its raw code; a fraction of 4,096 carries (R232, R250). -/
def stampOf (ch : Nat) (table : List Byte) (stage ns raw : Nat) : Nat := ns * 4096 + (cdMap ch table stage raw + 8) / 16

/-- Whether a table is flagged WARMING (Table 8-7). -/
def tableWarming (table : List Byte) : Bool := bit (leAt table 12 1) 0

/-! ## Results (R242 to R244) -/

/-- The code of a mode's results in KIND (Table 8-4). -/
def modeKind (mode : Nat) : Nat := mode

/-- A result entry (Table 8-4); `flags` are bits [23:13]. -/
def resultEntry (c : Core) (ch kind flags edge stamp value : Nat) : List Byte :=
  sealCrc (leBytes 28 (packFields [(4, kind), (9, ch), (11, flags), (40, edge), (64, stamp), (64, value), (32, rd c (tdk ch 0x13))]))

def rfTimeout : Nat := 1
def rfMissed : Nat := 2
def rfWarming : Nat := 4
def rfFactory : Nat := 8
def rfInsufficient : Nat := 16
def rfTrunc : Nat := 32

/-- An entry goes to the FIFO where the channel has a ring. -/
def queueEntry (c : Core) (ch : Nat) (entry : List Byte) : Core :=
  modTdc c ch (fun x => if x.cfg.ringEntries = 0 then x else { x with fifo := x.fifo ++ [entry] })

/-- The measurement ends with a cause at an instant (R243); where earlier entries fill the whole FIFO, its END entry waits for a
place, and the channel stays MEASURING until then (R236, R244, log 109). -/
def endMeasure (c : Core) (ch cause instant : Nat) : Core :=
  let x := getTdc c ch
  let entry := resultEntry c ch 0xF 0 cause instant x.results
  if x.cfg.ringEntries ≠ 0 ∧ 256 ≤ x.fifo.length then setTdc c ch { x with ending := some entry }
  else wr (queueEntry c ch entry) (tdk ch 0x12) 0

/-- A result falls due: it is entered, or with 255 entries waiting the measurement ends with OVERRUN, or with the cause `other` of the
same instant where its code is lower (R243, R244); after COUNT results it ends with COUNT (R235). `stamped` tells whether the
result has stamps of its own and `cold` whether REFWARM was low up to its last edge (R251); FACTORY_CD stands while the factory
table applies (R252). -/
def pushResult (c : Core) (ch kind flags edge stamp value instant other : Nat) (stamped cold : Bool) : Core :=
  let x := getTdc c ch
  if x.cfg.ringEntries ≠ 0 ∧ 255 ≤ x.fifo.length then endMeasure (bump c (tgk 7)) ch (min 4 other) instant
  else
    let f := flags ||| (if x.missed then rfMissed else 0) ||| (if cold || (stamped && tableWarming x.armTable) then rfWarming else 0)
      ||| (if x.armTable = [] then rfFactory else 0)
    let c1 := queueEntry c ch (resultEntry c ch kind f edge stamp value)
    let c2 := modTdc c1 ch (fun y => { y with results := y.results + 1, missed := false })
    let c3 := wr (wr (wr c2 (tdk ch 0x14) (stamp % 2 ^ 64)) (tdk ch 0x15) (value % 2 ^ 64)) (tdk ch 0x16) f
    let c4 := if kind = 4 then
        tieFeed c3 ch (toSigned 64 value) stamp (f % 4 != 0) (bit f 2) (x.results == 0)
      else c3
    if kind ≤ 4 ∧ x.cfg.count ≠ 0 ∧ x.results + 1 = x.cfg.count then endMeasure c4 ch 0 instant else c4

/-- TDC_RESULT_WRITE: the first waiting entry goes into the ring while it has room; an END entry that waited takes a place (R244). -/
def writeResult (m : Mem) (c : Core) (ch : Nat) : Mem × Core :=
  let x := getTdc c ch
  let w := rd c (tdk ch 0xE)
  match x.fifo with
  | [] => (m, c)
  | e :: es =>
    let a := x.cfg.ringBase + 32 * (w % max 1 x.cfg.ringEntries)
    if x.cfg.ringEntries = 0 ∨ x.cfg.ringEntries ≤ w - rd c (tdk ch 0xF) ∨ !localMapped c a 32 then (m, c)
    else
      let (m1, c1) := checkedStore m c a e .auto
      let c2 := bump c1 (tdk ch 0xE)
      match x.ending with
      | some last => (m1, wr (setTdc c2 ch { x with fifo := es ++ [last], ending := none }) (tdk ch 0x12) 0)
      | none => (m1, setTdc c2 ch { x with fifo := es })

/-! ## Arming and ending (R236, R243, R245) -/

/-- The configuration of a channel as its objects stand. -/
def tdcConfig (c : Core) (ch : Nat) : TdcCfg :=
  let r := fun sub => rd c (tdk ch sub)
  { mode := r 1, start := r 2, stop := r 3, edge := r 4, divide := r 5, count := r 6, timeout := r 7, holdoff := r 8, gate := r 9
    nom := r 0xA, anchor := r 0xB, ringBase := r 0xC, ringEntries := r 0xD }

/-- A measurement starts at its arm instant: its configuration and table are taken, what its fine stages convert and a missed stamp to be
reported stay (R233, R236, R249), and no loop-back transition waits for the channel (R25). -/
def armTdc (c : Core) (ch instant : Nat) : Core :=
  let old := getTdc c ch
  let cfg := tdcConfig c ch
  let x : Tdc := { cfg := cfg, arm := instant, since := instant, anchor := if cfg.anchor = 0 then none else some cfg.anchor
                   fifo := old.fifo, table := old.table, armTable := old.table, coldRef := !refwarm c, coldEdge := !refwarm c
                   cdRunning := old.cdRunning, busyA := old.busyA, busyB := old.busyB, missed := old.missed }
  let c1 := if ch < 256 ∧ (getPin c ch).due ≠ [] then modPin c ch (fun y => { y with due := [] }) else c
  bump (wr (setTdc c1 ch x) (tdk ch 0x12) 1) (tdk ch 0x13)

/-- Whether the gate length suits FREQ (R236). -/
def gateOk (c : Core) (ch : Nat) : Bool :=
  let g := rd c (tdk ch 9)
  rd c (tdk ch 1) != 5 || decide (1000 ≤ g ∧ g ≤ 10000000000)

/-- A write of 1 to ARM (R236). -/
def writeTdcArm (c : Core) (ch : Nat) : Written :=
  guardSt (gateOk c ch) stOutOfRange (guardSt (!measuring c ch) stStateConflict
    (.ok (armTdc c ch ((c.stamp / 4096 + 1) * 4096))))

/-- REFWARM low is noted by the measurements that run and by a code-density run (R251). -/
def coldMeasures (c : Core) : Core :=
  { c with tdcs := c.tdcs.map (fun e => (e.1, { e.2 with coldRef := true })), cd := { c.cd with coldRef := true } }

/-! ## The fit (R247, R248) -/

/-- What a fit of N stamps gives: PERIOD_FX, PERIOD_UNC, FREQ_UHZ and FREQ_UNC_UHZ; none where the mean spacing is not positive. The
exact sums give N Snn, N Snt and N Snn Σ r² as integers, and every operation after them is one of binary64 (R247, R248, log 13). -/
def freqFit (s : FreqSums) : Option (Nat × Nat × Nat × Nat) :=
  let a : Int := (s.n : Int) * s.snn - (s.sn : Int) * s.sn
  let b : Int := (s.n : Int) * s.snt - (s.sn : Int) * s.st
  let t : Int := (s.n : Int) * s.stt - (s.st : Int) * s.st
  if a ≤ 0 ∨ b ≤ 0 then none
  else
    let n := F64.ofNat s.n
    let an := F64.ofNat a.toNat
    let snn := an.div n
    let period := ((F64.ofNat b.toNat).div n).div snn
    let rsq := (F64.ofNat (a * t - b * b).toNat).div (an.mul n)
    let sigma := ((rsq.div (F64.ofNat (s.n - 2))).sqrt).div snn.sqrt
    let freq := (F64.ofNat (4096 * 10 ^ 9)).div period
    let sigmaF := (freq.mul sigma).div period
    let scale := F64.ofNat (2 ^ 20)
    let micro := F64.ofNat (10 ^ 6)
    some ((period.mul scale).round, (sigma.mul scale).round, (freq.mul micro).round, (sigmaF.mul micro).round)

/-- The FREQ objects after a gate. -/
def setFreq (c : Core) (ch status n : Nat) (v : Nat × Nat × Nat × Nat) : Core :=
  let put := fun (c : Core) (e : Nat × Nat) => wr c (tdk ch e.1) (e.2 % 2 ^ 64)
  [(0x17, status), (0x18, v.1), (0x19, v.2.1), (0x1A, v.2.2.1), (0x1B, v.2.2.2), (0x1C, n)].foldl put c

/-- The gate ends (R237, R248): in FREQ the fit is made and its two entries are written. -/
def endGate (c : Core) (ch : Nat) : Core :=
  let x := getTdc c ch
  let instant := x.arm + x.cfg.gate * 4096
  if x.cfg.mode ≠ 5 then endMeasure c ch 1 instant
  else
    let s := x.sums
    let few := decide (s.n < 16)
    let free := freeMany c 4
    let fit := freqFit s
    let v := if few then (0, 0, 0, 0) else fit.getD (free.getD 0 0, free.getD 1 0, free.getD 2 0, free.getD 3 0)
    let flags := (if few then rfInsufficient else 0) + (if s.truncated then rfTrunc else 0)
    let stamped := decide (0 < s.n)
    let cold := if x.edges = 0 then x.coldRef else x.coldEdge
    let c0 := if few ∨ fit.isSome then c else freeUsedMany c 4
    let c1 := setFreq c0 ch (if few then 2 else 1) s.n v
    let c2 := pushResult c1 ch 5 flags s.n x.arm v.1 instant 1 stamped cold
    let c3 := if live c2 ch then pushResult c2 ch 6 flags x.edges instant v.2.1 instant 1 stamped cold else c2
    if live c3 ch then endMeasure c3 ch 1 instant else c3

/-! ## Time-outs (R239) -/

/-- The instant at which the awaited edge is too late; FREQ and OFF await none. -/
def timeoutAt (x : Tdc) : Option Nat := if x.cfg.mode = 0 ∨ x.cfg.mode = 5 then none else some (x.since + x.cfg.timeout * 4096)

/-- The end of the gate, where there is one (R237). -/
def gateAt (x : Tdc) : Option Nat := if x.cfg.gate = 0 then none else some (x.arm + x.cfg.gate * 4096)

/-- The index that the awaited edge would have (R239). -/
def awaitedIndex (x : Tdc) : Nat :=
  if x.cfg.mode = 2 then (if x.prev.isSome then x.stops else x.edges)
  else ceilDiv x.edges (max 1 x.cfg.divide) * max 1 x.cfg.divide

/-- The awaited edge is too late (R239). A start or earlier edge that it has is the result's last edge; one without an edge runs to the
limit (R251). -/
def timeOut (c : Core) (ch limit : Nat) : Core :=
  let x := getTdc c ch
  let begun := (x.cfg.mode == 2 || x.cfg.mode == 3) && x.prev.isSome
  let c1 := pushResult c ch (modeKind x.cfg.mode) rfTimeout (awaitedIndex x) limit (x.cfg.timeout * 4096) limit 2 begun
    (if begun then x.coldEdge else x.coldRef)
  if live c1 ch then endMeasure c1 ch 2 limit else c1

/-- What has fallen due at a channel by instant t: its gate end, or its time-out where that comes first (R237, R239). -/
def tdcDue (c : Core) (ch t : Nat) : Core :=
  if !live c ch then c
  else
    let x := getTdc c ch
    let g := (gateAt x).filter (fun g => decide (g ≤ t))
    let l := (timeoutAt x).filter (fun l => decide (l ≤ t))
    match g, l with
    | some g, some l => if l < g then timeOut c ch l else endGate c ch
    | some _, none => endGate c ch
    | none, some l => timeOut c ch l
    | none, none => c

/-- A measurement ends now with a cause, unless its gate end or time-out has come first or at this instant (R243). -/
def endNow (c : Core) (ch cause : Nat) : Core :=
  let c1 := tdcDue c ch c.stamp
  if live c1 ch then endMeasure c1 ch cause c.stamp else c1

/-- A write of 0 to ARM: a measurement ends with cause HOST (R243). -/
def disarmTdc (c : Core) (ch : Nat) : Core := endNow c ch 3

/-- Every measurement ends with a cause: REF_LOST, RESTAMP or MODE (R243, R245). -/
def endMeasures (c : Core) (cause : Nat) : Core := (List.range 264).foldl (fun c ch => endNow c ch cause) c

/-- A pending ARM_AT falls due (R236); a configuration that has since become one that FREQ refuses drops it too (log 110). -/
def tdcArmAtDue (c0 : Core) (ch : Nat) : Core :=
  let c := tdcDue c0 ch c0.clk.boundary
  if measuring c ch ∨ !inModes c [.warm, .calibrate, .run] ∨ !gateOk c ch then bump c (tdk ch 0x1E) else armTdc c ch c.clk.boundary

/-! ## Edges (R233, R235, R238, R240, R241) -/

/-- Whether an edge's polarity matches a field of EDGE: 1 RISE, 2 FALL, 3 BOTH. -/
def polarityOk (sel : Nat) (rising : Bool) : Bool := bit sel (if rising then 0 else 1)

/-- Whether a source is in its hold-off at t (R238). -/
def heldOff (x : Tdc) (from_ : Option Nat) (t : Nat) : Bool :=
  match from_ with
  | some h => decide (t < h + x.cfg.holdoff * 1024)
  | none => false

/-- The fine stage that converts an edge, and its stamp, if one is free: in INTERVAL A for starts and B for stops, else A first (R233). -/
def takeStage (ch : Nat) (x : Tdc) (interval stop : Bool) (ns raw : Nat) : Option (Nat × Tdc) :=
  let ta := stampOf ch x.armTable 0 ns raw
  let tb := stampOf ch x.armTable 1 ns raw
  let free := fun (busy : Option Nat) (t : Nat) => match busy with
    | some b => decide (b + 8192 ≤ t)
    | none => true
  if (!interval || !stop) && free x.busyA ta then some (ta, { x with busyA := some ta })
  else if (!interval || stop) && free x.busyB tb then some (tb, { x with busyB := some tb })
  else none

/-- An edge that finds no stage free (R233). -/
def missStamp (c : Core) (ch : Nat) (x : Tdc) : Core := bump (setTdc c ch { x with missed := true }) (tdk ch 0x1D)

/-- The fine stage that converts an edge of a source: in INTERVAL A for starts and B for stops, else A where it is free (R233). -/
def stageFor (ch : Nat) (x : Tdc) (source ns raw : Nat) : Nat :=
  if x.cfg.mode = 2 then (if source = x.cfg.stop ∧ (x.prev.isSome ∨ source ≠ x.cfg.start) then 1 else 0)
  else if (match x.busyA with | some b => decide (b + 8192 ≤ stampOf ch x.armTable 0 ns raw) | none => true) then 0 else 1

/-- A stamp joins the sums of a gate, at most 2^20 of them (R247). -/
def addStamp (s : FreqSums) (n t : Nat) : FreqSums :=
  if s.n < 2 ^ 20 then { s with n := s.n + 1, sn := s.sn + n, st := s.st + t, snn := s.snn + n * n, snt := s.snt + n * t, stt := s.stt + t * t }
  else { s with truncated := true }

/-- The TIE value of edge n (R241); without a stamp of edge 0 its anchor is open (log 55). -/
def tieValue (c : Core) (x : Tdc) (n s : Nat) : Int :=
  match x.anchor with
  | some a => roundDiv (((s : Int) - a) * 2 ^ 32 - (n : Int) * x.cfg.nom) (2 ^ 32)
  | none => toSigned 64 (freeNow c)

/-- A qualifying edge of the start source in STAMP, PERIOD, TIE or FREQ, of index n (R235). -/
def seriesEdge (c : Core) (ch : Nat) (x : Tdc) (ns raw : Nat) : Core :=
  let n := x.edges
  let x1 := { x with edges := n + 1 }
  if n % max 1 x.cfg.divide ≠ 0 ∨ (x.cfg.mode = 5 ∧ 2 ^ 20 ≤ x.sums.n) then
    setTdc c ch (if n % max 1 x.cfg.divide = 0 then { x1 with sums := addStamp x1.sums n 0 } else x1)
  else
    match takeStage ch x1 false false ns raw with
    | none => missStamp c ch x1
    | some (s, x2) =>
      let x3 := { x2 with since := s }
      match x.cfg.mode with
      | 1 => pushResult (setTdc c ch x3) ch 1 0 n s n s 8 true x.coldRef
      | 3 =>
        let c1 := setTdc c ch { x3 with prev := some (s, n) }
        match x.prev with
        | some (s0, _) => pushResult c1 ch 3 0 n s0 (s - s0) s 8 true x.coldRef
        | none => c1
      | 4 =>
        let x4 := if n = 0 ∧ x3.anchor.isNone then { x3 with anchor := some s } else x3
        let c1 := if x4.anchor.isSome then c else freeUsed c
        pushResult (setTdc c1 ch x4) ch 4 0 n s (ofSigned 64 (tieValue c x4 n s)) s 8 true x.coldRef
      | 5 => setTdc c ch { x3 with sums := addStamp x3.sums n (s - x.arm) }
      | _ => setTdc c ch x3

/-- A qualifying start in INTERVAL (R240). -/
def startEdge (c : Core) (ch : Nat) (x : Tdc) (ns raw : Nat) : Core :=
  let x1 := { x with edges := x.edges + 1 }
  if x.prev.isSome then setTdc c ch x1
  else
    match takeStage ch x1 true false ns raw with
    | none => missStamp c ch x1
    | some (s, x2) => setTdc c ch { x2 with prev := some (s, x.edges), since := s }

/-- A qualifying stop in INTERVAL: the first one not below the start stamp (R240). -/
def stopEdge (c : Core) (ch : Nat) (x : Tdc) (ns raw : Nat) : Core :=
  let x1 := { x with stops := x.stops + 1 }
  match x.prev with
  | none => setTdc c ch x1
  | some (s0, n) =>
    match takeStage ch x1 true true ns raw with
    | none => missStamp c ch x1
    | some (s, x2) =>
      if s < s0 then setTdc c ch x2
      else pushResult (setTdc c ch { x2 with prev := none, since := s }) ch 2 0 n s0 (s - s0) s 8 true x.coldRef

/-- An edge at a MEASURING channel: hold-off, then the start or stop of its mode (R235, R238, R240). -/
def measureEdge (c : Core) (ch source : Nat) (rising : Bool) (ns raw : Nat) : Core :=
  let x := getTdc c ch
  let t := stampOf ch x.armTable (stageFor ch x source ns raw) ns raw
  let interval := x.cfg.mode == 2
  let isStart := source == x.cfg.start && source != 0
  let isStop := interval && source == x.cfg.stop && source != 0
  let awaitingStop := interval && x.prev.isSome
  let okStart := isStart && !heldOff x x.holdStart t
  let okStop := isStop && !heldOff x x.holdStop t
  let qStart := okStart && polarityOk (bits x.cfg.edge 0 2) rising
  let qStop := okStop && polarityOk (bits x.cfg.edge 2 2) rising
  let x1 := { x with
    holdStart := if okStart then some t else x.holdStart
    holdStop := if okStop then some t else x.holdStop
    coldEdge := if qStart || qStop then x.coldRef else x.coldEdge }
  let c1 := setTdc c ch x1
  if x.cfg.mode = 0 then c1
  else if !interval then (if qStart then seriesEdge c1 ch x1 ns raw else c1)
  else if awaitingStop then
    let x2 := if qStart then { x1 with edges := x1.edges + 1 } else x1
    if qStop then stopEdge c1 ch x2 ns raw else setTdc c1 ch x2
  else if qStart then startEdge c1 ch (if qStop then { x1 with stops := x1.stops + 1 } else x1) ns raw
  else if qStop then stopEdge c1 ch x1 ns raw
  else c1

/-! ## Shadow stamps (R189, R198, R246) -/

/-- Whether a loop-back edge of a source and polarity is of a path: data rises 0 to 7, data falls 8 to 15, enable on 16 and off 17;
source 0 stands for the strobe generators, A rising and B falling (log 51). -/
def pathMatches (source : Nat) (rising : Bool) (path : Nat) : Bool :=
  match source with
  | 3 => if rising then decide (path < 8) else decide (8 ≤ path ∧ path < 16)
  | 4 => path == (if rising then 16 else 17)
  | 0 => path == (if rising then 18 else 19)
  | _ => false

/-- Of the loop-back transitions a pin waits for, the one of an edge's paths that is placed nearest to an instant (R189). -/
def dueAt (x : Pin) (source : Nat) (rising : Bool) (t : Nat) : Option (Nat × Int) :=
  (x.due.filter (fun e => pathMatches source rising e.1)).foldl (fun best e => match best with
    | some b => if Int.natAbs (e.2 - (t : Int)) < Int.natAbs (b.2 - (t : Int)) then some e else best
    | none => some e) none

/-- Whether the filter has accepted a change of a comparator line to a level in a stamp-clock period (R163, R189). -/
def changeAccepted (x : Pin) (source : Nat) (rising : Bool) (ns : Nat) : Bool :=
  x.history.any (fun h => h.line == (if source = 1 then .high else .low) && h.level == rising && h.at_ / 4096 == ns)

/-- The place of an instant in its vector of the running descriptor: since the start of the vector, and since that of its slot (R151,
R198). -/
def slotPlace (x : Weaver) (d : SegDesc) (t : Nat) : Nat × Nat :=
  let p := (((t : Int) - x.gStart) % (max 1 d.period : Nat)).toNat
  (p, p - p * mulOf d / max 1 d.period * d.period / mulOf d)

/-- A stamped change joins the observed eye of a pin, if no loop-back transition was due in its vector (R189, R198). -/
def eyeStamp (c : Core) (p s : Nat) : Core :=
  let w := getW c (quadWeaver c (p / 4))
  match w.desc with
  | some d =>
    let (v, q) := slotPlace w d s
    let from_ : Int := (s : Int) - v
    if (getPin c p).passed.any (fun t => decide (from_ ≤ t) && decide (t < from_ + d.period)) then c
    else modPin c p (fun y => { y with eye := y.eye ++ [q] })
  | none => c

/-- An edge that the shadow selector passes to an IDLE pin channel in RUN or CALIBRATE: a loop-back transition gives a residual, an
accepted comparator change joins the observed eye; an edge that finds both stages busy is missed (R189, R198, R233). -/
def shadowEdge (c : Core) (p source : Nat) (rising : Bool) (ns raw : Nat) : Core :=
  let x := getPin c p
  let d := getTdc c p
  if 256 ≤ p ∨ rd c (pk p 9) ≠ 2 ∨ !inModes c [.run, .calibrate] then c
  else
    let due := dueAt x source rising (stampOf p d.table 0 ns raw)
    if due.isNone ∧ !((source == 1 || source == 2) && changeAccepted x source rising ns) then c
    else
      let c0 := match due with
        | some e => modPin c p (fun y => { y with due := y.due.erase e })
        | none => c
      match takeStage p { d with armTable := d.table } false false ns raw with
      | none => missStamp c0 p d
      | some (s, d1) =>
        let c1 := setTdc c0 p { d1 with armTable := d.armTable }
        match due with
        | some e => addResid c1 p e.1 ((s : Int) - e.2)
        | none => eyeStamp c1 p s

/-- TDC_EDGE: an edge at a source of a channel (R230, R232, R233, R235, R246). -/
def tdcEdgeAt (c : Core) (e : TdcEdge) : Core :=
  if !stampsRun c then c
  else
    let ch := e.ch.val
    let raw := e.raw.toNat
    let source := e.source.toNat
    let ns := nearInstant (c.stamp / 4096) (2 ^ 52) e.ns.toNat
    let c1 := elapseTo c (ns * 4096)
    if live c1 ch then
      let x := getTdc c1 ch
      let t := stampOf ch x.armTable (stageFor ch x source ns raw) ns raw
      let c2 := tdcDue c1 ch t
      if !live c2 ch ∨ t < (getTdc c2 ch).arm then c2 else measureEdge c2 ch source e.rising ns raw
    else if measuring c1 ch then c1
    else shadowEdge c1 ch source e.rising ns raw

/-- TDC_GATE_END: the gate of a MEASURING channel ends (R237). -/
def gateEnd (c : Core) (ch : Nat) : Core :=
  let x := getTdc c ch
  match gateAt x with
  | some g =>
    if !live c ch then c
    else
      match timeoutAt x with
      | some l => if l < g then c else endGate (elapseTo c g) ch
      | none => endGate (elapseTo c g) ch
  | none => c

/-- TDC_TIMEOUT: no awaited edge has come in time (R239). -/
def tdcTimedOut (c : Core) (ch : Nat) : Core :=
  let x := getTdc c ch
  match timeoutAt x with
  | some l => if !live c ch then c else tdcDue (elapseTo c l) ch l
  | none => c

/-! ## Code density (R249 to R252) -/

/-- CD_STATE of a channel: 0 FACTORY, 1 RUNNING, 2 MEASURED, 3 FAILED. -/
def setCdState (c : Core) (ch v : Nat) : Core := wr c (tdk ch 0x1F) v

/-- A code-density run starts on every channel (R249). -/
def startRun (c : Core) : Core :=
  let c1 := (List.range 264).foldl (fun c ch => modTdc (setCdState c ch 1) ch (fun x => { x with cdRunning := true })) c
  { wr c1 (tgk 3) 0 with cd := { c1.cd with running := true, coldRef := !refwarm c, started := true, generation := c1.cd.generation + 1, restart := false } }

/-- A write of CD_START (R249). -/
def writeCdStart (c : Core) : Written := guardSt (!c.cd.running) stStateConflict (.ok (startRun c))

/-- The first entry to WARM, CALIBRATE or RUN after a reset starts a run (R249). -/
def firstRun (c : Core) : Core := if c.cd.started ∨ !inModes c [.warm, .calibrate, .run] then c else startRun c

/-- CD_INTERVAL seconds have passed: a run starts unless one is in progress (R249). -/
def intervalRun (c : Core) : Core := if rd c (tgk 4) = 0 ∨ c.cd.running ∨ !inModes c [.warm, .calibrate, .run] then c else startRun c

/-- A REFCLK loss discards the partial hits; the run starts again when the stamp clock locks (R249). -/
def breakRun (c : Core) : Core := if c.cd.running then { c with cd := { c.cd with restart := true } } else c

/-- The stamp clock locks again: a run that was broken starts again for its channels that have no table yet (R249). -/
def resumeRun (c : Core) : Core := if c.cd.restart then { c with cd := { c.cd with restart := false, coldRef := !refwarm c } } else c

/-- map[k] from the hits (R250): 16 (sum of w_j for j < k, plus w_k / 2), with w = 4096 h / 2^21 = h / 512. -/
def mapFrom : List Nat → Nat → List Nat
  | [], _ => []
  | h :: hs, before => min 65535 (((2 * before + h) * 16 + 512) / 1024) :: mapFrom hs (before + h)

/-- Whether hits make a valid table: 4,096 codes, 2^21 hits, no width above 4 ticks, fewer than 64 empty codes (R250). -/
def hitsOk (l : List Nat) : Bool :=
  l.length == 4096 && l.sum == 2 ^ 21 && l.all (fun h => decide (h ≤ 2048)) && decide (l.countP (· == 0) < 64)

/-- TEMP_MC of a channel: its pin group's temperature, or for AUX channels the mean of all sensors (Table 8-7). -/
def cdTemp (c : Core) (ch : Nat) : Int :=
  if ch < 256 then tempOf c (ch / 16) else roundDiv ((List.range 16).map (tempOf c)).sum 16

/-- A table (Table 8-7). -/
def cdTable (c : Core) (ch : Nat) (a b : List Nat) : List Byte :=
  leBytes 4 (2 ^ 21) ++ leBytes 4 (ofSigned 32 (cdTemp c ch)) ++ leBytes 4 c.cd.generation ++ leBytes 4 (ofBool c.cd.coldRef)
    ++ leBytes 8 c.stamp ++ List.replicate 40 0 ++ (mapFrom a 0).flatMap (leBytes 2) ++ (mapFrom b 0).flatMap (leBytes 2)

/-- CD_TABLE_COMPLETE: a channel's hits are complete: its table is made, or fails (R249, R250). A MEASURING channel is paused. -/
def tableComplete (c : Core) (ch : Nat) (a b : List Nat) : Core :=
  let x := getTdc c ch
  if !x.cdRunning ∨ measuring c ch ∨ c.cd.restart ∨ !stampsRun c then c
  else
    let ok := hitsOk a && hitsOk b
    let x1 := { x with cdRunning := false, table := if ok then cdTable c ch a b else x.table }
    let c1 := setCdState (setTdc c ch x1) ch (if ok then 2 else 3)
    let c2 := if ok then c1 else raise c1 289 1 ch
    let c3 := wr c2 (tgk 3) (rd c2 (tgk 3) + 1)
    if (List.range 264).any (fun k => (getTdc c3 k).cdRunning) then c3 else { c3 with cd := { c3.cd with running := false } }

/-- RING_READ (R244, Table 8-8): from its value to RING_WRITE. -/
def writeRingRead (c : Core) (ch v : Nat) : Written :=
  guardSt (decide (rd c (tdk ch 0xF) ≤ v ∧ v ≤ rd c (tdk ch 0xE))) stOutOfRange (.ok (wr c (tdk ch 0xF) v))

end Sys2Proof.Machine
end

