-- ==== Sys2Proof/Machine/TimeBase.lean ====
section
/-!
DEFINITION. Sys2Proof/Machine/TimeBase.lean: the time bases, their sources and servo, the conversion of stamps, PTP, the crystal
keeper and the time pulse (14_time_bases.md R392 to R410; 13_withy_multidevice.md R375).
-/
namespace Sys2Proof.Machine

def modTb (c : Core) (t : Nat) (f : Tb → Tb) : Core := setTb c t (f (getTb c t))

/-- A signed 64-bit object. -/
def rdI64 (c : Core) (k : Key) : Int := toSigned 64 (rd c k)

/-- Set a signed 64-bit object; a value outside its format leaves a free value (log 60). -/
def wrI64 (c : Core) (k : Key) (i : Int) : Core :=
  if -(2 ^ 63) ≤ i ∧ i < 2 ^ 63 then wr c k (ofSigned 64 i) else freeUsed (wr c k (freeNow c % 2 ^ 64))

/-- Whether a time base follows a PTP port or a link (Table 14-2). -/
def tbSource (c : Core) (t : Nat) : Nat := rd c (tbk t 1)

/-- Whether the management core runs the servo of a time base (R396). -/
def underMgmt (c : Core) (t : Nat) : Bool := rd c (tbk t 2) == 1

/-- The source of a time base in the fault collector (Table 15-5). -/
def tbFault (t : Nat) : Nat := 297 + t

/-- LOCKED or FREE of a time base that is set and not in holdover (R400). -/
def refreshTb (c : Core) (t : Nat) : Core :=
  if tbState c t = 1 ∨ tbState c t = 2 then
    let x := getTb c t
    let locked := tbSource c t ≠ 0 ∧ x.measAt.isSome ∧ x.slew = 0 ∧ rd c (tbk t 0xA) = 0 ∧ (rdI64 c (tbk t 0xF)).natAbs ≤ 100 * 65536
    wr c (tbk t 3) (if locked then 2 else 1)
  else c

/-! ## Corrections (R395 to R398) -/

/-- A correction of `d` units of 2^-16 ns (R397): slewed, or refused into PENDING_STEP. -/
def correctTb (c : Core) (t : Nat) (d : Int) : Core :=
  if d.natAbs ≤ rd c (tbk t 9) * 65536 then
    refreshTb (modTb c t (fun x => { x with slew := d * 65536, carry := 0 })) t
  else
    let old := rd c (tbk t 0xA)
    let c1 := wrI64 c (tbk t 0xA) d
    let c2 := bump (wr c1 (tbk t 0xC) 1) (tbk t 0xD)
    let c3 := if old = 0 then raise c2 (tbFault t) 1 0 else c2
    refreshTb c3 t

/-- A write of SET (R395): loaded later where the time base is UNSET, else a correction. -/
def writeTbSet (c : Core) (t v : Nat) : Answer :=
  answer c
    (guardSt (bits v 16 32 < 1000000000) stOutOfRange
      (guardSt (!underMgmt c t) stStateConflict
        (if tbState c t = 0 then .ok (modTb c t (fun x => { x with setDue := some v }))
         else .ok (correctTb c t (((time96Val v : Int) - (getTb c t).val) / 65536)))))

/-- A write of ADJUST (R396, R397). -/
def writeTbAdjust (c : Core) (t v : Nat) : Answer :=
  answer c (guardSt (!underMgmt c t) stStateConflict (.ok (correctTb c t (toSigned 64 v))))

/-- A write of INCREMENT (R394, R396). -/
def writeTbIncrement (c : Core) (t v : Nat) : Answer :=
  answer c (guardSt (!underMgmt c t) stStateConflict (.ok (wr c (tbk t 6) v)))

/-- A write of FORCE (R398). -/
def writeTbForce (c : Core) (t : Nat) : Answer :=
  answer c (guardSt (rd c (tbk t 0xA) ≠ 0 && !(t ≤ 2 && tbState c t == 4)) stStateConflict
    (.ok (modTb c t (fun x => { x with forceDue := true }))))

/-- A write of SERVO_OWNER (R396). -/
def writeTbOwner (c : Core) (t v : Nat) : Answer :=
  (stOk, modTb (wr c (tbk t 2) v) t (fun x => { x with incLog := if v = 1 then [(c.time, rd c (tbk t 6))] else [] }))

/-- The sources Table 14-2 allows a time base. -/
def sourceAllowed (t v : Nat) : Bool :=
  v == 0 || ((v == 1 || v == 2) && (t == 1 || t == 2)) || (0x10 ≤ v && v ≤ 0x17 && t ≤ 2)

/-- A write of SOURCE: a change ends the old source's measurements (Table 14-3); a time base that now follows the host leaves
HOLDOVER_REF, since it reads FREE (R400). -/
def writeTbSource (c : Core) (t v : Nat) : Answer :=
  answer c (guardSt (sourceAllowed t v) stOutOfRange
    (if v = tbSource c t then .ok c
     else
       let c1 := modTb (wr c (tbk t 1) v) t (fun x => { x with measAt := none })
       .ok (refreshTb (if v = 0 ∧ tbState c t = 3 then wr c1 (tbk t 3) 1 else c1) t)))

/-! ## The pulse's boundaries (R405, R406) -/

/-- The value of a time base in whole ns. -/
def tbNs (c : Core) (t : Nat) : Nat := (getTb c t).val / 2 ^ 32

/-- The first boundary of the pulse after `last`, in ns. -/
def nextPulse (x : Tpulse) (last : Nat) : Nat :=
  if x.period = 0 then last + 1
  else x.phase % x.period + (last + x.period - x.phase % x.period) / x.period * x.period

/-- How many boundaries lie in (a, b]. -/
def pulsesIn (x : Tpulse) (a b : Nat) : Nat :=
  if x.period = 0 ∨ b < nextPulse x a then 0 else (b - nextPulse x a) / x.period + 1

/-- A time base has been stepped from a value in ns: the boundaries a forward step passed have no pulses, and TPULSE_SKIPPED
counts them (R406). -/
def pulseStepped (c : Core) (t old : Nat) : Core :=
  let x := c.tpulse
  if x.src ≠ t then c
  else
    let now := tbNs c t
    let from_ := max old (x.last.getD old)
    let c1 := bumpBy c (mkKey 0x6400 0x25) (pulsesIn x from_ now)
    { c1 with tpulse := { x with last := some (max now (x.last.getD 0)) } }

/-- A boundary of R395 and R398: a due SET is loaded, a due FORCE applies PENDING_STEP. -/
def applyTb (c : Core) (t : Nat) : Core :=
  let c1 := match (getTb c t).setDue with
    | some v =>
      let c0 := modTb c t (fun x => { x with val := time96Val v, phase := 0, slew := 0, carry := 0, setDue := none })
      let c1 := refreshTb (wr c0 (tbk t 3) 1) t
      if c1.tpulse.src = t then { c1 with tpulse := { c1.tpulse with last := some (tbNs c1 t) } } else c1
    | none => c
  let x := getTb c1 t
  if x.forceDue then
    let step := rdI64 c1 (tbk t 0xA) * 65536
    let c2 := setTb c1 t { x with val := ((x.val : Int) + step).toNat, slew := 0, carry := 0, forceDue := false }
    let c3 := bump (wr (wr c2 (tbk t 0xA) 0) (tbk t 0xC) 0) (tbk t 0xE)
    refreshTb (pulseStepped c3 t (x.val / 2 ^ 32)) t
  else c1

/-- CRYSTAL_SECOND: what applies at a crystal second of TB3 (R395, R398). -/
def crystalSecond (c : Core) : Core := applyTb c 3

/-- The latches of a boundary numbered `e` at stamp `b` (R401). -/
def latchTbs (c : Core) (e b : Nat) : Core :=
  let one := fun t => if tbState c t = 0 then none else some (getTb c t).val
  let c1 := { c with clk := { c.clk with latches := ((e, b, [0, 1, 2, 3].map one) :: c.clk.latches).take 1024 } }
  [0, 1, 2, 3].foldl (fun c t => if tbState c t = 0 then c else wr c (tbk t 0x11) (valTime96 (getTb c t).val)) c1

/-! ## Conversion (R401) -/

/-- A stamp of 64 bits on the unwrapped scale: the latest one that is not after now, where there is one. -/
def unwrapStamp (c : Core) (s : Nat) : Nat :=
  let a := c.stamp / 2 ^ 64 * 2 ^ 64 + s % 2 ^ 64
  if c.stamp < a ∧ 2 ^ 64 ≤ a then a - 2 ^ 64 else a

/-- The latch of the epoch that holds a stamp, and the latch after it; latches stand newest first. -/
def findLatch (s : Nat) : Option (Nat × Nat × List (Option Nat)) → List (Nat × Nat × List (Option Nat)) →
    Option ((Nat × Nat × List (Option Nat)) × Option (Nat × Nat × List (Option Nat)))
  | _, [] => none
  | nx, x :: r => if x.2.1 ≤ s then some (x, nx) else findLatch s (some x) r

/-- The latch of a time base in an entry. -/
def latchAt (x : Nat × Nat × List (Option Nat)) (t : Nat) : Option Nat := (x.2.2[t]?).join

/-- A stamp as time of a time base in 2^-16 ns, rounded (R401); `none` where the device holds no latch for it (log 61). -/
def stampTime (c : Core) (t s : Nat) : Except Status (Option Int) :=
  if c.stamp < s then .error stOutOfRange
  else
    match findLatch s none c.clk.latches with
    | none => if c.clk.latches.length < 1024 then .ok none else .error stOutOfRange
    | some (x, nx) =>
      match latchAt x t, nx with
      | none, _ => .ok none
      | some v, none => .ok (some (roundDiv ((v * 4096 + (s - x.2.1) * rd c (tbk t 6) : Nat) : Int) (2 ^ 28)))
      | some v, some y =>
        match latchAt y t with
        | some v' =>
          if y.1 = (x.1 + 1) % 2 ^ 48 ∧ x.2.1 < y.2.1 then
            let db := y.2.1 - x.2.1
            .ok (some (roundDiv ((v : Int) * db + ((s - x.2.1 : Nat) : Int) * ((v' : Int) - v)) (db * 65536)))
          else .ok none
        | none => .ok none

/-- A time in 2^-16 ns as TIME96. -/
def time96Of16 (v : Int) : Nat := valTime96 (v.toNat * 65536)

/-- TIME96 as a time in 2^-16 ns. -/
def of96To16 (v : Nat) : Int := ((time96Val v / 65536 : Nat) : Int)

/-- A write of CONV_STAMP (R401). -/
def writeConvStamp (c : Core) (t s : Nat) : Answer :=
  match stampTime c t (unwrapStamp c s) with
  | .error e => (e, c)
  | .ok r =>
    let c1 := wr c (tbk t 0x12) s
    match r with
    | some v => (stOk, wr c1 (tbk t 0x13) (time96Of16 v))
    | none => (stOk, freeUsed (wr c1 (tbk t 0x13) (freeNow c1 % 2 ^ 96)))

/-- The time of a stamp on a time base, where it can be had. -/
def timeAt (c : Core) (t s : Nat) : Option Int :=
  match stampTime c t (unwrapStamp c s) with
  | .ok r => r
  | .error _ => none

/-! ## Measurements and holdover (R396, R399, R400) -/

/-- The increments that still count in the last 60 s. -/
def pruneLog (now : Nat) : List (Nat × Nat) → List (Nat × Nat)
  | a :: b :: r => if b.1 + 60000000000 ≤ now then pruneLog now (b :: r) else a :: b :: r
  | l => l

/-- The weighted increments of a log up to now, and the time they cover. -/
def weighLog (now : Nat) : List (Nat × Nat) → Nat × Nat
  | [] => (0, 0)
  | (t, i) :: r =>
    let until_ := match r with
      | (u, _) :: _ => u
      | [] => now
    let w := until_ - max t (now - 60000000000)
    let (s, n) := weighLog now r
    (s + w * i, n + w)

/-- The mean increment of the last 60 s (R399, log 58). -/
def meanIncrement (c : Core) (t : Nat) : Nat :=
  let (s, n) := weighLog c.time (getTb c t).incLog
  if n = 0 then rd c (tbk t 6) else (roundDiv (s : Int) n).toNat

/-- The lowest INCREMENT (R394). -/
def incLow : Nat := 0xFFBE76C9

/-- The highest INCREMENT (R394). -/
def incHigh : Nat := 0x100418937

/-- The management servo at a measurement: INCREMENT, whose law the spec does not give, and a correction equal to
MEAS_OFFSET (R396, R397, log 58). -/
def servo (c : Core) (t : Nat) : Core :=
  if underMgmt c t then
    let inc := incLow + freeNow c % (incHigh - incLow + 1)
    let c1 := freeUsed (wr c (tbk t 6) inc)
    let c2 := modTb c1 t (fun x => { x with incLog := pruneLog c.time (x.incLog ++ [(c.time, inc)]) })
    correctTb c2 t (rdI64 c2 (tbk t 0xF))
  else c

/-- A source measurement: the source's time minus the time base, in 2^-16 ns (R396, R400). -/
def measureTb (c : Core) (t : Nat) (off : Int) : Core :=
  if tbState c t = 0 ∨ tbState c t = 4 then c
  else
    let c1 := modTb (wrI64 c (tbk t 0xF) off) t (fun x => { x with measAt := some c.time })
    let c2 := if tbState c t = 3 then wr c1 (tbk t 3) 1 else c1
    refreshTb (servo c2 t) t

/-- The longest time without a measurement, in ns (R399). -/
def lossTimeout (c : Core) (t : Nat) : Nat :=
  let s := tbSource c t
  if s = 1 ∨ s = 2 then rd c (mkKey (0x6480 + (s - 1)) 0xE) * 1000000 else 3000000

/-- Enter HOLDOVER_REF (R399). -/
def enterHoldRef (c : Core) (t : Nat) : Core :=
  let c1 := wr c (tbk t 3) 3
  let c2 := if underMgmt c t then wr c1 (tbk t 6) (meanIncrement c t) else c1
  raise c2 (tbFault t) 0 0

/-- HOLDOVER_TIMEOUT (R399). -/
def holdoverTimeout (c : Core) (t : Nat) : Core :=
  if (tbState c t = 1 ∨ tbState c t = 2) ∧ tbSource c t ≠ 0 then enterHoldRef c t else c

/-- REFCLK is lost: a set time base enters HOLDOVER_XTAL (R399). -/
def enterHoldXtal (c : Core) (t : Nat) : Core :=
  if tbState c t = 0 ∨ tbState c t = 4 then c else raise (wr c (tbk t 3) 4) (tbFault t) 0 0

/-- STAMP reads 1 again: a time base leaves HOLDOVER_XTAL, and enters HOLDOVER_REF where its source gives no measurement
(R400). -/
def leaveHoldXtal (c : Core) (t : Nat) : Core :=
  if tbState c t ≠ 4 then c
  else
    let heard := match (getTb c t).measAt with
      | some m => decide (c.time < m + lossTimeout c t)
      | none => false
    if tbSource c t ≠ 0 ∧ !heard then enterHoldRef c t else refreshTb (wr c (tbk t 3) 1) t

/-- SLEW_COMPLETE (R400). -/
def slewComplete (c : Core) (t : Nat) : Core := if (getTb c t).slew = 0 then refreshTb c t else c

/-! ## Time over the links (R375, R396) -/

/-- LINK_OFFSET of a link from its last exchanges (R375, log 57). -/
def linkOffset (c : Core) (l : Nat) : Int :=
  let x := (getLink c l).offsets
  let mean : Int := if x.isEmpty then 0 else roundDiv (x.foldl (· + ·) 0) x.length
  let asym := toSigned 32 (rd c (lk l 0xA))
  if asym = 0 then mean else mean + Config.asymTerm asym

/-- A difference of two stamps as a signed number (R232). -/
def stampDiff (a b : Nat) : Int := toSigned 64 ((a % 2 ^ 64) + 2 ^ 64 - b % 2 ^ 64)

/-- A TIME message: LINK_OFFSET from the exchange, then the measurements of the time bases that follow the link (R375, R396). -/
def timeMessage (c : Core) (l : Nat) (m : TimeMsg) : Core :=
  if !linkUp c l || !clockBit c 5 then c
  else
    let half := (stampDiff m.echoReceived.toNat m.echoSent.toNat + stampDiff m.senderStamp.toNat m.localStamp.toNat) / 2
    let known := m.echoSent.toNat ≠ 0 || m.echoReceived.toNat ≠ 0
    let c1 := modLink c l (fun x => { x with
      offsets := if known then (x.offsets ++ [half]).drop ((x.offsets.length + 1) - 1024) else x.offsets
      lastSent := m.senderStamp.toNat
      lastHeard := m.localStamp.toNat })
    let c2 := wrI64 c1 (lk l 9) (linkOffset c1 l)
    let local_ := ofSigned 64 ((m.senderStamp.toNat : Int) - rdI64 c2 (lk l 9))
    [(0, m.tb0, m.st0), (1, m.tb1, m.st1), (2, m.tb2, m.st2)].foldl (fun c (t, v, st) =>
      if tbSource c t = 0x10 + l ∧ st.toNat ≠ 0 ∧ st.toNat ≠ 4 then
        match timeAt c t local_ with
        | some own => measureTb c t (of96To16 v.toNat - own)
        | none => c
      else c) c2

/-- The body of a TIME message (log 30). -/
def timeBody (c : Core) (l : Nat) : List Byte :=
  let x := getLink c l
  leBytes 8 (c.stamp % 2 ^ 64) ++ leBytes 8 x.lastSent ++ leBytes 8 x.lastHeard ++
  [0, 1, 2].flatMap (fun t => leBytes 12 (valTime96 (getTb c t).val)) ++ [0, 1, 2].flatMap (fun t => leBytes 1 (tbState c t))

/-- TIME_EXCHANGE: each UP link sends a TIME message (R375). -/
def timeExchange (c : Core) : Core :=
  if !clockBit c 5 then c
  else (upLinks c).foldl (fun c l => sendSlots c l 0 (messageSlots 7 (deviceId c) (rd c (lk l 3) % 2 ^ 14) false 0 0 0 0 (timeBody c l))) c

/-! ## The crystal keeper (R404) -/

/-- The ageing term of TB3, recomputed once an hour (R404). -/
def ageingUpdate (c : Core) : Core :=
  let rate := toSigned 32 (rd c (tbk 3 0x14))
  let since : Int := ((getTb c 3).val : Int) - time96Val (rd c (tbk 3 0x15))
  let days := Int.tdiv since ((86400 * 1000000000 * 2 ^ 32 : Nat) : Int)
  let term := roundDiv ((rd c (tbk 3 6) : Int) * rate * days) (10 ^ 12)
  { modTb c 3 (fun x => { x with ageing := term }) with keeper := { c.keeper with lastHour := c.time } }

/-- XTAL_MEASUREMENT: a 1 s window against REFCLK has ended (R404). -/
def xtalMeasurement (c : Core) (ppb : Nat) : Core := if clockBit c 1 then wr c (tbk 3 0x16) ppb else c

/-! ## The time pulse (R405 to R407) -/

/-- Object `sub` of the time pulse (Table 14-4). -/
def tpk (sub : Nat) : Key := mkKey 0x6400 sub

/-- The source of the pulses where it drives them: one that is set (R405, R407). -/
def pulseSource (c : Core) : Option Nat :=
  if c.tpulse.src ≤ 3 ∧ tbState c c.tpulse.src ≠ 0 then some c.tpulse.src else none

/-- Take over the written settings: the next pulse falls at the first new boundary strictly after `from_` where the source
stays, else after the new source's present value (R407). -/
def takePulseSettings (c : Core) (from_ : Option Nat) : Core :=
  let src := rd c (tpk 0x20)
  let last := match from_ with
    | some b => if src = c.tpulse.src then b else tbNs c src
    | none => if src ≤ 3 then tbNs c src else 0
  { c with tpulse := { c.tpulse with src := src, period := rd c (tpk 0x21), phase := rd c (tpk 0x22), width := rd c (tpk 0x23), last := some last } }

/-- A write of a TPULSE object (R407): in effect after the next pulse, or at once where no source drives the pulse. -/
def writePulse (c : Core) (sub v : Nat) : Answer :=
  let lo := if sub = 0x23 then 100 else 0
  let hi := if sub = 0x22 then rd c (tpk 0x21) - 1 else if sub = 0x23 then rd c (tpk 0x21) / 2 else v
  answer c (guardSt (lo ≤ v && v ≤ hi || sub ≤ 0x21) stOutOfRange
    (let c1 := wr c (tpk sub) v
     .ok (if (pulseSource c).isNone then takePulseSettings c1 none else c1)))

/-- The stamp-scale instant at which a time base reached a boundary: within the stamp-clock cycle, at 1 tick (R405). -/
def pulseInstant (c : Core) (t b : Nat) : Nat :=
  if clockBit c 5 then c.stamp - ((getTb c t).val - b * 2 ^ 32) * 4096 / max 1 (tbIncrement c t) else c.stamp

/-- TPULSE_RISE: the source has reached the next boundary (R405 to R407). -/
def tpulseRise (c : Core) : Core :=
  match pulseSource c with
  | none => c
  | some t =>
    let b := nextPulse c.tpulse (c.tpulse.last.getD (tbNs c t))
    if c.tpulse.high ∨ tbNs c t < b then c
    else
      let c1 := { c with tpulse := { c.tpulse with high := true, last := some b } }
      let c2 := tallyEvent (bump c1 (tpk 0x24)) 0xE9
      takePulseSettings (emit c2 (.tpulse true (pulseInstant c t b))) (some b)

/-- TPULSE_FALL: TPULSE_WIDTH ns after the rise (R405). -/
def tpulseFall (c : Core) : Core :=
  if c.tpulse.high then emit { c with tpulse := { c.tpulse with high := false } } (.tpulse false c.stamp) else c

/-! ## PTP (R402, R403) -/

def getPtp (c : Core) (p : Nat) : PtpPort := mget {} c.ptps p
def setPtp (c : Core) (p : Nat) (x : PtpPort) : Core := { c with ptps := mset {} c.ptps p x }
def modPtp (c : Core) (p : Nat) (f : PtpPort → PtpPort) : Core := setPtp c p (f (getPtp c p))

/-- Object `sub` of PTP port p (Table 14-5). -/
def pk' (p sub : Nat) : Key := mkKey (0x6480 + p) sub

/-- The time base a port serves. -/
def ptpTb (c : Core) (p : Nat) : Nat := rd c (pk' p 2)

/-- A write of PTP_TB: two ports may not name one time base (R402). -/
def writePtpTb (c : Core) (p v : Nat) : Answer :=
  answer c (guardSt (rd c (pk' (1 - p) 2) ≠ v) stStateConflict (.ok (wr c (pk' p 2) v)))

/-- A write of PTP_ENABLE: an enabled port listens (4), a disabled one reads its default state. -/
def writePtpEnable (c : Core) (p v : Nat) : Answer :=
  if rd c (pk' p 1) = v then (stOk, c)
  else (stOk, setPtp (wr (wr c (pk' p 1) v) (pk' p 0xF) (if v = 1 then 4 else 1)) p {})

/-- Whether a port sends and receives PTP messages: over UDP it needs its address (R50, R77, R402). -/
def ptpRuns (c : Core) (p : Nat) : Bool :=
  rdb c (pk' p 1) && clockBit c 5 && portUp c p && (rd c (pk' p 5) == 2 || ipEnabled c p (rd c (pk' p 5) == 1))

/-- Whether a port takes a message: its domain and its transport (R402). -/
def ptpTakes (c : Core) (m : PtpMsg) : Bool :=
  let p := m.port.val
  ptpRuns c p && m.domain.toNat == rd c (pk' p 3) && m.transport.toNat == rd c (pk' p 5)
  && m.clockId != Config.clockIdentity m.port

/-- The correctionField in 2^-16 ns. -/
def ptpCorr (m : PtpMsg) : Int := toSigned 64 m.correction.toNat

/-- ASYMMETRY: delayAsymmetry in 2^-16 ns (R403). -/
def ptpAsym (c : Core) (p : Nat) : Int := rdI64 c (pk' p 0xD)

/-- The time of a stamp on the time base a port serves. -/
def ptpTime (c : Core) (p s : Nat) : Option Int := timeAt c (ptpTb c p) s

/-- Whether a message comes from the port's parent, while the port is a time receiver (states 8 and 9). -/
def fromParent (c : Core) (m : PtpMsg) : Bool :=
  let p := m.port.val
  (rd c (pk' p 0xF) == 8 || rd c (pk' p 0xF) == 9) && (getPtp c p).parent == some (m.clockId.toNat, m.sourcePort.toNat)

/-- Send a PTP message: kind is the messageType of the standard; the values are sequence, two-step flag, origin (TIME96), correction
(2^-16 ns, two's complement), and the identity asked for. -/
def sendPtp (c : Core) (p kind seq : Nat) (two : Bool) (origin : Nat) (corr : Int) (rest : List Nat) : Core :=
  emit c (.ptp p kind ([seq, ofBool two, origin, ofSigned 64 corr] ++ rest))

/-- The offset from the time receiver's computation: t1 corrected plus the mean delay, less the time base at t2 (R396). -/
def ptpMeasure (c : Core) (p : Nat) : Core :=
  let x := getPtp c p
  match x.syncPair, x.measured with
  | some (t1, s2), some _ =>
    let t := ptpTb c p
    match ptpTime c p s2 with
    | some t2 =>
      let c1 := wr c (pk' p 0xF) 9
      if tbSource c t = 1 + p then measureTb c1 t (toSigned 128 t1 + rdI64 c (pk' p 0x10) - t2) else c1
    | none => c
  | _, _ => c

/-- A Sync with its precise time is complete: `t1` is its corrected origin in 2^-16 ns. -/
def ptpSyncDone (c : Core) (p : Nat) (t1 : Int) (stamp : Nat) : Core :=
  ptpMeasure (modPtp c p (fun x => { x with sync := none, syncPair := some (ofSigned 128 t1, stamp) })) p

/-- PTP_SYNC (R402). -/
def ptpSync (c : Core) (m : PtpMsg) : Core :=
  let p := m.port.val
  if !ptpTakes c m || !fromParent c m then c
  else
    let corr := ptpCorr m + ptpAsym c p
    if m.twoStep then modPtp c p (fun x => { x with sync := some (m.sequence.toNat, m.stamp.toNat, ofSigned 128 corr, true) })
    else ptpSyncDone c p (of96To16 m.origin.toNat + corr) m.stamp.toNat

/-- PTP_FOLLOW_UP (R402). -/
def ptpFollowUp (c : Core) (m : PtpMsg) : Core :=
  let p := m.port.val
  if !ptpTakes c m || !fromParent c m then c
  else
    match (getPtp c p).sync with
    | some (seq, stamp, corr, _) =>
      if seq = m.sequence.toNat then ptpSyncDone c p (of96To16 m.origin.toNat + toSigned 128 corr + ptpCorr m) stamp else c
    | none => c

/-- A mean delay is measured; the first one completes the offset of the Sync in hand (log 56). -/
def ptpDelay (c : Core) (p : Nat) (d : Int) : Core :=
  let first := (getPtp c p).measured.isNone
  let c1 := modPtp (wrI64 c (pk' p 0x10) d) p (fun x => { x with measured := some c.time })
  if first ∧ (rd c (pk' p 0xF) = 8 ∨ rd c (pk' p 0xF) = 9) then ptpMeasure c1 p else c1

/-- PTP_DELAY_REQ: a time transmitter answers with the receipt time (R402). -/
def ptpDelayReq (c : Core) (m : PtpMsg) : Core :=
  let p := m.port.val
  if !ptpTakes c m || rd c (pk' p 0xF) ≠ 6 || rd c (pk' p 4) ≠ 0 then c
  else
    match ptpTime c p m.stamp.toNat with
    | some t4 => sendPtp c p 9 m.sequence.toNat false (time96Of16 t4) (ptpCorr m) [m.clockId.toNat, m.sourcePort.toNat]
    | none => c

/-- PTP_DELAY_RESP: the delay request-response mechanism (R402). -/
def ptpDelayResp (c : Core) (m : PtpMsg) : Core :=
  let p := m.port.val
  if !ptpTakes c m || !fromParent c m || rd c (pk' p 4) ≠ 0 || m.reqClockId != Config.clockIdentity m.port then c
  else
    let x := getPtp c p
    match x.delayReq, x.syncPair with
    | some (seq, s3), some (t1, s2) =>
      if seq ≠ m.sequence.toNat then c
      else
        match ptpTime c p s2, ptpTime c p s3 with
        | some t2, some t3 =>
          let d := ((t2 - toSigned 128 t1) + (of96To16 m.origin.toNat - ptpCorr m - t3)) / 2
          ptpDelay (modPtp c p (fun x => { x with delayReq := none })) p d
        | _, _ => c
    | _, _ => c

/-- PTP_PDELAY_REQ: answered in one step with the turnaround, or in two (R403). -/
def ptpPdelayReq (c : Core) (m : PtpMsg) : Core :=
  let p := m.port.val
  if !ptpTakes c m || rd c (pk' p 4) ≠ 1 then c
  else
    match ptpTime c p m.stamp.toNat, ptpTime c p (c.stamp % 2 ^ 64) with
    | some t2, some t3 =>
      let who := [m.clockId.toNat, m.sourcePort.toNat]
      if rd c (pk' p 6) = 1 then sendPtp c p 3 m.sequence.toNat false 0 (ptpCorr m + (t3 - t2)) who
      else
        let c1 := sendPtp c p 3 m.sequence.toNat true (time96Of16 t2) 0 who
        sendPtp c1 p 0xA m.sequence.toNat false (time96Of16 t3) (ptpCorr m) who
    | _, _ => c

/-- The mean link delay from a Pdelay exchange: the response's stamp, the turnaround and the corrections. -/
def pdelayDone (c : Core) (p s1 s4 : Nat) (turn : Int) : Core :=
  match ptpTime c p s1, ptpTime c p s4 with
  | some t1, some t4 =>
    ptpDelay (modPtp c p (fun x => { x with pdelayReq := none, pdelayResp := none })) p ((t4 - t1 - turn - ptpAsym c p) / 2)
  | _, _ => c

/-- PTP_PDELAY_RESP: the peer-to-peer mechanism (R402). -/
def ptpPdelayResp (c : Core) (m : PtpMsg) : Core :=
  let p := m.port.val
  if !ptpTakes c m || rd c (pk' p 4) ≠ 1 || m.reqClockId != Config.clockIdentity m.port then c
  else
    match (getPtp c p).pdelayReq with
    | some (seq, s1) =>
      if seq ≠ m.sequence.toNat then c
      else if m.twoStep then
        modPtp c p (fun x => { x with pdelayResp := some (seq, m.origin.toNat, m.stamp.toNat, ofSigned 128 (ptpCorr m)) })
      else pdelayDone c p s1 m.stamp.toNat (ptpCorr m)
    | none => c

/-- PTP_PDELAY_RESP_FOLLOW_UP (R402). -/
def ptpPdelayRespFollowUp (c : Core) (m : PtpMsg) : Core :=
  let p := m.port.val
  if !ptpTakes c m || rd c (pk' p 4) ≠ 1 || m.reqClockId != Config.clockIdentity m.port then c
  else
    match (getPtp c p).pdelayReq, (getPtp c p).pdelayResp with
    | some (seq, s1), some (seq', t2, s4, corr) =>
      if seq ≠ m.sequence.toNat ∨ seq' ≠ seq then c
      else pdelayDone c p s1 s4 (of96To16 m.origin.toNat - of96To16 t2 + toSigned 128 corr + ptpCorr m)
    | _, _ => c

/-- The dataset of an Announce: priority 1, quality, priority 2, steps, grandmaster, sender. -/
def announceData (m : PtpMsg) : List Nat :=
  [m.priority1.toNat, m.quality.toNat, m.priority2.toNat, m.steps.toNat, m.gmId.toNat, m.clockId.toNat * 65536 + m.sourcePort.toNat]

/-- The own dataset of a port. -/
def ownData (c : Core) (p : Nat) : List Nat :=
  [rd c (pk' p 8), Config.ptpQuality.toNat, rd c (pk' p 9), 0, (Config.clockIdentity (Fin.ofNat 2 p)).toNat]

/-- Whether one dataset is better than another: by priority 1, quality, priority 2 and grandmaster; for one grandmaster by the fewer
steps, then by the lower identity of the sender (log 56). -/
def betterData (a b : List Nat) : Bool :=
  let k := fun (l : List Nat) => (l.getD 0 0 * 2 ^ 32 + l.getD 1 0) * 2 ^ 72 + l.getD 2 0 * 2 ^ 64 + l.getD 4 0
  if a.getD 4 0 ≠ b.getD 4 0 then decide (k a < k b)
  else if a.getD 3 0 ≠ b.getD 3 0 then decide (a.getD 3 0 < b.getD 3 0)
  else decide (a.getD 5 0 < b.getD 5 0)

/-- A port follows a parent: UNCALIBRATED until its first offset. -/
def followParent (c : Core) (p : Nat) (who : Nat × Nat) : Core :=
  let same := (getPtp c p).parent == some who && (rd c (pk' p 0xF) == 8 || rd c (pk' p 0xF) == 9)
  if same then c
  else wr (modPtp c p (fun x => { x with parent := some who, sync := none, syncPair := none, delayReq := none, measured := none })) (pk' p 0xF) 8

/-- A port follows no parent, in a state of the standard. -/
def leaveParent (c : Core) (p state : Nat) : Core :=
  wr (modPtp c p (fun x => { x with parent := none, sync := none, syncPair := none, delayReq := none, measured := none })) (pk' p 0xF) state

/-- The window in which a foreign time transmitter must be heard twice: four announce intervals, in ns (log 56). -/
def foreignWindow (c : Core) (p : Nat) : Nat := 4 * 2 ^ rd c (pk' p 0xB) * 1000000000

/-- Whether a foreign time transmitter counts: the parent, or one heard twice in the window, with fewer than 255 steps (log 56). -/
def foreignQualified (c : Core) (p : Nat) (f : ForeignMaster) : Bool :=
  decide (f.data.getD 3 0 < 255) && ((getPtp c p).parent == some f.who
    || 2 ≤ (f.heard.filter (fun t => decide (c.time < t + foreignWindow c p))).length)

/-- The best of the foreign time transmitters of a port that count. -/
def foreignBest (c : Core) (p : Nat) : Option ForeignMaster :=
  ((getPtp c p).foreign.filter (foreignQualified c p)).foldl (fun (b : Option ForeignMaster) f =>
    match b with
    | some x => if betterData f.data x.data then some f else b
    | none => some f) none

/-- The clock class of the own quality. -/
def ownClass : Nat := Config.ptpQuality.toNat / 2 ^ 24

/-- The state decision of an ordinary clock (R402, log 56): slave-only, it follows the best; else it is time transmitter (6) where its own
dataset is better, and where it is not, PASSIVE (7) with a clock class of 1 to 127, else a receiver of the best. -/
def decidePort (c : Core) (p : Nat) : Core :=
  match foreignBest c p with
  | none => c
  | some f =>
    if rdb c (pk' p 7) then followParent c p f.who
    else if betterData (ownData c p) f.data then (if rd c (pk' p 0xF) = 6 then c else leaveParent c p 6)
    else if 1 ≤ ownClass ∧ ownClass ≤ 127 then leaveParent c p 7
    else followParent c p f.who

/-- PTP_ANNOUNCE: the sender is noted among the foreign time transmitters, and the best master clock algorithm decides (R402, log 56). -/
def ptpAnnounce (c : Core) (m : PtpMsg) : Core :=
  let p := m.port.val
  if !ptpTakes c m then c
  else
    let who := (m.clockId.toNat, m.sourcePort.toNat)
    let old := (getPtp c p).foreign.find? (fun f => f.who == who)
    let heard := match old with
      | some f => c.time :: f.heard.take 1
      | none => [c.time]
    let f : ForeignMaster := { who := who, data := announceData m, heard := heard }
    decidePort (modPtp c p (fun x => { x with foreign := f :: x.foreign.filter (fun g => g.who != who) })) p

/-- A time transmitter sends Sync, in one step or with a Follow_Up (R403). -/
def sendSync (c : Core) (p : Nat) : Core :=
  match ptpTime c p (c.stamp % 2 ^ 64) with
  | some t1 =>
    let seq := (getPtp c p).seqSync % 65536
    let c1 := modPtp c p (fun x => { x with seqSync := x.seqSync + 1 })
    if rd c (pk' p 6) = 1 then sendPtp c1 p 0 seq false (time96Of16 (t1 / 65536 * 65536)) (t1 % 65536) []
    else sendPtp (sendPtp c1 p 0 seq true 0 0 []) p 8 seq false (time96Of16 (t1 / 65536 * 65536)) (t1 % 65536) []
  | none => c

/-- A delay request leaves: Delay_Req of a time receiver, or Pdelay_Req (R402, R403). -/
def sendDelayReq (c : Core) (p : Nat) : Core :=
  let seq := (getPtp c p).seqDelay % 65536
  let at_ := c.stamp % 2 ^ 64
  let c1 := modPtp c p (fun x => { x with seqDelay := x.seqDelay + 1 })
  if rd c (pk' p 4) = 1 then
    sendPtp (modPtp c1 p (fun x => { x with pdelayReq := some (seq, at_), pdelayResp := none })) p 2 seq false 0 (-(ptpAsym c p)) []
  else if rd c (pk' p 0xF) = 8 ∨ rd c (pk' p 0xF) = 9 then
    sendPtp (modPtp c1 p (fun x => { x with delayReq := some (seq, at_) })) p 1 seq false 0 (-(ptpAsym c p)) []
  else c

/-- PTP_MESSAGE_TIMER: a message interval of a port expires (R402). -/
def ptpMessageTimer (c : Core) (p : Nat) (k : PtpTimer) : Core :=
  if !ptpRuns c p then c
  else
    match k with
    | .sync => if rd c (pk' p 0xF) = 6 then sendSync c p else c
    | .announce =>
      if rd c (pk' p 0xF) = 6 then
        let seq := (getPtp c p).seqAnnounce % 65536
        sendPtp (modPtp c p (fun x => { x with seqAnnounce := x.seqAnnounce + 1 })) p 0xB seq false 0 0 (ownData c p)
      else c
    | .delayReq => sendDelayReq c p
    | .announceReceipt =>
      if rd c (pk' p 0xF) = 6 then c
      else
        let gone := (getPtp c p).parent
        leaveParent (modPtp c p (fun x => { x with foreign := x.foreign.filter (fun f => some f.who != gone) })) p (if rdb c (pk' p 7) then 4 else 6)

end Sys2Proof.Machine
end

