-- ==== Sys2Proof/Machine/Images.lean ====
section
/-!
DEFINITION. Sys2Proof/Machine/Images.lean: the images in the eMRAM slots and what makes one valid
(16_modes_power_boot.md R448, Tables 16-6 and 16-8).
-/
namespace Sys2Proof.Machine

/-- The objects of an image kind (Table 16-8). -/
def imk (k : ImageKind) (sub : Nat) : Key := mkKey (match k with | .firmware => 0x8800 | .microcode => 0x8000) sub

/-- The place of a slot's image: kind and slot. -/
def slotKey (k : ImageKind) (s : Nat) : Nat := (match k with | .firmware => 0 | .microcode => 2) + s

/-- The image in a slot; a slot that nothing was installed to holds the factory image (log 6). -/
def slotImage (c : Core) (k : ImageKind) (s : Nat) : List Byte := (mfind c.mode.slots (slotKey k s)).getD (Config.factoryImage k s)

/-- The largest payload of a kind (Table 16-6). -/
def imageMax : ImageKind → Nat
  | .firmware => 2 * 1024 * 1024
  | .microcode => 256 * 1024

/-- VERSION of an image. -/
def imageVersion (l : List Byte) : Nat := leAt l 8 4

/-- COMPAT_LEVEL of an image. -/
def imageLevel (l : List Byte) : Nat := leAt l 6 2

/-- Whether an image is valid (R448). -/
def imageValid (c : Core) (k : ImageKind) (l : List Byte) : Bool :=
  let n := leAt l 12 4
  let key := leAt l 5 1
  let kindCode := match k with | .firmware => 1 | .microcode => 2
  decide (256 ≤ l.length) && leAt l 0 4 == 0x5A54494D && leAt l 4 1 == kindCode && decide (n % 64 = 0) && decide (n ≤ imageMax k) &&
  decide (l.length = 256 + n) && decide (key ≤ 3) && !Config.keyRevoked key && decide (rd c (imk k 7) ≤ imageVersion l) &&
  sha384 (l.drop 256) == slice l 16 48 &&
  ecdsaVerify (Config.fusedKey key) (sha384 (l.take 160)) (ofBe (slice l 160 48)) (ofBe (slice l 208 48))

/-- SLOT0_VERSION and SLOT1_VERSION: 0 for an invalid image. -/
def slotVersion (c : Core) (k : ImageKind) (s : Nat) : Nat :=
  let l := slotImage c k s
  if imageValid c k l then imageVersion l else 0

end Sys2Proof.Machine
end

