-- ==== Sys2Proof/Machine/Micro.lean ====
section
/-!
DEFINITION. Sys2Proof/Machine/Micro.lean: the micro-machine of a Weaver: registers, operations, windows, dispatch,
the vendor microprograms, timers and parity (04_microcode.md R118 to R141).
-/
namespace Sys2Proof.Machine

/-! ## State of the micro-machine -/

/-- Change the micro-machine of a Weaver. -/
def modM (c : Core) (w : Nat) (f : Micro → Micro) : Core := modW c w (fun x => { x with micro := f x.micro })

/-- Whether a Weaver runs ZH64 programs (R138). -/
def nanoMode (c : Core) (w : Nat) : Bool := rdb c (wk w 0xC)

/-- The active control-store bank (R118). -/
def activeCs (c : Core) (w : Nat) : CsBank := if rd c (wk w 0xD) = 0 then (getW c w).bankA else (getW c w).bankB

/-- D: the micro-cycles of a window (R86). -/
def windowCycles (x : Weaver) : Nat :=
  match x.desc with
  | some d => 64 * d.period / 4096 - 2
  | none => 0

/-- The tick at which the window opens (R124). -/
def windowOpenTick (x : Weaver) : Nat := (x.gStart + 4095) / 4096 * 4096

/-- `n` micro-cycles of the window pass. -/
def spend (c : Core) (w n : Nat) : Core :=
  let c1 := modM c w (fun x => { x with cycles := x.cycles + n })
  let x := getW c1 w
  elapseTo c1 (windowOpenTick x + 4096 * x.micro.cycles)

/-- Vectors of the segment emitted by the present micro-cycle (Table 4-3 VEC); in a hold granule the segment has emitted all of
its granules. -/
def vecReg (x : Weaver) : Nat :=
  match x.desc with
  | some d => if x.inHold then 64 * (x.e + 1) else 64 * x.e + (if d.period = 0 then 0 else min 64 ((windowOpenTick x + 4096 * x.micro.cycles - x.gStart) / d.period))
  | none => 0

/-- A counter as a register reads it (Table 4-3): value in [17:0], active in [63]. -/
def ctrReg (x : Ctr) : Nat := x.value + (if x.active then 2 ^ 63 else 0)

/-- The loop counter the instruction names: its LC field, or LC0 and LC1 for HLPA and HLPB (Table 4-14). -/
def lcNumber (nano : Bool) (iw : Nat) : Nat := if nano then (if hwHop iw = 5 then 1 else 0) else iwLc iw

/-- TARGET, COUNT, the high and the low part of the instruction word (Tables 4-3, 4-13). -/
def iwFields (nano : Bool) (iw : Nat) : Nat × Nat × Nat × Nat :=
  if nano then (hwTarget iw, hwCount iw, hwHigh iw, bits iw 0 14) else (iwTarget iw, iwCount iw, iwHigh iw, bits iw 0 20)

/-- The value of a micro-register (Table 4-3). -/
def regRead (c : Core) (w r : Nat) : Nat :=
  let x := getW c w
  let (tgt, cnt, hi, lo) := iwFields (nanoMode c w) x.micro.iw
  match r with
  | 1 => x.k
  | 2 => x.micro.nxt
  | 3 => tgt
  | 4 => cnt
  | 5 => hi
  | 6 => lo
  | 7 => failsReg c w
  | 8 => matchlReg c w
  | 9 => sitesReg c w
  | 10 => vecReg x
  | 11 => epochNow c
  | 12 => x.stack.length
  | 13 => ctrReg x.rc
  | 14 => ctrReg x.mc
  | 15 => ctrReg (mget {} x.lc (lcNumber (nanoMode c w) x.micro.iw))
  | _ => if r < 16 then 0 else if r < 24 then mget 0 x.micro.mt (r - 16) else mget 0 x.micro.g (r - 24)

/-- Write a micro-register: NXT, a micro-timer (R133) or a general register; others keep their value. -/
def regWrite (c : Core) (w r v : Nat) : Core :=
  let v := v % 2 ^ 64
  if r = 2 then modM c w (fun x => { x with nxt := v })
  else if 16 ≤ r ∧ r < 24 then modM c w (fun x => { x with mt := mset 0 x.mt (r - 16) (v % 2 ^ 40) })
  else if 24 ≤ r ∧ r < 32 then modM c w (fun x => { x with g := mset 0 x.g (r - 24) v })
  else c

/-- Set flag T. -/
def setT (c : Core) (w : Nat) (b : Bool) : Core := modM c w (fun x => { x with t := b })

/-- The counter a CSTEP or CCLR names (R128). -/
def ctrOf (c : Core) (w a : Nat) : Ctr :=
  let x := getW c w
  if a = 0 then x.rc else if a = 1 then x.mc
  else mget {} x.lc (if a = 2 then lcNumber (nanoMode c w) x.micro.iw else a - 8)

/-- Set the counter a CSTEP or CCLR names. -/
def setCtr (c : Core) (w a : Nat) (v : Ctr) : Core :=
  let n := if a = 2 then lcNumber (nanoMode c w) (getW c w).micro.iw else a - 8
  modW c w (fun x => if a = 0 then { x with rc := v } else if a = 1 then { x with mc := v } else { x with lc := mset {} x.lc n v })

/-! ## Ends of a microprogram -/

/-- An instruction that R87 calls illegal: safe stop at the end of its granule. -/
def illegalInstr (c : Core) (w : Nat) : Core :=
  let c1 := modM c w (fun x => { x with phase := .ended, handler := none })
  requestStop c1 w 2 (granuleEndOf (getW c w))

/-- An illegal microword abandons the microprogram (R129); its fault source is raised with the stop. -/
def illegalWord (c : Core) (w : Nat) : Core :=
  let c1 := modM c w (fun x => { x with phase := .abandoned, handler := none })
  requestStop c1 w 2 (granuleEndOf (getW c w))

/-- The window has run out (R86). -/
def overrun (c : Core) (w : Nat) : Core :=
  let c1 := modM c w (fun x => { x with phase := .ended, handler := none })
  requestStop c1 w 4 (granuleEndOf (getW c w))

/-- A machine check at an item (R136): 0 control word, 1 dispatch, 2 timer, 3 nano-word. -/
def machineCheck (c : Core) (w item addr : Nat) : Core :=
  let loc := addr % 65536 + item % 4 * 65536 + rd c (wk w 0xD) * 2 ^ 18
  let c1 := wr (wr c (wk w 0x16) loc) (wk w 0x17) 1
  let c2 := modM c1 w (fun x => { x with phase := .ended, handler := none })
  let c3 := raise c2 (128 + w) 2 loc
  requestStop c3 w 9 (nextVector (getW c3 w) c3.stamp)

/-! ## Operations (R127, R128) -/

/-- Where a word leads. -/
inductive Ctl where
  | next
  | branch (upc : Nat)
  | finish
  | illegal
  deriving DecidableEq, Repr

/-- The present level of an edge detector's source (Table 4-9); a reserved kind reads low. -/
def edgeLevel (c : Core) (w src : Nat) : Bool :=
  let s := bits src 8 3
  let i := bits src 0 8
  match bits src 12 4 with
  | 1 => match sitePin c w s i with | some p => (getPin c p).sampleH | none => false
  | 2 => match sitePin c w s i with | some p => (getPin c p).sampleL | none => false
  | 3 => bit (mget 0 (getW c w).latch (mselOf c w)) s
  | 4 => bit (getW c w).acc s
  | 5 => bit c.mode.trgi (i % 4)
  | 6 => (getW c w).mto
  | _ => false

/-- CSTEP (R128). -/
def opCstep (c : Core) (w a load : Nat) : Core × Ctl :=
  let x := ctrOf c w a
  let k := (getW c w).k
  if x.active ∧ x.owner ≠ k then (c, .illegal)
  else
    let (y, t) := stepCtr x load k
    (setT (setCtr c w a y) w t, .next)

/-- MTOUT: MTO is set, sites whose latch is clear get a MATCH_TIMEOUT record, MC and the latches are cleared (R91). -/
def opMtout (c : Core) (w : Nat) : Core :=
  let x := getW c w
  let sites := clearBits (sitesReg c w) (matchlReg c w)
  let (tgt, _, _, _) := iwFields (nanoMode c w) x.micro.iw
  let q : QueuedRec := { kind := 3, value := tgt, sites := sites }
  sampleMto (setW c w { x with mto := true, mc := {}, latch := [], recq := if x.inHold ∨ sites = 0 then x.recq else x.recq ++ [q] }) w

/-- STAIL: TAIL for this granule (R99, R100). -/
def opStail (c : Core) (w : Nat) : Core :=
  let x := getW c w
  if x.inHold ∨ x.tailed then c
  else
    let c1 := setW c w { x with tailed := true }
    if x.e ≤ 12 then requestStop c1 w 5 (granuleEndOf x) else c1

/-- The value that an operation of 0x04 to 0x0F writes into register A, if it writes (Table 4-6). -/
def aluValue (c : Core) (w : Nat) (mw : MicroWord) : Option Nat :=
  let a := regRead c w mw.a
  let b := regRead c w mw.b
  let sh := mw.imm % 64
  match mw.op with
  | 0x04 => some b
  | 0x05 => if (getW c w).micro.t then some b else none
  | 0x06 => some mw.imm
  | 0x07 => some ((a * 1024) ||| mw.imm)
  | 0x08 => some (a + b)
  | 0x09 => some (a + 2 ^ 64 - b)
  | 0x0A => some (ofSigned 64 ((a : Int) + sextImm mw.imm))
  | 0x0B => some (a &&& b)
  | 0x0C => some (a ||| b)
  | 0x0D => some (a ^^^ b)
  | 0x0E => some (a * 2 ^ sh)
  | 0x0F => some (a / 2 ^ sh)
  | _ => none

/-- The value that a test of 0x10 to 0x13 gives T (Table 4-6). -/
def testValue (c : Core) (w : Nat) (mw : MicroWord) : Option Bool :=
  let a := regRead c w mw.a
  match mw.op with
  | 0x10 => some (a == regRead c w mw.b)
  | 0x11 => some (decide (a < regRead c w mw.b))
  | 0x12 => some (bit a (mw.imm % 64))
  | 0x13 => some (condHolds c w mw.a)
  | _ => none

/-- Put what an operation of 0x04 to 0x13 computed into the state: register A, T, and MTO that TST MTOC clears. -/
def putValues (c : Core) (w : Nat) (mw : MicroWord) (v : Option Nat) (t : Option Bool) : Core :=
  let c1 := match v with
    | some v => regWrite c w mw.a v
    | none => c
  let c2 := match t with
    | some t => setT c1 w t
    | none => c1
  if mw.op = 0x13 ∧ mw.a = 8 then sampleMto (modW c2 w (fun x => { x with mto := false })) w else c2

/-- OPB of a nano-word executes in the cycle of OPA: it reads the state `c1` before that cycle and writes after it (R140). -/
def applySecond (c1 c2 : Core) (w : Nat) (mw : MicroWord) : Core := putValues c2 w mw (aluValue c1 w mw) (testValue c1 w mw)

/-- The effect of one operation, its wait over (Table 4-6). -/
def applyOp (c : Core) (w : Nat) (mw : MicroWord) : Core × Ctl :=
  let b := regRead c w mw.b
  let x := getW c w
  match mw.op with
  | 0x00 => (c, .next)
  | 0x01 => if x.micro.handler.isSome then (c, .illegal) else (c, .finish)
  | 0x02 => if x.micro.handler.isNone then (c, .illegal) else (c, .finish)
  | 0x14 => (c, if condHolds c w mw.a then .branch ((x.micro.upc : Int) + sextImm mw.imm).toNat else .next)
  | 0x15 => (c, .branch (b % 2 ^ 13))
  | 0x16 => opCstep c w mw.a (b % 2 ^ 18)
  | 0x17 => (setCtr c w mw.a {}, .next)
  | 0x18 => if x.stack.length = 16 then (c, .illegal) else (setW c w { x with stack := x.stack ++ [b % 2 ^ 26] }, .next)
  | 0x19 =>
    match x.stack.getLast? with
    | some v => (regWrite (setW c w { x with stack := x.stack.dropLast }) w mw.a v, .next)
    | none => (c, .illegal)
  | 0x1A => (opStail c w, .next)
  | 0x1B => (setW c w { x with acc := 0 }, .next)
  | 0x1C => (setW c w { x with mc := {}, latch := [] }, .next)
  | 0x1D => (opMtout c w, .next)
  | 0x1E => (setW c w { x with off := x.off ||| (b % 256) }, .next)
  | 0x1F => if b % 2 ^ 16 = 0 then (c, .illegal) else (setW c w { x with lists := x.lists ++ [b % 2 ^ 16] }, .next)
  | 0x20 =>
    if x.inHold then (c, .next)
    else (setW c w { x with recq := x.recq ++ [{ kind := 4 + mw.a, value := b % 2 ^ 44, sites := sitesReg c w }] }, .next)
  | 0x21 => (setW c w { x with trgo := x.trgo ||| (b % 256) }, .next)
  | 0x22 =>
    let src := b % 2 ^ 16
    (setW c w { x with eds := mset {} x.eds mw.a { src := src, edge := mw.imm % 4, last := edgeLevel c w src, flag := false } }, .next)
  | 0x23 => (setT c w (mget {} x.eds mw.a).flag, .next)
  | 0x24 => (setW c w { x with eds := mmod {} x.eds mw.a (fun e => { e with flag := e.flag && e.edgeAt == some c.time }) }, .next)
  | op => if 4 ≤ op ∧ op ≤ 0x13 then (putValues c w mw (aluValue c w mw) (testValue c w mw), .next) else (c, .illegal)

/-! ## Words and programs -/

/-- The micro-cycles a WAIT condition still takes, where they are known; none while only an event from outside the
window could meet it (R125). -/
def waitCycles (c : Core) (w code : Nat) : Option Nat :=
  let x := getW c w
  if waitMet c w code then some 0
  else match code with
    | 3 => (List.range (windowCycles x)).find? (fun n => vectorStarts x (x.micro.cycles + n))
    | 4 => (x.micro.mt.map Prod.snd).foldl (fun o v => match o with | some u => some (min u v) | none => some v) none
    | _ => none

/-- The stall of a word: PECQ and REC wait for room without a WAIT code (R125). -/
def stallFor (c : Core) (w : Nat) (mw : MicroWord) : Option Nat :=
  let x := getW c w
  if (mw.op = 0x1F ∧ ¬ pecFree x) ∨ (mw.op = 0x20 ∧ ¬ recFree x) then none else waitCycles c w mw.wait

/-- The native instruction a ZH64 opcode behaves as (Table 4-14); 0x10 for the illegal ones. -/
def nativeOf (hop : Nat) : Nat :=
  match hop with
  | 4 | 5 => 4
  | 6 => 5
  | 7 => 6
  | 8 => 7
  | 9 => 8
  | 0xA => 9
  | 0xB => 0xB
  | 0xC => 0xD
  | 0xD => 0xE
  | n => if n < 4 then n else 0x10

/-- The native opcode of the window's instruction. -/
def opNow (c : Core) (w : Nat) : Nat :=
  let iw := (getW c w).micro.iw
  if nanoMode c w then nativeOf (hwHop iw) else iwOpcode iw

/-- The control word at an address of the active bank; a word never loaded reads 0 (R121). -/
def csWord (c : Core) (w a : Nat) : Nat := mget 0 (activeCs c w).words a

/-- The dispatch entry of an opcode, and the timer entry of a micro-timer, in the active bank (R118). -/
def dispatchEntry (c : Core) (w i : Nat) : Nat := mget 0x8000 (activeCs c w).dispatch i
def timerEntry (c : Core) (w n : Nat) : Nat := mget 0x8000 (activeCs c w).timers n

/-- The region of an address: the vendor or the user region (R119), or the short words of the vendor region (R139). -/
def csRegion (nano : Bool) (a : Nat) : Nat × Nat := if nano then (0, 12287) else if 0x1800 ≤ a then (0x1800, 0x1FFF) else (0, 0x17FF)

/-- An item of the control store is read (R136): 0 control word, 1 dispatch entry, 2 timer entry, 3 nano-word.  A parity error
costs 2 micro-cycles for the re-read; if that passes execution goes on, else the Weaver takes a machine check.  Answers whether
execution goes on. -/
def readItem (c : Core) (w item addr : Nat) (stored : Bool) : Core × Bool :=
  match (getW c w).micro.upset with
  | some u =>
    if u.item.toNat = item ∧ u.address.toNat = addr then
      let c1 := spend (modM c w (fun x => { x with upset := none })) w 2
      if stored ∧ u.rereadOk then (raise (bump c1 (wk w 0x15)) (64 + w) 1 addr, true) else (machineCheck c1 w item addr, false)
    else if stored then (c, true) else (machineCheck (spend c w 2) w item addr, false)
  | none => if stored then (c, true) else (machineCheck (spend c w 2) w item addr, false)

/-- The step at the present address: a microword, or the nano-word that the short word there names, with its modifier (R121, R139,
R140); none where a machine check ends the program. -/
def fetchStep (c : Core) (w : Nat) : Core × Option NanoWord :=
  let a := (getW c w).micro.upc
  if nanoMode c w then
    let v := csWord c w (a / 2)
    let (c1, ok) := readItem c w 0 (a / 2) (wordGood v)
    if !ok then (c1, none)
    else
      let short := bits v (16 * (a % 2)) 16
      let n := mget 0 (getW c w).nano (bits short 0 10)
      let (c2, ok2) := readItem c1 w 3 (bits short 0 10) (nanoGood n)
      (c2, if ok2 then some (modified (decodeNano n) (bits short 10 6)) else none)
  else
    let v := csWord c w a
    let (c1, ok) := readItem c w 0 a (wordGood v)
    (c1, if ok then some (plainStep (decodeMicro v)) else none)

/-- DONE ends the instruction; a NXT outside the image makes the stop cause ILLEGAL_INSTR (R126). -/
def finishInstr (c : Core) (w : Nat) : Core :=
  let x := getW c w
  let c1 := modM c w (fun y => { y with phase := .ended, prog := false })
  match x.desc with
  | some d => if d.imageGranules ≤ x.micro.nxt then requestStop c1 w 2 (granuleEndOf x) else c1
  | none => c1

/-- Where a step leads once its operations are done (R126, R140): what OPA says, else the branch, else SEQ (log 24). -/
def stepCtl (c : Core) (w : Nat) (s : NanoWord) (ctl : Ctl) : Ctl :=
  if ctl ≠ .next then ctl
  else if s.ben ∧ condHolds c w s.bcond then .branch s.btarget
  else if s.seq = 1 then (if (getW c w).micro.handler.isSome then .illegal else .finish)
  else if s.seq = 2 then (if (getW c w).micro.handler.isNone then .illegal else .finish)
  else .next

/-- Run one step of the present program (R125, R127, R129, R140): it stays suspended while only an event from outside could
meet its condition. -/
def runStep (c : Core) (w : Nat) (s : NanoWord) : Core :=
  let x := getW c w
  let (lo, hi) := csRegion (nanoMode c w) x.micro.upc
  if stepIllegal s x.micro.upc lo hi then illegalWord c w
  else match stallFor c w s.opa with
    | none => modM c w (fun y => { y with stalled := true })
    | some n =>
      if windowCycles x ≤ x.micro.cycles + n then overrun c w
      else
        let c1 := spend (modM c w (fun y => { y with stalled := false })) w n
        let (c2, ctl) := applyOp c1 w s.opa
        let c3 := applySecond c1 c2 w s.opb
        let c4 := spend c3 w s.opa.cyc
        let late := decide (windowCycles x < (getW c4 w).micro.cycles)
        match stepCtl c3 w s ctl with
        | .illegal => illegalWord c1 w
        | .branch t =>
          if t < lo ∨ hi < t then illegalWord c1 w
          else if late then overrun c4 w
          else modM c4 w (fun y => { y with upc := t })
        | .next => if late then overrun c4 w else modM c4 w (fun y => { y with upc := y.upc + 1 })
        | .finish =>
          if late then overrun c4 w
          else if x.micro.handler.isSome then modM c4 w (fun y => { y with handler := none, prog := false })
          else finishInstr c4 w

/-- Run one microword (R127). -/
def runWord (c : Core) (w : Nat) (mw : MicroWord) : Core := runStep c w (plainStep mw)

/-- The lowest pending expiry of the window is served or discarded (R133). -/
def serveTimer (c : Core) (w : Nat) : Core :=
  match (setBits (getW c w).micro.todo 8).head? with
  | none => c
  | some n =>
    let entry := timerEntry c w n
    let (c0, ok) := readItem c w 2 n (csEntryGood entry)
    if !ok then c0
    else
      let c1 := modM c0 w (fun x => { x with todo := clearBit x.todo n, pending := clearBit x.pending n })
      if bit entry 14 then spend (modM c1 w (fun x => { x with handler := some n, upc := bits entry 0 14 })) w 1
      else bump c1 (wk w 0x14)

/-- The index of the dispatch table: the pattern opcode, or the Horot opcode in nano mode (R118, R138). -/
def dispatchIndex (c : Core) (w : Nat) : Nat :=
  let iw := (getW c w).micro.iw
  if nanoMode c w then hwHop iw else iwOpcode iw

/-- The checks that dispatch makes (R87, R119, R124, R139, R141): a VALID entry, the fields of the instruction, and no opcode that is
reserved. -/
def dispatchOk (c : Core) (w : Nat) : Bool :=
  let iw := (getW c w).micro.iw
  let entry := dispatchEntry c w (dispatchIndex c w)
  bit entry 14 &&
  (if nanoMode c w then
    let h := hwHop iw
    decide (h ≤ 0xD) && clearBits iw (usedBitsH h) == 0 && !([3, 4, 5, 8].contains h && hwCount iw == 0) && !(h == 0xC && hwTarget iw == 0)
      && decide (bits entry 0 14 ≤ 12287)
  else
    let op := iwOpcode iw
    if 0xE0 ≤ op then !bit iw 19
    else decide (op ≤ 0xF) && clearBits iw (usedBits op) == 0 && !([3, 4, 7].contains op && iwCount iw == 0) && !(op == 0xD && iwTarget iw == 0))

/-- Dispatch takes a micro-cycle, presets NXT and T, reads its entry and makes its checks; tail and hold granules dispatch nothing
(R124). -/
def dispatch (c : Core) (w : Nat) : Core :=
  let x := getW c w
  if x.inHold ∨ x.tailLeft ≠ 0 then modM c w (fun y => { y with phase := .ended })
  else
    let c1 := spend (modM c w (fun y => { y with nxt := x.k + 1, t := false })) w 1
    let i := dispatchIndex c1 w
    let entry := dispatchEntry c1 w i
    let (c2, ok) := readItem c1 w 1 i (csEntryGood entry)
    if !ok then c2
    else if windowCycles x < (getW c2 w).micro.cycles then overrun c2 w
    else if dispatchOk c2 w then modM c2 w (fun y => { y with phase := .dispatched, upc := bits entry 0 14 })
    else illegalInstr c2 w

/-- Go on until the window's program ends, waits for an event, or an instruction is dispatched. -/
def proceed : Nat → Core → Nat → Core
  | 0, c, _ => c
  | fuel + 1, c, w =>
    let x := (getW c w).micro
    if x.phase ≠ .running ∨ x.stalled then c
    else if x.handler.isSome ∨ x.prog then
      match fetchStep c w with
      | (c1, none) => c1
      | (c1, some s) => proceed fuel (runStep c1 w s) w
    else if x.todo ≠ 0 then proceed fuel (serveTimer c w) w
    else dispatch c w

/-- Enough steps for any window: every step but a discarded expiry costs a micro-cycle. -/
def windowFuel (c : Core) (w : Nat) : Nat := windowCycles (getW c w) + 16

/-- Go on with the present window. -/
def resume (c : Core) (w : Nat) : Core := proceed (windowFuel c w) c w

/-- Whether a Weaver emits granules. -/
def emitting (c : Core) (w : Nat) : Bool := wState c w == 2 || wState c w == 3

/-- The micro-cycles that a suspended word has waited count against D (R86, R125). -/
def caughtUp (c : Core) (w : Nat) : Core :=
  let x := getW c w
  if x.micro.stalled then
    modM c w (fun y => { y with cycles := max y.cycles (ceilDiv (c.stamp - windowOpenTick x) 4096), stalled := false })
  else c

/-- An event that may meet the condition of a suspended word: the word samples its condition anew (R125). -/
def wake (c : Core) (w : Nat) : Core :=
  if emitting c w ∧ (getW c w).micro.phase = .running ∧ (getW c w).micro.stalled then resume (caughtUp c w) w else c

/-- The window of the granule being emitted opens: handlers run, then the instruction dispatches (R124); `upset` names an item that
fails its parity check when the window reads it (R136, log 103). -/
def openWindow (m : Mem) (c : Core) (w : Nat) (upset : Option ParityUpset) : Core :=
  let x := getW c w
  match x.desc with
  | none => c
  | some d =>
    if emitting c w ∧ x.micro.phase = .closed then
      let c1 := elapseTo c (windowOpenTick x)
      resume (modM c1 w (fun y => { y with
        phase := .running, iw := granuleIw m x d, cycles := 0, handler := none, prog := false, stalled := false, upset := upset, todo := y.pending })) w
    else c

/-- Whether R87 calls the dispatched vendor instruction illegal by its flow (log 16): a TARGET outside the image, or a MATCH at a
granule that does not own the active MC. -/
def flowIllegal (c : Core) (w : Nat) : Bool :=
  let x := getW c w
  let op := opNow c w
  let (tgt, _, _, _) := iwFields (nanoMode c w) x.micro.iw
  match x.desc with
  | some d => ([2, 4, 5, 7, 8, 9, 10].contains op && decide (d.imageGranules ≤ tgt)) || (op == 7 && x.mc.active && x.mc.owner != x.k)
  | none => false

/-- The dispatched instruction runs its words (R130, R131); one that R87 calls illegal by its flow stops the Weaver at the end of its
granule (log 16). -/
def runInstr (c : Core) (w : Nat) : Core :=
  let x := (getW c w).micro
  if x.phase = .dispatched then
    let c1 := if flowIllegal c w then requestStop c w 2 (granuleEndOf (getW c w)) else c
    resume (modM c1 w (fun y => { y with phase := .running, prog := true })) w
  else if x.phase = .running ∧ x.prog then resume c w
  else c

/-- A row of a native opcode: it acts where that instruction is dispatched (log 9). -/
def runNative (c : Core) (w op : Nat) : Core :=
  if emitting c w ∧ ¬ nanoMode c w ∧ iwOpcode (getW c w).micro.iw = op then runInstr c w else c

/-- The row USER_OPCODE: it acts where a user opcode is dispatched. -/
def runUser (c : Core) (w : Nat) : Core :=
  if emitting c w ∧ ¬ nanoMode c w ∧ 0xE0 ≤ iwOpcode (getW c w).micro.iw then runInstr c w else c

/-- A row of a ZH64 opcode. -/
def runHorot (c : Core) (w hop : Nat) : Core :=
  if emitting c w ∧ nanoMode c w ∧ hwHop (getW c w).micro.iw = hop then runInstr c w else c

/-- A row of a microword: the word runs as the next word of the program in progress. -/
def runMicro (c : Core) (w : Nat) (mw : MicroWord) : Core :=
  let x := (getW c w).micro
  if emitting c w ∧ (x.phase = .dispatched ∨ (x.phase = .running ∧ (x.handler.isSome ∨ x.prog))) then
    let c1 := runWord (if x.phase = .dispatched then modM c w (fun y => { y with phase := .running, prog := true }) else caughtUp c w) w mw
    let y := (getW c1 w).micro
    if y.phase = .running ∧ y.handler = none ∧ ¬ y.prog then resume c1 w else c1
  else c

/-- The window closes with its granule: what has not run does, and what still runs has overrun (R86). -/
def closeWindow (m : Mem) (c : Core) (w : Nat) : Core :=
  let c1 := openWindow m c w none
  let c2 := runInstr (resume c1 w) w
  let x := (getW c2 w).micro
  if x.phase = .running ∨ x.phase = .dispatched then overrun c2 w else c2

/-- A micro-timer that reaches 0 stops and becomes pending (R133): time passes up to the first expiry of MTn. -/
def timerExpiry (c : Core) (w n : Nat) : Core :=
  let v := mget 0 (getW c w).micro.mt n
  if emitting c w ∧ v ≠ 0 ∧ clockBit c 4 then elapse c v else c

end Sys2Proof.Machine
end

