-- ==== Sys2Proof/Machine/Weaver.lean ====
section
/-!
DEFINITION. Sys2Proof/Machine/Weaver.lean: segments: table, launch, start, tail, succession, hold, safe stop, jumps, and the
control-store banks (03_weaver_sequencer.md R94 to R117, 04_microcode.md R131, R132, R137, R138, R142 to R145).
-/
namespace Sys2Proof.Machine

/-- Object `sub` of 0x2080+w (Table 3-9). -/
def jk (w sub : Nat) : Key := mkKey (0x2080 + w) sub

/-! ## The segment table (R94, R212, R290) -/

/-- The first failing descriptor of a table and its status. -/
def badDesc (len cap : Nat) : Nat → List Nat → Option (Nat × Status)
  | _, [] => none
  | i, d :: ds => match descStatus d len cap with
    | some s => some (i, s)
    | none => badDesc len cap (i + 1) ds

/-- The descriptors of an image of SEG_TABLE, as numbers. -/
def descNumbers (data : List Byte) : List Nat := (List.range (data.length / 128)).map (fun i => leAt data (128 * i) 128)

/-- The step rate of an enabled raster group of the Weaver, at the descriptor that breaks it first (R290). -/
def rasterRefuses (c : Core) (w : Nat) (descs : List SegDesc) : Option Nat :=
  ((groupsBound c w).filterMap (fun g => badStepRate (stepSlots c g) descs)).foldl
    (fun o i => match o with | some j => some (min i j) | none => some i) none

/-- A write of SEG_TABLE (R94, R117, R290): a refused table sets TABLE_ERROR, to 0xFFFF where its size alone is wrong (log 104), and
leaves the old table; TABLE_ERROR stands until the next refused write. -/
def writeSegTable (c : Core) (w : Nat) (data : List Byte) : Answer :=
  let ek := mkKey (0x2040 + w) 2
  let nums := descNumbers data
  if data.length % 128 ≠ 0 ∨ data.length < 128 ∨ 32768 < data.length then (stOutOfRange, wr c ek 0xFFFF)
  else match badDesc nums.length (capacity c) 0 nums with
    | some (i, s) => (s, wr c ek i)
    | none => match rasterRefuses c w (nums.map parseDesc) with
      | some i => (stOutOfRange, wr c ek i)
      | none => (stOk, setDom c (mkKey (0x2040 + w) 1) data)

/-- Descriptor i of a Weaver's table, if the table has it; reading it copies it (R95). -/
def descAt (c : Core) (w i : Nat) : Option SegDesc := (segTableOf c w)[i]?

/-! ## Control-store banks (R118, R137, R138, R142 to R145) -/

/-- The banks swap roles, and the new shadow bank reads EMPTY (R145). -/
def swapBanks (c : Core) (w : Nat) : Core :=
  let wasA := rd c (wk w 0xD) = 0
  let c1 := modW c w (fun x => if wasA then { x with bankA := {} } else { x with bankB := {} })
  let c2 := wr (wr (wr (wr c1 (wk w 0xD) (if wasA then 1 else 0)) (wk w 0xE) 0) (wk w 0x12) 0) (wk w 0x17) 0
  tallyEvent (bump c2 (wk w 0x13)) 0xEC

/-- Perform a pending exchange (R144). -/
def exchangeDue (c : Core) (w : Nat) : Core := if rdb c (wk w 0x12) then swapBanks c w else c

/-- The shadow bank of a Weaver. -/
def shadowCs (c : Core) (w : Nat) : CsBank := if rd c (wk w 0xD) = 0 then (getW c w).bankB else (getW c w).bankA

/-- Put a bank in the shadow place. -/
def setShadowCs (c : Core) (w : Nat) (b : CsBank) : Core :=
  let a := rd c (wk w 0xD) = 0
  modW c w (fun x => if a then { x with bankB := b } else { x with bankA := b })

/-- EXCHANGE (R144). -/
def writeExchange (c : Core) (w : Nat) : Written :=
  guardSt (rd c (wk w 0xE) == 1) stStateConflict
    (if wState c w = 0 ∨ wState c w = 4 then .ok (swapBanks c w) else .ok (wr c (wk w 0x12) 1))

/-- Whether a microcode slot holds a valid image (R143, R448). -/
def ucodeValid (c : Core) (slot : Nat) : Bool := imageValid c .microcode (slotImage c .microcode slot)

/-- SHADOW_SLOT (R143); `good` tells whether the read-back of the shadow bank passes its parity check. -/
def writeShadowSlot (c : Core) (w slot : Nat) (good : Bool) : Written :=
  if 1 < slot then .error stOutOfRange
  else
    let sameNano := match (getW c w).nanoSlot with
      | some s => s == slot || Config.nanoImageEqual s slot
      | none => true
    guardSt (!rdb c (wk w 0x12) && ucodeValid c slot && (!nanoMode c w || sameNano)) stStateConflict
      (let c1 := setShadowCs c w (vendorBank slot (nanoMode c w))
       .ok (wr (wr c1 (wk w 0xF) slot) (wk w 0xE) (if good then 1 else 2)))

/-- NANO_MODE (R138): the active bank is loaded anew from the slot of UCODE_SLOT, the nano store is filled on entry to nano mode, the
user parts are cleared, the shadow bank reads EMPTY. -/
def writeNanoMode (c : Core) (w v : Nat) : Written :=
  if 1 < v then .error stOutOfRange
  else
    let slot := rd c (mkKey 0x100A 2)
    let bank := if rd c (mkKey 0x100A 1) = 0 then {} else vendorBank slot (v == 1)
    let a := rd c (wk w 0xD) = 0
    let c1 := modW c w (fun x => { x with
      bankA := if a then bank else {}
      bankB := if a then {} else bank
      nanoSlot := if v = 1 then some slot else none
      nano := if v = 1 then horotNano else x.nano })
    .ok (wr (wr (wr (wr c1 (wk w 0xC) v) (wk w 0xE) 0) (wk w 0x12) 0) (wk w 0x17) 0)

/-- Whether an entry of a user part is acceptable: an address in the loaded words, where it is VALID (R131, R132). -/
def userEntryOk (n v : Nat) : Bool :=
  let a := bits v 0 14
  if bit v 14 then decide (0x1800 ≤ a) && decide (a < 0x1800 + n) else true

/-- The words of a USER_UCODE image. -/
def userWords (data : List Byte) : List Nat := (List.range ((data.length - 128) / 4)).map (fun i => leAt data (128 + 4 * i) 4)

/-- Whether a USER_UCODE image is acceptable (R131, R132). -/
def userPartOk (data : List Byte) : Bool :=
  let ws := userWords data
  decide (128 ≤ data.length) && data.length % 4 == 0 && decide (data.length ≤ 8320) &&
  (List.range 40).all (fun i => userEntryOk ws.length (leAt data (2 * i) 2)) &&
  allZero (slice data 80 48) &&
  ws.zipIdx.all (fun (v, i) => !wordRefused (decodeMicro v) (0x1800 + i) 0x1800 0x1FFF)

/-- USER_UCODE (R131, R132, R138, R143). -/
def writeUserUcode (c : Core) (w : Nat) (data : List Byte) : Written :=
  guardSt (userPartOk data) stOutOfRange
    (guardSt (rd c (wk w 0xE) == 1 && !rdb c (wk w 0x12) && !nanoMode c w) stStateConflict
      (.ok (setShadowCs c w (withUser (shadowCs c w) ((List.range 32).map (fun i => leAt data (2 * i) 2))
        ((List.range 8).map (fun i => leAt data (64 + 2 * i) 2)) (userWords data)))))

/-! ## Timing-set swaps (R160) and swap-permitted boundaries (R98, R103) -/

/-- Object `sub` of 0x3100+p (Table 5-6). -/
def tk (p sub : Nat) : Key := mkKey (0x3100 + p) sub

/-- A committed timing-set bank of a pin swaps (R160). -/
def swapTset (c : Core) (p : Nat) : Core :=
  if rd c (tk p 4) = 1 then
    tallyEvent (bump (wr (wr c (tk p 5) (1 - rd c (tk p 5))) (tk p 4) 0) (tk p 7)) 0xEB
  else c

/-- Everything that waits for a swap-permitted boundary of a Weaver (R103, R145, R160, R192). -/
def boundarySwaps (c : Core) (w : Nat) : Core :=
  exchangeDue (swapPoint ((pinsOf c w).foldl swapTset c) w) w

/-- TSET_COMMIT (R160). -/
def writeTsetCommit (c : Core) (p : Nat) : Core :=
  let w := quadWeaver c (p / 4)
  let c1 := wr c (tk p 4) 1
  if 64 ≤ w ∨ wState c w = 0 ∨ wState c w = 4 then swapTset c1 p else c1

/-- The first failing timing set of a bank image and its status (R159). -/
def badTset (data : List Byte) : Nat → Option (Nat × Status)
  | 0 => none
  | n + 1 =>
    match badTset data n with
    | some r => some r
    | none => (tsetStatus (leAt data (64 * n) 64)).map (fun s => (n, s))

/-- A write of TSET_SHADOW (R159). -/
def writeTsetShadow (c : Core) (p : Nat) (data : List Byte) : Answer :=
  if data.length ≠ 4096 then (stOutOfRange, wr c (tk p 6) 0xFF)
  else match badTset data 64 with
    | some (n, s) => (s, wr c (tk p 6) n)
    | none =>
      if rd c (tk p 4) = 1 then (stStateConflict, c)
      else
        let a := rd c (tk p 5) = 0
        (stOk, modPin (wr c (tk p 6) 0xFF) p (fun x => if a then { x with tsetB := data } else { x with tsetA := data }))

/-! ## Entry to IDLE and STOPPED -/

/-- A Weaver enters IDLE (0) or STOPPED (4): pins park, due swaps take place, and its reservations return
(R111, R144, R160, R167, R192, R326). -/
def enterRest (c : Core) (w st : Nat) : Core :=
  let groups := groupsOf c w
  let c1 := parkPins (deliverLate (wr c (wk w 1) st) w) w
  let c2 := boundarySwaps c1 w
  let c3 := endWait c2 w
  let c4 := { c3 with
    landing := { c3.landing with fetch := merase c3.landing.fetch w }
    mode := { c3.mode with pgIdleSince := groups.foldl (fun m g => mset 0 m g c3.time) c3.mode.pgIdleSince } }
  modW c4 w (fun x => { x with
    desc := none, stopReq := none, succ := none, tailed := false, tailLeft := 0, forced := false, committed := false
    opening := none, inHold := false, blocks := [], recent := [], recq := [], recHold := [], trgo := 0, off := 0
    micro := { x.micro with phase := .closed, handler := none, prog := false, todo := 0 } })

/-- The fault level of a stop cause (Table 3-7). -/
def stopLevel (cause : Nat) : Option Nat :=
  if 1 ≤ cause ∧ cause ≤ 5 then some 2 else if cause = 6 then some 1 else if cause = 10 then some 0 else none

/-- A Weaver enters STOPPED with a cause (R111 steps 2 and 4, R178, R292). -/
def enterStopped (c : Core) (w cause : Nat) : Core :=
  let bad := (getW c w).micro.phase = .abandoned
  let c1 := enterRest (discardLists (wr c (wk w 5) cause) w) w 4
  let c2 := (groupsBound c1 w).foldl stopRaster c1
  let c3 := match stopLevel cause with
    | some l => raise c2 w l cause
    | none => c2
  if bad then raise c3 (128 + w) 2 cause else c3

/-! ## Segment end -/

/-- The segment's records are made whole and each of its sites' streams gets SEGMENT_END (R113, R210). -/
def closeRun (c : Core) (w outcome cause vectors : Nat) : Core :=
  let x := getW c w
  match x.desc with
  | none => c
  | some d =>
    let run := rd c (wk w 3)
    let c1 := drainHold (takeResults c w) w x.e
    let c2 := (setBits x.ran 8).foldl (fun c s => makeEnd c w s d outcome cause vectors) (wr c1 (wk w 4) vectors)
    tallyEvent (endShare c2 w run) (0xD3 + outcome)

/-- The FAR slot moves to the NEAR slot (R104). -/
def shiftSlots (c : Core) (w : Nat) : Core := wr (wr c (jk w 3) (rd c (jk w 4))) (jk w 4) 0xFFFF

/-- Both jump slots empty. -/
def clearSlots (c : Core) (w : Nat) : Core := wr (wr c (jk w 3) 0xFFFF) (jk w 4) 0xFFFF

/-- What a granted successor that never starts had reserved returns. -/
def dropSucc (c : Core) (w : Nat) : Core :=
  match (getW c w).succ with
  | some s =>
    let c1 := if s.granted then releaseGrant c w s.desc (popCount s.sites 8) else c
    modW c1 w (fun x => { x with succ := none })
  | none => c

/-- A safe stop at its boundary, the vectors before it emitted (R111); `vectors` is their number in the segment.  In HOLDING no
segment runs: no SEGMENT_END is written, and the waiting successor gets no outcome (log 105). -/
def finishStop (c : Core) (w cause vectors : Nat) : Core :=
  let c1 := dropSucc c w
  let c2 := if (getW c1 w).inHold then c1 else shiftSlots (closeRun c1 w 1 cause vectors) w
  enterStopped c2 w cause

/-- A REJECTED outcome with a cause on each site, then STOPPED with it (R102, R113, R217). -/
def rejectRun (c : Core) (w : Nat) (d : SegDesc) (sites cause : Nat) : Core :=
  let c1 := (setBits sites 8).foldl (fun c s => makeRejected c w s d cause) (modW c w (fun x => { x with succ := none }))
  enterStopped (tallyEvent c1 0xD5) w cause

/-! ## Segment start -/

/-- What a launch from IDLE resets: timers, detectors, G registers (R135), and the last drive codes (R149). -/
def coldStart (c : Core) (w : Nat) : Core :=
  let c1 := modW c w (fun x => { x with eds := [], late := [], lateFlow := none, micro := { x.micro with g := [], mt := [], pending := 0 } })
  (pinsOf c1 w).foldl (fun c p =>
    let park := rd c (pk p 1)
    modPin c p (fun y => { y with lastDrive := if park = 0 then 2 else park - 1 })) c1

/-- A pin enters the segment: ACTIVE, with the objects of R170 in force, its serial source at bit 0, and its CAL_BYTE
latched (R155, R167, R170, R194). -/
def startPin (c : Core) (p : Nat) : Core :=
  let c1 := enterPin c p 2
  latchCalByte (modPin c1 p (fun y => { y with force := forceNow c p, burst := 0 })) p

/-- The first vector of a segment (R88, R115, R155, R167, R170, R194): the pins are ACTIVE with the objects in force, and each
enabled site's stream gets SEGMENT_START. -/
def firstVector (c : Core) (w : Nat) : Core :=
  let x := getW c w
  match x.opening, x.desc with
  | some o, some d =>
    let c1 := (pinsOf c w).foldl startPin (modW c w (fun y => { y with opening := none }))
    (setBits x.ran 8).foldl (fun c s => makeStart c w s o.index d o.origin o.originValue o.hold) c1
  | _, _ => c

/-- The first vector of a launched segment is due: its start, LAUNCH_OFFSET after the boundary, has been reached (R97, R167). -/
def firstVectorDue (c : Core) (w : Nat) : Core :=
  if (getW c w).opening.isSome then firstVector (elapseTo c (getW c w).gStart) w else c

/-- A segment starts with its first vector at an instant (R88, R97, R98, R101, R114, R115). -/
def startSegment (m : Mem) (c : Core) (w idx : Nat) (d : SegDesc) (sites origin originValue start : Nat) (swaps : Bool) : Core :=
  let hold := (getW c w).holdHere
  let c1 := if swaps then boundarySwaps c w else c
  let run := (rd c1 (wk w 3) + 1) % 2 ^ 48
  let c2 := wr (wr (wr (wr (wr c1 (wk w 3) run) (wk w 1) 2) (wk w 2) idx) (wk w 4) 0) (wk w 9) (leadOf d.period)
  let c3 := modW c2 w (fun x => { x with
    desc := some d, k := d.entryGranule, e := 0, gStart := start, inHold := false
    rc := {}, mc := {}, lc := [], stack := [], mto := false, acc := 0, latch := []
    tailed := false, tailLeft := 0, forced := false, committed := false, succ := none, holdHere := 0
    opening := some { index := idx, origin := origin, originValue := originValue, hold := hold }
    sites := sites, ran := sites, off := 0, siteRuns := [], blocks := [], recent := [], recq := [], recHold := [], trgo := 0
    micro := { x.micro with phase := .closed, handler := none, prog := false, todo := 0 } })
  let c4 := if origin = 0 then coldStart c3 w else sampleMto c3 w
  let c5 := if start ≤ c4.stamp then firstVector c4 w else c4
  let c6 := { c5 with landing := { c5.landing with
    shares := bindShare c5.landing.shares w run
    fetch := mset 0 c5.landing.fetch w (if origin = 0 then mget 0 c5.landing.fetch w else fetchRes c5 w d) } }
  let c7 := (groupsBound c6 w).foldl (fun c g => if origin = 0 then launchRaster c g start else splitStep m c g) c6
  let c8 := tallyEvent (queuePecList (pulseTrgo c7 w d.trgMask start) w d.pecList) 0xD2
  granuleDue m c8 w d d.entryGranule start true

/-! ## Checks (R101, R102, R214, R219) -/

/-- SITE_ENABLE of the sites the Weaver holds. -/
def enabledSites (c : Core) (w : Nat) : Nat := rd c (wk w 7) &&& sitesHeld c w

/-- Whether the streams of a segment's sites carry what its DEST needs (R219, R220). -/
def streamsOk (c : Core) (d : SegDesc) (sites : Nat) : Bool := (setBits sites 8).all (fun s => streamUsable c (siteStream d s) d.dest)

/-- The check of one successor (R101, R102). -/
def checkSucc (c : Core) (w : Nat) : Core :=
  match (getW c w).succ with
  | some s =>
    if s.granted ∨ s.refused then c
    else
      let sites := enabledSites c w
      let n := popCount sites 8
      let put := fun (c : Core) (t : Succ) => modW c w (fun x => { x with succ := some t })
      match checkSegment c w s.desc n true with
      | .pass => put (endWait (reserveSegment c w s.desc n true) w) { s with sites := sites, granted := true }
      | .wait cause => put (noteWait c w cause (creditOf s.desc n)) { s with sites := sites }
      | .never => put (endWait c w) { s with sites := sites, refused := true }
  | none => c

/-- Whether a Weaver has a successor that still waits for its check and has one at an instant, the end of its granule. -/
def succDue (c : Core) (w t : Nat) : Bool :=
  let x := getW c w
  emitting c w && decide (granuleEndOf x = t) && (match x.succ with | some s => !s.granted && !s.refused | none => false)

/-- The check of a Weaver's successor at the end of its granule, after those of the same instant that stand before it (R214). -/
def succCheck (c : Core) (w : Nat) : Core :=
  let t := granuleEndOf (getW c w)
  let l := checkOrder c ((List.range 64).filter (fun v => v == w || succDue c v t))
  (l.take (l.idxOf w + 1)).foldl checkSucc c

/-- SITE_ENABLE applies at the next segment start (Table 3-8): where it has changed since the successor's checks passed, what they
reserved returns and they are made anew for the sites enabled now (log 23). -/
def recheckSites (c : Core) (w : Nat) : Core :=
  match (getW c w).succ with
  | some s =>
    let sites := enabledSites c w
    if sites = s.sites then c
    else
      let c1 := if s.granted then releaseGrant c w s.desc (popCount s.sites 8) else c
      modW c1 w (fun x => { x with succ := some { s with sites := sites, granted := false, refused := !streamsOk c s.desc sites } })
  | none => c

/-- The commit point fixes the successor: NEAR, else END, else NEXT (R101); a descriptor the table no longer holds counts as
END (log 17). -/
def commitPoint (c : Core) (w : Nat) (d : SegDesc) : Core :=
  let near := rd c (jk w 3)
  let idx := if near ≠ 0xFFFF then near else if d.fin then 0x100 else d.next
  match (if idx = 0x100 then none else descAt c w idx) with
  | none => modW c w (fun x => { x with committed := true, succ := none })
  | some e =>
    let sites := enabledSites c w
    let s : Succ := { index := idx, desc := e, sites := sites, granted := false, refused := !streamsOk c e sites }
    succCheck (modW c w (fun x => { x with committed := true, succ := some s })) w

/-! ## The granule's end (R83, R99 to R103, R113) -/

/-- Emit what is left of the granule up to a boundary and stop there. -/
def cutStop (m : Mem) (c : Core) (w cause b : Nat) : Core :=
  let x := getW c w
  match x.desc with
  | none => c
  | some d =>
    let n := if d.period = 0 ∨ b ≤ x.gStart then 0 else min 64 ((b - x.gStart) / d.period)
    let c1 := deliverLate (emitVectors m (elapseTo (firstVectorDue c w) b) w n) w
    let c2 := if x.inHold then c1 else drainHold (takeGranule c1 w (64 * x.e)) w (x.e - 1)
    let c3 := if n = 64 ∧ ¬ x.inHold then drainQueue c2 w else modW c2 w (fun y => { y with recq := [], recHold := [] })
    finishStop c3 w cause (64 * x.e + n)

/-- Granule k begins at an instant: the stream buffer keeps the blocks of the 32 granules emitted last and of k to k + 8 (R107, R108). -/
def nextGranule (c : Core) (w : Nat) (d : SegDesc) (k start : Nat) : Core :=
  let near := ((getW c w).recent ++ (List.range 9).map (k + ·)).flatMap (granuleBlocks c w d)
  modW (pulseTrgo c w (getW c w).trgo start) w (fun y => { y with
    k := k, e := y.e + 1, gStart := start, trgo := 0, micro := { y.micro with phase := .closed }
    blocks := y.blocks.filter (fun b => near.contains b.1) })

/-- The next granule is due at an instant (R108, R110): it begins, or the Weaver stops there. -/
def beginGranule (m : Mem) (c : Core) (w k start : Nat) (reached : Bool) : Core :=
  let x := getW c w
  match x.desc with
  | none => c
  | some d =>
    let c1 := granuleDue m c w d k start reached
    match (getW c1 w).stopReq with
    | some (cause, b) =>
      if b ≤ start then finishStop c1 w cause (64 * (x.e + 1))
      else nextGranule c1 w d k start
    | none => nextGranule c1 w d k start

/-- A hold granule begins at an instant (R102). -/
def beginHold (c : Core) (w start : Nat) : Core :=
  let x := getW c w
  modW (pulseTrgo c w x.trgo start) w (fun y => { y with gStart := start, trgo := 0, inHold := true, micro := { y.micro with phase := .closed } })

/-- The successor starts, is refused, or the Weaver holds on (R101, R102, R217). -/
def takeSucc (m : Mem) (c : Core) (w start : Nat) (swaps : Bool) : Core :=
  match (getW c w).succ with
  | none => enterRest c w 0
  | some s =>
    if s.granted then startSegment m c w s.index s.desc s.sites 1 (rd c (wk w 3)) start swaps
    else if s.refused ∨ (s.desc.noGap ∧ ¬ (getW c w).inHold) then rejectRun c w s.desc s.sites 10
    else beginHold (wr c (wk w 1) 3) w start

/-- The segment ends (R104, R113). -/
def endSegment (m : Mem) (c : Core) (w : Nat) (d : SegDesc) (fin : Nat) : Core :=
  let x := getW c w
  let c1 := shiftSlots (closeRun c w 0 0 (64 * (x.e + 1))) w
  takeSucc m (succCheck (recheckSites (modW c1 w (fun y => { y with holdHere := 0 })) w) w) w fin d.swapOk

/-- The tail begins after the granule that executed TAIL, or that reached the cap (R99, R100, R101). -/
def beginTail (m : Mem) (c : Core) (w : Nat) (d : SegDesc) (fin : Nat) (forced : Bool) : Core :=
  let x := getW c w
  if d.imageGranules ≤ x.k + 2 then finishStop c w 2 (64 * (x.e + 1))
  else
    let c1 := modW c w (fun y => { y with tailed := true, tailLeft := 2, forced := forced })
    let c2 := if forced then requestStop (clearSlots (modW c1 w (fun y => { y with committed := true })) w) w 6 (fin + 128 * d.period)
      else commitPoint c1 w d
    beginGranule m c2 w (x.k + 1) fin true

/-- The sites SITEOFF named are disabled (R92). -/
def applyOff (c : Core) (w : Nat) : Core :=
  let x := getW c w
  if x.off = 0 then c
  else setW (wr c (wk w 7) (clearBits (rd c (wk w 7)) x.off)) w { x with sites := clearBits x.sites x.off, off := 0 }

/-- After a whole granule: the tail, the segment's end, or the next granule (R83, R99 to R101). -/
def afterGranule (m : Mem) (c : Core) (w : Nat) (d : SegDesc) (fin : Nat) : Core :=
  let x := getW c w
  let stop : Option Nat := match x.stopReq with
    | some (cause, b) => if b ≤ fin then some cause else none
    | none => none
  let outside : Bool := match stop with
    | some cause => decide (7 ≤ cause) && decide (cause ≤ 9)
    | none => false
  let halt := fun (c : Core) => finishStop c w (stop.getD 0) (64 * (x.e + 1))
  if stop.isSome ∧ ¬ outside then halt c
  else if x.tailLeft = 1 then (if stop.isSome then halt c else endSegment m c w d fin)
  else if x.tailLeft = 2 then
    beginGranule m (succCheck (modW c w (fun y => { y with tailLeft := 1 })) w) w (x.k + 1) fin true
  else if x.tailed then beginTail m c w d fin false
  else if x.e + 3 = d.maxGranules then beginTail m c w d fin true
  else
    let k' := x.micro.nxt
    let reached := k' == x.k + 1 || !dataDependent (nanoMode c w) x.micro.iw || inReach m c w d x.k k'
    beginGranule m c w k' fin reached

/-- A hold granule has ended (R102). -/
def afterHold (m : Mem) (c : Core) (w : Nat) (d : SegDesc) (fin : Nat) : Core :=
  let c1 := tallyEvent (bump c (wk w 0xB)) 0xD6
  let c2 := modW c1 w (fun y => { y with holdHere := y.holdHere + 1 })
  match (getW c2 w).stopReq with
  | some (cause, b) => if b ≤ fin then finishStop c2 w cause 0 else takeSucc m (succCheck (recheckSites c2 w) w) w fin d.swapOk
  | none => takeSucc m (succCheck (recheckSites c2 w) w) w fin d.swapOk

/-- The granule being emitted ends (R83). -/
def granuleEnd (m : Mem) (c : Core) (w : Nat) : Core :=
  let x := getW c w
  match x.desc with
  | none => c
  | some d =>
    if emitting c w then
      let fin := x.gStart + 64 * d.period
      let cut := fun (c : Core) => match (getW c w).stopReq with
        | some (cause, b) => if b < fin then some (cause, b) else none
        | none => none
      match cut c with
      | some (cause, b) => cutStop m c w cause b
      | none =>
        let c1 := closeWindow m (firstVectorDue c w) w
        match cut c1 with
        | some (cause, b) => cutStop m c1 w cause b
        | none =>
          let c2 := deliverLate (emitVectors m (elapseTo c1 fin) w 64) w
          if x.inHold then afterHold m (applyOff c2 w) w d fin
          else
            let c3 := drainQueue (drainHold (takeGranule c2 w (64 * x.e)) w (x.e - 1)) w
            let c4 := wr (applyOff c3 w) (wk w 4) (64 * (x.e + 1))
            afterGranule m (modW c4 w (fun y => { y with recent := (x.k :: y.recent).take 32 })) w d fin
    else c

/-- A safe stop at its boundary (R111). -/
def safeStop (m : Mem) (c : Core) (w : Nat) : Core :=
  let x := getW c w
  match x.stopReq with
  | some (cause, b) =>
    if emitting c w then
      if b < granuleEndOf x then cutStop m c w cause b else granuleEnd m c w
    else modW c w (fun y => { y with stopReq := none })
  | none => c

/-! ## Launch (R96, R97, R214, R217, R385) -/

/-- The instant of boundary e, as the epoch counter now runs. -/
def boundaryTick (c : Core) (e : Nat) : Nat := c.clk.boundary + (e - epochNow c) * epochTicks c

/-- Condition C of Table 16-3: REF_LOCKED has read 1 for at least 1 ms. -/
def condC (c : Core) : Bool :=
  match c.clk.lockedSince with
  | some t => refLocked c && decide (t + 1000000 ≤ c.time)
  | none => false

/-- Whether the device is in RUN, or a change to RUN is committed for an epoch not later than e (R96, R380). -/
def runBy (c : Core) (e : Nat) : Bool :=
  inMode c .run
  || (match c.mode.transition with | some t => t.target == 5 && (match t.boundary with | some b => decide (b ≤ e) | none => false) | none => false)
  || (match c.mode.prepared with | some (_, target, pe) => rd c (mkKey 0x1310 3) == 2 && target == 5 && decide (pe ≤ e) | none => false)

/-- Whether the pair is unmirrored for new work (R385, R386). -/
def unprotected (c : Core) : Bool :=
  let s := rd c (mkKey 0x6010 7)
  decide (2 ≤ s) && !rdb c (mkKey 0x6010 6)

/-- Whether a Weaver's pin groups all run, or boundary e leaves 300 µs for their PLLs (R96). -/
def warmInTime (c : Core) (w e : Nat) : Bool :=
  (groupsOf c w).all (fun g => clockBit c (6 + g)) || decide (c.stamp + 300000 * 4096 ≤ boundaryTick c e)

/-- A stopped pin-group PLL starts (R444). -/
def startPll (c : Core) (g : Nat) : Core :=
  if clockBit c (6 + g) ∨ mget 0 c.mode.pgStart g ≠ 0 then c
  else { c with mode := { c.mode with pgStart := mset 0 c.mode.pgStart g (c.time + 1) } }

/-- The state conditions of a LAUNCH entry (R38, R79, R96, R137, R219, R313, R385, R387, R442, R450). -/
def launchReady (c : Core) (w : Nat) (d : SegDesc) (e : Nat) : Bool :=
  let sites := enabledSites c w
  wState c w == 0 && assignmentOk c w && sites != 0 && warmInTime c w e && !noDeviceId c && rd c (mkKey 0x5000 0x16) == 2 &&
  condC c && !rdb c (wk w 0x17) && rd c (mkKey 0x7800 8) == 0 && rd c (mkKey 0x6010 7) != 5 && streamsOk c d sites &&
  !(unprotected c && (setBits sites 8).any (fun s => (streamEntry c (siteStream d s)).mirror))

/-- The Weaver arms (R96, R419, R444). -/
def armWeaver (c : Core) (w idx e : Nat) (d : SegDesc) : Core :=
  let sites := enabledSites c w
  let c1 := wr (wr (wr c (wk w 1) 1) (wk w 2) idx) (mkKey (0x5C40 + w) 2) 0
  let c2 := modW c1 w (fun x => { x with desc := some d, launchEpoch := e, holdHere := 0, waitFrom := none, waitAge := 0, stopReq := none })
  let c3 := wakeStacks ((groupsOf c2 w).foldl startPll c2)
  let c4 := journalAdd c3 6 w (d.streamBase + sites * 2 ^ 16 + idx * 2 ^ 24) false e
  let c5 := { c4 with journal := { c4.journal with armed := mset (0, 0, 0, 0) c4.journal.armed w (d.streamBase, sites, idx, e) } }
  if decide (2 ≤ rd c5 (mkKey 0x6010 7)) && (setBits sites 8).any (fun s => (streamEntry c5 (siteStream d s)).mirror) then
    bump c5 (mkKey 0x6010 0xC) else c5

/-- A LAUNCH entry whose epoch of application is e (R96): mode, contents, then state (R474). -/
def writeLaunch (c : Core) (w idx e : Nat) : Written :=
  guardSt (runBy c e) stWrongMode (match descAt c w idx with
    | none => .error stOutOfRange
    | some d => guardSt (launchReady c w d e) stStateConflict (.ok (armWeaver c w idx e d)))

/-- An ARMED Weaver that a FAULT stops (R113, R430, log 18): its outcome is REJECTED(FAULT), and it is STOPPED. -/
def stopArmed (c : Core) (w : Nat) : Core :=
  match (getW c w).desc with
  | some d => rejectRun (discardLists c w) w d (enabledSites c w) 9
  | none => c

/-- The launch check of an ARMED Weaver at a boundary (R97, R214, R217, R218). -/
def launchCheck (m : Mem) (c : Core) (w : Nat) : Core :=
  let x := getW c w
  match x.desc with
  | none => c
  | some d =>
    if wState c w ≠ 1 then c
    else if x.stopReq.isSome then stopArmed c w
    else if epochNow c < x.launchEpoch then c
    else
      let sites := enabledSites c w
      let n := popCount sites 8
      let waits := fun (c : Core) (cause : Nat) => noteWait c w cause (creditOf d n)
      if ¬ inMode c .run then waits c 5
      else match checkSegment c w d n false with
        | .pass =>
          let c1 := endWait (reserveSegment c w d n false) w
          startSegment m c1 w (rd c1 (wk w 2)) d sites 0 x.launchEpoch (c1.clk.boundary + rd c1 (jk w 6)) true
        | .wait cause => waits c cause
        | .never => rejectRun c w d sites 10

/-! ## Jump, abort, acknowledgement (R104 to R106, R113) -/

/-- Whether the present position is at or after the segment's commit point, its first tail vector (R105): the commit point has been
passed, or the granule that executes TAIL, or that reaches the cap, has been emitted. -/
def pastCommit (m : Mem) (c : Core) (w : Nat) : Bool :=
  let x := getW c w
  match x.desc with
  | some d =>
    let iw := granuleIw m x d
    let isTail := if nanoMode c w then hwHop iw == 1 else iwOpcode iw == 1
    x.committed || ((x.tailed || (isTail && x.tailLeft == 0) || x.e + 3 == d.maxGranules) && decide (granuleEndOf x ≤ c.stamp))
  | none => false

/-- A JUMP write (R104, R105): the number is taken whether or not the table holds it (log 17). -/
def writeJump (m : Mem) (c : Core) (w v : Nat) : Written :=
  let st := wState c w
  guardSt (decide (v ≤ 0x100)) stOutOfRange (guardSt (st == 1 || st == 2 || st == 3) stStateConflict
    (.ok (if st = 2 ∧ pastCommit m c w then wr c (jk w 4) v else wr c (jk w 3) v)))

/-- ABORT of an ARMED Weaver (R106, R178): REJECTED(HOST), back to IDLE. -/
def abortArmed (c : Core) (w : Nat) : Core :=
  match (getW c w).desc with
  | none => c
  | some d =>
    let c1 := (setBits (enabledSites c w) 8).foldl (fun c s => makeRejected c w s d 8) c
    enterRest (discardLists (tallyEvent c1 0xD5) w) w 0

/-- ABORT (R106, R112); outside ARMED, RUNNING and HOLDING there is nothing to end, and STOPPED accepts only STOP_ACK. -/
def writeAbort (c : Core) (w : Nat) : Written :=
  match wState c w with
  | 1 => .ok (abortArmed c w)
  | 2 | 3 =>
    let x := getW c w
    .ok (requestStop (clearSlots c w) w 8 (if c.stamp ≤ x.gStart then x.gStart else granuleEndOf x))
  | 4 => .error stStateConflict
  | _ => .ok c

/-- STOP_ACK (R113). -/
def writeStopAck (c : Core) (w : Nat) : Written :=
  guardSt (wState c w == 4) stStateConflict (.ok (enterRest (wr c (wk w 5) 0) w 0))

/-- A streamer or demand fetch of a block completes (R107, R108, R110). -/
def blockFetched (m : Mem) (c : Core) (w b : Nat) : Core :=
  if emitting c w then fetchBlock m c w b else c

end Sys2Proof.Machine
end

