-- ==== Sys2Proof/Machine/Clocks.lean ====
section
/-!
DEFINITION. Sys2Proof/Machine/Clocks.lean: the clock domains and what their loss and return do, the pin-group PLLs, the SYNC input and
the test access port (01_architecture.md R30 to R32; 13_withy_multidevice.md R374; 16_modes_power_boot.md R442 to R445; 17_package_electrical.md R467).
-/
namespace Sys2Proof.Machine

/-- Object `sub` of MODE_CTRL, of the wake objects, of CLOCK_STATUS and of the system mode change. -/
def mo (sub : Nat) : Key := mkKey 0x1200 sub
def wkk (sub : Nat) : Key := mkKey 0x1210 sub
def clk (sub : Nat) : Key := mkKey 0x1220 sub
def chg (sub : Nat) : Key := mkKey 0x1310 sub

/-- 0x1302 REF_STATUS (Table 13-8). -/
def refKey : Key := mkKey 0x1302 1

/-- Set or clear bit i of REF_STATUS. -/
def setRef (c : Core) (i : Nat) (b : Bool) : Core := wr c refKey (putBit (rd c refKey) i b)

/-- The CLOCK source of domain d (Table 15-5). -/
def clockFault (d : Nat) : Nat := 240 + d

/-- The level of a CLOCK source (Table 15-5). -/
def clockLevel (d : Nat) : Nat :=
  if d = 1 ∨ (4 ≤ d ∧ d ≤ 21) then 2 else if d = 0 ∨ d = 2 ∨ d = 3 ∨ (26 ≤ d ∧ d ≤ 29) ∨ d = 46 then 3 else 1

/-! ## Which clocks run (Table 1-5, R441 to R443) -/

/-- Whether the mode and REFCLK let a domain run; the bits that other events set keep their value. -/
def clockWant (c : Core) (d : Nat) : Bool :=
  let m := modeNow c
  if d = 0 ∨ d = 46 then true
  else if d = 1 then bit (rd c refKey) 0 && m != 1
  else if d = 2 then m != 1
  else if d = 3 ∨ d = 41 then decide (2 ≤ m)
  else if d = 4 ∨ d = 5 ∨ d = 42 ∨ d = 43 then pllModes c && refLocked c
  else if 26 ≤ d ∧ d ≤ 29 then pllModes c || m == 6
  else if d = 38 then decide (2 ≤ m) && refLocked c
  else if d = 44 ∨ d = 45 then pllModes c && refLocked c && rdb c (rk (d - 44) 1) && !(getR c (d - 44)).resting
  else clockBit c d

/-- The stamp scale as it stands, running or not: REFCLK carries it between boundaries. -/
def scaleNow (c : Core) : Nat :=
  if clockBit c 5 then c.stamp
  else if c.clk.counting then c.clk.boundary + (c.time - c.clk.at_) * 4096
  else c.stamp

/-- Bring CLOCK_LOCKED, but for the pin-group bits, in line with the mode and REFCLK; the stamp clock takes up the scale. -/
def applyClocks (c : Core) : Core :=
  let s := scaleNow c
  let c1 := (List.range 48).foldl (fun c d => if 6 ≤ d ∧ d ≤ 21 then c else setClock c d (clockWant c d)) c
  { c1 with stamp := s }

/-- Whether a pin group's PLL is held on by PG_KEEP or by a Weaver at work (R443). -/
def pgNeeded (c : Core) (g : Nat) : Bool :=
  bit (rd c (clk 3)) g || (weaversOfGroup c g).any (fun w => wState c w == 1 || wState c w == 2 || wState c w == 3)

/-- The instant at which PG_IDLE has passed for a pin group in RUN (R443). -/
def pgIdleEnd (c : Core) (g : Nat) : Nat := max (mget 0 c.mode.pgIdleSince g) c.mode.runSince + rd c (clk 4) * 1000000

/-- Whether a pin group's PLL runs in the mode (R443). -/
def pgWanted (c : Core) (g : Nat) : Bool := !inMode c .run || pgNeeded c g || decide (c.time < pgIdleEnd c g)

/-- The pin-group PLLs after a mode entry: all lock with the entry to the modes that run them, keep running among those modes, and
start again in WARM and CALIBRATE; they stop elsewhere (R439, R443). -/
def modePlls (c : Core) (was : Bool) : Core :=
  if !(pllModes c && refLocked c) then
    let c1 := (List.range 16).foldl (fun c g => setClock c (6 + g) false) c
    { c1 with mode := { c1.mode with pgStart := [] } }
  else if !was then (List.range 16).foldl (fun c g => setClock c (6 + g) true) c
  else if inMode c .run then c
  else (List.range 16).foldl startPll c

/-- PG_IDLE_EXPIRY (R443). -/
def pgIdleExpiry (c : Core) (g : Nat) : Core :=
  if inMode c .run ∧ clockBit c (6 + g) ∧ !pgNeeded c g then setClock (elapseUntil c (pgIdleEnd c g)) (6 + g) false else c

/-- The PLL of a pin group has started and not locked. -/
def pgStarting (c : Core) (g : Nat) : Bool := mget 0 c.mode.pgStart g != 0

/-- The start of a PLL is over. -/
def pgSettled (c : Core) (g : Nat) : Core := { c with mode := { c.mode with pgStart := merase c.mode.pgStart g } }

/-- PG_PLL_LOCK (R444). -/
def pgLock (c : Core) (g : Nat) : Core :=
  if pgStarting c g ∧ pllModes c ∧ clockBit c 1 then setClock (pgSettled c g) (6 + g) true else c

/-- PG_PLL_LOCK_TIMEOUT: 300 µs after its start (R444). -/
def pgLockTimeout (c : Core) (g : Nat) : Core :=
  if pgStarting c g then
    let c1 := elapseUntil c (mget 0 c.mode.pgStart g - 1 + 300000)
    raise (pgSettled c1 g) (clockFault (6 + g)) 2 0
  else c

/-- A write of PG_KEEP (R443): a set bit starts a stopped PLL in RUN; a cleared bit starts its idle time. -/
def writePgKeep (c : Core) (v : Nat) : Core :=
  let old := rd c (clk 3)
  let c1 := wr c (clk 3) v
  let idle := (List.range 16).filter (fun g => bit old g && !bit v g)
  let c2 := { c1 with mode := { c1.mode with pgIdleSince := idle.foldl (fun m g => mset 0 m g c1.time) c1.mode.pgIdleSince } }
  if inMode c2 .run then (setBits v 16).foldl startPll c2 else c2

/-! ## REFCLK (R30, R442) -/

/-- REFCLK_PRESENT: REFCLK appears or returns (R30). -/
def refPresent (c : Core) : Core :=
  let c1 := setRef c 0 true
  if inMode c1 .dormant then c1 else setClock c1 1 true

/-- REF_LOCK_COMPLETE: REF_LOCKED and the bits of the REFCLK-locked domains of the mode read 1, and the counter runs from where the
scale stood (R30, R249, R399). -/
def refLock (c : Core) : Core :=
  if !bit (rd c refKey) 0 ∨ inMode c .dormant then c
  else
    let c0 := setRef c 1 true
    let c1 := if c.clk.counting then c0
      else { c0 with clk := { c0.clk with counting := true, at_ := c0.time - min (c0.stamp - c0.clk.boundary) (c0.clk.curPeriod * 40960) / 4096 } }
    let c2 := { c1 with clk := { c1.clk with lockedSince := if refLocked c then c1.clk.lockedSince else some c1.time } }
    let c3 := applyClocks c2
    let c4 := if pllModes c3 then (List.range 16).foldl (fun c g => if pgWanted c g then setClock (pgSettled c g) (6 + g) true else c) c3 else c3
    resumeRun (if clockBit c4 5 then [0, 1, 2].foldl leaveHoldXtal c4 else c4)

/-- REFCLK_LOSS (R442): the domains on REFCLK stop without a source of their own, and the source of bit REF raises once. -/
def refLoss (c : Core) : Core :=
  if !bit (rd c refKey) 0 then c
  else
    let c1 := (List.range 64).foldl (fun c w => stopAtVector c 7 w) c
    let c2 := endAcqs (endMeasures c1 5) 3
    let c3 := breakRun c2
    let st := setBit (clearBits (rd c3 refKey) 7) 5
    let off := [1, 4, 5, 38, 42, 43, 44, 45] ++ (List.range 16).map (· + 6)
    let c4 := off.foldl (fun c d => setClock c d false) (wr c3 refKey st)
    let s := scaleNow c3
    let c5 := { c4 with
      stamp := s
      clk := { c4.clk with phased := false, lockedSince := none, counting := false }
      mode := { c4.mode with
        pgStart := []
        transition := c4.mode.transition.map (fun t => if t.target = 7 then { t with boundary := none } else t) } }
    raise ([0, 1, 2].foldl enterHoldXtal c5) (clockFault 1) 2 0

/-- CLOCK_LOCK_LOSS: a domain falls out of lock (R32). -/
def clockLoss (c : Core) (d : Nat) : Core :=
  if d = 1 then refLoss c
  else if !clockBit c d then c
  else
    let s := scaleNow c
    let c1 := { setClock c d false with stamp := s }
    let c2 := if 4 ≤ d ∧ d ≤ 21 then
        let c2 := setRef c1 1 false
        { c2 with clk := { c2.clk with lockedSince := none } }
      else c1
    if d = 47 then c2 else raise c2 (clockFault d) (clockLevel d) 0

/-- REFWARM_CHANGE (R194, R251, Table 13-8): a level that is low, up to this instant or from it on, is noted by whatever measures then. -/
def refwarmChange (c : Core) (level : Bool) : Core :=
  let c1 := setRef c 4 level
  if level && bit (rd c refKey) 4 then c1
  else coldMeasures { c1 with cal := { c1.cal with coldNow := true, fgCold := c1.cal.fgCold || c1.cal.fgRunning } }

/-! ## SYNC_IN (R31, R374) -/

/-- The boundary that follows the latest one, on the stamp scale. -/
def nextBoundary (c : Core) : Nat := c.clk.boundary + epochTicks c

/-- Time passes up to a tick of the scale, whether or not the stamp clock runs. -/
def elapseScale (c : Core) (t : Nat) : Core :=
  if clockBit c 5 then elapseTo c t
  else if c.clk.counting then elapseUntil c (c.clk.at_ + (t - c.clk.boundary) / 4096)
  else c

/-- Set the phase: the scale steps so that the next boundary falls at tick x of the old scale (log 63). -/
def setPhase (c : Core) (x : Nat) : Core :=
  let d : Int := (nextBoundary c : Int) - x
  { c with
    stamp := ((c.stamp : Int) + d).toNat
    clk := { c.clk with phased := true, at_ := ((c.clk.at_ : Int) - d / 4096).toNat } }

/-- SYNC_PULSE: `i` is the instant t_S on the stamp scale (R31, R374). -/
def syncPulse (c : Core) (i : Nat) : Core :=
  if !clockBit c 1 then c
  else
    let t := nearInstant (scaleNow c) (2 ^ 64) i
    let c0 := elapseScale c t
    let c1 := if rdb c0 (mkKey 0x1301 3) then emit c0 (.syncOut t) else c0
    let x := t + c.clk.comp
    if !c1.clk.counting then c1
    else if !c1.clk.phased then
      setRef (setPhase c1 (x + ceilDiv (scaleNow c1 - x) (epochTicks c1) * epochTicks c1)) 2 true
    else if ((x : Int) - c1.clk.boundary) % epochTicks c1 = 0 then setRef c1 2 true
    else raise (setRef c1 3 true) 295 1 0

/-- SYNC_LOSS: two periods without a pulse (R374). -/
def syncLoss (c : Core) : Core := if bit (rd c refKey) 2 then raise (setRef c 2 false) 295 1 0 else c

/-! ## The test access port (R445, R467) -/

/-- The next state of the IEEE 1149.1 controller. -/
def tapNext : TapState → Bool → TapState
  | .testLogicReset, tms => if tms then .testLogicReset else .runTestIdle
  | .runTestIdle, tms => if tms then .selectDr else .runTestIdle
  | .selectDr, tms => if tms then .selectIr else .captureDr
  | .captureDr, tms => if tms then .exit1Dr else .shiftDr
  | .shiftDr, tms => if tms then .exit1Dr else .shiftDr
  | .exit1Dr, tms => if tms then .updateDr else .pauseDr
  | .pauseDr, tms => if tms then .exit2Dr else .pauseDr
  | .exit2Dr, tms => if tms then .updateDr else .shiftDr
  | .updateDr, tms => if tms then .selectDr else .runTestIdle
  | .selectIr, tms => if tms then .testLogicReset else .captureIr
  | .captureIr, tms => if tms then .exit1Ir else .shiftIr
  | .shiftIr, tms => if tms then .exit1Ir else .shiftIr
  | .exit1Ir, tms => if tms then .updateIr else .pauseIr
  | .pauseIr, tms => if tms then .exit2Ir else .pauseIr
  | .exit2Ir, tms => if tms then .updateIr else .shiftIr
  | .updateIr, tms => if tms then .selectDr else .runTestIdle

/-- The device identification code (R467). -/
def idcode : Nat := 0x12560A3B

/-- A rising TCK edge: the registers capture and shift, and the controller moves; the instruction register and the codes of
the other instructions are not given (log 14). -/
def tapRise (x : Tap) (tms tdi : Bool) : Tap :=
  let x1 := match x.state with
    | .testLogicReset => { x with idcode := true }
    | .captureDr => { x with shift := idcode }
    | .shiftDr => { x with shift := x.shift / 2 + ofBool tdi * 2 ^ 31 }
    | .shiftIr => { x with idcode := false }
    | _ => x
  let next := tapNext x1.state tms
  { x1 with state := next, idcode := x1.idcode || next == .testLogicReset }

/-- TCK_EDGE: TDO changes on the falling edge; where the data register is not the identification register, or the instruction
register shifts, TDO is a free value (R467, log 14). -/
def tckEdge (c : Core) (rising tms tdi : Bool) : Core :=
  let x := { c.tap with lastEdge := some c.time }
  if rising then { c with tap := tapRise x tms tdi }
  else if x.state = .shiftDr ∧ x.idcode then { c with tap := { x with tdo := bit x.shift 0 } }
  else if x.state = .shiftDr ∨ x.state = .shiftIr then
    freeUsed { c with tap := { x with tdo := bit (freeNow c) 0 } }
  else { c with tap := x }

/-- TAP_RESET (R445). -/
def tapReset (c : Core) : Core := { c with tap := { c.tap with state := .testLogicReset, idcode := true, shift := 0, tdo := false } }

end Sys2Proof.Machine
end

