-- ==== Sys2Proof/Machine/Faults.lean ====
section
/-!
DEFINITION. Sys2Proof/Machine/Faults.lean: acknowledgement, the first-fault latch, the history log, ALIVE, the sensors' alarms and the
tally counters' objects (15_integrity_faults.md R427 to R436; 17_package_electrical.md R460).
-/
namespace Sys2Proof.Machine

/-- The sources of Table 15-5: 0 to 309. -/
def faultSources : Nat := 310

/-- A write of FAULT_ACK: the sticky bits of the mask are cleared and their raises acknowledged; reserved sources are ignored (R428, R435). -/
def writeFaultAck (c : Core) (mask : List Byte) : Core :=
  let v := ofLe mask
  let srcs := (setBits v faultSources).foldl (fun m s => mset {} m s { mget {} m s with sticky := false, unacked := none }) c.faults.srcs
  { c with faults := { c.faults with srcs := srcs } }

/-- A write of FIRST_CLR (R432). -/
def clearFirst (c : Core) : Core := wr (wr c (mkKey 0x7000 4) 0xFFFFFFFF) (mkKey 0x7000 5) 0

/-- The slots of the history log. -/
def historySlots : Nat := 32768

/-- A fault history record (Table 15-7). -/
def historyRecord (c : Core) (e : FaultEvent) : List Byte :=
  let body := leBytes 56 (packFields [(9, e.source), (3, e.level), (3, e.raised), (1, ofBool e.first), (16, e.coalesced), (64, e.stamp),
    (48, e.epoch), (48, e.detail), (32, rd c (mkKey 0x1200 7))])
  body ++ trailerWord body

/-- HISTORY_RECORD_WRITE: the oldest queued event is written (R432). -/
def writeHistory (c : Core) : Core :=
  match c.faults.queue with
  | [] => c
  | e :: q =>
    let slot := rd c (mkKey 0x7000 0xD)
    let c1 := { c with faults := { c.faults with queue := q, history := mset [] c.faults.history slot (historyRecord c e) } }
    wr c1 (mkKey 0x7000 0xD) ((slot + 1) % historySlots)

/-- ALIVE makes a regular edge; after an L3 or L4 raise it is the last one (R433). -/
def aliveEdge (c : Core) : Core :=
  if rd c (mkKey 0x7200 1) = 1 then c
  else
    let c1 := { c with faults := { c.faults with aliveHigh := !c.faults.aliveHigh } }
    if c1.faults.aliveStopping then wr c1 (mkKey 0x7200 1) 1 else c1

/-- The junction temperature has passed 100 or 110 degC (Table 15-5). -/
def thermalRaise (c : Core) (milliC : Int) : Core :=
  if 110000 < milliC then raise c 307 3 0 else if 100000 < milliC then raise c 307 1 0 else c

/-! ## Tally counters (R434, R436) -/

def getTally (c : Core) (k : Nat) : Tally := mget {} c.tally k
def setTally (c : Core) (k : Nat) (x : Tally) : Core := { c with tally := mset {} c.tally k x }

/-- A write of SOURCE: it clears VALUE (R434). -/
def writeTallySource (c : Core) (k v : Nat) : Answer :=
  answer c (guardSt (v ≤ 0xEF || v == 0xFF) stOutOfRange (.ok (setTally c k { getTally c k with source := v, value := 0 })))

/-- A write of CLEAR (Table 15-11). -/
def clearTally (c : Core) (k : Nat) : Core := setTally c k { getTally c k with value := 0 }

/-- At an epoch boundary each counter copies VALUE into EPOCH_VALUE (R434). -/
def copyTally (c : Core) : Core := { c with tally := c.tally.map (fun e => (e.1, { e.2 with epochValue := e.2.value })) }

/-- Whether every Weaver has reached its stop boundary: none runs, holds or waits for one (R431). -/
def weaversStopped (c : Core) : Bool := (List.range 64).all (fun w => wState c w != 2 && wState c w != 3)

end Sys2Proof.Machine
end

