-- ==== Sys2Proof/Machine/Modes.lean ====
section
/-!
DEFINITION. Sys2Proof/Machine/Modes.lean: the mode machine, prepared mode changes, the wake logic, reset, boot and images
(16_modes_power_boot.md R437 to R456; 13_withy_multidevice.md R379, R380).
-/
namespace Sys2Proof.Machine

/-! ## Wake (R453 to R455) -/

/-- The wake request is withdrawn: WAKE_N is released and the resends end (R454). -/
def withdrawWake (c : Core) : Core :=
  { wr c (wkk 5) 0 with mode := { c.mode with wakeDriven := false }, dap := { c.dap with wakeNotify := none } }

/-- The wake NOTIFY with a number: SESSION_ID 0 and a tag keyed by PSK where AUTH_REQUIRED is 1 (R454). -/
def wakeFrame (c : Core) (number : Nat) (again : Bool) : List Byte :=
  let key := if authRequired c then some (psk c) else none
  let body := c.dap.wakeBody
  sealed (dapHeader { opcode := opNotify, flags := ofBool key.isSome * 4 + ofBool again * 8, target := deviceId c, session := 0, status := 0
                      sequence := number, length := body.length } ++ body) key

/-- WAKE_HOST. -/
def wakeHost (c : Core) : Option HostAddr :=
  let a := dom c (wkk 4)
  if a.length = 20 then some { ip := BitVec.ofNat 128 (ofBe (a.take 16)), port := BitVec.ofNat 16 (leAt a 16 2) } else none

/-- Send the wake NOTIFY through the port that STANDBY runs. -/
def sendWake (c : Core) (number : Nat) (again : Bool) : Core :=
  match wakeHost c with
  | some a => sendUdp c (rd c (mo 8)) svcDap a (wakeFrame c number again)
  | none => c

/-- The wake request is raised: WAKE_N is pulled low and the NOTIFY leaves with the entry 0x1210:01 (R454). -/
def raiseWake (c : Core) : Core :=
  let n := c.dap.wakeNext
  let body := dapEntry (wkk 1) 3 (leBytes 2 (rd c (wkk 1))) (freeNow c) 0
  let c1 := wr (freeUsed c) (wkk 5) 1
  sendWake { c1 with mode := { c1.mode with wakeDriven := true, wakeOwed := false, wakeNotified := c1.mode.wakeNotified ||| rd c1 (wkk 1) }
                     dap := { c1.dap with wakeNotify := some n, wakeBody := body, wakeNext := n + 1 } } n false

/-- WAKE_NOTIFY_RESEND: 10 ms without NOTIFY_ACK (R454). -/
def wakeResend (c : Core) : Core :=
  match c.dap.wakeNotify with
  | some n => sendWake c n true
  | none => c

/-- A write of WAKE_CLR (R454). -/
def writeWakeClr (c : Core) : Core := withdrawWake c

/-- A write of WAKE_CAUSE: bits written 1 are cleared. -/
def writeWakeCause (c : Core) (v : Nat) : Core :=
  { wr c (wkk 1) (clearBits (rd c (wkk 1)) v) with mode := { c.mode with wakeNotified := clearBits c.mode.wakeNotified v } }

/-- A wake out of DORMANT starts its transition (R453, Table 16-3). -/
def leaveDormant (c : Core) : Core :=
  if c.mode.transition.isSome then c
  else { wr c (mo 3) 2 with mode := { c.mode with transition := some { target := 2, boundary := none, prepared := false } } }

/-- A device cause: bit b of WAKE_CAUSE, if it is enabled (R453, R454). -/
def deviceCause (c : Core) (b : Nat) : Core :=
  if !bit (rd c (wkk 2)) b then c
  else
    let c1 := wr c (wkk 1) (setBit (rd c (wkk 1)) b)
    if inMode c1 .dormant then leaveDormant { c1 with mode := { c1.mode with wakeOwed := true } }
    else if inMode c1 .standby ∧ !bit c1.mode.wakeNotified b then raiseWake c1
    else c1

/-- WAKE_PIN: WAKE_N held low by another party counts in DORMANT alone (R453). -/
def wakePin (c : Core) : Core :=
  if inMode c .dormant then
    let c1 := wr c (wkk 1) (setBit (rd c (wkk 1)) 0)
    leaveDormant { c1 with mode := { c1.mode with wakePinSeen := true } }
  else c

/-- WAKE_ALARM: TB3 reaches WAKE_ALARM (R453). -/
def wakeAlarm (c : Core) : Core := deviceCause c 2

/-- A resume or a COMMIT out of STANDBY withdraws a PENDING request and sets RESUME (R455). -/
def resumeWake (c : Core) : Core :=
  if rd c (wkk 5) = 1 then withdrawWake (wr c (wkk 1) (setBit (rd c (wkk 1)) 1)) else c

/-! ## The transition table (R439) -/

/-- Condition A: REF_LOCKED, and ORDER does not read FAILED. -/
def condA (c : Core) : Bool := refLocked c && rd c (hk 2) != 0xFF

/-- Condition B: no Weaver at work, no calibration and no training running. -/
def condB (c : Core) : Bool :=
  (List.range 64).all (fun w => !(wState c w == 1 || wState c w == 2 || wState c w == 3)) && rd c (gk 7) != 1 && rd c (hk 0x13) != 1

/-- No MEM_TEST or install running. -/
def condService (c : Core) : Bool := rd c (hk 0x15) != 1 && rd c (imk .firmware 3) != 1 && rd c (imk .microcode 3) != 1

/-- A row of Table 16-3: whether it takes effect at an epoch boundary, and whether its condition holds. -/
def rowOf (c : Core) (f t : Nat) : Option (Bool × Bool) :=
  let fast := fun m : Nat => decide (3 ≤ m) && decide (m ≤ 5)
  if f = t then none
  else if t = 7 then (if f = 0 then none else some (refLocked c, true))
  else if fast f && fast t then some (true, condA c && (t != 5 || condC c) && (f == 3 || condB c))
  else if f = 1 ∧ t = 2 then some (false, false)
  else if f = 2 ∧ t = 1 then some (false, true)
  else if f = 2 ∧ t = 3 then some (false, condA c)
  else if f = 2 ∧ t = 6 then some (false, refLocked c)
  else if f = 3 ∧ (t = 2 ∨ t = 6) then some (false, condB c)
  else if f = 6 ∧ t = 2 then some (false, condService c)
  else if f = 6 ∧ t = 3 then some (false, condA c && condService c)
  else none

/-! ## Entering a mode (Table 1-5, R33, R34, R167, R178, R312, R441) -/

/-- Whether a mode runs an Ethernet port (Table 1-5, R441). -/
def portRuns (c : Core) (p : Nat) : Bool :=
  let m := modeNow c
  decide (2 ≤ m) && (pllModes c || p == rd c (mo 8))

/-- The Ethernet ports after a mode entry: those that stop go DOWN, those that start train. -/
def modePorts (c : Core) : Core :=
  [0, 1].foldl (fun c p =>
    if portRuns c p then (if rd c (ek p 8) = 0 then wr c (ek p 8) 1 else c)
    else if rd c (ek p 8) = 0 then c
    else streamsOffPort (setClock (wr c (ek p 8) 0) (39 + p) false) p) c

/-- The links after a mode entry: UP at the mode's rate, training where they start, DOWN where the mode runs none. -/
def modeLinks (c : Core) : Core :=
  (List.range 8).foldl (fun c l =>
    if !linksRun c then
      let c1 := wr (wr (wr (wr c (lk l 2) 0) (lk l 3) 0xFFFF) (lk l 4) 0xFF) (lk l 5) 0
      setClock { c1 with links := merase c1.links l } (30 + l) false
    else if linkUp c l then wr c (lk l 2) (if oneLane c then 3 else 2)
    else if rdb c (lk l 1) && rd c (lk l 2) == 0 then wr c (lk l 2) 1
    else c) c

/-- The requests on links that are no longer UP end with LINK_DOWN (R368, R372). -/
def endLostRequests (m : Mem) (c : Core) : Mem × Core :=
  let (kept, lost) := c.remote.reqs.partition (fun r => linkUp c r.link)
  lost.foldl (fun p r => endRequest p.1 p.2 r 6 0 []) (m, { c with remote := { c.remote with reqs := kept } })

/-- What ends with the modes that run the PLLs: measurements, acquisitions, the code-density run, partitions, port queues; a Weaver
still at work stops at its next vector, or returns from ARMED, as by ABORT (R441; log 67). -/
def leaveFast (m : Mem) (c : Core) : Mem × Core :=
  let stop := fun (c : Core) (w : Nat) =>
    if wState c w = 1 then (if (getW c w).stopReq.isSome then stopArmed c w else abortArmed c w)
    else if wState c w = 2 ∨ wState c w = 3 then safeStop m (stopAtVector c 8 w) w
    else c
  let c1 := (List.range 64).foldl stop c
  haltAll m (breakRun (endAcqs (endMeasures c1 7) 2))

/-- The entry to DORMANT: sessions and subscriptions close, REFCLK and the counter stop, the time bases are UNSET, and the Yard is lost unless
YARD_RETAIN is 1 (R441). -/
def enterDormant (m : Mem) (c : Core) : Mem × Core :=
  let keep := rdb c (mo 4)
  let c1 := wr c refKey (clearBits (rd c refKey) 7)
  let c2 := [0, 1, 2].foldl (fun c t => setTb (wr c (tbk t 3) 0) t {}) c1
  let c3 := { c2 with
    dap := { c2.dap with sessions := [], subs := [], deferred := [], paths := [] }
    clk := { c2.clk with counting := false, phased := false, lockedSince := none }
    mode := { c2.mode with wakePinSeen := false, wakeOwed := false }
    landing := if keep then c2.landing else { c2.landing with staged := [], held := 0 } }
  (if keep then m else { m with cells := m.cells.filter (fun e => !(decide (yardBase ≤ e.1) && decide (e.1 < yardTop))) }, c3)

/-- The HBM is active in modes WARM to SERVICE (R312). -/
def hbmMode (t : Nat) : Bool := decide (3 ≤ t) && decide (t ≤ 6)

/-- Enter a major mode. -/
def enterMode (m : Mem) (c : Core) (t : Nat) (retrain : List StackTraining) : Mem × Core :=
  let f := modeNow c
  let was := pllModes c
  let fast := decide (3 ≤ t) && decide (t ≤ 5)
  let (m1, c1) := if was && !fast then leaveFast m c else (m, c)
  let c2 := wr (wr c1 (mo 1) t) (mo 3) 0xFF
  let c3 := { c2 with mode := { c2.mode with transition := none, runSince := if t = 5 then c2.time else c2.mode.runSince } }
  let (m4, c4) := if t = 1 then enterDormant m1 c3 else (m1, c3)
  let c5 := hbmModeEntry c4 (hbmMode f) (hbmMode t) (t == 3 || t == 4 || t == 6) retrain
  let c6 := modePlls (applyClocks c5) was
  let c7 := if clockBit c6 5 then [0, 1, 2].foldl leaveHoldXtal c6 else c6
  let c8 := if fast then c7 else haltPorts c7
  let c9 := modeLinks (modePorts (restPins c8))
  let c10 := if t = 2 ∧ f = 1 ∧ c9.mode.wakeOwed ∧ !c9.mode.wakePinSeen then raiseWake c9 else c9
  let (m11, c11) := endLostRequests m4 c10
  (m11, pairRefresh (tryRecover m11 (resumeRun (firstRun c11))))

/-! ## Requests (R438 to R440, R379) -/

/-- A change that diverges (R380, R439). -/
def diverge (c : Core) : Core := raise (bump (wr c (chg 3) 5) (chg 6)) 296 1 0

/-- The checks of R440 against the mode in force. -/
def requestState (c : Core) (t : Nat) : Option Status :=
  let f := modeNow c
  if f = t then none
  else if t = 7 ∧ f = 0 then some stStateConflict
  else match rowOf c f t with
    | none => some stWrongMode
    | some (_, ok) =>
      let st := rd c (chg 3)
      if !ok || c.mode.transition.isSome || st == 1 || st == 2 then some stStateConflict else none

/-- A local request (R438, R440, R455). -/
def localRequest (c : Core) (t : Nat) : Answer :=
  match requestState c t with
  | some s => (s, c)
  | none =>
    if modeNow c = t then (stOk, c)
    else
      let merged := inMode c .standby && rd c (wkk 5) == 1
      let c1 := if merged then resumeWake c else c
      let at_ := match rowOf c (modeNow c) t with
        | some (true, _) => some (epochNow c + 1)
        | _ => none
      let c2 := wr c1 (mo 3) t
      (if merged then stWakeMerged else stOk,
       { c2 with mode := { c2.mode with transition := some { target := t, boundary := at_, prepared := false } } })

/-- A prepare, after its layout checks (R379); a device without ID is in no mode-change group (R38). -/
def prepareChange (c : Core) (t id e : Nat) : Answer :=
  let st := rd c (chg 3)
  if e < epochNow c + 3 then (stEpochPast, c)
  else if st = 1 ∨ st = 2 ∨ noDeviceId c then (stStateConflict, c)
  else match requestState c t with
    | some s => (s, c)
    | none =>
      if modeNow c = t then (stOk, c)
      else
        let c1 := wr (wr (wr c (chg 1) id) (chg 2) e) (chg 3) 1
        (stOk, { c1 with mode := { c1.mode with prepared := some (id, t, e) } })

/-- A write of REQUEST: a local request or a prepare (R438). -/
def writeRequestMode (c : Core) (data : List Byte) : Answer :=
  let t := leAt data 0 1
  let id := leAt data 4 4
  let e := leAt data 8 8
  if data.length ≠ 16 then (stOutOfRange, c)
  else if 7 < t then (stReservedValue, c)
  else if leAt data 1 3 ≠ 0 ∨ (id = 0) ≠ (e = 0) then (stOutOfRange, c)
  else if id = 0 then localRequest c t
  else prepareChange c t id e

/-- A COMMIT or ABORT that the device discards (R380). -/
def lateToken (c : Core) : Core := bump c (chg 7)

/-- Whether a token for the boundary before epoch e arrives in time: at or before its instant. -/
def beforeLast (c : Core) (e : Nat) : Bool :=
  decide (epochNow c + 1 < e) || (decide (epochNow c + 1 = e) && decide (scaleNow c ≤ c.clk.boundary))

/-- What a COMMIT does on the device (R380, R455). -/
def actCommit (c : Core) (id : Nat) : Core :=
  match c.mode.prepared with
  | some (pid, _, e) =>
    let st := rd c (chg 3)
    if pid = id ∧ (st = 1 ∨ st = 2) ∧ beforeLast c e then
      let c1 := wr c (chg 3) 2
      if inMode c1 .standby then resumeWake c1 else c1
    else lateToken c
  | none => lateToken c

/-- What an ABORT does on the device (R380). -/
def actAbort (c : Core) (id : Nat) : Core :=
  match c.mode.prepared with
  | some (pid, _, e) =>
    let st := rd c (chg 3)
    if pid = id ∧ (st = 1 ∨ st = 4) ∧ epochNow c < e then wr c (chg 3) 4 else lateToken c
  | none => lateToken c

/-- The epoch that a COMMIT token carries: that of the own prepared change. -/
def changeEpoch (c : Core) (id : Nat) : Nat :=
  match c.mode.prepared with
  | some (pid, _, e) => if pid = id then e else 0
  | none => 0

/-- A write of COMMIT: the token is executed and flooded (R380); a device without ID is in no mode-change group (R38). -/
def writeCommit (c : Core) (id : Nat) : Core :=
  if noDeviceId c then c else sendToken (actCommit c id) tokCommit (changeEpoch c id) id

/-- A write of ABORT (R380). -/
def writeAbortChange (c : Core) (id : Nat) : Core :=
  if noDeviceId c then c else sendToken (actAbort c id) tokAbort 0 id

/-! ## Transitions take effect (R34, R439) -/

/-- MODE_TRANSITION_COMPLETE: a timed transition ends in its mode. -/
def transitionDone (m : Mem) (c : Core) (retrain : List StackTraining) : Mem × Core :=
  match c.mode.transition with
  | some { target := t, boundary := none, prepared := p } =>
    let (m1, c1) := enterMode m c t retrain
    (m1, if p then wr c1 (chg 3) 3 else c1)
  | _ => (m, c)

/-- The local change that waits for a boundary. -/
def localAtBoundary (m : Mem) (c : Core) : Mem × Core :=
  match c.mode.transition with
  | some { target := t, boundary := some _, prepared := _ } => enterMode m c t []
  | _ => (m, c)

/-- The prepared change at its epoch (R380, R439). -/
def preparedAtBoundary (m : Mem) (c : Core) : Mem × Core :=
  match c.mode.prepared with
  | some (_, t, e) =>
    if epochNow c < e then (m, c)
    else
      let c1 := { c with mode := { c.mode with prepared := none } }
      let st := rd c1 (chg 3)
      if st = 1 then (m, diverge c1)
      else if st ≠ 2 then (m, c1)
      else if c1.mode.transition.isSome then (m, diverge c1)
      else match rowOf c1 (modeNow c1) t with
        | some (true, true) =>
          let (m2, c2) := enterMode m c1 t []
          (m2, wr c2 (chg 3) 3)
        | some (false, true) =>
          let c2 := wr c1 (mo 3) t
          (m, { c2 with mode := { c2.mode with transition := some { target := t, boundary := none, prepared := true } } })
        | _ => (m, diverge c1)
  | none => (m, c)

/-- Mode changes at an epoch boundary. -/
def modeAtBoundary (m : Mem) (c : Core) : Mem × Core :=
  let (m1, c1) := localAtBoundary m c
  preparedAtBoundary m1 c1

/-- DEVICE_FAULT_SAFE_ENTRY: after an L3 or L4 raise, once every Weaver has stopped (R430, R431). -/
def faultSafe (m : Mem) (c : Core) : Mem × Core :=
  if c.faults.safeDue ∧ weaversStopped c ∧ !inModes c [.boot, .safe] then
    enterMode m { c with faults := { c.faults with safeDue := false } } 7 []
  else (m, c)

/-! ## Images (R447 to R449, R451, R452) -/

/-- The slot that boot takes: BOOT_SLOT's, or the other if that image is not valid (R447, R449). -/
def bootSlot (c : Core) (k : ImageKind) : Option Nat :=
  let s := rd c (imk k 6)
  if imageValid c k (slotImage c k s) then some s
  else if imageValid c k (slotImage c k (1 - s)) then some (1 - s)
  else none

/-- A write of STAGE (R451): the reserved bytes of the header are zero (R10, Table 16-6). -/
def writeStage (c : Core) (k : ImageKind) (data : List Byte) : Answer :=
  answer c (guardSt (decide (256 ≤ data.length) && decide (data.length ≤ 256 + imageMax k) && allZero (slice data 64 96)) stOutOfRange (.ok (setDom c (imk k 1) data)))

/-- The slot of the running image: none in recovery or without microcode. -/
def runningSlot (c : Core) (k : ImageKind) : Option Nat :=
  match k with
  | .firmware => if c.mode.recovery then none else some (rd c (mkKey 0x1009 2))
  | .microcode => if rd c (mkKey 0x100A 1) = 0 then none else some (rd c (mkKey 0x100A 2))

/-- A write of INSTALL (R451). -/
def writeInstall (c : Core) (k : ImageKind) (s : Nat) : Answer :=
  answer c (guardSt (runningSlot c k != some s && rd c (imk k 3) != 1) stStateConflict
    (let c1 := wr c (imk k 3) 1
     .ok { c1 with mode := { c1.mode with installing := mset 0 c1.mode.installing (slotKey k 0) (s + 1) } }))

/-- INSTALL_COMPLETE: a valid image stands in the slot, any other is not installed (R451). -/
def installComplete (c : Core) (k : ImageKind) : Core :=
  match mget 0 c.mode.installing (slotKey k 0) with
  | 0 => c
  | s + 1 =>
    let c1 := { c with mode := { c.mode with installing := merase c.mode.installing (slotKey k 0) } }
    let l := dom c1 (imk k 1)
    if imageValid c1 k l then
      wr { c1 with mode := { c1.mode with slots := minsert (merase c1.mode.slots (slotKey k s)) (slotKey k s) l } } (imk k 3) 2
    else wr c1 (imk k 3) 3

/-- The version of the running image of a kind. -/
def runningVersion (c : Core) (k : ImageKind) : Nat :=
  match k with
  | .firmware => rd c (mkKey 0x1009 1)
  | .microcode => rd c (mkKey 0x100A 1)

/-- A write of FLOOR: it raises the floor (R452; log 68). -/
def writeFloor (c : Core) (k : ImageKind) (v : Nat) : Answer :=
  answer c (guardSt (decide (v ≤ runningVersion c k)) stOutOfRange (.ok (wr c (imk k 7) (max v (rd c (imk k 7))))))

/-! ## Reset (R445, R446) -/

/-- A write of RESET: a warm reset is due (R446). -/
def writeReset (c : Core) : Core := { c with mode := { c.mode with resetDue := true } }

/-- The reset is counted and reported, and BOOT begins (R446). -/
def countReset (c : Core) (old cause : Nat) : Core := wr (wr c (mo 7) ((old + 1) % 2 ^ 32)) (mo 6) cause

/-- What both resets keep: stored objects, and the rest of eMRAM (Table 16-4); the levels of the inputs stand (log 71), and the clocks of
BOOT run (Table 1-5). -/
def emramKept (c : Core) : Core :=
  wr (wr { ({} : Core) with
    fresh := c.fresh
    time := c.time
    outbox := c.outbox
    regs := c.regs.filter (fun e => storedKey e.1)
    doms := c.doms.filter (fun e => storedKey e.1)
    clk := { comp := rd c (mkKey 0x1301 2) }
    journal := { slots := c.journal.slots }
    faults := { history := c.faults.history }
    streams := c.streams.foldl (fun m e => mset {} m e.1 { acqOpen := e.2.acqOpen }) []
    mode := { slots := c.mode.slots, trgi := c.mode.trgi }
    pins := c.pins.foldl (fun m e => mset {} m e.1 { field := e.2.field, fieldCold := e.2.fieldCold, rawH := e.2.rawH, rawL := e.2.rawL }) [] }
    refKey (rd c refKey &&& 16)) clockKey bootClocks

/-- POWER_ON_RESET: eMRAM is kept, everything else is cleared (Table 16-4). -/
def powerOn (c : Core) : Mem × Core := ({}, countReset (emramKept c) (rd c (mo 7)) 0)

/-- The objects of the HBM that a warm reset keeps with its training (R313). -/
def hbmKey (k : Key) : Bool :=
  [hk 2, hk 3, hk 5, hk 6, hk 8, hk 0x16].contains k || [0, 1, 2, 3].any (fun s => k == stk s 4 || k == stk s 6)

/-- WARM_RESET: eMRAM, the HBM's contents and training, and TB3 are kept (R313, Table 16-4); an initialisation or memory test in progress
starts over. -/
def warmCore (m : Mem) (c : Core) (cause : Nat) : Mem × Core :=
  let c0 := emramKept c
  let busy := rd c (hk 0x16) = 1 ∨ rd c (hk 0x15) = 1
  let kept := c.regs.filter (fun e => storedKey e.1 || keyIx e.1 == 0x6403 || hbmKey e.1)
  let c1 := { c0 with
    regs := (wr (wr { c0 with regs := kept } refKey (rd c refKey &&& 16)) clockKey bootClocks).regs
    tbs := c.tbs.filter (fun e => e.1 == 3)
    tap := c.tap
    keeper := c.keeper
    hbm := { grain := c.hbm.grain, mask := c.hbm.mask, trained := c.hbm.trained && !decide busy }
    journal := { c0.journal with head := c.journal.head }
    streams := c.streams.foldl (fun s e => mset {} s e.1 { ring := e.2.ring, ringPos := e.2.ringPos, acqOpen := e.2.acqOpen }) []
    buddy := { held := c.buddy.held, acked := c.buddy.acked } }
  let c2 := if busy then wr c1 (hk 0x16) 0 else c1
  ({ m with cells := m.cells.filter (fun e => decide (e.1 < hbmTop)) }, countReset c2 (rd c (mo 7)) cause)

/-- WARM_RESET as an event: after a RESET write, or after the reaction L3 with L3_ACTION WARM_RESET once the Weavers have stopped
(R431, R445). -/
def warmReset (m : Mem) (c : Core) : Mem × Core :=
  if !c.mode.resetDue then (m, c)
  else if c.faults.reaction = 3 ∧ rd c (mkKey 0x7000 9) = 1 then (if weaversStopped c then warmCore m c 2 else (m, c))
  else warmCore m c 1

/-! ## Boot (R447, R449) -/

/-- The running firmware. -/
def bootFirmware (c : Core) (s : Nat) : Core := wr (wr c (mkKey 0x1009 1) (imageVersion (slotImage c .firmware s))) (mkKey 0x1009 2) s

/-- The microcode loaded into bank A of every Weaver (R142). -/
def bootMicrocode (c : Core) (s : Nat) : Core :=
  let c1 := wr (wr c (mkKey 0x100A 1) (imageVersion (slotImage c .microcode s))) (mkKey 0x100A 2) s
  (List.range 64).foldl (fun c w => modW c w (fun x => { x with bankA := vendorBank s false })) c1

/-- COMPAT_LEVEL: the lower level of the running firmware and the loaded microcode (R449). -/
def bootLevel (c : Core) (f : Nat) (u : Option Nat) : Core :=
  let a := imageLevel (slotImage c .firmware f)
  wr c (mkKey 0x1008 0) (match u with
    | some s => min a (imageLevel (slotImage c .microcode s))
    | none => a)

/-- BOOT_COMPLETE: the boot sequence ends in STANDBY, or in SERVICE in recovery (R447, R449). -/
def bootComplete (m : Mem) (c : Core) : Mem × Core :=
  if !inMode c .boot then (m, c)
  else match bootSlot c .firmware with
    | none => enterMode m { c with mode := { c.mode with recovery := true } } 6 []
    | some f =>
      let u := bootSlot c .microcode
      let c1 := bootFirmware c f
      let c2 := match u with
        | some s => bootMicrocode c1 s
        | none => c1
      enterMode m (scanJournal (bootBanks (bootLevel c2 f u))) 2 []

/-! ## Ethernet links (R51) -/

/-- ETH_LINK_UP. -/
def ethUp (c : Core) (p : Nat) : Core := if portRuns c p then setClock (wr c (ek p 8) 2) (39 + p) true else c

/-- A port loses its link, and with it its recovered clock: the CLOCK source of the domain raises (R32, log 99). -/
def ethDropped (c : Core) (p : Nat) : Core :=
  raise (streamsOffPort (setClock (wr c (ek p 8) 1) (39 + p) false) p) (clockFault (39 + p)) 1 0

/-- ETH_LINK_LOSS: the port trains again, and its source raises L1 (R51). -/
def ethLoss (c : Core) (p : Nat) : Core := if portUp c p then raise (ethDropped c p) (305 + p) 1 0 else c

/-! ## TRGI inputs (R453) -/

/-- TRGI_EDGE: the level, the wake cause, the detectors and the acquisition units that take it (R134, R274, R453). -/
def trgiEdge (c : Core) (k : Nat) (level : Bool) : Core :=
  let rose := level && !bit c.mode.trgi k
  let c1 := { c with mode := { c.mode with trgi := putBit c.mode.trgi k level } }
  let c2 := (List.range 64).foldl (fun c w =>
    if wState c w = 2 ∨ wState c w = 3 then wake (sampleEdges c w (fun v => bits v 12 4 == 5 && bits v 0 12 % 4 == k) level) w else c) c1
  if rose then deviceCause (noteTrgi c2 k) (3 + k) else c2

end Sys2Proof.Machine
end

