-- ==== Sys2Proof/Machine/Epoch.lean ====
section
/-!
DEFINITION. Sys2Proof/Machine/Epoch.lean: the epoch boundary and the settings of the counter
(13_withy_multidevice.md R374 to R376, R477; 02_dictionary_access.md R70; 07_capture_credit.md R214).
-/
namespace Sys2Proof.Machine

/-- The epoch count's modulus. -/
def epochWrap : Nat := 2 ^ 48

/-- A write of EPOCH_ALIGN: a count V and a time t on TB0 (R375). -/
def writeEpochAlign (c : Core) (data : List Byte) : Answer :=
  answer c
    (guardSt (data.length == 20 && decide (leAt data 0 8 < epochWrap) && decide (bits (leAt data 8 12) 16 32 < 1000000000)) stOutOfRange
      (guardSt (tbState c 0 != 3 && tbState c 0 != 4) stStateConflict
        (.ok { setDom c (mkKey 0x1300 2) data with clk := { c.clk with align := some (leAt data 0 8, leAt data 8 12) } })))

/-- A write of SYNC_PERIOD takes effect at a later boundary (R477). -/
def writeSyncPeriod (c : Core) (v : Nat) : Core :=
  { wr c (mkKey 0x1301 1) v with clk := { c.clk with periods := c.clk.periods ++ [(v, c.time)] } }

/-- A write of SYNC_COMP ends every TDC measurement and takes effect at a later boundary (R376, R477). -/
def writeSyncComp (c : Core) (v : Nat) : Core :=
  let c1 := endMeasures c 6
  { wr c1 (mkKey 0x1301 2) v with clk := { c1.clk with comps := c1.clk.comps ++ [(v, c1.time)] } }

/-- The newest of the settings that were written at least 1 µs before an instant, with those still to come (R477). -/
def takeSetting (now old : Nat) (l : List (Nat × Nat)) : Nat × List (Nat × Nat) :=
  let due := l.filter (fun e => decide (e.2 + 1000 ≤ now))
  ((due.getLast?.map Prod.fst).getD old, l.filter (fun e => decide (now < e.2 + 1000)))

/-- The count that a boundary gives: the next one, or V of EPOCH_ALIGN at or after its time on TB0; and whether it was loaded (R375). -/
def nextCount (c : Core) : Nat × Bool :=
  let next := ((epochNow c + 1) % epochWrap, false)
  match c.clk.align with
  | some (v, t) => if tbState c 0 ≠ 0 ∧ time96Val t ≤ (getTb c 0).val then (v, true) else next
  | none => next

/-- Time passes to the next boundary, shifted by a change of SYNC_COMP; the scale then reads B_F there, the count rises or is loaded, and new
settings are in force (R232, R374, R375, R477). -/
def crossBoundary (c : Core) : Core :=
  let due := c.clk.at_ + c.clk.curPeriod * 10
  let (comp, comps) := takeSetting due c.clk.comp c.clk.comps
  let (period, periods) := takeSetting due c.clk.curPeriod c.clk.periods
  let shift : Int := (comp : Int) - c.clk.comp
  let c1 := elapseScale c ((nextBoundary c : Int) + shift).toNat
  let (e, loaded) := nextCount c1
  let c2 := if loaded ∨ period ≠ c1.clk.curPeriod then endMeasures c1 6 else c1
  let past := ((scaleNow c2 : Int) - shift - nextBoundary c2).toNat
  let b := if loaded then e * period * 40960 else nextBoundary c2
  let c3 := { wr c2 (mkKey 0x1300 1) e with
    stamp := b + past
    clk := { c2.clk with boundary := b, at_ := c2.time - past / 4096, curPeriod := period, comp := comp, periods := periods, comps := comps
                         align := if loaded then none else c2.clk.align } }
  c3

/-- A pending RWE entry falls due and its value is in force (R70, R236, R286, log 72); a LAUNCH has armed at its acceptance, and a
GROUP_ARM's units arm with their token. -/
def applyPending (c : Core) (w : PendingWrite) : Core :=
  let ix := keyIx w.key
  let c1 := wr c w.key w.value
  if 0x4000 ≤ ix ∧ ix < 0x4108 then tdcArmAtDue c1 (ix - 0x4000)
  else if 0x44C0 ≤ ix ∧ ix < 0x44C8 ∧ keySub w.key = 8 then armAtDue c1 (ix - 0x44C0)
  else c1

/-- The pending entries of a boundary apply in acceptance order (R70). -/
def applyPendings (c : Core) : Core :=
  let due := c.rwe.filter (fun w => decide (w.epoch ≤ epochNow c))
  due.foldl applyPending { c with rwe := c.rwe.filter (fun w => decide (epochNow c < w.epoch)) }

/-- The ARMED Weavers, and those whose successor's check falls at this boundary, in the order of their checks (R214). -/
def launchOrder (c : Core) : List Nat :=
  checkOrder c ((List.range 64).filter (fun w => wState c w == 1 || succDue c w c.clk.boundary))

/-- The checks of a boundary. Then WAIT_EPOCHS rises for every Weaver still ARMED (R218), and an epoch with any launch waiting counts
once in its tally source (R97, R214, Table 15-9). -/
def launchChecks (m : Mem) (c : Core) : Core :=
  let c0 := (launchOrder c).foldl (fun c w => if wState c w = 1 then launchCheck m c w else checkSucc c w) c
  let c1 := ((List.range 64).filter (fun w => wState c0 w == 1)).foldl (fun c w => bump c (mkKey (0x5C40 + w) 2)) c0
  if (List.range 64).any (fun w => wState c1 w == 1 && decide ((getW c1 w).launchEpoch ≤ epochNow c1)) then tallyEvent c1 0xD7 else c1

/-- EPOCH_BOUNDARY: the time bases apply and latch, the tally counters copy, mode changes take effect, pending entries and group actions
apply, and the ARMED Weavers make their checks. -/
def epochBoundary (m : Mem) (c : Core) : Mem × Core :=
  if !c.clk.counting then (m, c)
  else
    let c1 := crossBoundary c
    let e := epochNow c1
    let c2 := latchTbs ([0, 1, 2].foldl applyTb c1) e c1.clk.boundary
    let c3 := copyTally (tallyEvent c2 0xD1)
    let (m4, c4) := modeAtBoundary m c3
    let c5 := groupSwap (groupArms (applyPendings c4) e)
    (m4, launchChecks m4 (ageWaits c5))

end Sys2Proof.Machine
end

