-- ==== Sys2Proof/Machine/Read.lean ====
section
/-!
DEFINITION. Sys2Proof/Machine/Read.lean: what a read of each object returns: the stored value, or a value computed from the
unit that the object reports (02_dictionary_access.md R45 to R48 and the object table of every chapter).
-/
namespace Sys2Proof.Machine

/-! ## Scalar objects -/

/-- VECTORS: the vectors emitted in the current segment, those of the running granule by the time gone (Table 3-8). -/
def vectorsNow (c : Core) (w : Nat) : Nat :=
  let x := getW c w
  let done := rd c (wk w 4)
  match x.desc with
  | some d => if wState c w = 2 ∧ !x.inHold ∧ x.gStart ≤ c.stamp ∧ d.period ≠ 0 then done + min 64 ((c.stamp - x.gStart) / d.period) else done
  | none => done

/-- ROUND_AGE in ms (Table 6-5). -/
def roundAge (c : Core) (p : Nat) : Nat :=
  match (getPin c p).lastRound with
  | some t => min 0xFFFFFFFF ((c.time - t) / 1000000)
  | none => 0xFFFFFFFF

/-- JOURNAL_LAG: the age of the oldest waiting entry in µs (Table 15-10). -/
def journalLag (c : Core) : Nat :=
  match c.journal.waiting.map JEntry.since with
  | [] => 0
  | t :: ts => min 0xFFFFFFFF ((c.time - ts.foldl min t) / 1000)

/-- CLOCK_LOCKED: bit 47 reads 1 for 40 µs after an edge of TCK (Table 1-4, R467). -/
def clockLocked (c : Core) : Nat :=
  let v := rd c clockKey
  match c.tap.lastEdge with
  | some t => putBit v 47 (decide (c.time < t + 40000))
  | none => v

/-- The nineteen letters of the ball rows (R469). -/
def ballLetters : List Nat := "ABCDEFGHJKLMNPTUVWY".toList.map Char.toNat

/-- The name of ball i in row order, then column order (R469, R471). -/
def ballName (i : Nat) : List Byte :=
  let row := i / 86
  let col := i % 86 + 1
  let head := if row < 19 then [] else [64 + row / 19]
  let digits := if col < 10 then [48 + col] else [48 + col / 10, 48 + col % 10]
  (head ++ [ballLetters.getD (row % 19) 0] ++ digits).map (BitVec.ofNat 8)

/-- Objects 0x1000 to 0x1FFF. -/
def readIdentity (c : Core) (ix sub : Nat) : Option Nat :=
  match ix, sub with
  | 0x1000, 2 => some (if Config.grade16 then 16 else 10)
  | 0x1000, 3 => some Config.deviceSerial.toNat
  | 0x1100, 1 => some (Config.macAddr 0).toNat
  | 0x1101, 1 => some (Config.macAddr 1).toNat
  | 0x1110, 0xA => some c.dap.merges
  | 0x1220, 1 => some (clockLocked c)
  | 0x1220, 2 => some (bits (rd c clockKey) 6 16)
  | _, _ => none

/-- Objects 0x2000 to 0x3FFF. -/
def readPins (c : Core) (ix sub : Nat) : Option Nat :=
  if ix < 0x2040 then
    match sub with
    | 4 => some (vectorsNow c (ix - 0x2000))
    | 8 => some (getW c (ix - 0x2000)).lists.length
    | _ => none
  else if 0x3200 ≤ ix ∧ ix < 0x3300 then
    match sub with
    | 1 => some (calByteNow c (ix - 0x3200))
    | 7 => some (ofSigned 32 (activeCorr (getPin c (ix - 0x3200))).temp)
    | 8 => some (roundAge c (ix - 0x3200))
    | _ => none
  else if 0x3300 ≤ ix ∧ ix < 0x3400 then
    match sub with
    | 1 => some (ofSigned 32 (tempOf c ((ix - 0x3300) / 16)))
    | 3 => some ((List.range 20).foldl (fun a n => max a (mget 0 (getPin c (ix - 0x3300)).drift n).natAbs) 0)
    | 7 => some (ofSigned 32 (Config.internalRt (ix - 0x3300)))
    | _ => none
  else if 0x3500 ≤ ix ∧ ix < 0x3510 ∧ sub = 8 then some (getPec c (ix - 0x3500)).queue.length
  else none

/-- Objects 0x4000 to 0x4FFF. -/
def readMeasure (c : Core) (ix sub : Nat) : Option Nat :=
  if ix = 0x4200 ∧ sub = 6 then some (c.stamp % 2 ^ 64)
  else if ix < 0x4108 ∧ sub = 0x10 then some (ofBool (measuring c (ix - 0x4000)))
  else if 0x44C0 ≤ ix ∧ ix < 0x44C8 ∧ sub = 7 then some (ofBool (acqState c (ix - 0x44C0) != 0))
  else if 0x4400 ≤ ix ∧ ix < 0x4420 ∧ sub = 2 then some (enabledInputs c ((ix - 0x4400) / 8)).length
  else if 0x4480 ≤ ix ∧ ix < 0x4488 then
    let n := ix - 0x4480
    match sub with
    | 3 => some (chainR c n)
    | 4 => some (chainH c n)
    | 5 => some (chainD c n)
    | 9 => some (chainDec c n)
    | 0xA => some (chainSpan c n)
    | 0xB => some (taintLen c n)
    | _ => none
  else if ix = 0x4800 ∨ ix = 0x4801 then
    match sub with
    | 0xE => some (ofBool (timingPending c (ix - 0x4800)))
    | 0x16 => some (rasterState c (ix - 0x4800))
    | _ => none
  else none

/-- Objects 0x5000 to 0x5BFF. -/
def readMemory (c : Core) (ix sub : Nat) : Option Nat :=
  let q := rd c (mkKey 0x5402 1)
  let b := getBoom c q
  match ix, sub with
  | 0x5000, 7 => some (rd c (mkKey 0x5000 6) - fetchHeld c)
  | 0x5400, 3 => some (4096 - c.sched.areas)
  | 0x5402, 3 => some b.head
  | 0x5402, 4 => some b.dispatch
  | 0x5402, 5 => some b.tail
  | 0x5402, 6 => some b.mark
  | 0x5402, 7 => some (inFlight b)
  | 0x5402, 8 => some (boomState b)
  | 0x5402, 0xA => some b.stale
  | 0x5402, 0xB => some b.aborts
  | 0x5402, 0xC => some b.migrations
  | 0x5403, 2 =>
    let n := rd c (mkKey 0x5403 1)
    some (if !(getHart c n).running then 0 else if waitsTask c n then 2 else 1)
  | 0x5800, 3 => some (winNext c (rd c (mkKey 0x5800 1)))
  | 0x5800, 4 => some (boomFree c (rd c (mkKey 0x5800 1)))
  | _, _ => if 0x5410 ≤ ix ∧ ix < 0x5418 ∧ sub = 2 then some (if pushes c (ix - 0x5410) then 0 else 1) else none

/-- Objects 0x5C00 to 0x6FFF. -/
def readLinks (c : Core) (ix sub : Nat) : Option Nat :=
  let n := rd c (mkKey 0x5C02 1)
  match ix, sub with
  | 0x5C00, 3 => some (allocatable c - c.landing.held)
  | 0x5C00, 4 => some (landingUnits c)
  | 0x5C00, 5 => some (rd c (mkKey 0x5000 8) - rateHeld c)
  | 0x5C02, 2 => some (getStream c n).next
  | 0x5C02, 3 => some (getStream c n).journal
  | 0x5C02, 4 => some (getStream c n).acked
  | 0x5C02, 5 => some (ringFree c n)
  | 0x6010, 0xA => some (rd c (bk 4) - mirrorUsed c)
  | _, _ =>
    if 0x6400 ≤ ix ∧ ix < 0x6404 then
      match sub with
      | 4 => some (valTime96 (getTb c (ix - 0x6400)).val)
      | 0x10 => some (ofSigned 64 ((getTb c (ix - 0x6400)).slew / 65536))
      | _ => none
    else none

/-- Objects 0x7000 to 0x8FFF. -/
def readFaults (c : Core) (ix sub : Nat) : Option Nat :=
  let f := getFault c (rd c (mkKey 0x7001 1))
  match ix, sub with
  | 0x7000, 3 => some (faultLevel c.faults)
  | 0x7000, 0xA => some c.faults.coalesced
  | 0x7000, 0xB => some c.faults.queue.length
  | 0x7001, 2 => some f.count
  | 0x7001, 3 => some (f.level + 8 * f.raised)
  | 0x7001, 4 => some f.stamp
  | 0x7800, 2 => some (journalLag c)
  | 0x8000, 4 => some (slotVersion c .microcode 0)
  | 0x8000, 5 => some (slotVersion c .microcode 1)
  | 0x8800, 4 => some (slotVersion c .firmware 0)
  | 0x8800, 5 => some (slotVersion c .firmware 1)
  | _, _ =>
    if 0x7400 ≤ ix ∧ ix < 0x7480 then
      match sub with
      | 1 => some (getTally c (ix - 0x7400)).source
      | 2 => some (getTally c (ix - 0x7400)).value
      | 4 => some (getTally c (ix - 0x7400)).epochValue
      | _ => none
    else none

/-- The value a read computes from its unit, where it does. -/
def computed (c : Core) (ix sub : Nat) : Option Nat :=
  if ix < 0x2000 then readIdentity c ix sub
  else if ix < 0x4000 then readPins c ix sub
  else if ix < 0x5000 then readMeasure c ix sub
  else if ix < 0x5C00 then readMemory c ix sub
  else if ix < 0x7000 then readLinks c ix sub
  else readFaults c ix sub

/-- The highest sub-index of an object's table (R43). -/
def highestSub (l : List Obj) : Nat := l.foldl (fun a o => max a o.sub) 0

/-- The value of a scalar object as a read returns it. -/
def readNum (c : Core) (k : Key) : Nat :=
  match computed c (keyIx k) (keySub k) with
  | some v => v
  | none => rd c k

/-! ## DOMAIN objects -/

/-- A correction set or bank (Table 6-2). -/
def corrImage (b : CorrBank) : List Byte :=
  padTo 128 (leBytes 4 (ofSigned 32 b.temp) ++ leBytes 4 b.gen ++ leBytes 8 (b.calByte % 256) ++
    (List.range 20).flatMap (fun n => leBytes 4 (ofSigned 32 (ofsOf b n)))) ++
  padTo 896 ((List.range 8).flatMap (fun g => (List.range 32).flatMap (fun i => leBytes 2 ((b.coarse.getD g []).getD i 0xFFFF))) )

/-- Factory set i of pin p (R184, R185). -/
def factorySet (p i : Nat) : List Byte :=
  corrImage { temp := 25000 + 15000 * i, ofs := (List.range 20).map (Config.factoryOffset p i), coarse := (List.range 8).map (factoryTable p i) }

/-- The factory code-density table of a channel (Table 8-7, R252). -/
def factoryCd (ch : Nat) : List Byte :=
  leBytes 4 (2 ^ 21) ++ leBytes 4 (ofSigned 32 (Config.factoryCodeDensityTemp ch)) ++ leBytes 4 0 ++ leBytes 4 2 ++ List.replicate 48 0
    ++ (List.range 4096).flatMap (fun k => leBytes 2 (cdMap ch [] 0 k)) ++ (List.range 4096).flatMap (fun k => leBytes 2 (cdMap ch [] 1 k))

/-- A DOMAIN's contents: its size, and its bytes in chunks of one size. -/
structure Image where
  size : Nat
  chunk : Nat
  at_ : Nat → List Byte

/-- An image of one chunk. -/
def whole (l : List Byte) : Image := { size := l.length, chunk := max 1 l.length, at_ := fun _ => l }

/-- The contents of a written DOMAIN, or what it reads while none has been written. -/
def domOr (c : Core) (k : Key) (l : List Byte) : List Byte := if dom c k = [] then l else dom c k

/-- USER_UCODE of a Weaver: the user part of its shadow bank, empty if none, its entries with the parity that the load
generated (Tables 4-1, 4-8, R131). -/
def userImage (c : Core) (w : Nat) : List Byte :=
  let b := shadowCs c w
  if !b.user then []
  else
    let entry := fun (m : SMap Nat) (i : Nat) => leBytes 2 (mget 0x8000 m i)
    (List.range 32).flatMap (fun i => entry b.dispatch (0xE0 + i)) ++ (List.range 8).flatMap (entry b.timers) ++ List.replicate 48 0 ++
      (b.words.filter (fun e => decide (0x1800 ≤ e.1))).flatMap (fun e => leBytes 4 e.2)

/-- The sticky bits, 64 bytes (R435). -/
def stickyImage (c : Core) : List Byte :=
  leBytes 64 (c.faults.srcs.foldl (fun a e => if e.2.sticky then setBit a e.1 else a) 0)

/-- DOMAIN objects 0x1000 to 0x3FFF that are computed. -/
def domPins (c : Core) (ix sub : Nat) : Option Image :=
  match ix, sub with
  | 0x1000, 4 => some { size := 118336, chunk := 16, at_ := fun i => padTo 4 (ballName i) ++ (List.range 12).map (Config.ballSignal i) }
  | 0x3400, 9 => some (whole (padTo 2048 (dom c (gk 9))))
  | 0x3400, 0xC => some { size := 1310720, chunk := 1024, at_ := fun i => factorySet (i / 5) (i % 5) }
  | _, _ =>
    if 0x2000 ≤ ix ∧ ix < 0x2040 ∧ sub = 0x10 then some (whole (userImage c (ix - 0x2000)))
    else if 0x3100 ≤ ix ∧ ix < 0x3200 ∧ sub = 1 then some (whole (padTo 4096 (activeBank c (ix - 0x3100))))
    else if 0x3100 ≤ ix ∧ ix < 0x3200 ∧ sub = 2 then some (whole (padTo 4096 (shadowBank c (ix - 0x3100))))
    else if 0x3300 ≤ ix ∧ ix < 0x3400 ∧ sub = 2 then
      some (whole ((List.range 20).flatMap (fun n => leBytes 4 (ofSigned 32 (mget 0 (getPin c (ix - 0x3300)).drift n)))))
    else if 0x3300 ≤ ix ∧ ix < 0x3400 ∧ sub = 5 then some (whole (corrImage (activeCorr (getPin c (ix - 0x3300)))))
    else if 0x3500 ≤ ix ∧ ix < 0x3510 ∧ sub = 5 then some (whole (listStore c (ix - 0x3500)))
    else none

/-- The DOMAINs of a raster group (Table 10-3): TIMING and RECTS read as in force, whatever is staged (R299). -/
def domRaster (c : Core) (g sub : Nat) : Option Image :=
  match sub with
  | 4 => some (whole (pinMap c g))
  | 0xD => some (whole (dom c (rk g 0xD)))
  | 0xF => some (whole (padTo 384 (dom c (rk g 0xF))))
  | 0x1E => some (whole (padTo 128 (dom c (rk g 0x1E))))
  | _ => none

/-- DOMAIN objects 0x4000 to 0x8FFF that are computed. -/
def domUnits (c : Core) (ix sub : Nat) : Option Image :=
  match ix, sub with
  | 0x4200, 5 => some { size := 4342272, chunk := 16448, at_ := factoryCd }
  | 0x4800, _ => domRaster c 0 sub
  | 0x4801, _ => domRaster c 1 sub
  | 0x5000, 0x11 => some (whole (c.hbm.ueLog.flatMap (fun e => leBytes 8 e.1 ++ leBytes 8 e.2)))
  | 0x5402, 2 => some (whole (leBytes 32 (getBoom c (rd c (mkKey 0x5402 1))).desc))
  | 0x5403, 3 => some (whole ((getHart c (rd c (mkKey 0x5403 1))).held.flatMap (fun h => leBytes 8 (handleOf h.1 h.2))))
  | 0x6022, 1 => some (whole (domOr c (wo 1) (List.replicate 16384 0xFF)))
  | 0x7000, 1 => some (whole (stickyImage c))
  | 0x7000, 0xC => some { size := 2097152, chunk := 64, at_ := fun i => padTo 64 (mget [] c.faults.history i) }
  | 0x7800, 5 => some (whole (padTo 32 (dom c (jo 5))))
  | _, _ =>
    if 0x4000 ≤ ix ∧ ix < 0x4108 ∧ sub = 0x20 then
      some (whole (if (getTdc c (ix - 0x4000)).table = [] then factoryCd (ix - 0x4000) else (getTdc c (ix - 0x4000)).table))
    else if 0x4480 ≤ ix ∧ ix < 0x4488 ∧ sub = 6 then
      some (whole ((List.range 128).flatMap (fun j => leBytes 4 (ofSigned 32 (firCoeff c (ix - 0x4480) j)))))
    else if 0x44C0 ≤ ix ∧ ix < 0x44C8 ∧ sub = 4 then some (whole (conditionsOf c (ix - 0x44C0)))
    else none

/-- The contents of a DOMAIN object. -/
def domImage (c : Core) (k : Key) : Image :=
  let r := if keyIx k < 0x4000 then domPins c (keyIx k) (keySub k) else domUnits c (keyIx k) (keySub k)
  match r with
  | some i => i
  | none => whole (dom c k)

/-- The bytes of an image from an offset, at most `len`, up to its size (R57). -/
def imageBytes (i : Image) (off len : Nat) : List Byte :=
  let n := min len (i.size - off)
  if n = 0 then []
  else
    let a := off / i.chunk
    let b := (off + n - 1) / i.chunk
    slice ((List.range (b - a + 1)).flatMap (fun j => i.at_ (a + j))) (off - a * i.chunk) n

/-! ## A read of any object -/

/-- PART_CODE (Table 0-1), in ASCII. -/
def partCode : List Byte :=
  (if Config.grade16 then [90, 84, 50, 53, 54, 45, 49, 54, 45, 70, 66] else [90, 84, 50, 53, 54, 45, 49, 48, 45, 70, 66]).map (BitVec.ofNat 8)

/-- The objects of an index (R48). -/
def groupOfIx (ix : Nat) : Option (List Obj) := groupAt ix dictGroups

/-- What a key names: a type and an access right; sub-index 0 of a group that has no object there is U8, RO (R43). -/
def findObj (k : Key) : Except Status (ObjTy × Acc × Range) :=
  match groupOfIx (keyIx k) with
  | none => .error stNoObject
  | some l =>
    match objIn (keySub k) l with
    | some o => .ok (o.ty, o.acc, o.rng)
    | none => if keySub k = 0 then .ok (.u8, .ro, .any) else .error stNoSubindex

/-- The value bytes of a read of a key with a type: a DOMAIN gives its size as U64 (R45). -/
def readBytesOf (c : Core) (k : Key) (ty : ObjTy) : List Byte :=
  match ty with
  | .domain => leBytes 8 (domImage c k).size
  | .string => partCode
  | _ =>
    match (groupOfIx (keyIx k)).map (fun l => (objIn (keySub k) l, highestSub l)) with
    | some (none, h) => leBytes 1 h
    | _ => leBytes ty.width (readNum c k)

end Sys2Proof.Machine
end

