-- ==== Sys2Proof/Machine/Notify.lean ====
section
/-!
DEFINITION. Sys2Proof/Machine/Notify.lean: subscriptions and NOTIFY frames (02_dictionary_access.md R72, R73).
-/
namespace Sys2Proof.Machine

/-- The bytes that a subscription of an object compares and sends: those of a READ of it. -/
def noticeBytes (c : Core) (k : Key) : List Byte :=
  match findObj k with
  | .ok (ty, _, _) => readBytesOf c k ty
  | .error _ => []

/-- The type code in the NOTIFY entry of an object. -/
def noticeCode (k : Key) : Nat :=
  match findObj k with
  | .ok (ty, _, _) => ty.code
  | .error _ => 0

/-- A NOTIFY frame of a session; a resend is unchanged but for RETRY (R73). -/
def notifyFrame (s : Session) (target number : Nat) (again : Bool) (body : List Byte) : List Byte :=
  sealed (dapHeader { opcode := opNotify, flags := ofBool s.auth * 4 + ofBool again * 8, target := target, session := s.id
                      status := stOk, sequence := number, length := body.length } ++ body) (keyOf s)

/-- Send a new NOTIFY with the session's next number, for one subscription. -/
def sendNotify (c : Core) (s : Session) (sub : Nat) (body : List Byte) : Core :=
  let n := s.notified + 1
  sendDap (modSession c s.id (fun s => { s with notified := n, unacked := s.unacked ++ [{ number := n, target := deviceId c, subs := [sub], bytes := body }] }))
    s.eth s.host (notifyFrame s (deviceId c) n false body)

/-- A notification falls due (R73): it is sent, or, while 64 are unacknowledged, it is the pending value of its subscription; one that replaces another
falls due now and goes to the end.  The EPOCH field of its entry is a free value (log 80). -/
def fallDue (c : Core) (x : Subscription) (value : List Byte) : Core :=
  match sessionOf c x.session with
  | none => c
  | some s =>
    let body := dapEntry x.key (noticeCode x.key) value (freeNow c) stOk
    let c1 := freeUsed c
    if s.unacked.length < 64 then sendNotify c1 s x.number body
    else
      let merged := s.due.any (fun d => d.1 == x.number)
      let c2 := modSession c1 s.id (fun s => { s with due := s.due.filter (fun d => d.1 != x.number) ++ [(x.number, body)] })
      { c2 with dap := { c2.dap with merges := c2.dap.merges + ofBool merged } }

/-- Change the subscription with a number. -/
def modSub (c : Core) (n : Nat) (f : Subscription → Subscription) : Core :=
  { c with dap := { c.dap with subs := c.dap.subs.map (fun x => if x.number = n then f x else x) } }

/-- An ON_CHANGE subscription looks at its object (R72). -/
def lookAt (c : Core) (x : Subscription) : Core :=
  let v := noticeBytes c x.key
  if x.every ≠ 0 ∨ v = x.last then c else fallDue (modSub c x.number (fun x => { x with last := v })) x v

/-- After a command, every ON_CHANGE subscription looks at its object (log 80). -/
def noticed (c : Core) : Core := c.dap.subs.foldl lookAt c

/-- An epoch boundary counts one epoch of every EVERY_N subscription (R72). -/
def countEpoch (c : Core) : Core :=
  { c with dap := { c.dap with subs := c.dap.subs.map (fun x => { x with left := x.left - 1 }) } }

/-- SUBSCRIPTION_EVERY_N: N epochs have passed since the last notification (R72). -/
def everyNExpired (c : Core) (n : Nat) : Core :=
  match c.dap.subs.find? (fun x => x.number == n) with
  | some x => if x.every = 0 ∨ x.left ≠ 0 then c else fallDue (modSub c n (fun x => { x with left := x.every })) x (noticeBytes c x.key)
  | none => c

/-- NOTIFY_RESEND: 10 ms without NOTIFY_ACK (R73). -/
def notifyAgain (c : Core) (sid n : Nat) : Core :=
  match sessionOf c sid with
  | some s =>
    match s.unacked.find? (fun u => u.number == n) with
    | some u => sendDap c s.eth s.host (notifyFrame s u.target n true u.bytes)
    | none => c
  | none => c

/-- A NOTIFY_ACK of a session: a place is free for the pending value that fell due earliest (R73). -/
def notifyAcked (c : Core) (s : Session) (n : Nat) : Core :=
  if s.unacked.all (fun u => u.number != n) then c
  else
    let s1 := { s with unacked := s.unacked.filter (fun u => u.number != n), due := s.due.drop 1 }
    let c1 := modSession c s.id (fun _ => s1)
    match s.due with
    | [] => c1
    | d :: _ => sendNotify c1 s1 d.1 d.2

end Sys2Proof.Machine
end

