-- ==== Sys2Proof/Machine/Compare.lean ====
section
/-!
DEFINITION. Sys2Proof/Machine/Compare.lean: changes of the comparator results, the glitch filter and the compare hold-off
(05_pin_timing.md R163, R164, R169, R170; 10_raster_source.md R296).
-/
namespace Sys2Proof.Machine

/-- GLITCH_W in force for a pin (R170). -/
def glitchOf (c : Core) (p : Nat) : Nat := (getPin c p).force.glitch

/-- HOLDOFF in force for a pin, in ticks (R164, R170). -/
def holdoffOf (c : Core) (p : Nat) : Nat := 1024 * (getPin c p).force.holdoff

/-- The level last accepted for a line. -/
def lastAccepted (x : Pin) (line : CmpLine) : Bool :=
  x.history.foldl (fun lv h => if h.line = line then h.level else lv) (match line with | .high => x.accH | .low => x.accL)

/-- The change of a line that the filter is judging. -/
def candOf (x : Pin) : CmpLine → Option (Nat × Bool)
  | .high => x.candH
  | .low => x.candL

/-- Set the change of a line that the filter is judging. -/
def setCand (x : Pin) (line : CmpLine) (v : Option (Nat × Bool)) : Pin :=
  match line with
  | .high => { x with candH := v }
  | .low => { x with candL := v }

/-- Whether an instant lies in a hold-off of a pin (R164). -/
def inHoldoff (c : Core) (p t : Nat) : Bool :=
  (getPin c p).trans.any (fun a => decide (a.at_ ≤ t) && decide ((t : Int) < a.at_ + holdoffOf c p))

/-- A change is accepted and takes effect at its own instant (R163); outside a hold-off it may be a TE edge (R296). -/
def acceptChange (c : Core) (p : Nat) (line : CmpLine) (at_ : Nat) (level : Bool) : Core :=
  let c1 := modPin c p (fun x => { setCand x line none with history := x.history ++ [{ at_ := at_, line := line, level := level }] })
  if line = .high ∧ inHoldoff c p at_ = false then noteTe c1 p level at_ else c1

/-- What the filter makes of the change it judges once the line changes again at an instant: accepted if its level has lasted
GLITCH_W ticks, else removed (R163). -/
def judgeCand (c : Core) (p : Nat) (line : CmpLine) (now : Nat) : Core :=
  match candOf (getPin c p) line with
  | some (t, lv) => if t + glitchOf c p ≤ now then acceptChange c p line t lv else modPin c p (fun x => setCand x line none)
  | none => c

/-- The level of a line at the ball becomes H or L: POLARITY bits 2 and 3 invert the pairs of H and L (R169). -/
def polarLevel (c : Core) (p : Nat) (line : CmpLine) (level : Bool) : Bool :=
  level != bit (rd c (pk p 3)) (match line with | .high => 2 | .low => 3)

/-- COMPARATOR_CHANGE: a comparator result changes at the ball at an instant (R163). -/
def comparatorChanged (c : Core) (p : Nat) (line : CmpLine) (level : Bool) (instant : Nat) : Core :=
  let t := nearInstant c.stamp (2 ^ 64) instant
  let c1 := elapseTo c t
  let lv := polarLevel c1 p line level
  let c2 := modPin c1 p (fun x => match line with | .high => { x with rawH := lv } | .low => { x with rawL := lv })
  if rd c2 (pk p 9) = 0 then c2
  else
    let c3 := judgeCand c2 p line t
    if lastAccepted (getPin c3 p) line = lv then c3
    else if glitchOf c3 p = 0 then acceptChange c3 p line t lv
    else modPin c3 p (fun x => setCand x line (some (t, lv)))

/-- GLITCH_FILTER_ACCEPT: the level the filter judges has lasted GLITCH_W ticks (R163). -/
def glitchAccepted (c : Core) (p : Nat) (line : CmpLine) : Core :=
  match candOf (getPin c p) line with
  | some (t, lv) => acceptChange (elapseTo c (t + glitchOf c p)) p line t lv
  | none => c

/-- The end of the hold-off that ends next, if one is still to end; hold-offs that meet are one (R164). -/
def holdoffEndOf (c : Core) (p : Nat) : Option Nat :=
  let len : Int := holdoffOf c p
  let tr := (getPin c p).trans.map Swing.at_
  let ends := (tr.map (fun a => a + len)).filter (fun e => decide ((c.stamp : Int) ≤ e) && !tr.any (fun b => decide (b ≤ e) && decide (e < b + len)))
  match ends with
  | [] => none
  | e :: es => if holdoffOf c p = 0 then none else some (es.foldl min e).toNat

/-- HOLDOFF_END: S takes the filtered levels of that instant; a comparator-high level that differs from the held one is a change
at this instant, which may be a TE edge (R164, R296). -/
def holdoffEnded (c : Core) (p : Nat) : Core :=
  match holdoffEndOf c p with
  | none => c
  | some e =>
    let c1 := elapseTo c e
    let x := getPin c1 p
    let held := match heldFrom (x.trans.map Swing.at_) (holdoffOf c1 p : Nat) ((e : Int) - 1) with
      | some a => acceptedLevel x .high a false
      | none => acceptedLevel x .high e true
    let now := acceptedLevel x .high e true
    if held = now then c1 else noteTe c1 p now e

/-- The values of R170 with the one of sub-index `sub` replaced. -/
def putForce (f : PinForce) (sub v : Nat) : PinForce :=
  match sub with
  | 4 => { f with holdoff := v }
  | 5 => { f with glitch := v }
  | 6 => { f with boundary := v != 0 }
  | 7 => { f with burstWord := v }
  | _ => { f with burstLen := v }

/-- A write of HOLDOFF, GLITCH_W, BOUNDARY_EN, BURST_WORD or BURST_LEN: in force at once while the pin is not ACTIVE, else from
the first segment whose first vector starts after it (R170). -/
def writeForce (c : Core) (p sub v : Nat) : Core :=
  let c1 := wr c (pk p sub) v
  if rd c (pk p 9) = 2 then c1 else modPin c1 p (fun x => { x with force := putForce x.force sub v })

/-- A write of PARK_STATE: at once while the pin is PARKED, else at its next entry to PARKED (R170). -/
def writeParkState (c : Core) (p v : Nat) : Core :=
  let c1 := wr c (pk p 1) v
  if rd c (pk p 9) = 1 then holdPairs c1 p (parkData v) (parkEnable v) else c1

/-- A write of POLARITY: the levels inside stay for the output pairs, so the balls change; the levels at the balls stay for the
inputs, so H and L change with the bits written, without a change for the filter (R169, log 73). -/
def writePolarity (c : Core) (p v : Nat) : Core :=
  let old := rd c (pk p 3)
  let flip := fun (b : Nat) => bit old b != bit v b
  let c1 := modPin (wr c (pk p 3) v) p (fun x =>
    { x with rawH := x.rawH != flip 2, rawL := x.rawL != flip 3, candH := none, candL := none
             accH := if rd c (pk p 9) = 0 then x.accH else x.accH != flip 2
             accL := if rd c (pk p 9) = 0 then x.accL else x.accL != flip 3
             history := x.history.map (fun h => { h with level := h.level != flip (match h.line with | .high => 2 | .low => 3) }) })
  let x := getPin c1 p
  let c2 := if flip 0 then emit c1 (swingOut c1 p { at_ := c.stamp, enable := false, level := x.data }) else c1
  if flip 1 then emit c2 (swingOut c1 p { at_ := c.stamp, enable := true, level := x.en }) else c2

/-- STICKY_CLR: clear the bits of the mask; their raises are armed again (R475). -/
def clearSticky (c : Core) (p mask : Nat) : Core := wr c (pk p 0xA) (clearBits (rd c (pk p 0xA)) mask)

end Sys2Proof.Machine
end

