-- ==== Sys2Proof/Machine/Tokens.lean ====
section
/-!
DEFINITION. Sys2Proof/Machine/Tokens.lean: tokens that arrive: executed once, then flooded
(13_withy_multidevice.md R377, R378, R380 to R382; 09_sense_acquisition.md R281 to R283).
-/
namespace Sys2Proof.Machine

/-- A token executed within the last 10 ms is discarded; any other is noted (R377). -/
def firstArrival (c : Core) (src number : Nat) : Option Core :=
  let recent := c.tokens.done.filter (fun d => decide (c.time < d.2.2 + 10000000))
  if recent.any (fun d => d.1 == src && d.2.1 == number) then none
  else some { c with tokens := { c.tokens with done := (src, number, c.time) :: recent } }

/-- Whether a token reaches the device: its link or an Ethernet port is UP. -/
def tokenHeard (c : Core) (a : TokenFrom) : Bool :=
  match a with
  | .link l => linkUp c l.val
  | .peer _ => (anyPort c).isSome

/-- Execute a token on first arrival, then forward it (R377). -/
def takeToken (c : Core) (a : TokenFrom) (src number : Nat) (slots : List Slot) (act : Core → Core) : Core :=
  if !tokenHeard c a then c
  else match firstArrival c src number with
    | some c1 => floodToken (act c1) slots (some a)
    | none => c

/-- The slots of a token that is no FIRE token. -/
def slotsOfToken (kind : Nat) (t : Token) : List Slot := tokenSlots t.src.toNat kind t.number.toNat t.epoch.toNat t.id.toNat

/-- TOKEN_COMMIT (R380); a device without ID is in no mode-change group (R38). -/
def commitToken (c : Core) (t : Token) : Core :=
  takeToken c t.arrival t.src.toNat t.number.toNat (slotsOfToken tokCommit t)
    (fun c => if noDeviceId c then c else actCommit c t.id.toNat)

/-- TOKEN_ABORT (R380). -/
def abortToken (c : Core) (t : Token) : Core :=
  takeToken c t.arrival t.src.toNat t.number.toNat (slotsOfToken tokAbort t)
    (fun c => if noDeviceId c then c else actAbort c t.id.toNat)

/-- The CALIBRATION source of a late SWAP token: that of the lowest pin group of a member of the swap group (log 64). -/
def swapSource (c : Core) : Nat :=
  match ((List.range 64).filter (inSwapGroup c)).flatMap (groupsOf c) with
  | [] => 208
  | g :: gs => 208 + gs.foldl min g

/-- What a SWAP token does (R381): GROUP_EPOCH of a device of the group, or a late token. -/
def actSwap (c : Core) (group e : Nat) : Core :=
  if noDeviceId c ∨ group = 0 ∨ rd c (mkKey 0x1311 1) ≠ group then c
  else match writeGroupEpoch c e with
    | .ok c1 => c1
    | .error s => if s = stEpochPast then raise (lateToken c) (swapSource c) 1 group else c

/-- TOKEN_SWAP (R381). -/
def swapToken (c : Core) (t : Token) : Core :=
  takeToken c t.arrival t.src.toNat t.number.toNat (slotsOfToken tokSwap t) (fun c => actSwap c (t.id.toNat % 256) t.epoch.toNat)

/-- A write of SWAP_SEND: the SWAP token with the local group (R381). -/
def writeSwapSend (c : Core) (e : Nat) : Core :=
  let g := rd c (mkKey 0x1311 1)
  if noDeviceId c ∨ g = 0 then c else sendToken (actSwap c g e) tokSwap (e % 2 ^ 48) g

/-- What an ARM token does (R281, R382): it is held for its boundary, or it is late and each unit of the group records the
refused arm. -/
def actArm (c : Core) (g e : Nat) : Core :=
  if beforeLast c e then { c with tokens := { c.tokens with arms := c.tokens.arms ++ [(g, e)] } }
  else
    (List.range 8).foldl (fun c u => if g ≠ 0 ∧ rd c (qk u 0xC) = g then refuseArm c u e else c) (lateToken c)

/-- TOKEN_ARM (R281, R382). -/
def armToken (c : Core) (t : Token) : Core :=
  takeToken c t.arrival t.src.toNat t.number.toNat (slotsOfToken tokArm t) (fun c => actArm c (t.id.toNat % 256) t.epoch.toNat)

/-- TOKEN_FIRE (R282, R283, R382). -/
def fireToken (c : Core) (t : Token) : Core :=
  takeToken c t.arrival t.src.toNat t.number.toNat (fireSlots t.src.toNat t.number.toNat t.stamp.toNat t.tgroup.toNat t.unit.toNat)
    (fun c => groupFire c t.tgroup.toNat (unwrapStamp c t.stamp.toNat) t.src.toNat t.unit.toNat none)

/-- A token from a datagram's two slots. -/
def tokenOf (src : HostAddr) (header body : Nat) : Token :=
  { arrival := .peer src, src := BitVec.ofNat 14 (bits header 8 14), number := BitVec.ofNat 32 (bits body 8 32)
    epoch := BitVec.ofNat 48 (bits body 40 48), id := BitVec.ofNat 32 (bits body 88 32), stamp := BitVec.ofNat 64 (bits body 40 64)
    tgroup := BitVec.ofNat 8 (bits body 104 8), unit := BitVec.ofNat 3 (bits body 112 3) }

/-- TOKEN_DATAGRAM: the IP layers of a port that is UP (R50), CRC and tag, then the token is taken and floods onto the board (R54, R378). -/
def tokenDatagramIn (c : Core) (d : TokenDatagram) : Core :=
  let l := leBytes 16 d.header.toNat ++ leBytes 16 d.body.toNat
  let signed := l ++ leBytes 4 d.crc.toNat
  if !([0, 1].any (fun p => portUp c p && ipTaken c p d.ip)) then c
  else if crc32c l ≠ d.crc then frameDiscarded c
  else if authRequired c && d.tag != hmac256 (psk c) signed then authFailed c
  else
    let t := tokenOf d.src d.header.toNat d.body.toNat
    if bits d.header.toNat 0 4 ≠ 6 then c
    else match bits d.body.toNat 0 4 with
      | 1 => commitToken c t
      | 2 => abortToken c t
      | 3 => swapToken c t
      | 4 => armToken c t
      | 5 => fireToken c t
      | _ => c

end Sys2Proof.Machine
end

