-- ==== Sys2Proof/Machine/Objects.lean ====
section
/-!
DEFINITION. Sys2Proof/Machine/Objects.lean: writes of dictionary objects: the checks of R474 in their order, then the effect of
the object written (02_dictionary_access.md R46, R61, R68 to R71, R474 and the object table of every chapter).
-/
namespace Sys2Proof.Machine

/-! ## Effects -/

/-- What a write that has passed the checks of the dictionary does: its status, and the block after it. -/
abbrev Effect := Mem → Core → Status × (Mem × Core)

/-- An effect that answers a status and leaves the memory. -/
def effA (f : Core → Answer) : Effect := fun m c => ((f c).1, (m, (f c).2))

/-- An effect that may be refused and leaves the memory. -/
def effW (f : Core → Written) : Effect := effA (fun c => answer c (f c))

/-- An effect that is always taken and leaves the memory. -/
def effC (f : Core → Core) : Effect := fun m c => (stOk, (m, f c))

/-- An effect that is refused. -/
def effNo (s : Status) : Effect := fun m c => (s, (m, c))

/-- An effect under a condition on the state. -/
def effIf (b : Core → Bool) (s : Status) (e : Effect) : Effect := fun m c => if b c then e m c else (s, (m, c))

/-- A write without behaviour of its own: the object takes the value (R46). -/
def effPut (k : Key) (v : Nat) : Effect := effC (fun c => wr c k v)

/-- A DOMAIN without behaviour of its own takes the contents (R58). -/
def effDom (k : Key) (l : List Byte) : Effect := effC (fun c => setDom c k l)

/-- Whether a status tells of a value's contents (R474 step 7). -/
def ofContents (s : Status) : Bool := [stOutOfRange, stReservedValue, stGradeLimit, stBadAlign, stIncomplete].contains s

/-- An effect that a state of the block bars: what its contents refuse comes first (R474 steps 7 and 8). -/
def barredBy (b : Core → Bool) (e : Effect) : Effect := fun m c =>
  if !b c then e m c else if ofContents (e m c).1 then e m c else (stStateConflict, (m, c))

/-- Whether the block takes no write of an object: an L4 raise leaves only reads (R430, log 77), and in the recovery of the journal no jobs are
submitted (R450). -/
def closedTo (c : Core) (k : Key) : Bool := c.faults.reaction == 4 || (keyIx k == 0x5800 && keySub k == 2 && rd c (jo 8) == 1)

/-- The effect of a write of an object, where the block takes one. -/
def guarded (k : Key) (e : Effect) : Effect := barredBy (fun c => closedTo c k) e

/-! ## Types and ranges (R10, R474 step 7) -/

/-- The values no object of a type takes: a BOOL above 1, a NaN, a TIME96 with a ns field above 999,999,999 (Table 2-1). -/
def typeFail (ty : ObjTy) (v : Nat) : Option Status :=
  match ty with
  | .bool => if 1 < v then some stOutOfRange else none
  | .f32 => if bits v 23 8 = 255 ∧ bits v 0 23 ≠ 0 then some stOutOfRange else none
  | .time96 => if 999999999 < bits v 16 32 then some stOutOfRange else none
  | _ => none

/-- The range check of a value (R10). -/
def rangeFail (ty : ObjTy) (r : Range) (v : Nat) : Option Status :=
  let out := fun (b : Bool) => if b then none else some stOutOfRange
  match r with
  | .any => none
  | .nat lo hi => out (decide (lo ≤ v) && decide (v ≤ hi))
  | .natOr lo hi x => out ((decide (lo ≤ v) && decide (v ≤ hi)) || v == x)
  | .zeroOr lo hi => out (v == 0 || (decide (lo ≤ v) && decide (v ≤ hi)))
  | .int lo hi => out (decide (lo ≤ toSigned (8 * ty.width) v) && decide (toSigned (8 * ty.width) v ≤ hi))
  | .list l => out (l.contains v)
  | .enum l => if l.contains v then none else some stReservedValue
  | .mask m => out (clearBits v m == 0)
  | .multiple m lo hi => out (v % m == 0 && decide (lo ≤ v) && decide (v ≤ hi))
  | .divisor lo n => out (decide (lo ≤ v) && decide (v ≤ n) && n % v == 0)
  | .aperture => out (decide (bits v 0 10 ≤ 256) && bits v 10 52 == 0)
  | .tapQuery => out (!bit v 39 && decide (bits v 40 5 ≤ 19) && bits v 45 19 == 0)
  | .tdcEdge => if bits v 0 2 = 0 ∨ bits v 2 2 = 0 then some stReservedValue else out (bits v 4 4 == 0)
  | .chainSource => out (decide (v ≤ 0x1F) || (decide (0x100 ≤ v) && decide (v ≤ 0x207)) || v == 0xFFFF)
  | .weights => out ([0, 1, 2, 3, 4].all (fun i => bits v (8 * i) 8 != 0) && bits v 40 24 == 0)

/-! ## The checks before contents and state (R474) -/

/-- In the recovery of R449 only the identity objects, MODE, REQUEST and RESET, and the firmware image objects answer. -/
def recoveryHides (c : Core) (k : Key) : Bool :=
  c.mode.recovery && !(decide (keyIx k < 0x1100) || k == mo 1 || k == mo 2 || k == mo 5 || keyIx k == 0x8800)

/-- What a key names for a request (R48, R449). -/
def lookObj (c : Core) (k : Key) : Except Status (ObjTy × Acc × Range) :=
  if recoveryHides c k then .error stNoObject else findObj k

/-- AUTH_REQUIRED and PSK are written only through an authenticated session while AUTH_REQUIRED is 1 (R61). -/
def authBars (c : Core) (auth : Bool) (k : Key) : Bool := authRequired c && !auth && (k == dk 3 || k == dk 4)

/-- Whether an access right refuses a write (Table 2-2). -/
def Acc.writable : Acc → Bool
  | .const | .ro => false
  | _ => true

/-- Whether an access right is RWE. -/
def Acc.isRwe : Acc → Bool
  | .rwe => true
  | _ => false

/-- Whether the mode in force accepts a write (R71). -/
def modeAccepts (c : Core) : Acc → Bool
  | .rwm l => inModes c l
  | _ => true

/-- The least epoch an RWE entry may name: C + 2 for GROUP_ARM (R281), else C + 1 (R69). -/
def leastEpoch (c : Core) (k : Key) : Nat :=
  if 0x44C0 ≤ keyIx k ∧ keyIx k < 0x44C8 ∧ keySub k = 0xE then epochNow c + 2 else epochNow c + 1

/-- The boundary of application of an entry with an EPOCH field (R69). -/
def boundaryOf (c : Core) (e : Nat) : Nat := if e = 0 then epochNow c + 1 else e

/-- The timing checks of an entry (R68 to R70); `extra` entries of the same atomic WRITE come before it. -/
def timingFail (c : Core) (acc : Acc) (k : Key) (e extra : Nat) : Option Status :=
  if acc.isRwe then
    firstFail [(decide (boundaryOf c e < leastEpoch c k), stEpochPast),
      (decide (epochNow c + 2 ^ 32 < boundaryOf c e), stEpochTooFar),
      (decide (1024 ≤ c.rwe.length + extra), stPendingFull)]
  else if e = 0 then none
  else some stMixedTiming

/-- The first check that a scalar write fails, up to the range of its value (R474). -/
def writeFail (c : Core) (auth : Bool) (k : Key) (v e extra : Nat) : Option Status :=
  match lookObj c k with
  | .error s => some s
  | .ok (ty, acc, rng) =>
    (firstFail [(ty == .domain || ty == .string || decide (2 ^ (8 * ty.width) ≤ v), stTypeMismatch),
      (!acc.writable, stReadOnly), (authBars c auth k, stAuthRequired)]).orElse fun _ =>
    (timingFail c acc k e extra).orElse fun _ =>
    (firstFail [(!modeAccepts c acc, stWrongMode)]).orElse fun _ =>
    (typeFail ty v).orElse fun _ => rangeFail ty rng v

/-- The first check that a DOMAIN's write fails before its contents (R474). -/
def blockFail (c : Core) (auth : Bool) (k : Key) : Option Status :=
  match lookObj c k with
  | .error s => some s
  | .ok (ty, acc, _) =>
    firstFail [(ty != .domain, stTypeMismatch), (!acc.writable, stReadOnly), (authBars c auth k, stAuthRequired),
      (!modeAccepts c acc, stWrongMode)]

/-! ## Streams, booms and regions that a write looks at -/

/-- Whether a stream of STREAM_TABLE is ENABLED. -/
def anyStream (c : Core) : Bool :=
  (List.range ((dom c (mkKey 0x5C01 0)).length / 32)).any (fun n => (streamEntry c n).enabled)

/-- Whether a boom is ENABLED. -/
def anyBoom (c : Core) : Bool := c.booms.any (fun e => bdEnabled e.2.desc)

/-- Whether MiB [a, a + n) of the Yard meets a raster frame store. -/
def meetsFrames (c : Core) (a n : Nat) : Bool := [0, 1].any (fun g => overlaps a n (frameStore c g).1 (frameStore c g).2)

/-- LANDING_BASE and LANDING_SIZE (R211): the region stays within the Yard's 96 MiB. -/
def putLanding (base size : Nat) (k : Key) (v : Nat) : Effect :=
  if 96 < base + size then effNo stOutOfRange
  else effIf (fun c => landingUnits c == 0 && c.landing.staged.isEmpty && !meetsFrames c base size &&
    !overlaps base size (rd c (mkKey 0x5400 1)) 8) stStateConflict (effPut k v)

/-- BOOM_REGION_BASE (Table 12-8, R211). -/
def putBoomRegion (v : Nat) : Effect :=
  effIf (fun c => !anyBoom c && !meetsFrames c v 8 && !overlaps v 8 (rd c (mkKey 0x5C00 1)) (rd c (mkKey 0x5C00 2))) stStateConflict
    (effPut (mkKey 0x5400 1) v)

/-- Numbering belongs to the pair of DEVICE and STREAM: under a new DEVICE_ID every stream stands as it stood when the device last had
that ID, or as new (R209). -/
def renumber (c : Core) (v : Nat) : Core :=
  let old := deviceId c
  if v = old then c
  else
    let saved := c.streams.foldl (fun m e => mset {} m (old * 2 ^ 16 + e.1) e.2) c.otherStreams
    { c with
      streams := (saved.filter (fun e => e.1 / 2 ^ 16 == v)).map (fun e => (e.1 % 2 ^ 16, e.2))
      otherStreams := saved.filter (fun e => e.1 / 2 ^ 16 != v) }

/-- DEVICE_ID (R38). -/
def putDeviceId (v : Nat) : Effect :=
  effIf (fun c => !anyStream c && !anyBoom c) stStateConflict
    (effIf (fun c => v == 0xFFFF || !(upLinks c).any (fun l => rd c (lk l 3) == v)) stIdConflict
      (fun m c => (stOk, (m, tryRecover m (pairRefresh (wr (renumber c v) (mkKey 0x6020 0) v))))))

/-- A quad assignment (R78): refused while it touches the site of an enabled raster group (R288). -/
def putQuad (q sub v : Nat) : Effect :=
  let k := mkKey (0x20C0 + q) sub
  let onSite := fun (c : Core) (g : Nat) => rdb c (rk g 1) && quadWeaver c q == rd c (rk g 2) && rd c (mkKey (0x20C0 + q) 2) == rd c (rk g 3)
  effIf (fun c => rd c k == v || !([0, 1] : List Nat).any (fun g => onSite c g || onSite (wr c k v) g)) stStateConflict
    (effC (fun c => swapAtOnce (wr c k v)))

/-- LINK_ENABLE (R365). -/
def putLinkEnable (l v : Nat) : Effect := fun m c =>
  let c1 := wr c (lk l 1) v
  if v = 1 then (stOk, (m, retrain c1 l))
  else
    let (m2, c2) := linkDown m c1 l
    (stOk, (m2, wr c2 (lk l 2) 0))

/-- SHADOW_SLOT written through the dictionary: whether the read-back passes is a free value (R143, log 75). -/
def putShadowSlot (w v : Nat) : Effect := effW (fun c => writeShadowSlot (freeUsed c) w v (bit (freeNow c) 0))

/-- PARTITION of a group (Table 12-10). -/
def putPartition (g v : Nat) : Effect :=
  effIf (fun c => !c.booms.any (fun e => bdEnabled e.2.desc && bdGroup e.2.desc == g)) stStateConflict
    (effC (fun c => reschedule (wr c (mkKey (0x5420 + g) 1) v)))

/-- CLUSTERS of a partition (R348, Table 12-9). -/
def putClusters (k v : Nat) : Effect :=
  effIf (fun c => rd c (mkKey (0x5410 + k) 4) == 0 && (List.range 8).all (fun j => j == k || rd c (mkKey (0x5410 + j) 1) &&& v == 0)) stStateConflict
    (effPut (mkKey (0x5410 + k) 1) v)

/-- A DOMAIN of a size, taken as it stands. -/
def putSized (k : Key) (n : Nat) (l : List Byte) : Effect := if l.length = n then effDom k l else effNo stOutOfRange

/-- An address entry of TOKEN_PEERS ends in two reserved bytes (Table 13-7). -/
def peersOk (l : List Byte) : Bool := l.length % 20 == 0 && (List.range (l.length / 20)).all (fun i => leAt l (20 * i + 18) 2 == 0)

/-! ## Effects of scalar objects, by chapter; `e` is the boundary of application of an RWE entry -/

/-- 0x1100 to 0x13FF. -/
def effSystem (ix sub v : Nat) : Effect :=
  let k := mkKey ix sub
  match ix, sub with
  | 0x1100, 7 => effIf (fun c => v == 1 || rd c (ek 0 6) != 0) stOutOfRange (effPut k v)
  | 0x1101, 7 => effIf (fun c => v == 1 || rd c (ek 1 6) != 0) stOutOfRange (effPut k v)
  | 0x1200, 5 => effC writeReset
  | 0x1200, 8 => effC (fun c => if inModes c [.standby, .service, .safe] then modePorts (wr c k v) else wr c k v)
  | 0x1210, 1 => effC (fun c => writeWakeCause c v)
  | 0x1210, 6 => effC writeWakeClr
  | 0x1220, 3 => effC (fun c => writePgKeep c v)
  | 0x1301, 1 => effC (fun c => writeSyncPeriod c v)
  | 0x1301, 2 => effC (fun c => writeSyncComp c v)
  | 0x1302, 1 => effC (fun c => wr c refKey (clearBits (rd c refKey) (v &&& 0x28)))
  | 0x1310, 4 => effC (fun c => writeCommit c v)
  | 0x1310, 5 => effC (fun c => writeAbortChange c v)
  | 0x1311, 2 => effC (fun c => writeSwapSend c v)
  | _, _ => effPut k v

/-- Objects of Weaver w at 0x2000 (Tables 3-8, 4-15). -/
def effWeaver (w sub v : Nat) : Effect :=
  match sub with
  | 6 => effW (fun c => writeStopAck c w)
  | 0xC => effW (fun c => writeNanoMode c w v)
  | 0xF => putShadowSlot w v
  | 0x11 => effW (fun c => writeExchange c w)
  | _ => effPut (wk w sub) v

/-- LAUNCH of Weaver w for boundary e (R96). -/
def effLaunch (w v e : Nat) : Effect :=
  effW (fun c => (writeLaunch c w v e).map (fun c1 => { c1 with rwe := c1.rwe ++ [{ key := jk w 1, value := v, epoch := e }] }))

/-- JUMP of Weaver w (R104); a read returns the last accepted write (log 72). -/
def effJump (w v : Nat) : Effect := fun m c => effW (fun c => (writeJump m c w v).map (fun c1 => wr c1 (jk w 2) v)) m c

/-- Objects of Weaver w at 0x2080 (Table 3-9). -/
def effFlow (w sub v e : Nat) : Effect :=
  match sub with
  | 1 => effLaunch w v e
  | 2 => effJump w v
  | 5 => effW (fun c => writeAbort c w)
  | _ => effPut (jk w sub) v

/-- Objects of pin p at 0x3000 (Table 5-13). -/
def effPin (p sub v : Nat) : Effect :=
  match sub with
  | 1 => effC (fun c => writeParkState c p v)
  | 3 => effC (fun c => writePolarity c p v)
  | 4 | 5 | 6 | 7 | 8 => effC (fun c => writeForce c p sub v)
  | 0xB => effC (fun c => clearSticky c p v)
  | _ => effPut (pk p sub) v

/-- SHADOW_DUTY: the counts of every path restart (R189). -/
def putShadowDuty (v : Nat) : Effect :=
  effC (fun c => { wr c (gk 2) v with pins := c.pins.map (fun e => (e.1, { e.2 with shadow := [] })) })

/-- Objects at 0x3400 (Table 6-7). -/
def effCal (sub v : Nat) : Effect :=
  match sub with
  | 1 => effC (fun c => writeTrackEnable c v)
  | 2 => putShadowDuty v
  | 6 => effC startForeground
  | 0xA => effW commitField
  | 0xD => effC (fun c => swapAtOnce (wr c (gk 0xD) v))
  | 0xE => effW (fun c => writeGroupEpoch c v)
  | _ => effPut (gk sub) v

/-- Objects of control port k at 0x3500 (Table 5-19). -/
def effPort (k sub v : Nat) : Effect :=
  match sub with
  | 7 => effW (fun c => issueList c k v)
  | _ => effPut (ck k sub) v

/-- ARM_AT of a channel is accepted for its boundary (R236). -/
def effTdcArmAt (ch v e : Nat) : Effect :=
  effIf (fun c => gateOk c ch) stOutOfRange
    (effC (fun c => { c with rwe := c.rwe ++ [{ key := tdk ch 0x11, value := v, epoch := e }] }))

/-- Objects of TDC channel ch (Table 8-8); the configuration of a MEASURING channel stands (R245). -/
def effTdc (ch sub v e : Nat) : Effect :=
  if sub = 2 ∧ 256 ≤ ch ∧ v ≠ 1 then effNo stOutOfRange
  else if sub ≤ 0xD then effIf (fun c => !measuring c ch) stStateConflict (effPut (tdk ch sub) v)
  else match sub with
    | 0xF => effW (fun c => writeRingRead c ch v)
    | 0x10 => if v = 1 then effW (fun c => writeTdcArm c ch) else effC (fun c => disarmTdc c ch)
    | _ => effTdcArmAt ch v e

/-- Objects of the TDC at 0x4200 (Table 8-9). -/
def effTdcs (sub v : Nat) : Effect :=
  match sub with
  | 1 => effW writeCdStart
  | _ => effPut (tgk sub) v

/-- Objects of sense input n (Table 9-7). -/
def effSense (n sub v : Nat) : Effect :=
  match sub with
  | 1 => effIf (fun c => enableFree c n) stStateConflict (effPut (nk n 1) v)
  | _ => effC (fun c => wr c (nk n 6) 0)

/-- Objects of filter chain n (Table 9-8); settings change only while it is STOPPED, the stages only under CUSTOM (R266). -/
def effChain (n sub v : Nat) : Effect :=
  let stopped := fun (c : Core) => rd c (fk n 8) == 0
  match sub with
  | 3 | 4 | 5 => effIf (fun c => stopped c && rd c (fk n 2) == 3) stStateConflict (effPut (fk n sub) v)
  | 2 => effIf stopped stStateConflict (effC (fun c => enbwPreset (wr c (fk n 2) v) n v))
  | 7 => if v = 1 then effW (fun c => startChain c n) else effC (fun c => stopChain c n)
  | _ => effIf stopped stStateConflict (effPut (fk n sub) v)

/-- ARM_AT of an acquisition unit is accepted for its boundary (R38, R270, R286). -/
def effAcqArmAt (u v e : Nat) : Effect :=
  effIf (fun c => acqStreamFree c u) stStateConflict
    (effC (fun c => { c with rwe := c.rwe ++ [{ key := qk u 8, value := v, epoch := e }] }))

/-- GROUP_ARM of an acquisition unit for its boundary (R281). -/
def effGroupArm (u v e : Nat) : Effect :=
  effW (fun c => (writeGroupArm c u e).map (fun c1 => { c1 with rwe := c1.rwe ++ [{ key := qk u 0xE, value := v, epoch := e }] }))

/-- Objects of acquisition unit u (Table 9-9). -/
def effAcq (u sub v e : Nat) : Effect :=
  match sub with
  | 7 => if v = 1 then effW (fun c => writeArm c u) else effC (fun c => writeDisarm c u)
  | 8 => effAcqArmAt u v e
  | 9 => effC (fun c => writeHostFire c u)
  | 0xE => effGroupArm u v e
  | _ => effIf (fun c => acqState c u == 0) stStateConflict (effPut (qk u sub) v)

/-- Objects of raster group g (Table 10-3); sub-indices 0x02 to 0x0C stand while ENABLE is 1 (R288). -/
def effRaster (g sub v : Nat) : Effect :=
  match sub with
  | 1 => effW (fun c => if v = 1 then enableRaster c g else disableRaster c g)
  | 0x10 => effW (fun c => writePresent c g v)
  | 0x13 => effC (fun c => writeSelfRefresh c g v)
  | 0x14 | 0x15 => effC (fun c => writeLive c g sub v)
  | 0x20 => effC (fun c => clearMismatch c g v)
  | _ => effIf (fun c => !rdb c (rk g 1)) stStateConflict (effPut (rk g sub) v)

/-- Objects at 0x5000 (Table 11-5). -/
def effHbm (sub v : Nat) : Effect :=
  match sub with
  | 1 | 4 => effIf (fun c => !anyStream c) stStateConflict (effPut (hk sub) v)
  | 0x12 => effW writeTrainStart
  | 0x14 => writeMemTest
  | 0x17 => effW writeReinit
  | _ => effPut (hk sub) v

/-- Objects 0x5400 to 0x5BFF (Tables 12-8 to 12-11). -/
def effSched (ix sub v : Nat) : Effect :=
  if ix = 0x5400 ∧ sub = 1 then putBoomRegion v
  else if ix = 0x5402 ∧ sub = 9 then fun m c => writeMigrate m c (rd c (mkKey 0x5402 1)) v
  else if 0x5410 ≤ ix ∧ ix < 0x5418 ∧ sub = 1 then putClusters (ix - 0x5410) v
  else if 0x5410 ≤ ix ∧ ix < 0x5418 ∧ sub = 4 then fun m c => (stOk, writeRun m c (ix - 0x5410) v)
  else if 0x5420 ≤ ix ∧ ix < 0x5460 ∧ sub = 1 then putPartition (ix - 0x5420) v
  else effPut (mkKey ix sub) v

/-- Objects 0x5C00 to 0x5CFF (Table 7-8). -/
def effLanding (ix sub v : Nat) : Effect :=
  match ix, sub with
  | 0x5C00, 1 => fun m c => putLanding v (rd c (mkKey 0x5C00 2)) (mkKey 0x5C00 1) v m c
  | 0x5C00, 2 => fun m c => putLanding (rd c (mkKey 0x5C00 1)) v (mkKey 0x5C00 2) v m c
  | _, _ => effPut (mkKey ix sub) v

/-- Objects 0x6000 to 0x60FF (Tables 13-6 to 13-9). -/
def effWithy (ix sub v : Nat) : Effect :=
  if ix < 0x6008 ∧ sub = 1 then putLinkEnable (ix - 0x6000) v
  else if ix = 0x6020 then putDeviceId v
  else match ix, sub with
    | 0x6010, 1 | 0x6010, 2 | 0x6010, 3 | 0x6010, 4 => fun m c => (stOk, (m, tryRecover m (pairRefresh (wr c (bk sub) v))))
    | 0x6010, 8 => effW (fun c => writeTakeover c v)
    | _, _ => effPut (mkKey ix sub) v

/-- Objects of time base t (Table 14-3), the time pulse among those of TB0. -/
def effTb (t sub v : Nat) : Effect :=
  if 0x20 ≤ sub then effA (fun c => writePulse c sub v)
  else match sub with
    | 1 => effA (fun c => writeTbSource c t v)
    | 2 => effA (fun c => writeTbOwner c t v)
    | 5 => effA (fun c => writeTbSet c t v)
    | 6 => effA (fun c => writeTbIncrement c t v)
    | 7 => effA (fun c => writeTbAdjust c t v)
    | 0xB => effA (fun c => writeTbForce c t)
    | 0x12 => effA (fun c => writeConvStamp c t v)
    | _ => effPut (tbk t sub) v

/-- Objects of PTP port p (Table 14-5). -/
def effPtp (p sub v : Nat) : Effect :=
  match sub with
  | 1 => effA (fun c => writePtpEnable c p v)
  | 2 => effA (fun c => writePtpTb c p v)
  | _ => effPut (pk' p sub) v

/-- Objects 0x7000 to 0x7FFF (Tables 15-10, 15-11). -/
def effFaults (ix sub v : Nat) : Effect :=
  if ix = 0x7000 ∧ sub = 6 then effC clearFirst
  else if 0x7400 ≤ ix ∧ ix < 0x7480 ∧ sub = 1 then effA (fun c => writeTallySource c (ix - 0x7400) v)
  else if 0x7400 ≤ ix ∧ ix < 0x7480 ∧ sub = 3 then effC (fun c => clearTally c (ix - 0x7400))
  else effPut (mkKey ix sub) v

/-- The image objects of a kind (Table 16-8). -/
def effImage (k : ImageKind) (sub v : Nat) : Effect :=
  match sub with
  | 2 => effA (fun c => writeInstall c k v)
  | 7 => effA (fun c => writeFloor c k v)
  | _ => effPut (imk k sub) v

/-- The effect of a write of value v to a scalar object. -/
def effectOf (k : Key) (v e : Nat) : Effect :=
  let ix := keyIx k
  let sub := keySub k
  if ix < 0x2000 then effSystem ix sub v
  else if ix < 0x2040 then effWeaver (ix - 0x2000) sub v
  else if 0x2080 ≤ ix ∧ ix < 0x20C0 then effFlow (ix - 0x2080) sub v e
  else if 0x20C0 ≤ ix ∧ ix < 0x2100 then putQuad (ix - 0x20C0) sub v
  else if 0x3000 ≤ ix ∧ ix < 0x3100 then effPin (ix - 0x3000) sub v
  else if 0x3100 ≤ ix ∧ ix < 0x3200 then effC (fun c => writeTsetCommit c (ix - 0x3100))
  else if 0x3300 ≤ ix ∧ ix < 0x3400 then effC (fun c => writeTapQuery c (ix - 0x3300) v)
  else if ix = 0x3400 then effCal sub v
  else if 0x3500 ≤ ix ∧ ix < 0x3510 then effPort (ix - 0x3500) sub v
  else if 0x4000 ≤ ix ∧ ix < 0x4108 then effTdc (ix - 0x4000) sub v e
  else if ix = 0x4200 then effTdcs sub v
  else if 0x4400 ≤ ix ∧ ix < 0x4420 then effSense (ix - 0x4400) sub v
  else if 0x4480 ≤ ix ∧ ix < 0x4488 then effChain (ix - 0x4480) sub v
  else if 0x44C0 ≤ ix ∧ ix < 0x44C8 then effAcq (ix - 0x44C0) sub v e
  else if 0x4800 ≤ ix ∧ ix < 0x4802 then effRaster (ix - 0x4800) sub v
  else if ix = 0x5000 then effHbm sub v
  else if ix < 0x5C00 then effSched ix sub v
  else if ix < 0x6000 then effLanding ix sub v
  else if ix < 0x6400 then effWithy ix sub v
  else if ix < 0x6404 then effTb (ix - 0x6400) sub v
  else if ix < 0x7000 then effPtp (ix - 0x6480) sub v
  else if ix < 0x8000 then effFaults ix sub v
  else if ix = 0x8000 then effImage .microcode sub v
  else effImage .firmware sub v

/-! ## Effects of DOMAIN objects -/

/-- PIN_MAP (Table 10-1, R288): reserved bytes are 0xFF, and the used lanes of each kind are the lowest (log 78). -/
def putPinMap (g : Nat) (l : List Byte) : Effect :=
  let lowest := fun (off : Nat) => (List.range 47).all (fun i => l.getD (off + i) 0 != 0xFF || l.getD (off + i + 1) 0 == 0xFF)
  if l.length ≠ 112 ∨ !(l.drop 101).all (· == 0xFF) ∨ !lowest 0 ∨ !lowest 52 then effNo stOutOfRange
  else effIf (fun c => !rdb c (rk g 1)) stStateConflict (effDom (rk g 4) l)

/-- ROUTE (R371): a link or 0xFF for each device. -/
def putRoute (l : List Byte) : Effect :=
  if l.length ≠ 16384 ∨ !l.all (fun b => decide (b.toNat < 8) || b == 0xFF) then effNo stOutOfRange else effDom (wo 1) l

/-- FAULT_ACK (Table 15-10). -/
def putFaultAck (l : List Byte) : Effect := if l.length = 64 then effC (fun c => writeFaultAck c l) else effNo stOutOfRange

/-- BOOM_DESC of boom q (R342, R343); a boom that it enables again after a reset goes on (R357, R421). -/
def putBoomDesc (q : Nat) (l : List Byte) : Effect := fun m c =>
  let r := writeBoomObject m c q l
  if r.1 = stOk then (stOk, resumeBoom r.2.1 r.2.2 q) else r

/-- DOMAIN objects at one index. -/
def domSingle (ix sub : Nat) (l : List Byte) : Effect :=
  match ix, sub with
  | 0x1100, _ => if l.length = 0 ∨ l.length = 16 then effDom (ek 0 4) l else effNo stOutOfRange
  | 0x1101, _ => if l.length = 0 ∨ l.length = 16 then effDom (ek 1 4) l else effNo stOutOfRange
  | 0x1110, _ => putSized (dk 4) 32 l
  | 0x1200, _ => effA (fun c => writeRequestMode c l)
  | 0x1210, _ => if peersOk l then putSized (wkk 4) 20 l else effNo stOutOfRange
  | 0x1300, _ => effA (fun c => writeEpochAlign c l)
  | 0x3400, _ => putSized (gk 9) 2048 l
  | 0x5402, _ => fun m c => putBoomDesc (rd c (mkKey 0x5402 1)) l m c
  | 0x5800, _ => fun m c => writeWinSubmit m c (rd c (mkKey 0x5800 1)) l
  | 0x5C01, _ => effW (fun c => writeStreamTable c l)
  | 0x6010, _ => if peersOk l then putSized (bk 5) 20 l else effNo stOutOfRange
  | 0x6022, 1 => putRoute l
  | 0x6022, 5 => if peersOk l ∧ l.length ≤ 1280 then effDom (wo 5) l else effNo stOutOfRange
  | 0x6022, 6 => fun m c => writeBlockLoad m c l
  | 0x7000, _ => putFaultAck l
  | 0x8000, _ => effA (fun c => writeStage c .microcode l)
  | 0x8800, _ => effA (fun c => writeStage c .firmware l)
  | _, _ => effNo stNoObject

/-- The effect of new contents of a DOMAIN object (R58). -/
def domEffect (k : Key) (l : List Byte) : Effect :=
  let ix := keyIx k
  let sub := keySub k
  if 0x2000 ≤ ix ∧ ix < 0x2040 then effW (fun c => writeUserUcode c (ix - 0x2000) l)
  else if 0x2040 ≤ ix ∧ ix < 0x2080 then effA (fun c => writeSegTable c (ix - 0x2040) l)
  else if 0x3100 ≤ ix ∧ ix < 0x3200 then effA (fun c => writeTsetShadow c (ix - 0x3100) l)
  else if 0x3500 ≤ ix ∧ ix < 0x3510 then effA (fun c => writeListStore c (ix - 0x3500) l)
  else if 0x4480 ≤ ix ∧ ix < 0x4488 then effW (fun c => writeCoeffs c (ix - 0x4480) l)
  else if 0x44C0 ≤ ix ∧ ix < 0x44C8 then (if sub = 4 then effW (fun c => writeConditions c (ix - 0x44C0) l) else effW (fun c => writeMask c (ix - 0x44C0) l))
  else if 0x4800 ≤ ix ∧ ix < 0x4802 then
    (match sub with
     | 4 => putPinMap (ix - 0x4800) l
     | 0xD => effW (fun c => writeTiming c (ix - 0x4800) l)
     | _ => effW (fun c => writeRects c (ix - 0x4800) l))
  else domSingle ix sub l

/-- The largest size of a DOMAIN that may be written (R58). -/
def domMax (k : Key) : Nat :=
  let ix := keyIx k
  let sub := keySub k
  if ix < 0x1110 then 16
  else if 0x2000 ≤ ix ∧ ix < 0x2040 then 8320
  else if 0x2040 ≤ ix ∧ ix < 0x2080 then 32768
  else if 0x3100 ≤ ix ∧ ix < 0x3200 then 4096
  else if 0x3500 ≤ ix ∧ ix < 0x3510 then 65536
  else if 0x4480 ≤ ix ∧ ix < 0x4488 then 512
  else if 0x44C0 ≤ ix ∧ ix < 0x44C8 then (if sub = 4 then 64 else 32784)
  else if ix = 0x4800 ∨ ix = 0x4801 then (if sub = 4 then 112 else if sub = 0xD then 32 else 384)
  else match ix, sub with
    | 0x1110, _ => 32
    | 0x1200, _ => 16
    | 0x1210, _ | 0x1300, _ | 0x6010, _ => 20
    | 0x3400, _ => 2048
    | 0x5402, _ => 32
    | 0x5800, _ => 65536
    | 0x5C01, _ => 2097152
    | 0x6022, 1 => 16384
    | 0x6022, 5 => 1280
    | 0x6022, 6 => 24
    | 0x7000, _ => 64
    | 0x8000, _ => 256 + imageMax .microcode
    | 0x8800, _ => 256 + imageMax .firmware
    | _, _ => 0

/-! ## A write, whole -/

/-- A write of a scalar object: the checks of R474, then its effect. -/
def writeObj (m : Mem) (c : Core) (auth : Bool) (k : Key) (v e : Nat) (eff : Effect) : Status × (Mem × Core) :=
  match writeFail c auth k v e 0 with
  | some s => (s, (m, c))
  | none => guarded k eff m c

/-- A write of a DOMAIN object's whole contents: the checks of R474, then its effect. -/
def writeDomain (m : Mem) (c : Core) (auth : Bool) (k : Key) (l : List Byte) (eff : Effect) : Status × (Mem × Core) :=
  match blockFail c auth k with
  | some s => (s, (m, c))
  | none =>
    if domMax k < l.length then (stOutOfRange, (m, c)) else guarded k eff m c

/-- The block after a write command, with the status answered. -/
def settledM (a : Status × (Mem × Core)) : Mem × Core := (a.2.1, { a.2.2 with status := a.1 })

end Sys2Proof.Machine
end

