-- ==== Sys2Proof/Machine/Dap.lean ====
section
/-!
DEFINITION. Sys2Proof/Machine/Dap.lean: the DAP engine: frames, sessions, windows, operations, relay and probes, with echo and
address resolution (02_dictionary_access.md R45 to R76, R474; 16_modes_power_boot.md R454).
-/
namespace Sys2Proof.Machine

/-! ## Entries (R56, Table 2-9) -/

/-- An entry of a request; `len` is its LENGTH, and `value` the bytes of its value that the payload holds. -/
structure Entry where
  key : Key
  ty : Nat
  len : Nat
  epoch : Nat
  value : List Byte
  deriving DecidableEq, Repr

/-- The entries of a payload, of which at most `n` are cut; none where a header is not whole.  A value that runs past the payload ends
it: its entry has the wrong LENGTH (R56, log 81). -/
def parseEntries : Nat → List Byte → Option (List Entry)
  | _, [] => some []
  | 0, _ => none
  | n + 1, l =>
    let len := leAt l 4 4
    if l.length < 16 then none
    else
      let e : Entry := { key := mkKey (leAt l 0 2) (leAt l 2 1), ty := leAt l 3 1, len := len, epoch := leAt l 8 6, value := (l.drop 16).take len }
      (parseEntries n (l.drop (16 + (len + 7) / 8 * 8))).map (fun r => e :: r)

/-- Whether the payload holds an entry's value whole. -/
def Entry.whole (e : Entry) : Bool := e.value.length == e.len

/-- The entries of a request, or why it has none: more than 64 (R56), or one whose header is not whole (log 81). -/
def entriesOf (l : List Byte) : Except Status (List Entry) :=
  match parseEntries (l.length / 16 + 1) l with
  | none => .error stOutOfRange
  | some es => if 64 < es.length then .error stTooLarge else .ok es

/-- An entry of a reply. -/
def replyEntry (e : Entry) (value : List Byte) (epoch : Nat) (st : Status) : List Byte := dapEntry e.key e.ty value epoch st

/-- What a request answers: its status, its payload, what its reply waits for (R419), and the block after it. -/
structure DapResult where
  st : Status
  payload : List Byte := []
  waits : List (Nat × Nat × Nat) := []
  mem : Mem
  core : Core
  deriving DecidableEq, Repr

/-- A request refused as a whole. -/
def refusedAll (m : Mem) (c : Core) (st : Status) : DapResult := { st := st, mem := m, core := c }

/-- The frame status of entries' statuses (R66). -/
def frameStatus (l : List Status) : Status := if l.all (· == stOk) then stOk else stPartial

/-! ## READ (R45, R46, R70) -/

/-- Status, value and epoch of one READ entry (R45, R68, R70, R474). -/
def readEntry (c : Core) (pending : Bool) (e : Entry) : Status × List Byte × Nat :=
  match lookObj c e.key with
  | .error s => (s, [], 0)
  | .ok (ty, acc, _) =>
    if e.ty ≠ ty.code ∨ e.len ≠ 0 then (stTypeMismatch, [], 0)
    else if acc = .wo then (stWriteOnly, [], 0)
    else if e.epoch ≠ 0 ∧ acc.isRwe = false then (stMixedTiming, [], 0)
    else if pending then
      match (c.rwe.filter (fun p => p.key == e.key)).getLast? with
      | some p => (stOk, leBytes ty.width p.value, p.epoch)
      | none => (stNoPending, [], 0)
    else (stOk, readBytesOf c e.key ty, 0)

/-- A READ. -/
def runRead (m : Mem) (c : Core) (f : DapFrame) : DapResult :=
  match entriesOf f.payload with
  | .error s => refusedAll m c s
  | .ok es =>
    let l := es.map (fun e => (e, readEntry c (hasFlag f flagPending) e))
    { st := frameStatus (l.map (fun x => x.2.1)), payload := l.flatMap (fun x => replyEntry x.1 x.2.2.1 x.2.2.2 x.2.1), mem := m, core := c }

/-! ## WRITE (R66 to R70) -/

/-- The first check that a WRITE entry fails, up to its range; `extra` RWE entries of its WRITE come before it (R56, R474). -/
def entryFail (c : Core) (auth : Bool) (e : Entry) (extra : Nat) : Option Status :=
  match lookObj c e.key with
  | .error s => some s
  | .ok (ty, _, _) =>
    if e.ty ≠ ty.code ∨ ty = .domain ∨ e.whole = false then some stTypeMismatch
    else if ty = .string then (if 255 < e.len then some stTypeMismatch else some stReadOnly)
    else if e.len ≠ ty.width then some stTypeMismatch
    else writeFail c auth e.key (ofLe e.value) e.epoch extra

/-- Whether an entry names an RWE object. -/
def entryRwe (c : Core) (e : Entry) : Bool :=
  match lookObj c e.key with
  | .ok (_, acc, _) => acc.isRwe
  | .error _ => false

/-- The effect of an entry that has passed its checks. -/
def entryEffect (c : Core) (e : Entry) : Effect := guarded e.key (effectOf e.key (ofLe e.value) (boundaryOf c e.epoch))

/-- The epoch of application that a reply states (R69). -/
def entryEpoch (c : Core) (e : Entry) (st : Status) : Nat := if entryRwe c e && good st then boundaryOf c e.epoch else 0

/-- What the reply waits for after an accepted entry: the LAUNCH_ARMED entry of a LAUNCH (R419). -/
def entryWaits (e : Entry) (st : Status) : List (Nat × Nat × Nat) :=
  if good st ∧ 0x2080 ≤ keyIx e.key ∧ keyIx e.key < 0x20C0 ∧ keySub e.key = 1 then [(6, keyIx e.key - 0x2080, 0)] else []

/-- One entry of a WRITE with ATOMIC at 0. -/
def writeEntry (m : Mem) (c : Core) (auth : Bool) (e : Entry) : Status × (Mem × Core) :=
  match entryFail c auth e 0 with
  | some s => (s, (m, c))
  | none => entryEffect c e m c

/-- Write entries in order, each on what the one before has left. -/
def writeInOrder (auth : Bool) : Mem → Core → List Entry → List Status × (Mem × Core)
  | m, c, [] => ([], (m, c))
  | m, c, e :: l =>
    let r := writeEntry m c auth e
    let rest := writeInOrder auth r.2.1 r.2.2 l
    (r.1 :: rest.1, rest.2)

/-- The statuses of the entries of an atomic WRITE, each on the block as it stands (R67). -/
def checkEntries (m : Mem) (c : Core) (auth : Bool) : Nat → List Entry → List Status
  | _, [] => []
  | extra, e :: l =>
    let st := match entryFail c auth e extra with
      | some s => s
      | none => (entryEffect c e m c).1
    st :: checkEntries m c auth (extra + ofBool (entryRwe c e && good st)) l

/-- R68 on entries that pass their own checks: rights mixed, or epochs that differ from that of the first RWE entry (log 81). -/
def mixEntries (c : Core) (l : List (Entry × Status)) : List Status :=
  let known := l.filter (fun x => (lookObj c x.1.key).isOk)
  let rwe := known.filter (fun x => entryRwe c x.1)
  let mixed := !rwe.isEmpty && rwe.length != known.length
  let first : Nat := (rwe.map (fun x => x.1.epoch)).headD 0
  l.map (fun x =>
    if !entryRwe c x.1 || !good x.2 then x.2
    else if mixed then stMixedTiming
    else if x.1.epoch ≠ first then stMixedEpoch
    else x.2)

/-- The payload of a WRITE's reply. -/
def writePayload (c : Core) (es : List Entry) (l : List Status) : List Byte :=
  (es.zip l).flatMap (fun x => replyEntry x.1 [] (entryEpoch c x.1 x.2) x.2)

/-- An atomic WRITE that is not applied (R67). -/
def atomicFailed (m : Mem) (c : Core) (es : List Entry) (l : List Status) : DapResult :=
  { st := stAtomicFailed, mem := m, core := c
    payload := (es.zip l).flatMap (fun x => replyEntry x.1 [] 0 (if good x.2 then stNotApplied else x.2)) }

/-- A WRITE. -/
def runWrite (m : Mem) (c : Core) (auth : Bool) (f : DapFrame) : DapResult :=
  match entriesOf f.payload with
  | .error s => refusedAll m c s
  | .ok es =>
    let r := writeInOrder auth m c es
    let done : DapResult := { st := frameStatus r.1, payload := writePayload c es r.1, mem := r.2.1, core := r.2.2
                              waits := (es.zip r.1).flatMap (fun x => entryWaits x.1 x.2) }
    if !hasFlag f flagAtomic then done
    else
      let l := mixEntries c (es.zip (checkEntries m c auth 0 es))
      if !l.all good then atomicFailed m c es l
      else if !r.1.all good then atomicFailed m c es r.1
      else done

/-! ## Blocks (R52, R57, R58) -/

/-- A block header. -/
structure Block where
  key : Key
  len : Nat
  off : Nat
  deriving DecidableEq, Repr

/-- The block header of a payload. -/
def blockHead (l : List Byte) : Block := { key := mkKey (leAt l 0 2) (leAt l 2 1), len := leAt l 4 4, off := leAt l 8 5 }

/-- The 16 bytes of a block header. -/
def blockBytes (b : Block) (len : Nat) : List Byte :=
  leBytes 16 (packFields [(16, keyIx b.key), (8, keySub b.key), (8, 0), (32, len), (40, b.off), (24, 0)])

/-- The MTU that bounds a frame; a relayed frame is bounded by that of ETH0 (log 82). -/
def mtuOf (c : Core) (port : Nat) : Nat := rd c (ek (if port < 2 then port else 0) 5)

/-- The data bytes of a block frame (R52). -/
def blockLimit (c : Core) (port : Nat) : Nat := if mtuOf c port = 9000 then 8192 else 1024

/-- What refuses a block frame before its object is looked at: its size (R52), or a header that is not whole (log 91). -/
def blockShape (c : Core) (port : Nat) (l : List Byte) : Option Status :=
  firstFail [(decide (l.length < 16), stOutOfRange), (decide (blockLimit c port < (blockHead l).len), stTooLarge)]

/-- Whether a block frame breaks R10 or R57 in its contents: a reserved byte that is not 0, or data that are not its LENGTH. -/
def blockOdd (l : List Byte) (data : Nat) : Bool := leAt l 3 1 != 0 || leAt l 13 3 != 0 || l.length != 16 + data

/-- What refuses a block of local memory: the mode, then its contents in the order of the header's fields, then the memory's state
(R57, R312, R313, R474). -/
def localFail (c : Core) (b : Block) (l : List Byte) (data : Nat) : Option Status :=
  let st := dapAccess c b.off b.len
  firstFail [(st == stWrongMode, stWrongMode), (leAt l 3 1 != 0, stOutOfRange), (b.len % 64 != 0 || b.off % 64 != 0, stBadAlign),
    (st == stOutOfRange || blockOdd l data, stOutOfRange), (st != stOk, st)]

/-- A READ_BLOCK of local memory; an uncorrectable error returns no data (Table 11-2). -/
def readLocal (m : Mem) (c : Core) (b : Block) (l : List Byte) : DapResult :=
  match localFail c b l 0 with
  | some s => { st := s, payload := blockBytes b 0, mem := m, core := c }
  | none =>
    let (ok, c1) := checkedRead m c b.off b.len .auto
    if ok then { st := stOk, payload := blockBytes b b.len ++ readBytes m b.off b.len, mem := m, core := c1 }
    else { st := stStateConflict, payload := blockBytes b 0, mem := m, core := c1 }

/-- A READ_BLOCK of a DOMAIN: its status and its bytes; `odd` tells of contents that R10 or R57 refuses. -/
def readDomain (c : Core) (b : Block) (odd : Bool) : Status × List Byte :=
  match lookObj c b.key with
  | .error s => (s, [])
  | .ok (ty, acc, _) =>
    if ty ≠ .domain then (stTypeMismatch, [])
    else if acc = .wo then (stWriteOnly, [])
    else if odd ∨ (domImage c b.key).size < b.off then (stOutOfRange, [])
    else (stOk, imageBytes (domImage c b.key) b.off b.len)

/-- A READ_BLOCK. -/
def runReadBlock (m : Mem) (c : Core) (port : Nat) (f : DapFrame) : DapResult :=
  let b := blockHead f.payload
  match blockShape c port f.payload with
  | some s => refusedAll m c s
  | none =>
    if keyIx b.key = 0 then readLocal m c b f.payload
    else
      let r := readDomain c b (blockOdd f.payload 0)
      { st := r.1, payload := blockBytes b r.2.length ++ r.2, mem := m, core := c }

/-- A WRITE_BLOCK of local memory (R20, R58, R294, R373): all blocks of the frame or none. -/
def writeLocal (m : Mem) (c : Core) (b : Block) (l data : List Byte) : Status × (Mem × Core) :=
  match localFail c b l b.len with
  | some s => (s, (m, c))
  | none =>
    if c.faults.reaction = 4 then (stStateConflict, (m, c))
    else if (blocksOf b.off b.len).any (blockInUse c) ∨ slotHeld c b.off b.len ∨ loadHolds c b.off b.len then (stBlockInUse, (m, c))
    else
      let r := checkedStore m c b.off data .auto
      (stOk, (r.1, breakReservations r.2 b.off data.length))

/-- The highest byte that staged parts reach. -/
def stagedTop (l : List (Nat × List Byte)) : Nat := l.foldl (fun a p => max a (p.1 + p.2.length)) 0

/-- How far bytes are present from an offset on: `n` rounds over the parts. -/
def stagedTo (l : List (Nat × List Byte)) : Nat → Nat → Nat
  | 0, a => a
  | n + 1, a => stagedTo l n (l.foldl (fun a p => if p.1 ≤ a then max a (p.1 + p.2.length) else a) a)

/-- Put bytes over a block at an offset. -/
def overlay (l : List Byte) (p : Nat × List Byte) : List Byte :=
  padTo p.1 l ++ p.2 ++ l.drop (p.1 + p.2.length)

/-- The contents that staged parts make. -/
def stagedBytes (l : List (Nat × List Byte)) : List Byte := l.foldl overlay []

/-- The parts that a session has staged for a DOMAIN. -/
def stagedParts (s : Session) (k : Key) : List (Nat × List Byte) := ((s.staging.find? (fun d => d.key == k)).map StagedDomain.parts).getD []

/-- Set or drop the parts staged for a DOMAIN. -/
def setStaged (c : Core) (sid : Nat) (k : Key) (l : List (Nat × List Byte)) : Core :=
  modSession c sid (fun s =>
    let rest := s.staging.filter (fun d => d.key != k)
    { s with staging := if l = [] then rest else rest ++ [{ key := k, parts := l }] })

/-- A frame of a DOMAIN write: what refuses it alone, up to its contents (R58, R474). -/
def domainFrameFail (c : Core) (auth : Bool) (b : Block) (len : Nat) (odd : Bool) : Option Status :=
  (blockFail c auth b.key).orElse fun _ => firstFail [(odd || decide (domMax b.key < b.off + len), stOutOfRange)]

/-- A WRITE_BLOCK frame of a DOMAIN (R58): it is staged, or with LAST the object takes what is staged; data that the object then refuses
are staged no longer (log 92). -/
def writeDomainFrame (m : Mem) (c : Core) (s : Session) (b : Block) (data : List Byte) (odd last : Bool) : Status × (Mem × Core) :=
  match domainFrameFail c s.auth b data.length odd with
  | some st => (st, (m, c))
  | none =>
    let parts := stagedParts s b.key ++ (if data = [] then [] else [(b.off, data)])
    if !last then (if closedTo c b.key then (stStateConflict, (m, c)) else (stOk, (m, setStaged c s.id b.key parts)))
    else
      let c1 := setStaged c s.id b.key []
      if stagedTo parts parts.length 0 < stagedTop parts then (stIncomplete, (m, c1))
      else
        let l := stagedBytes parts
        writeDomain m c1 s.auth b.key l (domEffect b.key l)

/-- What the reply to a complete WIN_SUBMIT waits for: BOOM_TAIL over its last job (R419). -/
def submitWaits (c : Core) (b : Block) (last : Bool) (st : Status) : List (Nat × Nat × Nat) :=
  let q := rd c (mkKey 0x5800 1)
  if keyIx b.key = 0x5800 ∧ last ∧ good st then [(4, q, (getBoom c q).tail)] else []

/-- A WRITE_BLOCK; its reply carries the block header of the request, whatever its status (log 93). -/
def runWriteBlock (m : Mem) (c : Core) (s : Session) (port : Nat) (f : DapFrame) : DapResult :=
  let b := blockHead f.payload
  let data := f.payload.drop 16
  match blockShape c port f.payload with
  | some st => refusedAll m c st
  | none =>
    let last := hasFlag f flagLast
    let r := if keyIx b.key = 0 then writeLocal m c b f.payload data
      else writeDomainFrame m c s b data (blockOdd f.payload b.len) last
    { st := r.1, payload := blockBytes b b.len, waits := submitWaits r.2.2 b last r.1, mem := r.2.1, core := r.2.2 }

/-! ## Subscriptions (R72) -/

/-- The first of `n` numbers from x on, within 1 to `top`, that is not in use (log 11). -/
def freeNumber (used : List Nat) (x top n : Nat) : Nat :=
  (((List.range n).map (fun i => (x + i) % top + 1)).find? (fun k => !used.contains k)).getD 1

/-- One entry of a SUBSCRIBE: its status, its number, and the block (log 80). -/
def subscribeEntry (c : Core) (sid : Nat) (e : Entry) : Status × List Byte × Core :=
  match lookObj c e.key with
  | .error s => (s, [], c)
  | .ok (ty, acc, _) =>
    let cond := leAt e.value 0 1
    let n := leAt e.value 4 4
    if e.ty ≠ ty.code ∨ e.whole = false then (stTypeMismatch, [], c)
    else if acc = .wo then (stWriteOnly, [], c)
    else if cond ≠ 1 ∧ cond ≠ 2 then (stReservedValue, [], c)
    else if cond = 2 ∧ n = 0 then (stOutOfRange, [], c)
    else if 256 ≤ c.dap.subs.length then (stSubscribeFull, [], c)
    else
      let num := freeNumber (c.dap.subs.map Subscription.number) (Config.deviceNumber c.fresh) (2 ^ 16 - 1) 257
      let every := if cond = 2 then n else 0
      let x : Subscription := { number := num, session := sid, key := e.key, every := every, left := every, last := readBytesOf c e.key ty }
      (stOk, leBytes 4 num, { freeUsed c with dap := { c.dap with subs := c.dap.subs ++ [x] } })

/-- The entries of a SUBSCRIBE in order. -/
def subscribeAll (sid : Nat) : Core → List Entry → List (Entry × Status × List Byte) × Core
  | c, [] => ([], c)
  | c, e :: l =>
    let r := subscribeEntry c sid e
    let rest := subscribeAll sid r.2.2 l
    ((e, r.1, r.2.1) :: rest.1, rest.2)

/-- A SUBSCRIBE. -/
def runSubscribe (m : Mem) (c : Core) (sid : Nat) (f : DapFrame) : DapResult :=
  if c.faults.reaction = 4 then refusedAll m c stStateConflict
  else match entriesOf f.payload with
    | .error s => refusedAll m c s
    | .ok es =>
      let r := subscribeAll sid c es
      { st := frameStatus (r.1.map (fun x => x.2.1)), payload := r.1.flatMap (fun x => replyEntry x.1 x.2.2 0 x.2.1), mem := m, core := r.2 }

/-- End one subscription of a session. -/
def endSub (c : Core) (sid n : Nat) : Core :=
  let c1 := { c with dap := { c.dap with subs := c.dap.subs.filter (fun x => !(x.session == sid && x.number == n)) } }
  modSession c1 sid (fun s => { s with due := s.due.filter (fun d => d.1 != n) })

/-- An UNSUBSCRIBE: its payload is a list of U32 numbers, its reply repeats each with its status as U32; a number that the session does
not hold is NO_OBJECT (log 80). -/
def runUnsubscribe (m : Mem) (c : Core) (sid : Nat) (f : DapFrame) : DapResult :=
  if c.faults.reaction = 4 then refusedAll m c stStateConflict
  else if f.payload.length % 4 ≠ 0 then refusedAll m c stOutOfRange
  else
    let nums := (List.range (f.payload.length / 4)).map (fun i => leAt f.payload (4 * i) 4)
    let held := fun (n : Nat) => c.dap.subs.any (fun x => x.session == sid && x.number == n)
    let l := nums.map (fun n => (n, if held n then stOk else stNoObject))
    { st := frameStatus (l.map Prod.snd), payload := l.flatMap (fun x => leBytes 4 x.1 ++ leBytes 4 x.2), mem := m
      core := nums.foldl (fun c n => endSub c sid n) c }

/-! ## Sessions (R59 to R64) -/

/-- A session closes: its subscriptions, stored replies and staged data end with it. -/
def closeSession (c : Core) (sid : Nat) : Core :=
  { c with dap := { c.dap with
      sessions := c.dap.sessions.filter (fun s => s.id != sid)
      subs := c.dap.subs.filter (fun x => x.session != sid)
      deferred := c.dap.deferred.filter (fun d => d.session != sid) } }

/-- Send a reply that no session keeps. -/
def sendReply (c : Core) (port op : Nat) (f : DapFrame) (st : Status) (window : Nat) (key : Option (List Byte)) (payload : List Byte) : Core :=
  sendDap c port f.src (dapReply op f f.session.toNat st window key payload)

/-- The tag state of a frame keyed by PSK: none for a bad tag, else the key if there is one. -/
def pskTag (c : Core) (op : Nat) (f : DapFrame) : Option (Option (List Byte)) :=
  if !hasFlag f flagAuth then some none
  else if dapTagOk op f (psk c) then some (some (psk c))
  else none

/-- The bytes of a datagram that an MTU allows beside the IP and UDP headers. -/
def frameRoom (c : Core) (port : Nat) (f : DapFrame) : Nat := mtuOf c port - (if f.ip.v6 then 48 else 28)

/-- Whether a frame is longer than its port allows. -/
def tooLong (c : Core) (port op : Nat) (f : DapFrame) : Bool := decide (frameRoom c port f < (dapWhole op f).length)

/-- A new session (R59, R60): its ID and the device nonce are the device's own (log 11); a tag by PSK makes it an authenticated one, whether
or not AUTH_REQUIRED is 1 (log 94). -/
def newSession (c : Core) (port : Nat) (f : DapFrame) (key : Option (List Byte)) : Core :=
  let sid := freeNumber (c.dap.sessions.map Session.id) (Config.deviceNumber c.fresh) (2 ^ 16 - 1) 33
  let nonce := leBytes 16 (Config.deviceNumber (c.fresh + 1))
  let text := [90, 84, 50, 53, 54, 45, 68, 65, 80].map (BitVec.ofNat 8)
  let skey := match key with
    | some k => hmac256 k (text ++ f.payload ++ nonce ++ leBytes 2 sid)
    | none => []
  let window := rd c (dk 6)
  let s : Session := { id := sid, eth := port, host := f.src, auth := key.isSome, key := skey, done := 0, window := window, held := []
                       replies := [], lastSeen := c.time, staging := [], notified := 0, unacked := [], due := [] }
  let c1 := { freeUsed (freeUsed c) with dap := { c.dap with sessions := c.dap.sessions ++ [s] } }
  sendDap c1 port f.src (dapReply opOpen f sid stOk window key nonce)

/-- SESSION_OPEN. -/
def openSession (c : Core) (port : Nat) (f : DapFrame) : Core :=
  match pskTag c opOpen f with
  | none => authFailed c
  | some key =>
    let no := fun (st : Status) => sendReply c port opOpen f st 0 key []
    if f.version ≠ 1 then no stBadVersion
    else if tooLong c port opOpen f then no stTooLarge
    else if authRequired c ∧ key.isNone then no stAuthRequired
    else if 32 ≤ c.dap.sessions.length then no stSessionLimit
    else if f.payload.length ≠ 16 then no stOutOfRange
    else newSession c port f key

/-- SESSION_IDLE_TIMEOUT: the session has had no valid request (R59). -/
def sessionIdle (c : Core) (sid : Nat) : Core := closeSession c sid

/-- Run the operation of a request. -/
def runOp (m : Mem) (c : Core) (s : Session) (op : Nat) (f : DapFrame) : DapResult :=
  let reply := (dapReply op f 0 0 0 (keyOf s) []).length
  let room := fun (n : Nat) => frameRoom c s.eth f < reply + n
  match op with
  | 0x01 =>
    let r := runRead m c f
    if room r.payload.length then refusedAll m c stTooLarge else r
  | 0x02 => if bits f.flags.toNat 7 9 ≠ 0 ∨ f.reserved1 ≠ 0 ∨ f.reserved2 ≠ 0 then refusedAll m c stOutOfRange else runWrite m c s.auth f
  | 0x03 => runReadBlock m c s.eth f
  | 0x04 => if bits f.flags.toNat 7 9 ≠ 0 ∨ f.reserved1 ≠ 0 ∨ f.reserved2 ≠ 0 then refusedAll m c stOutOfRange else runWriteBlock m c s s.eth f
  | 0x05 => runSubscribe m c s.id f
  | 0x06 => if room (2 * f.payload.length) then refusedAll m c stTooLarge else runUnsubscribe m c s.id f
  | _ => { st := stOk, mem := m, core := c }

/-- Execute the next request of a session: as a unit (R65), with its reply at once or on acceptance (R419). -/
def execute (m : Mem) (c : Core) (sid op : Nat) (f : DapFrame) : Mem × Core :=
  let seq := f.sequence.toNat
  let c0 := modSession c sid (fun s => { s with done := seq, held := s.held.filter (fun h => h.2.sequence != f.sequence) })
  match sessionOf c0 sid with
  | none => (m, c0)
  | some s =>
    let r := runOp m c0 s op f
    let frame := dapReply op f sid r.st s.window (keyOf s) r.payload
    if op = opClose then (r.mem, closeSession (sendDap r.core s.eth s.host frame) sid)
    else if r.waits.all (accepted r.core) then (r.mem, answerSession r.core sid s.eth s.host seq frame)
    else
      let d : Deferred := { session := sid, port := s.eth, host := s.host, sequence := seq, bytes := frame, waits := r.waits }
      (r.mem, { r.core with dap := { r.core.dap with deferred := r.core.dap.deferred ++ [d] } })

/-- A request against its session's window (R62). -/
def windowed (m : Mem) (c : Core) (s : Session) (op : Nat) (f : DapFrame) : Mem × Core :=
  let q := f.sequence.toNat
  let no := fun (st : Status) => sendReply c s.eth op f st s.window (keyOf s) []
  if s.done + s.window < q then (m, no stWindowExceeded)
  else if s.done < q then
    if s.held.any (fun h => h.2.sequence == f.sequence) then (m, c)
    else if q = s.done + 1 then execute m c s.id op f
    else (m, modSession c s.id (fun s => { s with held := s.held ++ [(BitVec.ofNat 8 op, f)] }))
  else if q = 0 ∨ q + 63 < s.done then (m, no stStaleSequence)
  else
    match s.replies.find? (fun r => r.1 == q) with
    | some r => (m, sendDap c s.eth s.host r.2)
    | none => (m, c)

/-- HELD_REQUEST_EXECUTE: a held request has all its predecessors (R62). -/
def heldExecute (m : Mem) (c : Core) (sid : Nat) : Mem × Core :=
  match sessionOf c sid with
  | some s =>
    match s.held.find? (fun h => h.2.sequence.toNat == s.done + 1) with
    | some h => execute m c sid h.1.toNat h.2
    | none => (m, c)
  | none => (m, c)

/-- The operations that a session numbers (R62). -/
def numbered (op : Nat) : Bool := [opRead, opWrite, opReadBlock, opWriteBlock, opSubscribe, opUnsubscribe, opClose].contains op

/-- The session of a frame: the one it names, bound to its sender (R59). -/
def sessionFor (c : Core) (f : DapFrame) : Option Session := (sessionOf c f.session.toNat).filter (fun s => s.host == f.src)

/-- Whether the tag of a frame suits its session (R54, R60; log 81). -/
def tagSuits (s : Session) (op : Nat) (f : DapFrame) : Bool :=
  match keyOf s with
  | some k => hasFlag f flagAuth && dapTagOk op f k
  | none => !hasFlag f flagAuth

/-- The wake NOTIFY_ACK, which names no session: it names the wake NOTIFY (R454); with AUTH_REQUIRED it needs a tag by PSK (log 84). -/
def wakeAcked (c : Core) (f : DapFrame) : Core :=
  match pskTag c opNotifyAck f with
  | none => authFailed c
  | some key =>
    if authRequired c ∧ key.isNone then authFailed c
    else if c.dap.wakeNotify = some f.sequence.toNat then { c with dap := { c.dap with wakeNotify := none } }
    else c

/-- A frame that needs a session (R54, R59); NO_SESSION comes before BAD_VERSION (log 95). -/
def inSession (m : Mem) (c : Core) (port op : Nat) (f : DapFrame) : Mem × Core :=
  let ack := op == opNotifyAck
  match sessionFor c f with
  | none => (m, if ack then (if f.session = 0 then wakeAcked c f else c) else sendReply c port op f stNoSession 0 none [])
  | some s =>
    if !tagSuits s op f then (m, authFailed c)
    else
      let c1 := modSession c s.id (fun s => { s with lastSeen := c.time, eth := port })
      let s1 := { s with lastSeen := c.time, eth := port }
      let no := fun (st : Status) => if ack then c1 else sendReply c1 port op f st s.window (keyOf s) []
      if f.version ≠ 1 then (m, no stBadVersion)
      else if tooLong c port op f then (m, no stTooLarge)
      else if ack then (m, notifyAcked c1 s1 f.sequence.toNat)
      else windowed m c1 s1 op f

/-! ## Probe (R74) -/

/-- PARTNER_PROBE: answered with ID, level, nonce and mode; one without the tag that AUTH_REQUIRED asks for is discarded, and one whose
body is not 16 bytes is OUT_OF_RANGE (log 96). -/
def answerProbe (c : Core) (port : Nat) (f : DapFrame) : Core :=
  match pskTag c opProbe f with
  | none => authFailed c
  | some key =>
    if authRequired c ∧ key.isNone then authFailed c
    else if f.version ≠ 1 then sendReply c port opProbe f stBadVersion 0 key []
    else if f.payload.length ≠ 16 then sendReply c port opProbe f stOutOfRange 0 key []
    else sendReply c port opProbe f stOk 0 key
      (leBytes 16 (packFields [(16, deviceId c), (16, rd c (mkKey 0x1008 0)), (64, leAt f.payload 4 8), (8, modeNow c), (24, 0)]))

/-! ## Relay (R75) -/

/-- Whether a frame is for another device. -/
def forOther (c : Core) (f : DapFrame) : Bool := f.target != 0xFFFF && f.target.toNat != deviceId c

/-- Keep the port by which a host's frames for a device come (log 50). -/
def notePath (c : Core) (target : Nat) (host : HostAddr) (port : Nat) : Core :=
  { c with dap := { c.dap with paths := (c.dap.paths.filter (fun p => !(p.1 == target && p.2.1 == host))) ++ [(target, host, port)] } }

/-- Relay a request: answered here with HOP_LIMIT or NO_ROUTE, or sent on with HOPS_LEFT counted down and RELAYED set; tags are not
looked at. -/
def relayRequest (c : Core) (port op : Nat) (f : DapFrame) : Core :=
  let no := fun (st : Status) => sendReply c port op f st 0 none []
  if f.hops = 0 then no stHopLimit
  else
    match (routeOf c f.target.toNat).filter (linkUp c) with
    | none => no stNoRoute
    | some l =>
      let g := { f with hops := f.hops - 1, flags := f.flags ||| 0x20 }
      let g1 := { g with crc := crc32c (dapBytes op g) }
      relayOver (notePath c f.target.toNat f.src port) l 1 f.src (dapWhole op g1)

/-- A reply or NOTIFY on its way back goes by the port its host's frames came by, as it is (log 97). -/
def relayBack (c : Core) (op : Nat) (f : DapFrame) : Core :=
  match c.dap.paths.find? (fun p => p.1 == f.target.toNat && p.2.1 == f.src) with
  | some p => sendDap c p.2.2 f.src (dapWhole op f)
  | none => c

/-! ## Arrival (R50 to R54) -/

/-- A frame for this device, by port. -/
def dapHere (m : Mem) (c : Core) (port op : Nat) (f : DapFrame) : Mem × Core :=
  if op = opOpen then (m, openSession c port f)
  else if op = opProbe then (m, answerProbe c port f)
  else if numbered op || op == opNotifyAck then inSession m c port op f
  else (m, frameDiscarded c)

/-- A DAP frame on an Ethernet port. -/
def dapIn (m : Mem) (c : Core) (op : Nat) (f : DapFrame) : Mem × Core :=
  if !portUp c f.eth.val ∨ !ipTaken c f.eth.val f.ip then (m, c)
  else if !dapIntact op f ∨ hasFlag f flagReply then (m, frameDiscarded c)
  else if forOther c f then (m, relayRequest c f.eth.val op f)
  else dapHere m c f.eth.val op f

/-- DAP_FRAME_RELAY: a DAP frame for another device (R75). -/
def dapForOther (m : Mem) (c : Core) (op : Nat) (f : DapFrame) : Mem × Core := if forOther c f then dapIn m c op f else (m, c)

/-- Slots of a DAP_RELAY message with its headers (log 50). -/
def relaySlots (op : Nat) (f : DapFrame) : Nat :=
  let n := (22 + (dapWhole op f).length + 15) / 16
  n + (n + 15) / 16

/-- A DAP_RELAY message over a link (R75). -/
def dapRelayed (m : Mem) (c : Core) (l op : Nat) (f : DapFrame) : Mem × Core :=
  let back := hasFlag f flagReply || op == opNotify
  let c1 := takeSlots c l (if back then 2 else 1) (relaySlots op f)
  if !dapIntact op f then (m, frameDiscarded c1)
  else if back then (m, relayBack c1 op f)
  else if forOther c f then (m, relayRequest c1 (2 + l) op f)
  else dapHere m c1 (2 + l) op f

/-! ## Echo and address resolution (R50) -/

/-- An IPv4 address as an address of 128 bits. -/
def mappedV4 (a : Nat) : Nat := 0xFFFF * 2 ^ 32 + a

/-- Whether an address is the port's own. -/
def ownAddress (c : Core) (p : Nat) (v6 : Bool) (a : Nat) : Bool :=
  if v6 then (dom c (ek p 4)).length == 16 && ofBe (dom c (ek p 4)) == a
  else rd c (ek p 2) != 0 && mappedV4 (rd c (ek p 2)) == a

/-- ECHO_REQUEST. -/
def echoAnswered (c : Core) (e : EchoFrame) : Core :=
  let p := e.eth.val
  if portUp c p ∧ ipOk e.ip ∧ ownAddress c p e.ip.v6 e.dst.toNat then emit c (.echoReply p (!e.ip.v6) e.src e.payload) else c

/-- ARP_AND_NEIGHBOR_DISCOVERY. -/
def neighbourAnswered (c : Core) (a : ArpFrame) : Core :=
  let p := a.eth.val
  if portUp c p ∧ !a.vlanTagged ∧ ownAddress c p a.v6 a.target.toNat then
    emit c (.neighbour p a.v6 (Config.macAddr a.eth).toNat a.senderMac.toNat a.target.toNat a.senderIp.toNat)
  else c

/-! ## What a command answers -/

/-- A command is done: the block after it, with every ON_CHANGE subscription having looked at its object (R72). -/
def did (s : State) (r : Mem × Core) : Host.Outcome State Fault Refusal := .next { s with mem := r.1, core := noticed r.2 }

/-- A command that asks the HBM for best-effort service: while a retrain makes it wait, it joins the requests that wait (R315, R327). -/
def bestEffort (s : State) (waits : Bool) (r : BestEffort) (run : Host.Outcome State Fault Refusal) : Host.Outcome State Fault Refusal :=
  if waits then .next { s with core := beWait s.core r } else run

/-- Whether a block request names bytes of this device's HBM that a retrain keeps waiting (R315). -/
def blockWaits (c : Core) (f : DapFrame) : Bool :=
  let b := blockHead f.payload
  !forOther c f && keyIx b.key == 0 && beMustWait c b.off (max 1 b.len)

/-- Whether the next held request of a session is one (R62). -/
def heldWaits (c : Core) (sid : Nat) : Option DapFrame :=
  match sessionOf c sid with
  | some s => (s.held.find? (fun h => h.2.sequence.toNat == s.done + 1)).bind (fun h =>
      if (h.1.toNat == opReadBlock || h.1.toNat == opWriteBlock) && blockWaits c h.2 then some h.2 else none)
  | none => none

/-- A command that leaves the memory. -/
def didC (s : State) (c : Core) : Host.Outcome State Fault Refusal := did s (s.mem, c)

/-- A write of a scalar object by a command, with the object's own effect; `status` tells what it answers (log 74). -/
def wrote (s : State) (k : Key) (v e : Nat) (eff : Effect) : Host.Outcome State Fault Refusal :=
  did s (settledM (writeObj s.mem s.core false k v e eff))

/-- A write of a DOMAIN object's whole contents by a command. -/
def wroteDomain (s : State) (k : Key) (l : List Byte) (eff : Effect) : Host.Outcome State Fault Refusal :=
  did s (settledM (writeDomain s.mem s.core false k l eff))

end Sys2Proof.Machine
end

