-- ==== Sys2Proof/Machine/CalibrationCommands.lean ====
section
/-!
DEFINITION. Sys2Proof/Machine/CalibrationCommands.lean: commands of calibration and drift tracking (06_calibration.md).
-/
namespace Sys2Proof.Machine

/-- TRACKER_ROUND_END (R190): a tracker round ends. -/
def execTrackerRoundEnd (s : State) : Host.Outcome State Fault Refusal :=
  didC s (roundEnd s.core)

/-- REBUILD_COMPLETE (R191): the shadow correction banks are complete. -/
def execRebuildComplete (s : State) : Host.Outcome State Fault Refusal :=
  didC s (completeRebuild s.core)

/-- SWAP_TIMEOUT (R193): a swap has waited too long. -/
def execSwapTimeout (w : Fin 64) (s : State) : Host.Outcome State Fault Refusal :=
  didC s (swapTimedOut s.core w.val)

/-- GROUP_EPOCH (R195): the swap epoch of the group. -/
def execGroupEpoch (e : BitVec 64) (s : State) : Host.Outcome State Fault Refusal :=
  wrote s (gk 0xE) (e.toNat) (0) (effW (fun c => writeGroupEpoch c e.toNat))

/-- CAL_START (R199): foreground calibration starts. -/
def execCalStart (s : State) : Host.Outcome State Fault Refusal :=
  wrote s (gk 6) (1) (0) (effC startForeground)

/-- FOREGROUND_CAL_COMPLETE (R199): foreground calibration is complete. -/
def execForegroundCalComplete (results : List CalResult) (s : State) : Host.Outcome State Fault Refusal :=
  didC s (completeForeground s.core results)

/-- FIELD_COMMIT (R200): the staged field set goes to eMRAM. -/
def execFieldCommit (s : State) : Host.Outcome State Fault Refusal :=
  wrote s (gk 0xA) (1) (0) (effW commitField)

/-- TAP_QUERY (R202): a time is decomposed into a tap word. -/
def execTapQuery (p : Fin 256) (v : BitVec 64) (s : State) : Host.Outcome State Fault Refusal :=
  wrote s (mkKey (0x3300 + p.val) 6) (v.toNat) (0) (effC (fun c => writeTapQuery c p.val v.toNat))

end Sys2Proof.Machine
end

