-- ==== Sys2Proof/Machine/CaptureCommands.lean ====
section
/-!
DEFINITION. Sys2Proof/Machine/CaptureCommands.lean: commands of records, streams and the journal (07_capture_credit.md, 15_integrity_faults.md).
-/
namespace Sys2Proof.Machine

/-- RECORD_PLACEMENT (R220): the next staged record goes to its place. -/
def execRecordPlacement (stream : BitVec 16) (s : State) : Host.Outcome State Fault Refusal :=
  did s (placeRecord s.mem s.core stream.toNat)

/-- STREAM_TABLE (R219): a stream table. -/
def execStreamTable (data : List Byte) (s : State) : Host.Outcome State Fault Refusal :=
  wroteDomain s (mkKey 0x5C01 0) data (effW (fun c => writeStreamTable c data))

/-- JOURNAL_WRITE (R418): a journal record is written. -/
def execJournalWrite (attempt : EmramWrite) (s : State) : Host.Outcome State Fault Refusal :=
  didC s (journalAttempt s.core attempt)

/-- ST_DATA (R225): journalled records leave. -/
def execStData (stream : BitVec 16) (s : State) : Host.Outcome State Fault Refusal :=
  bestEffort s (s.core.hbm.training && !(getStream s.core stream.toNat).ring.isEmpty) ⟨.stream, 32, none, .stData stream⟩
    (did s (sendStream s.mem s.core stream.toNat))

/-- ST_OPEN (R224): a host opens a stream. -/
def execStOpen (f : StFrame) (s : State) : Host.Outcome State Fault Refusal :=
  did s (stOpenFrame s.mem s.core f)

/-- ST_ACK (R226): records are acknowledged. -/
def execStAck (f : StFrame) (s : State) : Host.Outcome State Fault Refusal :=
  did s (stAckFrame s.mem s.core f)

/-- ST_NAK (R226): a host asks for records again. -/
def execStNak (f : StFrame) (s : State) : Host.Outcome State Fault Refusal :=
  didC s (stNakFrame s.core f)

/-- ST_CLOSE (R224): a stream is unbound. -/
def execStClose (f : StFrame) (s : State) : Host.Outcome State Fault Refusal :=
  didC s (stCloseFrame s.core f)

/-- ST_ACK_TIMEOUT (R227): ACK_TIMEOUT without progress. -/
def execStAckTimeout (stream : BitVec 16) (s : State) : Host.Outcome State Fault Refusal :=
  didC s (stTimeout s.core stream.toNat)

end Sys2Proof.Machine
end

