-- ==== Sys2Proof/Machine/DapCommands.lean ====
section
/-!
DEFINITION. Sys2Proof/Machine/DapCommands.lean: commands of the dictionary, DAP frames, sessions and the Ethernet ports (02_dictionary_access.md).
-/
namespace Sys2Proof.Machine

/-- REGISTER_WRITE (R46): a write of any scalar object, by no session (log 74). -/
def execRegisterWrite (o : ObjWrite) (s : State) : Host.Outcome State Fault Refusal :=
  wrote s (mkKey o.index.toNat o.sub.toNat) o.value.toNat o.epoch.toNat (effectOf (mkKey o.index.toNat o.sub.toNat) o.value.toNat (boundaryOf s.core o.epoch.toNat))

/-- DEVICE_ID (R38): the device takes an ID, or refuses it (R38). -/
def execDeviceId (v : BitVec 16) (s : State) : Host.Outcome State Fault Refusal :=
  wrote s (mkKey 0x6020 0) (v.toNat) (0) (putDeviceId v.toNat)

/-- READ (R56): a DAP frame arrives: values of entries are returned. -/
def execRead (f : DapFrame) (s : State) : Host.Outcome State Fault Refusal :=
  did s (dapIn s.mem s.core opRead f)

/-- WRITE (R66): a DAP frame arrives: entries are written one by one, or as one unit. -/
def execWrite (f : DapFrame) (s : State) : Host.Outcome State Fault Refusal :=
  did s (dapIn s.mem s.core opWrite f)

/-- READ_BLOCK (R57): a DAP frame arrives: bytes of local memory or of a DOMAIN are returned. -/
def execReadBlock (f : DapFrame) (s : State) : Host.Outcome State Fault Refusal :=
  bestEffort s (blockWaits s.core f) ⟨.host, (blockHead f.payload).len, none, .readBlock f⟩ (did s (dapIn s.mem s.core opReadBlock f))

/-- WRITE_BLOCK (R58): a DAP frame arrives: a DOMAIN is staged or taken, or local memory written. -/
def execWriteBlock (f : DapFrame) (s : State) : Host.Outcome State Fault Refusal :=
  bestEffort s (blockWaits s.core f) ⟨.host, (blockHead f.payload).len, none, .writeBlock f⟩ (did s (dapIn s.mem s.core opWriteBlock f))

/-- SUBSCRIBE (R72): a DAP frame arrives: subscriptions are made. -/
def execSubscribe (f : DapFrame) (s : State) : Host.Outcome State Fault Refusal :=
  did s (dapIn s.mem s.core opSubscribe f)

/-- UNSUBSCRIBE (R72): a DAP frame arrives: subscriptions end. -/
def execUnsubscribe (f : DapFrame) (s : State) : Host.Outcome State Fault Refusal :=
  did s (dapIn s.mem s.core opUnsubscribe f)

/-- NOTIFY_ACK (R73): a DAP frame arrives: a NOTIFY is acknowledged, and a pending value leaves. -/
def execNotifyAck (f : DapFrame) (s : State) : Host.Outcome State Fault Refusal :=
  did s (dapIn s.mem s.core opNotifyAck f)

/-- SESSION_OPEN (R59): a DAP frame arrives: a session opens. -/
def execSessionOpen (f : DapFrame) (s : State) : Host.Outcome State Fault Refusal :=
  did s (dapIn s.mem s.core opOpen f)

/-- SESSION_CLOSE (R59): a DAP frame arrives: a session closes. -/
def execSessionClose (f : DapFrame) (s : State) : Host.Outcome State Fault Refusal :=
  did s (dapIn s.mem s.core opClose f)

/-- PARTNER_PROBE (R74): a DAP frame arrives: a probe is answered. -/
def execPartnerProbe (f : DapFrame) (s : State) : Host.Outcome State Fault Refusal :=
  did s (dapIn s.mem s.core opProbe f)

/-- SUBSCRIPTION_EVERY_N (R72): the epochs of an EVERY_N subscription have passed. -/
def execSubscriptionEveryN (n : BitVec 16) (s : State) : Host.Outcome State Fault Refusal :=
  didC s (everyNExpired s.core n.toNat)

/-- NOTIFY_RESEND (R73): a NOTIFY is resent with RETRY at 1. -/
def execNotifyResend (sid : BitVec 16) (number : BitVec 48) (s : State) : Host.Outcome State Fault Refusal :=
  didC s (notifyAgain s.core sid.toNat number.toNat)

/-- SESSION_IDLE_TIMEOUT (R59): an idle session closes. -/
def execSessionIdleTimeout (sid : BitVec 16) (s : State) : Host.Outcome State Fault Refusal :=
  didC s (sessionIdle s.core sid.toNat)

/-- HELD_REQUEST_EXECUTE (R62): a held request has all its predecessors. -/
def execHeldRequestExecute (sid : BitVec 16) (s : State) : Host.Outcome State Fault Refusal :=
  bestEffort s (heldWaits s.core sid.toNat).isSome
    ⟨.host, ((heldWaits s.core sid.toNat).map (fun f => (blockHead f.payload).len)).getD 0, none, .heldRequestExecute sid⟩
    (did s (heldExecute s.mem s.core sid.toNat))

/-- PARTNER_PROBE_REPLY (R386): the buddy answers a probe. -/
def execPartnerProbeReply (f : DapFrame) (s : State) : Host.Outcome State Fault Refusal :=
  didC s (probeAnswered s.core f)

/-- DAP_FRAME_RELAY (R75): a frame for another device goes on over Withy. -/
def execDapFrameRelay (op : Byte) (f : DapFrame) (s : State) : Host.Outcome State Fault Refusal :=
  did s (dapForOther s.mem s.core op.toNat f)

/-- ETH_LINK_UP (R51): a port completes its training. -/
def execEthLinkUp (p : Fin 2) (s : State) : Host.Outcome State Fault Refusal :=
  didC s (ethUp s.core p.val)

/-- ETH_LINK_LOSS (R51): a port loses its link. -/
def execEthLinkLoss (p : Fin 2) (s : State) : Host.Outcome State Fault Refusal :=
  didC s (ethLoss s.core p.val)

/-- ECHO_REQUEST (R50): an echo request for an own address is answered. -/
def execEchoRequest (e : EchoFrame) (s : State) : Host.Outcome State Fault Refusal :=
  didC s (echoAnswered s.core e)

/-- ARP_AND_NEIGHBOR_DISCOVERY (R50): the port answers for its own address. -/
def execArpAndNeighborDiscovery (a : ArpFrame) (s : State) : Host.Outcome State Fault Refusal :=
  didC s (neighbourAnswered s.core a)

end Sys2Proof.Machine
end

