-- ==== Sys2Proof/Machine/FaultCommands.lean ====
section
/-!
DEFINITION. Sys2Proof/Machine/FaultCommands.lean: commands of the fault collector, the tally counters and ALIVE (15_integrity_faults.md).
-/
namespace Sys2Proof.Machine

/-- FAULT_ACK (R428): raises are acknowledged. -/
def execFaultAck (data : List Byte) (s : State) : Host.Outcome State Fault Refusal :=
  wroteDomain s (mkKey 0x7000 2) data (putFaultAck data)

/-- FIRST_CLR (R432): the first-fault latch empties. -/
def execFirstClr (s : State) : Host.Outcome State Fault Refusal :=
  wrote s (mkKey 0x7000 6) (1) (0) (effC clearFirst)

/-- HISTORY_RECORD_WRITE (R432): the oldest event becomes a history record. -/
def execHistoryRecordWrite (s : State) : Host.Outcome State Fault Refusal :=
  didC s (writeHistory s.core)

/-- TALLY_CLEAR (R434): a tally counter clears. -/
def execTallyClear (k : Fin 128) (s : State) : Host.Outcome State Fault Refusal :=
  wrote s (mkKey (0x7400 + k.val) 3) (1) (0) (effC (fun c => clearTally c k.val))

/-- ALIVE_TRANSITION (R433): ALIVE makes its edge. -/
def execAliveTransition (s : State) : Host.Outcome State Fault Refusal :=
  didC s (aliveEdge s.core)

end Sys2Proof.Machine
end

