-- ==== Sys2Proof/Machine/MemoryCommands.lean ====
section
/-!
DEFINITION. Sys2Proof/Machine/MemoryCommands.lean: commands of the memory controller (11_vector_memory.md).
-/
namespace Sys2Proof.Machine

/-- HBM_INIT_COMPLETE (R313): initialisation is complete; a recovery that waited for it runs (R450). -/
def execHbmInitComplete (training : List StackTraining) (s : State) : Host.Outcome State Fault Refusal :=
  did s ((let r := initComplete s.mem s.core training; (r.1, tryRecover r.1 r.2)))

/-- REINIT (R311): the order is initialised again. -/
def execReinit (s : State) : Host.Outcome State Fault Refusal :=
  wrote s (hk 0x17) (1) (0) (effW writeReinit)

/-- TRAIN_START (R315): every pseudo-channel retrains. -/
def execTrainStart (s : State) : Host.Outcome State Fault Refusal :=
  wrote s (hk 0x12) (1) (0) (effW writeTrainStart)

/-- TRAIN_COMPLETE (R315): the retrain is complete. -/
def execTrainComplete (training : List StackTraining) (s : State) : Host.Outcome State Fault Refusal :=
  didC s (trainComplete s.core training)

/-- MEM_TEST (R328): the memory test starts. -/
def execMemTest (s : State) : Host.Outcome State Fault Refusal :=
  wrote s (hk 0x14) (1) (0) (writeMemTest)

/-- MEM_TEST_COMPLETE (R328): the memory test is complete. -/
def execMemTestComplete (errors : List (BitVec 32)) (s : State) : Host.Outcome State Fault Refusal :=
  did s (memTestComplete s.mem s.core errors)

/-- HBM_POWER_DOWN_ENTRY (R323): a pseudo-channel has idled for PD_IDLE. -/
def execHbmPowerDownEntry (pc : Fin 128) (s : State) : Host.Outcome State Fault Refusal :=
  didC s (powerDownEntry s.core pc.val)

/-- HBM_SELF_REFRESH_ENTRY (R323): a stack has idled for SR_IDLE. -/
def execHbmSelfRefreshEntry (st : Fin 4) (s : State) : Host.Outcome State Fault Refusal :=
  didC s (selfRefreshEntry s.core st.val)

/-- HBM_REFRESH (R316): a refresh interval expires. -/
def execHbmRefresh (st : Fin 4) (milliC : Int) (s : State) : Host.Outcome State Fault Refusal :=
  didC s (refreshStack s.core st.val milliC)

/-- SCRUB_READ (R321): the patrol scrub reads its next unit. -/
def execScrubRead (found : ScrubFound) (s : State) : Host.Outcome State Fault Refusal :=
  bestEffort s s.core.hbm.training ⟨.maint, 64, none, .scrubRead found⟩ (did s (scrubNext s.mem s.core found))

end Sys2Proof.Machine
end

