-- ==== Sys2Proof/Machine/MicroCommands.lean ====
section
/-!
DEFINITION. Sys2Proof/Machine/MicroCommands.lean: the microwords and the control store (04_microcode.md).
-/
namespace Sys2Proof.Machine

/-- MICRO_NOP (R127): the word of operation 0x00 runs. -/
def execMicroNop (w : Fin 64) (m : MicroArgs) (s : State) : Host.Outcome State Fault Refusal :=
  didC s (runMicro s.core w.val (wordOf 0x00 m))

/-- DONE (R126): the word of operation 0x01 runs. -/
def execDone (w : Fin 64) (m : MicroArgs) (s : State) : Host.Outcome State Fault Refusal :=
  didC s (runMicro s.core w.val (wordOf 0x01 m))

/-- TRET (R126): the word of operation 0x02 runs. -/
def execTret (w : Fin 64) (m : MicroArgs) (s : State) : Host.Outcome State Fault Refusal :=
  didC s (runMicro s.core w.val (wordOf 0x02 m))

/-- ILL (R129): the word of operation 0x03 runs. -/
def execIll (w : Fin 64) (m : MicroArgs) (s : State) : Host.Outcome State Fault Refusal :=
  didC s (runMicro s.core w.val (wordOf 0x03 m))

/-- MOV (R127): the word of operation 0x04 runs. -/
def execMov (w : Fin 64) (m : MicroArgs) (s : State) : Host.Outcome State Fault Refusal :=
  didC s (runMicro s.core w.val (wordOf 0x04 m))

/-- MOVT (R127): the word of operation 0x05 runs. -/
def execMovt (w : Fin 64) (m : MicroArgs) (s : State) : Host.Outcome State Fault Refusal :=
  didC s (runMicro s.core w.val (wordOf 0x05 m))

/-- LDI (R127): the word of operation 0x06 runs. -/
def execLdi (w : Fin 64) (m : MicroArgs) (s : State) : Host.Outcome State Fault Refusal :=
  didC s (runMicro s.core w.val (wordOf 0x06 m))

/-- LDIS (R127): the word of operation 0x07 runs. -/
def execLdis (w : Fin 64) (m : MicroArgs) (s : State) : Host.Outcome State Fault Refusal :=
  didC s (runMicro s.core w.val (wordOf 0x07 m))

/-- ADD (R127): the word of operation 0x08 runs. -/
def execAdd (w : Fin 64) (m : MicroArgs) (s : State) : Host.Outcome State Fault Refusal :=
  didC s (runMicro s.core w.val (wordOf 0x08 m))

/-- SUB (R127): the word of operation 0x09 runs. -/
def execSub (w : Fin 64) (m : MicroArgs) (s : State) : Host.Outcome State Fault Refusal :=
  didC s (runMicro s.core w.val (wordOf 0x09 m))

/-- ADDI (R127): the word of operation 0x0A runs. -/
def execAddi (w : Fin 64) (m : MicroArgs) (s : State) : Host.Outcome State Fault Refusal :=
  didC s (runMicro s.core w.val (wordOf 0x0A m))

/-- AND (R127): the word of operation 0x0B runs. -/
def execAnd (w : Fin 64) (m : MicroArgs) (s : State) : Host.Outcome State Fault Refusal :=
  didC s (runMicro s.core w.val (wordOf 0x0B m))

/-- OR (R127): the word of operation 0x0C runs. -/
def execOr (w : Fin 64) (m : MicroArgs) (s : State) : Host.Outcome State Fault Refusal :=
  didC s (runMicro s.core w.val (wordOf 0x0C m))

/-- XOR (R127): the word of operation 0x0D runs. -/
def execXor (w : Fin 64) (m : MicroArgs) (s : State) : Host.Outcome State Fault Refusal :=
  didC s (runMicro s.core w.val (wordOf 0x0D m))

/-- SHL (R127): the word of operation 0x0E runs. -/
def execShl (w : Fin 64) (m : MicroArgs) (s : State) : Host.Outcome State Fault Refusal :=
  didC s (runMicro s.core w.val (wordOf 0x0E m))

/-- SHR (R127): the word of operation 0x0F runs. -/
def execShr (w : Fin 64) (m : MicroArgs) (s : State) : Host.Outcome State Fault Refusal :=
  didC s (runMicro s.core w.val (wordOf 0x0F m))

/-- TEQ (R127): the word of operation 0x10 runs. -/
def execTeq (w : Fin 64) (m : MicroArgs) (s : State) : Host.Outcome State Fault Refusal :=
  didC s (runMicro s.core w.val (wordOf 0x10 m))

/-- TLT (R127): the word of operation 0x11 runs. -/
def execTlt (w : Fin 64) (m : MicroArgs) (s : State) : Host.Outcome State Fault Refusal :=
  didC s (runMicro s.core w.val (wordOf 0x11 m))

/-- TBIT (R127): the word of operation 0x12 runs. -/
def execTbit (w : Fin 64) (m : MicroArgs) (s : State) : Host.Outcome State Fault Refusal :=
  didC s (runMicro s.core w.val (wordOf 0x12 m))

/-- TST (R127): the word of operation 0x13 runs. -/
def execTst (w : Fin 64) (m : MicroArgs) (s : State) : Host.Outcome State Fault Refusal :=
  didC s (runMicro s.core w.val (wordOf 0x13 m))

/-- BRC (R127): the word of operation 0x14 runs. -/
def execBrc (w : Fin 64) (m : MicroArgs) (s : State) : Host.Outcome State Fault Refusal :=
  didC s (runMicro s.core w.val (wordOf 0x14 m))

/-- JMPR (R127): the word of operation 0x15 runs. -/
def execJmpr (w : Fin 64) (m : MicroArgs) (s : State) : Host.Outcome State Fault Refusal :=
  didC s (runMicro s.core w.val (wordOf 0x15 m))

/-- CSTEP (R128): the word of operation 0x16 runs. -/
def execCstep (w : Fin 64) (m : MicroArgs) (s : State) : Host.Outcome State Fault Refusal :=
  didC s (runMicro s.core w.val (wordOf 0x16 m))

/-- CCLR (R127): the word of operation 0x17 runs. -/
def execCclr (w : Fin 64) (m : MicroArgs) (s : State) : Host.Outcome State Fault Refusal :=
  didC s (runMicro s.core w.val (wordOf 0x17 m))

/-- PUSH (R127): the word of operation 0x18 runs. -/
def execPush (w : Fin 64) (m : MicroArgs) (s : State) : Host.Outcome State Fault Refusal :=
  didC s (runMicro s.core w.val (wordOf 0x18 m))

/-- POP (R127): the word of operation 0x19 runs. -/
def execPop (w : Fin 64) (m : MicroArgs) (s : State) : Host.Outcome State Fault Refusal :=
  didC s (runMicro s.core w.val (wordOf 0x19 m))

/-- STAIL (R127): the word of operation 0x1A runs. -/
def execStail (w : Fin 64) (m : MicroArgs) (s : State) : Host.Outcome State Fault Refusal :=
  didC s (runMicro s.core w.val (wordOf 0x1A m))

/-- FCLR (R127): the word of operation 0x1B runs. -/
def execFclr (w : Fin 64) (m : MicroArgs) (s : State) : Host.Outcome State Fault Refusal :=
  didC s (runMicro s.core w.val (wordOf 0x1B m))

/-- MCLR (R127): the word of operation 0x1C runs. -/
def execMclr (w : Fin 64) (m : MicroArgs) (s : State) : Host.Outcome State Fault Refusal :=
  didC s (runMicro s.core w.val (wordOf 0x1C m))

/-- MTOUT (R127): the word of operation 0x1D runs. -/
def execMtout (w : Fin 64) (m : MicroArgs) (s : State) : Host.Outcome State Fault Refusal :=
  didC s (runMicro s.core w.val (wordOf 0x1D m))

/-- SOFF (R127): the word of operation 0x1E runs. -/
def execSoff (w : Fin 64) (m : MicroArgs) (s : State) : Host.Outcome State Fault Refusal :=
  didC s (runMicro s.core w.val (wordOf 0x1E m))

/-- PECQ (R177): the word of operation 0x1F runs. -/
def execPecq (w : Fin 64) (m : MicroArgs) (s : State) : Host.Outcome State Fault Refusal :=
  didC s (runMicro s.core w.val (wordOf 0x1F m))

/-- REC (R127): the word of operation 0x20 runs. -/
def execRecq (w : Fin 64) (m : MicroArgs) (s : State) : Host.Outcome State Fault Refusal :=
  didC s (runMicro s.core w.val (wordOf 0x20 m))

/-- TRGS (R127): the word of operation 0x21 runs. -/
def execTrgs (w : Fin 64) (m : MicroArgs) (s : State) : Host.Outcome State Fault Refusal :=
  didC s (runMicro s.core w.val (wordOf 0x21 m))

/-- ECFG (R134): the word of operation 0x22 runs. -/
def execEcfg (w : Fin 64) (m : MicroArgs) (s : State) : Host.Outcome State Fault Refusal :=
  didC s (runMicro s.core w.val (wordOf 0x22 m))

/-- ETST (R127): the word of operation 0x23 runs. -/
def execEtst (w : Fin 64) (m : MicroArgs) (s : State) : Host.Outcome State Fault Refusal :=
  didC s (runMicro s.core w.val (wordOf 0x23 m))

/-- EACK (R134): the word of operation 0x24 runs. -/
def execEack (w : Fin 64) (m : MicroArgs) (s : State) : Host.Outcome State Fault Refusal :=
  didC s (runMicro s.core w.val (wordOf 0x24 m))

/-- MICRO_TIMER_EXPIRY (R133): a micro-timer reaches 0. -/
def execMicroTimerExpiry (w : Fin 64) (n : Fin 8) (s : State) : Host.Outcome State Fault Refusal :=
  didC s (timerExpiry s.core w.val n.val)

/-- NANO_MODE (R138): native or nano mode. -/
def execNanoMode (w : Fin 64) (v : Byte) (s : State) : Host.Outcome State Fault Refusal :=
  wrote s (wk w.val 0xC) (v.toNat) (0) (effW (fun c => writeNanoMode c w.val v.toNat))

/-- SHADOW_SLOT (R143): a microcode slot goes to the shadow bank. -/
def execShadowSlot (w : Fin 64) (v : Byte) (readBackOk : Bool) (s : State) : Host.Outcome State Fault Refusal :=
  wrote s (wk w.val 0xF) (v.toNat) (0) (effW (fun c => writeShadowSlot c w.val v.toNat readBackOk))

/-- USER_UCODE (R132): a user part. -/
def execUserUcode (w : Fin 64) (data : List Byte) (s : State) : Host.Outcome State Fault Refusal :=
  wroteDomain s (wk w.val 0x10) data (effW (fun c => writeUserUcode c w.val data))

/-- EXCHANGE (R144): the control-store banks change places. -/
def execExchange (w : Fin 64) (s : State) : Host.Outcome State Fault Refusal :=
  wrote s (wk w.val 0x11) (1) (0) (effW (fun c => writeExchange c w.val))

end Sys2Proof.Machine
end

