-- ==== Sys2Proof/Machine/ModeCommands.lean ====
section
/-!
DEFINITION. Sys2Proof/Machine/ModeCommands.lean: commands of modes, images and wake (16_modes_power_boot.md).
-/
namespace Sys2Proof.Machine

/-- MODE_REQUEST (R438): a mode is asked for. -/
def execModeRequest (data : List Byte) (s : State) : Host.Outcome State Fault Refusal :=
  wroteDomain s (mkKey 0x1200 2) data (effA (fun c => writeRequestMode c data))

/-- MODE_TRANSITION_COMPLETE (R439): a timed transition ends. -/
def execModeTransitionComplete (retrain : List StackTraining) (s : State) : Host.Outcome State Fault Refusal :=
  did s (transitionDone s.mem s.core retrain)

/-- DEVICE_FAULT_SAFE_ENTRY (R431): the Weavers have stopped after an L3 or L4 raise. -/
def execDeviceFaultSafeEntry (s : State) : Host.Outcome State Fault Refusal :=
  did s (faultSafe s.mem s.core)

/-- RESET (R446): a warm reset is due. -/
def execReset (s : State) : Host.Outcome State Fault Refusal :=
  wrote s (mo 5) (1) (0) (effC writeReset)

/-- STAGE (R451): an image is staged. -/
def execStage (kind : ImageKind) (data : List Byte) (s : State) : Host.Outcome State Fault Refusal :=
  wroteDomain s (imk kind 1) data (effA (fun c => writeStage c kind data))

/-- INSTALL (R451): an install starts. -/
def execInstall (kind : ImageKind) (slot : Byte) (s : State) : Host.Outcome State Fault Refusal :=
  wrote s (imk kind 2) (slot.toNat) (0) (effA (fun c => writeInstall c kind slot.toNat))

/-- INSTALL_COMPLETE (R451): an install is complete. -/
def execInstallComplete (kind : ImageKind) (s : State) : Host.Outcome State Fault Refusal :=
  didC s (installComplete s.core kind)

/-- FLOOR (R452): the version floor rises. -/
def execFloor (kind : ImageKind) (v : BitVec 32) (s : State) : Host.Outcome State Fault Refusal :=
  wrote s (imk kind 7) (v.toNat) (0) (effA (fun c => writeFloor c kind v.toNat))

/-- WAKE_PIN (R453): WAKE_N was held low. -/
def execWakePin (s : State) : Host.Outcome State Fault Refusal :=
  didC s (wakePin s.core)

/-- WAKE_ALARM (R453): TB3 reaches WAKE_ALARM. -/
def execWakeAlarm (s : State) : Host.Outcome State Fault Refusal :=
  didC s (wakeAlarm s.core)

/-- TRGI_EDGE (R453): a TRGI input changes. -/
def execTrgiEdge (k : Fin 4) (level : Bool) (s : State) : Host.Outcome State Fault Refusal :=
  didC s (trgiEdge s.core k.val level)

/-- WAKE_NOTIFY_RESEND (R454): the wake NOTIFY is resent. -/
def execWakeNotifyResend (s : State) : Host.Outcome State Fault Refusal :=
  didC s (wakeResend s.core)

/-- WAKE_CLR (R454): the wake request is withdrawn. -/
def execWakeClr (s : State) : Host.Outcome State Fault Refusal :=
  wrote s (wkk 6) (1) (0) (effC writeWakeClr)

/-- PG_IDLE_EXPIRY (R443): a pin-group PLL has idled. -/
def execPgIdleExpiry (g : Fin 16) (s : State) : Host.Outcome State Fault Refusal :=
  didC s (pgIdleExpiry s.core g.val)

/-- PG_PLL_LOCK (R444): a pin-group PLL locks. -/
def execPgPllLock (g : Fin 16) (s : State) : Host.Outcome State Fault Refusal :=
  didC s (pgLock s.core g.val)

/-- PG_PLL_LOCK_TIMEOUT (R444): a pin-group PLL does not lock. -/
def execPgPllLockTimeout (g : Fin 16) (s : State) : Host.Outcome State Fault Refusal :=
  didC s (pgLockTimeout s.core g.val)

end Sys2Proof.Machine
end

