-- ==== Sys2Proof/Machine/PatternCommands.lean ====
section
/-!
DEFINITION. Sys2Proof/Machine/PatternCommands.lean: the pattern instructions, native and Horot (03_weaver_sequencer.md Table 3-3, 04_microcode.md Tables 4-7 and 4-14).
-/
namespace Sys2Proof.Machine

/-- NOP (R85): the dispatched instruction runs, if its opcode is 0x00. -/
def execNop (w : Fin 64) (s : State) : Host.Outcome State Fault Refusal :=
  didC s (runNative s.core w.val 0x00)

/-- TAIL (R99): the dispatched instruction runs, if its opcode is 0x01. -/
def execTail (w : Fin 64) (s : State) : Host.Outcome State Fault Refusal :=
  didC s (runNative s.core w.val 0x01)

/-- JMP (R85): the dispatched instruction runs, if its opcode is 0x02. -/
def execJmp (w : Fin 64) (s : State) : Host.Outcome State Fault Refusal :=
  didC s (runNative s.core w.val 0x02)

/-- RPT (R89): the dispatched instruction runs, if its opcode is 0x03. -/
def execRpt (w : Fin 64) (s : State) : Host.Outcome State Fault Refusal :=
  didC s (runNative s.core w.val 0x03)

/-- LOOP (R89): the dispatched instruction runs, if its opcode is 0x04. -/
def execLoop (w : Fin 64) (s : State) : Host.Outcome State Fault Refusal :=
  didC s (runNative s.core w.val 0x04)

/-- CALL (R85): the dispatched instruction runs, if its opcode is 0x05. -/
def execCall (w : Fin 64) (s : State) : Host.Outcome State Fault Refusal :=
  didC s (runNative s.core w.val 0x05)

/-- RET (R85): the dispatched instruction runs, if its opcode is 0x06. -/
def execRet (w : Fin 64) (s : State) : Host.Outcome State Fault Refusal :=
  didC s (runNative s.core w.val 0x06)

/-- MATCH (R91): the dispatched instruction runs, if its opcode is 0x07. -/
def execPmatch (w : Fin 64) (s : State) : Host.Outcome State Fault Refusal :=
  didC s (runNative s.core w.val 0x07)

/-- JF (R90): the dispatched instruction runs, if its opcode is 0x08. -/
def execJf (w : Fin 64) (s : State) : Host.Outcome State Fault Refusal :=
  didC s (runNative s.core w.val 0x08)

/-- JNF (R90): the dispatched instruction runs, if its opcode is 0x09. -/
def execJnf (w : Fin 64) (s : State) : Host.Outcome State Fault Refusal :=
  didC s (runNative s.core w.val 0x09)

/-- JMT (R85): the dispatched instruction runs, if its opcode is 0x0A. -/
def execJmt (w : Fin 64) (s : State) : Host.Outcome State Fault Refusal :=
  didC s (runNative s.core w.val 0x0A)

/-- CLRF (R90): the dispatched instruction runs, if its opcode is 0x0B. -/
def execClrf (w : Fin 64) (s : State) : Host.Outcome State Fault Refusal :=
  didC s (runNative s.core w.val 0x0B)

/-- SITEOFF (R92): the dispatched instruction runs, if its opcode is 0x0C. -/
def execSiteoff (w : Fin 64) (s : State) : Host.Outcome State Fault Refusal :=
  didC s (runNative s.core w.val 0x0C)

/-- PEC (R85): the dispatched instruction runs, if its opcode is 0x0D. -/
def execPec (w : Fin 64) (s : State) : Host.Outcome State Fault Refusal :=
  didC s (runNative s.core w.val 0x0D)

/-- MARK (R207): the dispatched instruction runs, if its opcode is 0x0E. -/
def execMark (w : Fin 64) (s : State) : Host.Outcome State Fault Refusal :=
  didC s (runNative s.core w.val 0x0E)

/-- TRIG (R114): the dispatched instruction runs, if its opcode is 0x0F. -/
def execTrig (w : Fin 64) (s : State) : Host.Outcome State Fault Refusal :=
  didC s (runNative s.core w.val 0x0F)

/-- USER_OPCODE (R131): the dispatched user opcode runs. -/
def execUserOpcode (w : Fin 64) (s : State) : Host.Outcome State Fault Refusal :=
  didC s (runUser s.core w.val)

/-- HSTEP (R141): the dispatched ZH64 instruction runs, if its opcode is 0x00. -/
def execHstep (w : Fin 64) (s : State) : Host.Outcome State Fault Refusal :=
  didC s (runHorot s.core w.val 0x00)

/-- HFIN (R141): the dispatched ZH64 instruction runs, if its opcode is 0x01. -/
def execHfin (w : Fin 64) (s : State) : Host.Outcome State Fault Refusal :=
  didC s (runHorot s.core w.val 0x01)

/-- HGO (R141): the dispatched ZH64 instruction runs, if its opcode is 0x02. -/
def execHgo (w : Fin 64) (s : State) : Host.Outcome State Fault Refusal :=
  didC s (runHorot s.core w.val 0x02)

/-- HRPT (R141): the dispatched ZH64 instruction runs, if its opcode is 0x03. -/
def execHrpt (w : Fin 64) (s : State) : Host.Outcome State Fault Refusal :=
  didC s (runHorot s.core w.val 0x03)

/-- HLPA (R141): the dispatched ZH64 instruction runs, if its opcode is 0x04. -/
def execHlpa (w : Fin 64) (s : State) : Host.Outcome State Fault Refusal :=
  didC s (runHorot s.core w.val 0x04)

/-- HLPB (R141): the dispatched ZH64 instruction runs, if its opcode is 0x05. -/
def execHlpb (w : Fin 64) (s : State) : Host.Outcome State Fault Refusal :=
  didC s (runHorot s.core w.val 0x05)

/-- HSUB (R141): the dispatched ZH64 instruction runs, if its opcode is 0x06. -/
def execHsub (w : Fin 64) (s : State) : Host.Outcome State Fault Refusal :=
  didC s (runHorot s.core w.val 0x06)

/-- HBACK (R141): the dispatched ZH64 instruction runs, if its opcode is 0x07. -/
def execHback (w : Fin 64) (s : State) : Host.Outcome State Fault Refusal :=
  didC s (runHorot s.core w.val 0x07)

/-- HSEEK (R141): the dispatched ZH64 instruction runs, if its opcode is 0x08. -/
def execHseek (w : Fin 64) (s : State) : Host.Outcome State Fault Refusal :=
  didC s (runHorot s.core w.val 0x08)

/-- HFAIL (R141): the dispatched ZH64 instruction runs, if its opcode is 0x09. -/
def execHfail (w : Fin 64) (s : State) : Host.Outcome State Fault Refusal :=
  didC s (runHorot s.core w.val 0x09)

/-- HPASS (R141): the dispatched ZH64 instruction runs, if its opcode is 0x0A. -/
def execHpass (w : Fin 64) (s : State) : Host.Outcome State Fault Refusal :=
  didC s (runHorot s.core w.val 0x0A)

/-- HRST (R141): the dispatched ZH64 instruction runs, if its opcode is 0x0B. -/
def execHrst (w : Fin 64) (s : State) : Host.Outcome State Fault Refusal :=
  didC s (runHorot s.core w.val 0x0B)

/-- HLVL (R141): the dispatched ZH64 instruction runs, if its opcode is 0x0C. -/
def execHlvl (w : Fin 64) (s : State) : Host.Outcome State Fault Refusal :=
  didC s (runHorot s.core w.val 0x0C)

/-- HTAG (R141): the dispatched ZH64 instruction runs, if its opcode is 0x0D. -/
def execHtag (w : Fin 64) (s : State) : Host.Outcome State Fault Refusal :=
  didC s (runHorot s.core w.val 0x0D)

end Sys2Proof.Machine
end

