-- ==== Sys2Proof/Machine/PinCommands.lean ====
section
/-!
DEFINITION. Sys2Proof/Machine/PinCommands.lean: commands of the pins and control ports (05_pin_timing.md).
-/
namespace Sys2Proof.Machine

/-- COMPARATOR_CHANGE (R163): a comparator ball changes. -/
def execComparatorChange (p : Fin 256) (line : CmpLine) (level : Bool) (instant : BitVec 64) (s : State) : Host.Outcome State Fault Refusal :=
  didC s (comparatorChanged s.core p.val line level instant.toNat)

/-- GLITCH_FILTER_ACCEPT (R163): a level has lasted GLITCH_W ticks. -/
def execGlitchFilterAccept (p : Fin 256) (line : CmpLine) (s : State) : Host.Outcome State Fault Refusal :=
  didC s (glitchAccepted s.core p.val line)

/-- HOLDOFF_END (R164): a compare hold-off ends. -/
def execHoldoffEnd (p : Fin 256) (s : State) : Host.Outcome State Fault Refusal :=
  didC s (holdoffEnded s.core p.val)

/-- TSET_SHADOW (R159): a shadow timing-set bank. -/
def execTsetShadow (p : Fin 256) (data : List Byte) (s : State) : Host.Outcome State Fault Refusal :=
  wroteDomain s (tk p.val 2) data (effA (fun c => writeTsetShadow c p.val data))

/-- TSET_COMMIT (R160): the timing-set banks are to change places. -/
def execTsetCommit (p : Fin 256) (s : State) : Host.Outcome State Fault Refusal :=
  wrote s (tk p.val 3) (1) (0) (effC (fun c => writeTsetCommit c p.val))

/-- STICKY_CLR (R475): sticky bits clear. -/
def execStickyClr (p : Fin 256) (mask : BitVec 32) (s : State) : Host.Outcome State Fault Refusal :=
  wrote s (pk p.val 0xB) (mask.toNat) (0) (effC (fun c => clearSticky c p.val mask.toNat))

/-- LIST_STORE (R173): a command-list store. -/
def execListStore (k : Fin 16) (data : List Byte) (s : State) : Host.Outcome State Fault Refusal :=
  wroteDomain s (ck k.val 5) data (effA (fun c => writeListStore c k.val data))

/-- ISSUE (R175): a list is queued. -/
def execIssue (k : Fin 16) (n : BitVec 16) (s : State) : Host.Outcome State Fault Refusal :=
  wrote s (ck k.val 7) (n.toNat) (0) (effW (fun c => issueList c k.val n.toNat))

/-- PEC_QUEUE_TRANSFER (R177): a queued list enters the port queues. -/
def execPecQueueTransfer (w : Fin 64) (s : State) : Host.Outcome State Fault Refusal :=
  didC s (wake (transferList s.core w.val) w.val)

/-- PEC_LIST_START (R175): the next list of a port starts. -/
def execPecListStart (k : Fin 16) (s : State) : Host.Outcome State Fault Refusal :=
  didC s (startList s.core k.val)

/-- PEC_FRAME_COMPLETE (R174): a frame of a port ends. -/
def execPecFrameComplete (k : Fin 16) (sdi : List Bool) (s : State) : Host.Outcome State Fault Refusal :=
  didC s (frameDone s.core k.val sdi)

end Sys2Proof.Machine
end

