-- ==== Sys2Proof/Machine/RasterCommands.lean ====
section
/-!
DEFINITION. Sys2Proof/Machine/RasterCommands.lean: commands of the raster groups (10_raster_source.md).
-/
namespace Sys2Proof.Machine

/-- RASTER_ENABLE (R288): a group is bound to its site. -/
def execRasterEnable (g : Fin 2) (s : State) : Host.Outcome State Fault Refusal :=
  wrote s (rk g.val 1) (1) (0) (effW (fun c => enableRaster c g.val))

/-- RASTER_DISABLE (R288): a group is released. -/
def execRasterDisable (g : Fin 2) (s : State) : Host.Outcome State Fault Refusal :=
  wrote s (rk g.val 1) (0) (0) (effW (fun c => disableRaster c g.val))

/-- PRESENT (R294): a slot becomes PENDING. -/
def execPresent (g : Fin 2) (n : Byte) (s : State) : Host.Outcome State Fault Refusal :=
  wrote s (rk g.val 0x10) (n.toNat) (0) (effW (fun c => writePresent c g.val n.toNat))

/-- TIMING (R298): new timing is staged. -/
def execTiming (g : Fin 2) (data : List Byte) (s : State) : Host.Outcome State Fault Refusal :=
  wroteDomain s (rk g.val 0xD) data (effW (fun c => writeTiming c g.val data))

/-- RECTS (R300): new rectangles are staged. -/
def execRects (g : Fin 2) (data : List Byte) (s : State) : Host.Outcome State Fault Refusal :=
  wroteDomain s (rk g.val 0xF) data (effW (fun c => writeRects c g.val data))

/-- SELF_REFRESH_REQUEST (R303): self-refresh is asked for. -/
def execSelfRefreshRequest (g : Fin 2) (s : State) : Host.Outcome State Fault Refusal :=
  wrote s (rk g.val 0x13) (1) (0) (effC (fun c => writeSelfRefresh c g.val 1))

/-- SELF_REFRESH_EXIT (R304): self-refresh is left. -/
def execSelfRefreshExit (g : Fin 2) (s : State) : Host.Outcome State Fault Refusal :=
  wrote s (rk g.val 0x13) (0) (0) (effC (fun c => writeSelfRefresh c g.val 0))

/-- MISMATCH_CLR (R302): mismatch bits clear. -/
def execMismatchClr (g : Fin 2) (m : BitVec 32) (s : State) : Host.Outcome State Fault Refusal :=
  wrote s (rk g.val 0x20) (m.toNat) (0) (effC (fun c => clearMismatch c g.val m.toNat))

/-- FRAME_START (R296): the frame-start decision. -/
def execFrameStart (g : Fin 2) (s : State) : Host.Outcome State Fault Refusal :=
  didC s (frameStartRow s.core g.val)

/-- RECT_CRC_COMPLETE (R302): rectangle CRCs of a frame are complete. -/
def execRectCrcComplete (g : Fin 2) (returned : Bool) (s : State) : Host.Outcome State Fault Refusal :=
  didC s (rectComplete s.core g.val returned)

end Sys2Proof.Machine
end

