-- ==== Sys2Proof/Machine/SawyerCommands.lean ====
section
/-!
DEFINITION. Sys2Proof/Machine/SawyerCommands.lean: commands of the Sawyer cores, booms and the scheduler (12_sawyer_scheduler.md).
-/
namespace Sys2Proof.Machine

/-- BQ_ENQ (R335): a job is enqueued. -/
def execBqEnq (c : Fin 1024) (x : RType) (s : State) : Host.Outcome State Fault Refusal :=
  bestEffort s (hartMustWait s.core c.val) ⟨.sawyer, 64, some c.val, .bqEnq c x⟩
    (did s (bqEnqueue s.mem s.core c.val x))

/-- BQ_WAIT (R352): the core takes a task, or blocks. -/
def execBqWait (c : Fin 1024) (x : RType) (s : State) : Host.Outcome State Fault Refusal :=
  bestEffort s (hartMustWait s.core c.val) ⟨.sawyer, 64, some c.val, .bqWait c x⟩
    (did s (bqCollect s.mem s.core c.val x true))

/-- BQ_POLL (R335): the core takes a task if there is one. -/
def execBqPoll (c : Fin 1024) (x : RType) (s : State) : Host.Outcome State Fault Refusal :=
  bestEffort s (hartMustWait s.core c.val) ⟨.sawyer, 64, some c.val, .bqPoll c x⟩
    (did s (bqCollect s.mem s.core c.val x false))

/-- BQ_RES (R335): a result is staged. -/
def execBqRes (c : Fin 1024) (x : RType) (s : State) : Host.Outcome State Fault Refusal :=
  did s (bqResult s.mem s.core c.val x)

/-- BQ_DONE (R346): a task closes COMPLETED. -/
def execBqDone (c : Fin 1024) (x : RType) (s : State) : Host.Outcome State Fault Refusal :=
  bestEffort s (hartMustWait s.core c.val) ⟨.sawyer, 64, some c.val, .bqDone c x⟩
    (did s (bqComplete s.mem s.core c.val x))

/-- BQ_ABORT (R346): a task closes ABORTED. -/
def execBqAbort (c : Fin 1024) (x : RType) (s : State) : Host.Outcome State Fault Refusal :=
  bestEffort s (hartMustWait s.core c.val) ⟨.sawyer, 64, some c.val, .bqAbort c x⟩
    (did s (bqAbortTask s.mem s.core c.val x))

/-- BQ_STAT (R335): the entries of a boom not yet dispatched. -/
def execBqStat (c : Fin 1024) (x : RType) (s : State) : Host.Outcome State Fault Refusal :=
  did s (bqStatus s.mem s.core c.val x)

/-- TALLY_ADD (R340): an amount is added to a software source. -/
def execTallyAdd (c : Fin 1024) (x : RType) (s : State) : Host.Outcome State Fault Refusal :=
  did s (tallyAddTo s.mem s.core c.val x)

/-- TALLY_RD (R335): a tally counter is read. -/
def execTallyRd (c : Fin 1024) (x : RType) (s : State) : Host.Outcome State Fault Refusal :=
  did s (tallyRead s.mem s.core c.val x)

/-- CRC32C_B (R339): a CRC over one byte. -/
def execCrc32cB (c : Fin 1024) (x : RType) (s : State) : Host.Outcome State Fault Refusal :=
  did s (crcStep s.mem s.core c.val x 1)

/-- CRC32C_W (R339): a CRC over four bytes. -/
def execCrc32cW (c : Fin 1024) (x : RType) (s : State) : Host.Outcome State Fault Refusal :=
  did s (crcStep s.mem s.core c.val x 4)

/-- CRC32C_D (R339): a CRC over eight bytes. -/
def execCrc32cD (c : Fin 1024) (x : RType) (s : State) : Host.Outcome State Fault Refusal :=
  did s (crcStep s.mem s.core c.val x 8)

/-- CRC32C_REC (R339): the check of a record. -/
def execCrc32cRec (c : Fin 1024) (x : RType) (s : State) : Host.Outcome State Fault Refusal :=
  did s (crcRecord s.mem s.core c.val x)

/-- SAWYER_LOAD_STORE (R332): an access of a core. -/
def execSawyerLoadStore (c : Fin 1024) (a : MemAccess) (s : State) : Host.Outcome State Fault Refusal :=
  bestEffort s (loadStoreWaits s.mem s.core c.val a) ⟨.sawyer, 2 ^ a.size.toNat, some c.val, .sawyerLoadStore c a⟩
    (did s (loadStore s.mem s.core c.val a))

/-- MACHINE_TIMER_INTERRUPT (R333): mtime reaches mtimecmp. -/
def execMachineTimerInterrupt (c : Fin 1024) (s : State) : Host.Outcome State Fault Refusal :=
  didC s (timerInterrupt s.core c.val)

/-- TASK_DELIVERY (R349): a task is delivered. -/
def execTaskDelivery (k : Fin 8) (s : State) : Host.Outcome State Fault Refusal :=
  bestEffort s s.core.hbm.training ⟨.sawyer, 64, none, .taskDelivery k⟩ (did s (deliverTask s.mem s.core k.val))

/-- TASK_TIMEOUT (R353): a task is held too long. -/
def execTaskTimeout (q : BitVec 16) (seq : BitVec 48) (s : State) : Host.Outcome State Fault Refusal :=
  did s (timeoutTask s.mem s.core q.toNat seq.toNat)

/-- BOOM_DESC (R342): a boom is configured. -/
def execBoomDesc (q : BitVec 16) (data : List Byte) (s : State) : Host.Outcome State Fault Refusal :=
  wroteDomain s (mkKey 0x5402 2) data (putBoomDesc q.toNat data)

/-- BOOM_DISABLE (R343): a boom is disabled. -/
def execBoomDisable (q : BitVec 16) (s : State) : Host.Outcome State Fault Refusal :=
  wroteDomain s (mkKey 0x5402 2) (leBytes 32 (clearBit (getBoom s.core q.toNat).desc 53)) (putBoomDesc q.toNat (leBytes 32 (clearBit (getBoom s.core q.toNat).desc 53)))

/-- MIGRATE_FINISH (R355): a boom drains toward a group. -/
def execMigrateFinish (q : BitVec 16) (group : BitVec 6) (s : State) : Host.Outcome State Fault Refusal :=
  wrote s (mkKey 0x5402 9) (group.toNat) (0) (fun m c => writeMigrate m c q.toNat group.toNat)

/-- MIGRATE_ABORT (R355): a boom moves, its tasks aborted. -/
def execMigrateAbort (q : BitVec 16) (group : BitVec 6) (s : State) : Host.Outcome State Fault Refusal :=
  wrote s (mkKey 0x5402 9) (256 + group.toNat) (0) (fun m c => writeMigrate m c q.toNat (256 + group.toNat))

/-- DRAIN_TIMEOUT (R355): DRAIN_TIMEOUT has passed. -/
def execDrainTimeout (q : BitVec 16) (s : State) : Host.Outcome State Fault Refusal :=
  did s (drainTimedOut s.mem s.core q.toNat)

/-- PARTITION_RUN (R348): the cores of a partition start. -/
def execPartitionRun (k : Fin 8) (s : State) : Host.Outcome State Fault Refusal :=
  wrote s (mkKey (0x5410 + k.val) 4) (1) (0) (fun m c => (stOk, writeRun m c k.val 1))

/-- PARTITION_STOP (R358): the cores of a partition stop. -/
def execPartitionStop (k : Fin 8) (s : State) : Host.Outcome State Fault Refusal :=
  wrote s (mkKey (0x5410 + k.val) 4) (0) (0) (fun m c => (stOk, writeRun m c k.val 0))

/-- WIN_SUBMIT (R359): host jobs enter a boom. -/
def execWinSubmit (data : List Byte) (s : State) : Host.Outcome State Fault Refusal :=
  wroteDomain s (mkKey 0x5800 2) data (fun m c => writeWinSubmit m c (rd c (mkKey 0x5800 1)) data)

end Sys2Proof.Machine
end

