-- ==== Sys2Proof/Machine/SenseCommands.lean ====
section
/-!
DEFINITION. Sys2Proof/Machine/SenseCommands.lean: commands of sense inputs, filter chains and acquisition units (09_sense_acquisition.md).
-/
namespace Sys2Proof.Machine

/-- SENSE_CONVERSION (R256): a conversion slot. -/
def execSenseConversion (v0 : Int) (v1 : Int) (v2 : Int) (v3 : Int) (s : State) : Host.Outcome State Fault Refusal :=
  didC s (senseSlot s.core v0 v1 v2 v3)

/-- DETECTOR_BLOCK_END (R268): a detector block is complete. -/
def execDetectorBlockEnd (c : Fin 8) (s : State) : Host.Outcome State Fault Refusal :=
  didC s (blockEnd s.core c.val)

/-- OVR_CLR (R259): OVR clears. -/
def execOvrClr (n : Fin 32) (s : State) : Host.Outcome State Fault Refusal :=
  wrote s (nk n.val 7) (1) (0) (effC (fun c => wr c (nk n.val 6) 0))

/-- FC_START (R265): a chain starts. -/
def execFcStart (c : Fin 8) (s : State) : Host.Outcome State Fault Refusal :=
  wrote s (fk c.val 7) (1) (0) (effW (fun k => startChain k c.val))

/-- FC_STOP (R265): a chain stops. -/
def execFcStop (c : Fin 8) (s : State) : Host.Outcome State Fault Refusal :=
  wrote s (fk c.val 7) (0) (0) (effC (fun k => stopChain k c.val))

/-- COEFFS (R267): FIR coefficients. -/
def execCoeffs (c : Fin 8) (data : List Byte) (s : State) : Host.Outcome State Fault Refusal :=
  wroteDomain s (fk c.val 6) data (effW (fun k => writeCoeffs k c.val data))

/-- ACQ_ARM (R286): a unit arms. -/
def execAcqArm (u : Fin 8) (s : State) : Host.Outcome State Fault Refusal :=
  wrote s (qk u.val 7) (1) (0) (effW (fun c => writeArm c u.val))

/-- ACQ_DISARM (R277): an acquisition ends. -/
def execAcqDisarm (u : Fin 8) (s : State) : Host.Outcome State Fault Refusal :=
  wrote s (qk u.val 7) (0) (0) (effC (fun c => writeDisarm c u.val))

/-- GROUP_ARM (R281): the trigger group arms at an epoch. -/
def execGroupArm (u : Fin 8) (epoch : BitVec 48) (s : State) : Host.Outcome State Fault Refusal :=
  wrote s (qk u.val 0xE) (1) (epoch.toNat) (effGroupArm u.val 1 (boundaryOf s.core epoch.toNat))

/-- HOST_FIRE (R274): HOST conditions meet at the next sample. -/
def execHostFire (u : Fin 8) (s : State) : Host.Outcome State Fault Refusal :=
  wrote s (qk u.val 9) (1) (0) (effC (fun c => writeHostFire c u.val))

/-- ACQ_CONDITION_TEST (R283): a held sample is tested. -/
def execAcqConditionTest (u : Fin 8) (s : State) : Host.Outcome State Fault Refusal :=
  didC s (conditionTest s.core u.val)

/-- ACQ_INTERVAL_END (R269): an interval is complete. -/
def execAcqIntervalEnd (u : Fin 8) (s : State) : Host.Outcome State Fault Refusal :=
  didC s (intervalEnd s.core u.val)

/-- ACQ_POST_END (R276): POST samples have passed. -/
def execAcqPostEnd (u : Fin 8) (s : State) : Host.Outcome State Fault Refusal :=
  didC s (postEnd s.core u.val)

/-- ACQ_RECORD_WRITE (R279): a waiting record goes to the ring. -/
def execAcqRecordWrite (u : Fin 8) (s : State) : Host.Outcome State Fault Refusal :=
  bestEffort s (s.core.hbm.training && !(getAcq s.core u.val).fifo.isEmpty) ⟨.stream, 64, none, .acqRecordWrite u⟩
    (did s (writeAcqRecord s.mem s.core u.val))

/-- MASK (R278): mask points. -/
def execMask (u : Fin 8) (data : List Byte) (s : State) : Host.Outcome State Fault Refusal :=
  wroteDomain s (qk u.val 5) data (effW (fun c => writeMask c u.val data))

/-- CONDITIONS (R273): the four condition entries. -/
def execConditions (u : Fin 8) (data : List Byte) (s : State) : Host.Outcome State Fault Refusal :=
  wroteDomain s (qk u.val 4) data (effW (fun c => writeConditions c u.val data))

end Sys2Proof.Machine
end

