-- ==== Sys2Proof/Machine/SystemCommands.lean ====
section
/-!
DEFINITION. Sys2Proof/Machine/SystemCommands.lean: commands of resets, boot, supply and reference clocks (16_modes_power_boot.md, 01_architecture.md R30 to R32).
-/
namespace Sys2Proof.Machine

/-- POWER_ON_RESET (R445): eMRAM is kept, everything else is cleared. -/
def execPowerOnReset (s : State) : Host.Outcome State Fault Refusal :=
  did s (powerOn s.core)

/-- WARM_RESET (R445): a due warm reset, which keeps eMRAM, the HBM and TB3. -/
def execWarmReset (s : State) : Host.Outcome State Fault Refusal :=
  did s (warmReset s.mem s.core)

/-- TAP_RESET (R445): the TAP controller resets. -/
def execTapReset (s : State) : Host.Outcome State Fault Refusal :=
  didC s (tapReset s.core)

/-- BOOT_COMPLETE (R447): boot ends in STANDBY, or in SERVICE in recovery. -/
def execBootComplete (s : State) : Host.Outcome State Fault Refusal :=
  did s (bootComplete s.mem s.core)

/-- SUPPLY_FAULT (R460): the SUPPLY source raises L3. -/
def execSupplyFault (s : State) : Host.Outcome State Fault Refusal :=
  didC s (raise s.core 308 3 0)

/-- THERMAL_ALARM (R185, R427): a sensor's reading, and the THERMAL source raises L1 or L3 by the junction temperature. -/
def execThermalAlarm (reading : ThermalReading) (s : State) : Host.Outcome State Fault Refusal :=
  let t := 125 * reading.eighths
  didC s (thermalRaise (setTemp s.core reading.group.val t) t)

/-- FIRMWARE_WATCHDOG (R427): the FIRMWARE source raises L3. -/
def execFirmwareWatchdog (s : State) : Host.Outcome State Fault Refusal :=
  didC s (raise s.core 309 3 0)

/-- REFCLK_PRESENT (R30): REF_PRESENT and the REF bit read 1. -/
def execRefclkPresent (s : State) : Host.Outcome State Fault Refusal :=
  didC s (refPresent s.core)

/-- REF_LOCK_COMPLETE (R30): the REFCLK domains lock. -/
def execRefLockComplete (s : State) : Host.Outcome State Fault Refusal :=
  didC s (refLock s.core)

/-- REFCLK_LOSS (R442): the device goes on from the crystal. -/
def execRefclkLoss (s : State) : Host.Outcome State Fault Refusal :=
  didC s (refLoss s.core)

/-- CLOCK_LOCK_LOSS (R32): a domain loses lock and its source raises. -/
def execClockLockLoss (d : Fin 48) (s : State) : Host.Outcome State Fault Refusal :=
  didC s (clockLoss s.core d.val)

/-- REFWARM_CHANGE (R251): REFWARM changes level. -/
def execRefwarmChange (level : Bool) (s : State) : Host.Outcome State Fault Refusal :=
  didC s (refwarmChange s.core level)

/-- TCK_EDGE (R467): an edge of TCK clocks the TAP controller. -/
def execTckEdge (rising : Bool) (tms : Bool) (tdi : Bool) (s : State) : Host.Outcome State Fault Refusal :=
  didC s (tckEdge s.core rising tms tdi)

/-- SYNC_PULSE (R374): a SYNC pulse is sampled. -/
def execSyncPulse (instant : BitVec 64) (s : State) : Host.Outcome State Fault Refusal :=
  didC s (syncPulse s.core instant.toNat)

/-- SYNC_LOSS (R374): two periods without a SYNC pulse. -/
def execSyncLoss (s : State) : Host.Outcome State Fault Refusal :=
  didC s (syncLoss s.core)

/-- EPOCH_BOUNDARY (R374): the next boundary: the count rises, what is due applies, and EVERY_N subscriptions count an epoch. -/
def execEpochBoundary (s : State) : Host.Outcome State Fault Refusal :=
  did s ((let r := epochBoundary s.mem s.core; (r.1, countEpoch r.2)))

end Sys2Proof.Machine
end

