-- ==== Sys2Proof/Machine/TdcCommands.lean ====
section
/-!
DEFINITION. Sys2Proof/Machine/TdcCommands.lean: commands of the TDC channels (08_time_stamping.md).
-/
namespace Sys2Proof.Machine

/-- TDC_ARM (R236): a measurement starts. -/
def execTdcArm (ch : Fin 264) (s : State) : Host.Outcome State Fault Refusal :=
  wrote s (tdk ch.val 0x10) (1) (0) (effW (fun c => writeTdcArm c ch.val))

/-- TDC_DISARM (R243): a measurement ends. -/
def execTdcDisarm (ch : Fin 264) (s : State) : Host.Outcome State Fault Refusal :=
  wrote s (tdk ch.val 0x10) (0) (0) (effC (fun c => disarmTdc c ch.val))

/-- TDC_EDGE (R235): an edge arrives. -/
def execTdcEdge (e : TdcEdge) (s : State) : Host.Outcome State Fault Refusal :=
  didC s (tdcEdgeAt s.core e)

/-- TDC_GATE_END (R237): a gate ends. -/
def execTdcGateEnd (ch : Fin 264) (s : State) : Host.Outcome State Fault Refusal :=
  didC s (gateEnd s.core ch.val)

/-- TDC_TIMEOUT (R239): an awaited edge is too late. -/
def execTdcTimeout (ch : Fin 264) (s : State) : Host.Outcome State Fault Refusal :=
  didC s (tdcTimedOut s.core ch.val)

/-- TDC_RESULT_WRITE (R244): a waiting entry goes to its ring. -/
def execTdcResultWrite (ch : Fin 264) (s : State) : Host.Outcome State Fault Refusal :=
  bestEffort s (s.core.hbm.training && !(getTdc s.core ch.val).fifo.isEmpty) ⟨.stream, 32, none, .tdcResultWrite ch⟩
    (did s (writeResult s.mem s.core ch.val))

/-- CD_START (R249): a code-density run starts. -/
def execCdStart (s : State) : Host.Outcome State Fault Refusal :=
  wrote s (tgk 1) (1) (0) (effW writeCdStart)

/-- CD_INTERVAL_EXPIRY (R249): CD_INTERVAL has passed. -/
def execCdIntervalExpiry (s : State) : Host.Outcome State Fault Refusal :=
  didC s (intervalRun s.core)

/-- CD_TABLE_COMPLETE (R250): a channel has its hits. -/
def execCdTableComplete (ch : Fin 264) (hitsA : List Nat) (hitsB : List Nat) (s : State) : Host.Outcome State Fault Refusal :=
  didC s (tableComplete s.core ch.val hitsA hitsB)

end Sys2Proof.Machine
end

