-- ==== Sys2Proof/Machine/TimeCommands.lean ====
section
/-!
DEFINITION. Sys2Proof/Machine/TimeCommands.lean: commands of the time bases, PTP and the time pulse (14_time_bases.md).
-/
namespace Sys2Proof.Machine

/-- CRYSTAL_SECOND (R395): a crystal second of TB3. -/
def execCrystalSecond (s : State) : Host.Outcome State Fault Refusal :=
  didC s (crystalSecond s.core)

/-- TIME (R396): a TIME message arrives. -/
def execTime (l : Fin 8) (m : TimeMsg) (s : State) : Host.Outcome State Fault Refusal :=
  didC s (timeMessage s.core l.val m)

/-- TIME_EXCHANGE (R375): each UP link sends a TIME message. -/
def execTimeExchange (s : State) : Host.Outcome State Fault Refusal :=
  didC s (timeExchange s.core)

/-- SET (R395): a time base is set. -/
def execSet (t : Fin 4) (v : BitVec 96) (s : State) : Host.Outcome State Fault Refusal :=
  wrote s (tbk t.val 5) (v.toNat) (0) (effA (fun c => writeTbSet c t.val v.toNat))

/-- ADJUST (R397): a correction is slewed or refused. -/
def execAdjust (t : Fin 4) (c : BitVec 64) (s : State) : Host.Outcome State Fault Refusal :=
  wrote s (tbk t.val 7) (c.toNat) (0) (effA (fun k => writeTbAdjust k t.val c.toNat))

/-- FORCE (R398): PENDING_STEP becomes a step. -/
def execForce (t : Fin 4) (s : State) : Host.Outcome State Fault Refusal :=
  wrote s (tbk t.val 0xB) (1) (0) (effA (fun c => writeTbForce c t.val))

/-- CONV_STAMP (R401): a stamp is converted. -/
def execConvStamp (t : Fin 4) (v : BitVec 64) (s : State) : Host.Outcome State Fault Refusal :=
  wrote s (tbk t.val 0x12) (v.toNat) (0) (effA (fun c => writeConvStamp c t.val v.toNat))

/-- HOLDOVER_TIMEOUT (R399): a source gives no measurement. -/
def execHoldoverTimeout (t : Fin 4) (s : State) : Host.Outcome State Fault Refusal :=
  didC s (holdoverTimeout s.core t.val)

/-- PTP_SYNC (R402): a PTP message arrives. -/
def execPtpSync (m : PtpMsg) (s : State) : Host.Outcome State Fault Refusal :=
  didC s (ptpSync s.core m)

/-- PTP_FOLLOW_UP (R402): a PTP message arrives. -/
def execPtpFollowUp (m : PtpMsg) (s : State) : Host.Outcome State Fault Refusal :=
  didC s (ptpFollowUp s.core m)

/-- PTP_DELAY_REQ (R402): a PTP message arrives. -/
def execPtpDelayReq (m : PtpMsg) (s : State) : Host.Outcome State Fault Refusal :=
  didC s (ptpDelayReq s.core m)

/-- PTP_DELAY_RESP (R402): a PTP message arrives. -/
def execPtpDelayResp (m : PtpMsg) (s : State) : Host.Outcome State Fault Refusal :=
  didC s (ptpDelayResp s.core m)

/-- PTP_PDELAY_REQ (R402): a PTP message arrives. -/
def execPtpPdelayReq (m : PtpMsg) (s : State) : Host.Outcome State Fault Refusal :=
  didC s (ptpPdelayReq s.core m)

/-- PTP_PDELAY_RESP (R402): a PTP message arrives. -/
def execPtpPdelayResp (m : PtpMsg) (s : State) : Host.Outcome State Fault Refusal :=
  didC s (ptpPdelayResp s.core m)

/-- PTP_PDELAY_RESP_FOLLOW_UP (R402): a PTP message arrives. -/
def execPtpPdelayRespFollowUp (m : PtpMsg) (s : State) : Host.Outcome State Fault Refusal :=
  didC s (ptpPdelayRespFollowUp s.core m)

/-- PTP_ANNOUNCE (R402): a PTP message arrives. -/
def execPtpAnnounce (m : PtpMsg) (s : State) : Host.Outcome State Fault Refusal :=
  didC s (ptpAnnounce s.core m)

/-- PTP_MESSAGE_TIMER (R402): a message interval expires. -/
def execPtpMessageTimer (p : Fin 2) (k : PtpTimer) (s : State) : Host.Outcome State Fault Refusal :=
  didC s (ptpMessageTimer s.core p.val k)

/-- TPULSE_RISE (R405): TPULSE rises. -/
def execTpulseRise (s : State) : Host.Outcome State Fault Refusal :=
  didC s (tpulseRise s.core)

/-- TPULSE_FALL (R405): TPULSE falls. -/
def execTpulseFall (s : State) : Host.Outcome State Fault Refusal :=
  didC s (tpulseFall s.core)

/-- AGEING_UPDATE (R404): the ageing term is computed again. -/
def execAgeingUpdate (s : State) : Host.Outcome State Fault Refusal :=
  didC s (ageingUpdate s.core)

/-- XTAL_MEASUREMENT (R404): a crystal measurement ends. -/
def execXtalMeasurement (ppb : BitVec 32) (s : State) : Host.Outcome State Fault Refusal :=
  didC s (xtalMeasurement s.core ppb.toNat)

/-- SLEW_COMPLETE (R400): a slew ends. -/
def execSlewComplete (t : Fin 4) (s : State) : Host.Outcome State Fault Refusal :=
  didC s (slewComplete s.core t.val)

end Sys2Proof.Machine
end

