-- ==== Sys2Proof/Machine/TokenCommands.lean ====
section
/-!
DEFINITION. Sys2Proof/Machine/TokenCommands.lean: commands of tokens, epochs and mode changes across devices (13_withy_multidevice.md R374 to R382, R477).
-/
namespace Sys2Proof.Machine

/-- TOKEN_COMMIT (R380): a token arrives. -/
def execTokenCommit (t : Token) (s : State) : Host.Outcome State Fault Refusal :=
  didC s (commitToken s.core t)

/-- TOKEN_ABORT (R380): a token arrives. -/
def execTokenAbort (t : Token) (s : State) : Host.Outcome State Fault Refusal :=
  didC s (abortToken s.core t)

/-- TOKEN_SWAP (R381): a token arrives. -/
def execTokenSwap (t : Token) (s : State) : Host.Outcome State Fault Refusal :=
  didC s (swapToken s.core t)

/-- TOKEN_ARM (R382): a token arrives. -/
def execTokenArm (t : Token) (s : State) : Host.Outcome State Fault Refusal :=
  didC s (armToken s.core t)

/-- TOKEN_FIRE (R382): a token arrives. -/
def execTokenFire (t : Token) (s : State) : Host.Outcome State Fault Refusal :=
  didC s (fireToken s.core t)

/-- TOKEN_DATAGRAM (R378): a token arrives over UDP. -/
def execTokenDatagram (d : TokenDatagram) (s : State) : Host.Outcome State Fault Refusal :=
  didC s (tokenDatagramIn s.core d)

/-- EPOCH_ALIGN (R375): the count is to be loaded. -/
def execEpochAlign (data : List Byte) (s : State) : Host.Outcome State Fault Refusal :=
  wroteDomain s (mkKey 0x1300 2) data (effA (fun c => writeEpochAlign c data))

/-- SYNC_PERIOD (R477): a new epoch spacing. -/
def execSyncPeriod (v : BitVec 32) (s : State) : Host.Outcome State Fault Refusal :=
  wrote s (mkKey 0x1301 1) (v.toNat) (0) (effC (fun c => writeSyncPeriod c v.toNat))

/-- SYNC_COMP (R477): a boundary shift. -/
def execSyncComp (v : BitVec 64) (s : State) : Host.Outcome State Fault Refusal :=
  wrote s (mkKey 0x1301 2) (v.toNat) (0) (effC (fun c => writeSyncComp c v.toNat))

/-- PREPARE (R379): a change is prepared. -/
def execPrepare (data : List Byte) (s : State) : Host.Outcome State Fault Refusal :=
  wroteDomain s (mkKey 0x1200 2) data (effA (fun c => writeRequestMode c data))

/-- CHANGE_COMMIT (R380): the prepared change is committed and the token floods. -/
def execChangeCommit (id : BitVec 32) (s : State) : Host.Outcome State Fault Refusal :=
  wrote s (mkKey 0x1310 4) (id.toNat) (0) (effC (fun c => writeCommit c id.toNat))

/-- CHANGE_ABORT (R380): the prepared change is aborted and the token floods. -/
def execChangeAbort (id : BitVec 32) (s : State) : Host.Outcome State Fault Refusal :=
  wrote s (mkKey 0x1310 5) (id.toNat) (0) (effC (fun c => writeAbortChange c id.toNat))

/-- SWAP_SEND (R381): a SWAP token leaves. -/
def execSwapSend (e : BitVec 64) (s : State) : Host.Outcome State Fault Refusal :=
  wrote s (mkKey 0x1311 2) (e.toNat) (0) (effC (fun c => writeSwapSend c e.toNat))

end Sys2Proof.Machine
end

