-- ==== Sys2Proof/Machine/WeaverCommands.lean ====
section
/-!
DEFINITION. Sys2Proof/Machine/WeaverCommands.lean: commands of the Weavers: launches, jumps, granules, stops and triggers (03_weaver_sequencer.md).
-/
namespace Sys2Proof.Machine

/-- LAUNCH (R96): a descriptor is launched for an epoch. -/
def execLaunch (w : Fin 64) (desc : Byte) (epoch : BitVec 48) (s : State) : Host.Outcome State Fault Refusal :=
  wrote s (jk w.val 1) (desc.toNat) (epoch.toNat) (effLaunch w.val desc.toNat (boundaryOf s.core epoch.toNat))

/-- JUMP (R104): a successor descriptor, or END. -/
def execJump (w : Fin 64) (v : BitVec 16) (s : State) : Host.Outcome State Fault Refusal :=
  wrote s (jk w.val 2) (v.toNat) (0) (effJump w.val v.toNat)

/-- ABORT (R106): the Weaver ends its activity. -/
def execAbort (w : Fin 64) (s : State) : Host.Outcome State Fault Refusal :=
  wrote s (jk w.val 5) (1) (0) (effW (fun c => writeAbort c w.val))

/-- STOP_ACK (R113): a stop is acknowledged. -/
def execStopAck (w : Fin 64) (s : State) : Host.Outcome State Fault Refusal :=
  wrote s (wk w.val 6) (1) (0) (effW (fun c => writeStopAck c w.val))

/-- SEG_TABLE (R94): a descriptor table. -/
def execSegTable (w : Fin 64) (data : List Byte) (s : State) : Host.Outcome State Fault Refusal :=
  wroteDomain s (mkKey (0x2040 + w.val) 1) data (effA (fun c => writeSegTable c w.val data))

/-- GRANULE_WINDOW_OPEN (R124): the window of a granule opens. -/
def execGranuleWindowOpen (w : Fin 64) (upset : Option ParityUpset) (s : State) : Host.Outcome State Fault Refusal :=
  didC s (openWindow s.mem (firstVectorDue s.core w.val) w.val upset)

/-- GRANULE_END (R83): a granule ends. -/
def execGranuleEnd (w : Fin 64) (s : State) : Host.Outcome State Fault Refusal :=
  didC s (granuleEnd s.mem s.core w.val)

/-- SAFE_STOP (R111): the Weaver reaches its stop boundary. -/
def execSafeStop (w : Fin 64) (s : State) : Host.Outcome State Fault Refusal :=
  didC s (safeStop s.mem s.core w.val)

/-- BLOCK_FETCH_COMPLETE (R110): a fetched block is verified. -/
def execBlockFetchComplete (w : Fin 64) (block : BitVec 28) (s : State) : Host.Outcome State Fault Refusal :=
  didC s (blockFetched s.mem s.core w.val block.toNat)

/-- TRGO_PULSE (R114): a TRGO pulse rises. -/
def execTrgoPulse (w : Fin 64) (s : State) : Host.Outcome State Fault Refusal :=
  didC s (firePulse s.core w.val)

/-- TRGO_PULSE_END (R114): a TRGO pulse ends. -/
def execTrgoPulseEnd (k : Fin 8) (s : State) : Host.Outcome State Fault Refusal :=
  didC s (endPulse s.core k.val)

end Sys2Proof.Machine
end

