-- ==== Sys2Proof/Machine/WithyCommands.lean ====
section
/-!
DEFINITION. Sys2Proof/Machine/WithyCommands.lean: commands of the Withy links, remote access and the buddy pair (13_withy_multidevice.md).
-/
namespace Sys2Proof.Machine

/-- WITHY_LINK_UP (R365): a link is trained. -/
def execWithyLinkUp (l : Fin 8) (partner : BitVec 16) (link : Fin 8) (level : BitVec 16) (s : State) : Host.Outcome State Fault Refusal :=
  didC s (trainedUp s.core l.val partner.toNat link.val level.toNat)

/-- WITHY_RETRAIN (R365): a link trains again. -/
def execWithyRetrain (l : Fin 8) (s : State) : Host.Outcome State Fault Refusal :=
  didC s (retrain s.core l.val)

/-- WITHY_LINK_DOWN (R368): a link goes DOWN. -/
def execWithyLinkDown (l : Fin 8) (s : State) : Host.Outcome State Fault Refusal :=
  did s (linkDown s.mem s.core l.val)

/-- FLIT_DATA (R367): a DATA flit arrives. -/
def execFlitData (l : Fin 8) (f : Flit) (s : State) : Host.Outcome State Fault Refusal :=
  didC s (dataFlit s.core l.val f)

/-- FLIT_IDLE (R366): an IDLE flit arrives. -/
def execFlitIdle (l : Fin 8) (f : Flit) (s : State) : Host.Outcome State Fault Refusal :=
  didC s (idleFlit s.core l.val f)

/-- FLIT_NAK (R367): a NAK flit arrives. -/
def execFlitNak (l : Fin 8) (f : Flit) (s : State) : Host.Outcome State Fault Refusal :=
  did s (nakFlit s.mem s.core l.val f)

/-- FLIT_REPLAY_TIMEOUT (R367): 2 µs without ACK progress. -/
def execFlitReplayTimeout (l : Fin 8) (s : State) : Host.Outcome State Fault Refusal :=
  did s (replayTimeout s.mem s.core l.val)

/-- FLIT_ACK_TIMER (R367): an ACK is due. -/
def execFlitAckTimer (l : Fin 8) (s : State) : Host.Outcome State Fault Refusal :=
  didC s (ackTimer s.core l.val)

/-- RD_REQ (R372): a remote read is forwarded or answered. -/
def execRdReq (l : Fin 8) (m : Msg) (s : State) : Host.Outcome State Fault Refusal :=
  bestEffort s (requestWaits s.core m false (64 * (m.size.toNat % 16 + 1))) ⟨.remote, 64 * (m.size.toNat % 16 + 1), none, .rdReq l m⟩
    (didC s (readRequest s.mem s.core l.val m))

/-- WR_REQ (R372): a remote write is forwarded or applied. -/
def execWrReq (l : Fin 8) (m : Msg) (s : State) : Host.Outcome State Fault Refusal :=
  bestEffort s (requestWaits s.core m true m.body.length) ⟨.remote, m.body.length, none, .wrReq l m⟩
    (did s (writeRequest s.mem s.core l.val m))

/-- RD_RESP (R372): a remote read completes. -/
def execRdResp (l : Fin 8) (m : Msg) (s : State) : Host.Outcome State Fault Refusal :=
  bestEffort s (loadWaits s.core m) ⟨.remote, m.body.length, none, .rdResp l m⟩ (did s (response s.mem s.core l.val 3 m))

/-- WR_RESP (R372): a remote write completes. -/
def execWrResp (l : Fin 8) (m : Msg) (s : State) : Host.Outcome State Fault Refusal :=
  did s (response s.mem s.core l.val 4 m)

/-- DAP_RELAY (R75): a relayed request or reply arrives. -/
def execDapRelay (l : Fin 8) (op : Byte) (f : DapFrame) (s : State) : Host.Outcome State Fault Refusal :=
  did s (dapRelayed s.mem s.core l.val op.toNat f)

/-- MIRROR (R384): an item of the partner arrives, or one for another device. -/
def execMirror (l : Fin 8) (m : MirrorMsg) (s : State) : Host.Outcome State Fault Refusal :=
  bestEffort s (s.core.hbm.training && m.dst.toNat == deviceId s.core) ⟨.remote, 64, none, .mirror l m⟩ (didC s (mirrorArrived s.core l.val m))

/-- CONFIRM (R384): the buddy confirms an item. -/
def execConfirm (l : Fin 8) (m : ConfirmMsg) (s : State) : Host.Outcome State Fault Refusal :=
  did s (confirmArrived s.mem s.core l.val m)

/-- REMOTE_TIMEOUT (R372): a request has no response. -/
def execRemoteTimeout (tag : BitVec 16) (s : State) : Host.Outcome State Fault Refusal :=
  did s (requestTimedOut s.mem s.core tag.toNat)

/-- BLOCK_LOAD (R373): a block load starts. -/
def execBlockLoad (data : List Byte) (s : State) : Host.Outcome State Fault Refusal :=
  wroteDomain s (wo 6) data (fun m c => writeBlockLoad m c data)

/-- TAKEOVER (R387): the device serves its partner's streams. -/
def execTakeover (fence : BitVec 64) (s : State) : Host.Outcome State Fault Refusal :=
  wrote s (bk 8) (fence.toNat) (0) (effW (fun c => writeTakeover c fence.toNat))

/-- PARTNER_PROBE_TIMER (R386): a further probe. -/
def execPartnerProbeTimer (s : State) : Host.Outcome State Fault Refusal :=
  didC s (probeAgain s.core)

/-- PARTNER_PROBE_TIMEOUT (R386): 5 ms without a reply. -/
def execPartnerProbeTimeout (s : State) : Host.Outcome State Fault Refusal :=
  didC s (probeTimedOut s.core)

/-- CONFIRM_TIMEOUT (R386): 50 µs without a CONFIRM. -/
def execConfirmTimeout (s : State) : Host.Outcome State Fault Refusal :=
  didC s (confirmTimedOut s.core)

/-- RECOVERY_BUDDY_SYNC (R421): the buddy answers recovery. -/
def execRecoveryBuddySync (items : List MirrorItem) (fence : BitVec 64) (s : State) : Host.Outcome State Fault Refusal :=
  didC s (buddySync s.mem s.core items fence.toNat)

end Sys2Proof.Machine
end

