-- ==== Sys2Proof/Machine/Dispatch.lean ====
section
/-!
DEFINITION. Sys2Proof/Machine/Dispatch.lean: one arm per command, each a call of its meaning.
-/
namespace Sys2Proof.Machine

/-- The effect of a command (every arm is one meaning). -/
def exec (i : Instr) (s : State) : Host.Outcome State Fault Refusal :=
  match i with
  | .powerOnReset => Sys2Proof.Machine.execPowerOnReset s
  | .warmReset => Sys2Proof.Machine.execWarmReset s
  | .tapReset => Sys2Proof.Machine.execTapReset s
  | .bootComplete => Sys2Proof.Machine.execBootComplete s
  | .supplyFault => Sys2Proof.Machine.execSupplyFault s
  | .thermalAlarm reading => Sys2Proof.Machine.execThermalAlarm reading s
  | .firmwareWatchdog => Sys2Proof.Machine.execFirmwareWatchdog s
  | .refclkPresent => Sys2Proof.Machine.execRefclkPresent s
  | .refLockComplete => Sys2Proof.Machine.execRefLockComplete s
  | .refclkLoss => Sys2Proof.Machine.execRefclkLoss s
  | .syncPulse instant => Sys2Proof.Machine.execSyncPulse instant s
  | .syncLoss => Sys2Proof.Machine.execSyncLoss s
  | .epochBoundary => Sys2Proof.Machine.execEpochBoundary s
  | .crystalSecond => Sys2Proof.Machine.execCrystalSecond s
  | .registerWrite o => Sys2Proof.Machine.execRegisterWrite o s
  | .deviceId v => Sys2Proof.Machine.execDeviceId v s
  | .read f => Sys2Proof.Machine.execRead f s
  | .write f => Sys2Proof.Machine.execWrite f s
  | .readBlock f => Sys2Proof.Machine.execReadBlock f s
  | .writeBlock f => Sys2Proof.Machine.execWriteBlock f s
  | .subscribe f => Sys2Proof.Machine.execSubscribe f s
  | .unsubscribe f => Sys2Proof.Machine.execUnsubscribe f s
  | .subscriptionEveryN n => Sys2Proof.Machine.execSubscriptionEveryN n s
  | .notifyAck f => Sys2Proof.Machine.execNotifyAck f s
  | .notifyResend sid number => Sys2Proof.Machine.execNotifyResend sid number s
  | .sessionOpen f => Sys2Proof.Machine.execSessionOpen f s
  | .sessionClose f => Sys2Proof.Machine.execSessionClose f s
  | .sessionIdleTimeout sid => Sys2Proof.Machine.execSessionIdleTimeout sid s
  | .heldRequestExecute sid => Sys2Proof.Machine.execHeldRequestExecute sid s
  | .partnerProbe f => Sys2Proof.Machine.execPartnerProbe f s
  | .partnerProbeReply f => Sys2Proof.Machine.execPartnerProbeReply f s
  | .dapFrameRelay op f => Sys2Proof.Machine.execDapFrameRelay op f s
  | .ethLinkUp p => Sys2Proof.Machine.execEthLinkUp p s
  | .ethLinkLoss p => Sys2Proof.Machine.execEthLinkLoss p s
  | .launch w desc epoch => Sys2Proof.Machine.execLaunch w desc epoch s
  | .jump w v => Sys2Proof.Machine.execJump w v s
  | .abort w => Sys2Proof.Machine.execAbort w s
  | .stopAck w => Sys2Proof.Machine.execStopAck w s
  | .segTable w data => Sys2Proof.Machine.execSegTable w data s
  | .granuleWindowOpen w upset => Sys2Proof.Machine.execGranuleWindowOpen w upset s
  | .granuleEnd w => Sys2Proof.Machine.execGranuleEnd w s
  | .safeStop w => Sys2Proof.Machine.execSafeStop w s
  | .blockFetchComplete w block => Sys2Proof.Machine.execBlockFetchComplete w block s
  | .trgoPulse w => Sys2Proof.Machine.execTrgoPulse w s
  | .trgoPulseEnd k => Sys2Proof.Machine.execTrgoPulseEnd k s
  | .nop w => Sys2Proof.Machine.execNop w s
  | .tail w => Sys2Proof.Machine.execTail w s
  | .jmp w => Sys2Proof.Machine.execJmp w s
  | .rpt w => Sys2Proof.Machine.execRpt w s
  | .loop w => Sys2Proof.Machine.execLoop w s
  | .call w => Sys2Proof.Machine.execCall w s
  | .ret w => Sys2Proof.Machine.execRet w s
  | .pmatch w => Sys2Proof.Machine.execPmatch w s
  | .jf w => Sys2Proof.Machine.execJf w s
  | .jnf w => Sys2Proof.Machine.execJnf w s
  | .jmt w => Sys2Proof.Machine.execJmt w s
  | .clrf w => Sys2Proof.Machine.execClrf w s
  | .siteoff w => Sys2Proof.Machine.execSiteoff w s
  | .pec w => Sys2Proof.Machine.execPec w s
  | .mark w => Sys2Proof.Machine.execMark w s
  | .trig w => Sys2Proof.Machine.execTrig w s
  | .userOpcode w => Sys2Proof.Machine.execUserOpcode w s
  | .hstep w => Sys2Proof.Machine.execHstep w s
  | .hfin w => Sys2Proof.Machine.execHfin w s
  | .hgo w => Sys2Proof.Machine.execHgo w s
  | .hrpt w => Sys2Proof.Machine.execHrpt w s
  | .hlpa w => Sys2Proof.Machine.execHlpa w s
  | .hlpb w => Sys2Proof.Machine.execHlpb w s
  | .hsub w => Sys2Proof.Machine.execHsub w s
  | .hback w => Sys2Proof.Machine.execHback w s
  | .hseek w => Sys2Proof.Machine.execHseek w s
  | .hfail w => Sys2Proof.Machine.execHfail w s
  | .hpass w => Sys2Proof.Machine.execHpass w s
  | .hrst w => Sys2Proof.Machine.execHrst w s
  | .hlvl w => Sys2Proof.Machine.execHlvl w s
  | .htag w => Sys2Proof.Machine.execHtag w s
  | .microNop w m => Sys2Proof.Machine.execMicroNop w m s
  | .done w m => Sys2Proof.Machine.execDone w m s
  | .tret w m => Sys2Proof.Machine.execTret w m s
  | .ill w m => Sys2Proof.Machine.execIll w m s
  | .mov w m => Sys2Proof.Machine.execMov w m s
  | .movt w m => Sys2Proof.Machine.execMovt w m s
  | .ldi w m => Sys2Proof.Machine.execLdi w m s
  | .ldis w m => Sys2Proof.Machine.execLdis w m s
  | .add w m => Sys2Proof.Machine.execAdd w m s
  | .sub w m => Sys2Proof.Machine.execSub w m s
  | .addi w m => Sys2Proof.Machine.execAddi w m s
  | .and w m => Sys2Proof.Machine.execAnd w m s
  | .or w m => Sys2Proof.Machine.execOr w m s
  | .xor w m => Sys2Proof.Machine.execXor w m s
  | .shl w m => Sys2Proof.Machine.execShl w m s
  | .shr w m => Sys2Proof.Machine.execShr w m s
  | .teq w m => Sys2Proof.Machine.execTeq w m s
  | .tlt w m => Sys2Proof.Machine.execTlt w m s
  | .tbit w m => Sys2Proof.Machine.execTbit w m s
  | .tst w m => Sys2Proof.Machine.execTst w m s
  | .brc w m => Sys2Proof.Machine.execBrc w m s
  | .jmpr w m => Sys2Proof.Machine.execJmpr w m s
  | .cstep w m => Sys2Proof.Machine.execCstep w m s
  | .cclr w m => Sys2Proof.Machine.execCclr w m s
  | .push w m => Sys2Proof.Machine.execPush w m s
  | .pop w m => Sys2Proof.Machine.execPop w m s
  | .stail w m => Sys2Proof.Machine.execStail w m s
  | .fclr w m => Sys2Proof.Machine.execFclr w m s
  | .mclr w m => Sys2Proof.Machine.execMclr w m s
  | .mtout w m => Sys2Proof.Machine.execMtout w m s
  | .soff w m => Sys2Proof.Machine.execSoff w m s
  | .pecq w m => Sys2Proof.Machine.execPecq w m s
  | .recq w m => Sys2Proof.Machine.execRecq w m s
  | .trgs w m => Sys2Proof.Machine.execTrgs w m s
  | .ecfg w m => Sys2Proof.Machine.execEcfg w m s
  | .etst w m => Sys2Proof.Machine.execEtst w m s
  | .eack w m => Sys2Proof.Machine.execEack w m s
  | .microTimerExpiry w n => Sys2Proof.Machine.execMicroTimerExpiry w n s
  | .nanoMode w v => Sys2Proof.Machine.execNanoMode w v s
  | .shadowSlot w v readBackOk => Sys2Proof.Machine.execShadowSlot w v readBackOk s
  | .userUcode w data => Sys2Proof.Machine.execUserUcode w data s
  | .exchange w => Sys2Proof.Machine.execExchange w s
  | .comparatorChange p line level instant => Sys2Proof.Machine.execComparatorChange p line level instant s
  | .glitchFilterAccept p line => Sys2Proof.Machine.execGlitchFilterAccept p line s
  | .holdoffEnd p => Sys2Proof.Machine.execHoldoffEnd p s
  | .tsetShadow p data => Sys2Proof.Machine.execTsetShadow p data s
  | .tsetCommit p => Sys2Proof.Machine.execTsetCommit p s
  | .stickyClr p mask => Sys2Proof.Machine.execStickyClr p mask s
  | .listStore k data => Sys2Proof.Machine.execListStore k data s
  | .issue k n => Sys2Proof.Machine.execIssue k n s
  | .pecQueueTransfer w => Sys2Proof.Machine.execPecQueueTransfer w s
  | .pecListStart k => Sys2Proof.Machine.execPecListStart k s
  | .pecFrameComplete k sdi => Sys2Proof.Machine.execPecFrameComplete k sdi s
  | .trackerRoundEnd => Sys2Proof.Machine.execTrackerRoundEnd s
  | .rebuildComplete => Sys2Proof.Machine.execRebuildComplete s
  | .swapTimeout w => Sys2Proof.Machine.execSwapTimeout w s
  | .groupEpoch e => Sys2Proof.Machine.execGroupEpoch e s
  | .calStart => Sys2Proof.Machine.execCalStart s
  | .foregroundCalComplete results => Sys2Proof.Machine.execForegroundCalComplete results s
  | .fieldCommit => Sys2Proof.Machine.execFieldCommit s
  | .tapQuery p v => Sys2Proof.Machine.execTapQuery p v s
  | .recordPlacement stream => Sys2Proof.Machine.execRecordPlacement stream s
  | .streamTable data => Sys2Proof.Machine.execStreamTable data s
  | .journalWrite attempt => Sys2Proof.Machine.execJournalWrite attempt s
  | .stData stream => Sys2Proof.Machine.execStData stream s
  | .stOpen f => Sys2Proof.Machine.execStOpen f s
  | .stAck f => Sys2Proof.Machine.execStAck f s
  | .stNak f => Sys2Proof.Machine.execStNak f s
  | .stClose f => Sys2Proof.Machine.execStClose f s
  | .stAckTimeout stream => Sys2Proof.Machine.execStAckTimeout stream s
  | .tdcArm ch => Sys2Proof.Machine.execTdcArm ch s
  | .tdcDisarm ch => Sys2Proof.Machine.execTdcDisarm ch s
  | .tdcEdge e => Sys2Proof.Machine.execTdcEdge e s
  | .tdcGateEnd ch => Sys2Proof.Machine.execTdcGateEnd ch s
  | .tdcTimeout ch => Sys2Proof.Machine.execTdcTimeout ch s
  | .tdcResultWrite ch => Sys2Proof.Machine.execTdcResultWrite ch s
  | .cdStart => Sys2Proof.Machine.execCdStart s
  | .cdIntervalExpiry => Sys2Proof.Machine.execCdIntervalExpiry s
  | .cdTableComplete ch hitsA hitsB => Sys2Proof.Machine.execCdTableComplete ch hitsA hitsB s
  | .senseConversion v0 v1 v2 v3 => Sys2Proof.Machine.execSenseConversion v0 v1 v2 v3 s
  | .detectorBlockEnd c => Sys2Proof.Machine.execDetectorBlockEnd c s
  | .ovrClr n => Sys2Proof.Machine.execOvrClr n s
  | .fcStart c => Sys2Proof.Machine.execFcStart c s
  | .fcStop c => Sys2Proof.Machine.execFcStop c s
  | .coeffs c data => Sys2Proof.Machine.execCoeffs c data s
  | .acqArm u => Sys2Proof.Machine.execAcqArm u s
  | .acqDisarm u => Sys2Proof.Machine.execAcqDisarm u s
  | .groupArm u epoch => Sys2Proof.Machine.execGroupArm u epoch s
  | .hostFire u => Sys2Proof.Machine.execHostFire u s
  | .acqConditionTest u => Sys2Proof.Machine.execAcqConditionTest u s
  | .acqIntervalEnd u => Sys2Proof.Machine.execAcqIntervalEnd u s
  | .acqPostEnd u => Sys2Proof.Machine.execAcqPostEnd u s
  | .acqRecordWrite u => Sys2Proof.Machine.execAcqRecordWrite u s
  | .mask u data => Sys2Proof.Machine.execMask u data s
  | .conditions u data => Sys2Proof.Machine.execConditions u data s
  | .rasterEnable g => Sys2Proof.Machine.execRasterEnable g s
  | .rasterDisable g => Sys2Proof.Machine.execRasterDisable g s
  | .present g n => Sys2Proof.Machine.execPresent g n s
  | .timing g data => Sys2Proof.Machine.execTiming g data s
  | .rects g data => Sys2Proof.Machine.execRects g data s
  | .selfRefreshRequest g => Sys2Proof.Machine.execSelfRefreshRequest g s
  | .selfRefreshExit g => Sys2Proof.Machine.execSelfRefreshExit g s
  | .mismatchClr g m => Sys2Proof.Machine.execMismatchClr g m s
  | .frameStart g => Sys2Proof.Machine.execFrameStart g s
  | .rectCrcComplete g returned => Sys2Proof.Machine.execRectCrcComplete g returned s
  | .hbmInitComplete training => Sys2Proof.Machine.execHbmInitComplete training s
  | .reinit => Sys2Proof.Machine.execReinit s
  | .trainStart => Sys2Proof.Machine.execTrainStart s
  | .trainComplete training => Sys2Proof.Machine.execTrainComplete training s
  | .memTest => Sys2Proof.Machine.execMemTest s
  | .memTestComplete errors => Sys2Proof.Machine.execMemTestComplete errors s
  | .hbmPowerDownEntry pc => Sys2Proof.Machine.execHbmPowerDownEntry pc s
  | .hbmSelfRefreshEntry st => Sys2Proof.Machine.execHbmSelfRefreshEntry st s
  | .hbmRefresh st milliC => Sys2Proof.Machine.execHbmRefresh st milliC s
  | .scrubRead found => Sys2Proof.Machine.execScrubRead found s
  | .bqEnq c x => Sys2Proof.Machine.execBqEnq c x s
  | .bqWait c x => Sys2Proof.Machine.execBqWait c x s
  | .bqPoll c x => Sys2Proof.Machine.execBqPoll c x s
  | .bqRes c x => Sys2Proof.Machine.execBqRes c x s
  | .bqDone c x => Sys2Proof.Machine.execBqDone c x s
  | .bqAbort c x => Sys2Proof.Machine.execBqAbort c x s
  | .bqStat c x => Sys2Proof.Machine.execBqStat c x s
  | .tallyAdd c x => Sys2Proof.Machine.execTallyAdd c x s
  | .tallyRd c x => Sys2Proof.Machine.execTallyRd c x s
  | .crc32cB c x => Sys2Proof.Machine.execCrc32cB c x s
  | .crc32cW c x => Sys2Proof.Machine.execCrc32cW c x s
  | .crc32cD c x => Sys2Proof.Machine.execCrc32cD c x s
  | .crc32cRec c x => Sys2Proof.Machine.execCrc32cRec c x s
  | .taskDelivery k => Sys2Proof.Machine.execTaskDelivery k s
  | .taskTimeout q seq => Sys2Proof.Machine.execTaskTimeout q seq s
  | .boomDesc q data => Sys2Proof.Machine.execBoomDesc q data s
  | .boomDisable q => Sys2Proof.Machine.execBoomDisable q s
  | .migrateFinish q group => Sys2Proof.Machine.execMigrateFinish q group s
  | .migrateAbort q group => Sys2Proof.Machine.execMigrateAbort q group s
  | .drainTimeout q => Sys2Proof.Machine.execDrainTimeout q s
  | .partitionRun k => Sys2Proof.Machine.execPartitionRun k s
  | .partitionStop k => Sys2Proof.Machine.execPartitionStop k s
  | .winSubmit data => Sys2Proof.Machine.execWinSubmit data s
  | .withyLinkUp l partner link level => Sys2Proof.Machine.execWithyLinkUp l partner link level s
  | .withyRetrain l => Sys2Proof.Machine.execWithyRetrain l s
  | .withyLinkDown l => Sys2Proof.Machine.execWithyLinkDown l s
  | .flitData l f => Sys2Proof.Machine.execFlitData l f s
  | .flitIdle l f => Sys2Proof.Machine.execFlitIdle l f s
  | .flitNak l f => Sys2Proof.Machine.execFlitNak l f s
  | .flitReplayTimeout l => Sys2Proof.Machine.execFlitReplayTimeout l s
  | .flitAckTimer l => Sys2Proof.Machine.execFlitAckTimer l s
  | .rdReq l m => Sys2Proof.Machine.execRdReq l m s
  | .wrReq l m => Sys2Proof.Machine.execWrReq l m s
  | .rdResp l m => Sys2Proof.Machine.execRdResp l m s
  | .wrResp l m => Sys2Proof.Machine.execWrResp l m s
  | .dapRelay l op f => Sys2Proof.Machine.execDapRelay l op f s
  | .time l m => Sys2Proof.Machine.execTime l m s
  | .mirror l m => Sys2Proof.Machine.execMirror l m s
  | .confirm l m => Sys2Proof.Machine.execConfirm l m s
  | .tokenCommit t => Sys2Proof.Machine.execTokenCommit t s
  | .tokenAbort t => Sys2Proof.Machine.execTokenAbort t s
  | .tokenSwap t => Sys2Proof.Machine.execTokenSwap t s
  | .tokenArm t => Sys2Proof.Machine.execTokenArm t s
  | .tokenFire t => Sys2Proof.Machine.execTokenFire t s
  | .tokenDatagram d => Sys2Proof.Machine.execTokenDatagram d s
  | .remoteTimeout tag => Sys2Proof.Machine.execRemoteTimeout tag s
  | .blockLoad data => Sys2Proof.Machine.execBlockLoad data s
  | .timeExchange => Sys2Proof.Machine.execTimeExchange s
  | .epochAlign data => Sys2Proof.Machine.execEpochAlign data s
  | .syncPeriod v => Sys2Proof.Machine.execSyncPeriod v s
  | .syncComp v => Sys2Proof.Machine.execSyncComp v s
  | .prepare data => Sys2Proof.Machine.execPrepare data s
  | .changeCommit id => Sys2Proof.Machine.execChangeCommit id s
  | .changeAbort id => Sys2Proof.Machine.execChangeAbort id s
  | .swapSend e => Sys2Proof.Machine.execSwapSend e s
  | .takeover fence => Sys2Proof.Machine.execTakeover fence s
  | .partnerProbeTimer => Sys2Proof.Machine.execPartnerProbeTimer s
  | .partnerProbeTimeout => Sys2Proof.Machine.execPartnerProbeTimeout s
  | .confirmTimeout => Sys2Proof.Machine.execConfirmTimeout s
  | .recoveryBuddySync items fence => Sys2Proof.Machine.execRecoveryBuddySync items fence s
  | .set t v => Sys2Proof.Machine.execSet t v s
  | .adjust t c => Sys2Proof.Machine.execAdjust t c s
  | .force t => Sys2Proof.Machine.execForce t s
  | .convStamp t v => Sys2Proof.Machine.execConvStamp t v s
  | .holdoverTimeout t => Sys2Proof.Machine.execHoldoverTimeout t s
  | .ptpSync m => Sys2Proof.Machine.execPtpSync m s
  | .ptpFollowUp m => Sys2Proof.Machine.execPtpFollowUp m s
  | .ptpDelayReq m => Sys2Proof.Machine.execPtpDelayReq m s
  | .ptpDelayResp m => Sys2Proof.Machine.execPtpDelayResp m s
  | .ptpPdelayReq m => Sys2Proof.Machine.execPtpPdelayReq m s
  | .ptpPdelayResp m => Sys2Proof.Machine.execPtpPdelayResp m s
  | .ptpPdelayRespFollowUp m => Sys2Proof.Machine.execPtpPdelayRespFollowUp m s
  | .ptpAnnounce m => Sys2Proof.Machine.execPtpAnnounce m s
  | .ptpMessageTimer p k => Sys2Proof.Machine.execPtpMessageTimer p k s
  | .tpulseRise => Sys2Proof.Machine.execTpulseRise s
  | .tpulseFall => Sys2Proof.Machine.execTpulseFall s
  | .ageingUpdate => Sys2Proof.Machine.execAgeingUpdate s
  | .xtalMeasurement ppb => Sys2Proof.Machine.execXtalMeasurement ppb s
  | .faultAck data => Sys2Proof.Machine.execFaultAck data s
  | .firstClr => Sys2Proof.Machine.execFirstClr s
  | .historyRecordWrite => Sys2Proof.Machine.execHistoryRecordWrite s
  | .deviceFaultSafeEntry => Sys2Proof.Machine.execDeviceFaultSafeEntry s
  | .tallyClear k => Sys2Proof.Machine.execTallyClear k s
  | .modeRequest data => Sys2Proof.Machine.execModeRequest data s
  | .modeTransitionComplete retrain => Sys2Proof.Machine.execModeTransitionComplete retrain s
  | .reset => Sys2Proof.Machine.execReset s
  | .stage kind data => Sys2Proof.Machine.execStage kind data s
  | .install kind slot => Sys2Proof.Machine.execInstall kind slot s
  | .installComplete kind => Sys2Proof.Machine.execInstallComplete kind s
  | .floor kind v => Sys2Proof.Machine.execFloor kind v s
  | .wakePin => Sys2Proof.Machine.execWakePin s
  | .wakeAlarm => Sys2Proof.Machine.execWakeAlarm s
  | .trgiEdge k level => Sys2Proof.Machine.execTrgiEdge k level s
  | .wakeNotifyResend => Sys2Proof.Machine.execWakeNotifyResend s
  | .wakeClr => Sys2Proof.Machine.execWakeClr s
  | .pgIdleExpiry g => Sys2Proof.Machine.execPgIdleExpiry g s
  | .pgPllLock g => Sys2Proof.Machine.execPgPllLock g s
  | .pgPllLockTimeout g => Sys2Proof.Machine.execPgPllLockTimeout g s
  | .clockLockLoss d => Sys2Proof.Machine.execClockLockLoss d s
  | .refwarmChange level => Sys2Proof.Machine.execRefwarmChange level s
  | .tckEdge rising tms tdi => Sys2Proof.Machine.execTckEdge rising tms tdi s
  | .aliveTransition => Sys2Proof.Machine.execAliveTransition s
  | .slewComplete t => Sys2Proof.Machine.execSlewComplete t s
  | .sawyerLoadStore c a => Sys2Proof.Machine.execSawyerLoadStore c a s
  | .machineTimerInterrupt c => Sys2Proof.Machine.execMachineTimerInterrupt c s
  | .echoRequest e => Sys2Proof.Machine.execEchoRequest e s
  | .arpAndNeighborDiscovery a => Sys2Proof.Machine.execArpAndNeighborDiscovery a s

end Sys2Proof.Machine
end

