-- ==== Sys2Proof/Machine/Step.lean ====
section
/-!
DEFINITION. Sys2Proof/Machine/Step.lean: one step of the block: the command at the front of the queue, or, on an
empty queue, one nanosecond (log 2).
-/
namespace Sys2Proof.Machine

/-- The block after one idle nanosecond: time passes and nothing else happens (log 2). -/
def idle (s : State) : State := { s with core := elapse s.core 1 }

/-- Take the first waiting command and run it with the queue's rest; on an empty queue the memory controller serves the best-effort request
whose turn it is (R327, log 118), and without one time passes. -/
def step (s : State) : Host.Outcome State Fault Refusal :=
  match s.pending with
  | [] =>
    match nextBest s.core with
    | some (i, c) => exec i { s with core := c }
    | none => .next (idle s)
  | i :: rest => exec i { s with pending := rest }

/-- The state with the command a word spells at the front of its queue. -/
def State.withFetchWord (s : State) (nbits w : Nat) : State :=
  match decodeTableWord nbits w with
  | some i => { s with pending := i :: s.pending }
  | none => s

end Sys2Proof.Machine
end

