-- ==== Sys2Proof/WellFormed.lean ====
section
/-!
DEFINITION. Sys2Proof/WellFormed.lean: which commands can arrive: the shapes that the spec gives frames, flits, messages and the
lists that an event carries.  `exec` answers for ill-formed commands too; statements that need a shape assume it.
-/
namespace Sys2Proof

/-- A tag of 32 bytes follows exactly the frames whose AUTH flag is 1 (R53, Table 2-6). -/
def DapFrame.wellFormed (f : DapFrame) : Bool :=
  (f.tag.length == if f.flags.getLsbD 2 then 32 else 0) && decide (f.payload.length < 2 ^ 32)

/-- A tag of 32 bytes follows exactly the Stream Transport frames whose AUTH bit is 1 (R222). -/
def StFrame.wellFormed (f : StFrame) : Bool := f.tag.length == if f.auth then 32 else 0

/-- A token datagram carries no tag or one of 32 bytes (R378). -/
def TokenDatagram.wellFormed (d : TokenDatagram) : Bool := d.tag.length == 0 || d.tag.length == 32

/-- A flit holds 15 slots (Table 13-1). -/
def Flit.wellFormed (f : Flit) : Bool := f.slots.length == 15

/-- A read request has no body (R372). -/
def Msg.readForm (m : Msg) : Bool := m.body.isEmpty

/-- A write carries up to 256 bytes, whole units of 64 bytes (R372). -/
def Msg.writeForm (m : Msg) : Bool := !m.body.isEmpty && m.body.length % 64 == 0 && decide (m.body.length ≤ 256)

/-- A read response carries no data or up to 1,024 bytes in units of 64 (R372). -/
def Msg.dataForm (m : Msg) : Bool := m.body.length % 64 == 0 && decide (m.body.length ≤ 1024)

/-- A pin's foreground calibration gives 20 offsets and eight tables of 32 coarse positions (Table 6-2, R199). -/
def CalResult.wellFormed (r : CalResult) : Bool :=
  r.offsets.length == 20 && r.coarse.length == 8 && r.coarse.all (fun t => t.length == 32)

/-- Training tells of each of the four stacks (R313). -/
def trainingForm (l : List StackTraining) : Bool := l.length == 4

/-- A mode entry that leaves self-refresh retrains no stack or tells of all four (R314). -/
def retrainForm (l : List StackTraining) : Bool := l.isEmpty || trainingForm l

/-- A code-density run counts one hit number per raw code (R250). -/
def hitsForm (l : List Nat) : Bool := l.length == 4096

/-- An atomic access is of 4 or 8 bytes (R331). -/
def MemAccess.wellFormed (a : MemAccess) : Bool :=
  match a.op with
  | .load _ | .store | .fetch => true
  | _ => decide (2 ≤ a.size.toNat)

/-- Whether a command can arrive as it stands. -/
def Instr.wellFormed (i : Instr) : Bool :=
  match i with
  | .read f | .write f | .readBlock f | .writeBlock f | .subscribe f | .unsubscribe f | .notifyAck f | .sessionOpen f
  | .sessionClose f | .partnerProbe f | .partnerProbeReply f => f.wellFormed
  | .dapFrameRelay _ f | .dapRelay _ _ f => f.wellFormed
  | .stOpen f | .stAck f | .stNak f | .stClose f => f.wellFormed
  | .tokenDatagram d => d.wellFormed
  | .flitData _ f | .flitIdle _ f | .flitNak _ f => f.wellFormed
  | .rdReq _ m => m.readForm
  | .wrReq _ m => m.writeForm
  | .rdResp _ m => m.dataForm
  | .wrResp _ m => m.readForm
  | .foregroundCalComplete l => l.all CalResult.wellFormed
  | .hbmInitComplete l | .trainComplete l => trainingForm l
  | .modeTransitionComplete l => retrainForm l
  | .cdTableComplete _ a b => hitsForm a && hitsForm b
  | .memTestComplete l => l.length == 4
  | .sawyerLoadStore _ a => a.wellFormed
  | _ => true

end Sys2Proof
end

