-- ==== Sys2Proof/Safety.lean ====
section
/-!
DEFINITION. Sys2Proof/Safety.lean: the terms the claims use: what a safe step is, what a command answers, when the block takes
writes, and what a raise leaves.
-/
namespace Sys2Proof.Machine

/-- The invariant of the addressed memory: addresses strictly rising, no listed byte 0, block tags by rising block. -/
def State.MemInv (s : State) : Prop := s.mem.wf = true

/-- A command completes: it answers a next state. -/
def Completes (i : Instr) (s : State) : Prop := ∃ t, exec i s = .next t

/-- A step neither stops nor breaks the invariant of the memory. -/
def SafeStep (s : State) : Prop := ∃ t, step s = .next t ∧ (s.MemInv → t.MemInv)

/-- A command answers a next state with memory `m` and core `c`, to which the NOTIFY frames of the subscriptions whose object
changed are added; the queue stands. -/
def Gives (i : Instr) (s : State) (m : Mem) (c : Core) : Prop := exec i s = .next { s with mem := m, core := noticed c }

/-- A command answers a next state with core `c`, and no byte of memory, no block tag and no error mark changes. -/
def Makes (i : Instr) (s : State) (c : Core) : Prop := Gives i s s.mem c

/-- A command that writes an object is accepted (status OK) with core `c`, and the memory stands. -/
def Accepts (i : Instr) (s : State) (c : Core) : Prop := Makes i s { c with status := stOk }

/-- The block takes writes: it is not in the recovery of R449, and no L4 raise has closed it to all but reads (R430). -/
def Open (c : Core) : Prop := c.mode.recovery = false ∧ c.faults.reaction ≠ 4

/-- The mode is one of several. -/
def InModes (c : Core) (l : List Mode) : Prop := ∃ m ∈ l, modeNow c = modeCode m

/-- A source has been raised once at a level, and no other source has changed (R428, R429). -/
def Raised (a b : Core) (src lvl : Nat) : Prop :=
  (getFault b src).sticky = true ∧ (getFault b src).count = ((getFault a src).count + 1) % 2 ^ 64 ∧
  (getFault b src).raised = lvl ∧ (getFault b src).level = effectiveLevel a src lvl ∧
  (getFault b src).stamp = a.stamp % 2 ^ 64 ∧ ∀ o, o ≠ src → getFault b o = getFault a o

/-- Every scalar object but those listed reads as before. -/
def SameRegsBut (l : List Key) (a b : Core) : Prop := ∀ k, k ∉ l → rd b k = rd a k

/-- Every byte of memory outside [a, a + n) reads as before. -/
def SameBytesBut (a n : Nat) (m m' : Mem) : Prop := ∀ x, x < a ∨ a + n ≤ x → readByte m' x = readByte m x

/-! ## DAP frames -/

/-- A frame of an operation has come in over an UP port, intact, for this device, and suits an open session of its sender (R50 to R54,
R59, R60). -/
def HeardBy (c : Core) (op : Nat) (f : DapFrame) (x : Session) : Prop :=
  portUp c f.eth.val = true ∧ ipTaken c f.eth.val f.ip = true ∧ dapIntact op f = true ∧ hasFlag f flagReply = false ∧ forOther c f = false ∧
  sessionFor c f = some x ∧ tagSuits x op f = true ∧ f.version = 1 ∧ tooLong c f.eth.val op f = false

/-- A heard request carries its session's next sequence number (R62). -/
def NextOf (x : Session) (f : DapFrame) : Prop :=
  f.sequence.toNat = x.done + 1 ∧ 0 < x.window ∧ ∀ h ∈ x.held, h.2.sequence ≠ f.sequence

/-- The core when a session's request begins to execute: the session has been heard on its port and its sequence number is taken. -/
def begun (c : Core) (x : Session) (f : DapFrame) : Core :=
  modSession (modSession c x.id (fun y => { y with lastSeen := c.time, eth := f.eth.val })) x.id
    (fun y => { y with done := f.sequence.toNat, held := y.held.filter (fun h => h.2.sequence != f.sequence) })

/-- The session as its request finds it. -/
def sessionAt (c : Core) (x : Session) (f : DapFrame) : Session :=
  { x with lastSeen := c.time, eth := f.eth.val, done := f.sequence.toNat, held := x.held.filter (fun h => h.2.sequence != f.sequence) }

/-- What a request answers: the result of its operation, its reply sent at once and kept for a repeat. -/
def replied (c : Core) (x : Session) (op : Nat) (f : DapFrame) (r : DapResult) : Core :=
  answerSession r.core x.id (sessionAt c x f).eth x.host f.sequence.toNat
    (dapReply op f x.id r.st x.window (keyOf x) r.payload)

/-! ## Microwords -/

/-- The core when a word without a WAIT runs: time has reached its micro-cycle (R125). -/
def atWord (c : Core) (w : Nat) : Core := spend (modM c w (fun y => { y with stalled := false })) w 0

/-- The core after a word of `n` micro-cycles that leads to the next one. -/
def wordEnd (c : Core) (w n : Nat) : Core := modM (spend c w n) w (fun y => { y with upc := y.upc + 1 })

/-- The program in progress on an emitting Weaver has come to a legal word without a WAIT, and the window has room for it
(R86, R125, R129). -/
def WordRuns (c : Core) (w : Nat) (mw : MicroWord) : Prop :=
  emitting c w = true ∧ (getW c w).micro.phase = .running ∧ (getW c w).micro.prog = true ∧ (getW c w).micro.handler = none ∧
  (getW c w).micro.stalled = false ∧ mw.wait = 0 ∧ 1 ≤ mw.cyc ∧ (getW c w).micro.cycles + mw.cyc ≤ windowCycles (getW c w) ∧
  wordIllegal mw (getW c w).micro.upc (csRegion (nanoMode c w) (getW c w).micro.upc).1 (csRegion (nanoMode c w) (getW c w).micro.upc).2 = false

/-! ## Sawyer cores -/

/-- Hart `n` runs and waits for nothing (R331, R352). -/
def HartRuns (c : Core) (n : Nat) : Prop := (getHart c n).running = true ∧ (getHart c n).waits = none

/-- Hart `n` executes an Xsaw instruction: no unused field is set and its XSAWEN bit, if it has one, allows it (R334, R335). -/
def Executes (c : Core) (n : Nat) (x : RType) (unused : List (BitVec 5)) (gate : Option Nat) : Prop :=
  HartRuns c n ∧ xsawIllegal (getHart c n) x unused gate = false

/-- A load, store or AMO of hart `n` is aligned, passes translation and protection, and finds memory at a local address (R331, R332). -/
def ReachesMemory (s : State) (n : Nat) (x : MemAccess) (a : Nat) : Prop :=
  HartRuns s.core n ∧ x.vaddr.toNat % (if kindOf x.op = .fetch then 2 else 2 ^ x.size.toNat) = 0 ∧
  (atomic x.op = true → 4 ≤ 2 ^ x.size.toNat) ∧
  ∃ p, translate s.mem s.core n (getHart s.core n) x.vaddr.toNat (2 ^ x.size.toNat) (kindOf x.op) = .ok p ∧
    regionOf (walkMet s.mem s.core n (getHart s.core n) x.vaddr.toNat (kindOf x.op)) n p (2 ^ x.size.toNat) = .memory a

end Sys2Proof.Machine
end

