-- ==== Sys2Proof/Certificates/Slice0/Obligations.lean ====
section
/-!
DEFINITION. Sys2Proof/Certificates/Slice0/Obligations.lean: the statements for the provers.
-/
open Sys2Proof Sys2Proof.Machine

/-- O1. With a command at the front of the queue a step is that command's execution on the state with the queue's rest; with an
empty queue a step serves the best-effort HBM request whose turn it is and, where none waits, lets one nanosecond pass (the
model's choice, logs 2 and 118). (02_dictionary_access.md, 00_scope.md) -/
def Obligations.StepRunsFrontCommand : Prop :=
  (∀ (c : Instr) (s : State), step { s with pending := c :: s.pending } = exec c s) ∧
  (∀ (s : State) (i : Instr) (c : Core), s.pending = [] → nextBest s.core = some (i, c) → step s = exec i { s with core := c }) ∧
  (∀ s : State, s.pending = [] → nextBest s.core = none → step s = .next { s with core := elapse s.core 1 })

/-- O2. Every command of the table answers a next state in every state, and the queue of waiting commands stands.
(02_dictionary_access.md, 00_scope.md) -/
def Obligations.CommandsAnswerWithQueueStanding : Prop :=
  ∀ (i : Instr) (s : State), ∃ (m : Mem) (c : Core), Gives i s m c

/-- O3. What the ON_CHANGE subscriptions do after a command leaves every register, DOMAIN, fault source, Weaver, pin, stream and
time base as the command left them; without subscriptions it does nothing. (R72, R73) -/
def Obligations.NotifyTouchesOnlySessions : Prop :=
  (∀ c : Core, c.dap.subs = [] → noticed c = c) ∧
  (∀ c : Core, (noticed c).regs = c.regs ∧ (noticed c).doms = c.doms ∧ (noticed c).faults = c.faults ∧
    (noticed c).weavers = c.weavers ∧ (noticed c).pins = c.pins ∧ (noticed c).streams = c.streams ∧ (noticed c).tbs = c.tbs ∧
    (noticed c).clk = c.clk ∧ (noticed c).mode = c.mode ∧ (noticed c).tally = c.tally ∧ (noticed c).rwe = c.rwe ∧
    (noticed c).booms = c.booms ∧ (noticed c).harts = c.harts ∧ (noticed c).time = c.time ∧ (noticed c).stamp = c.stamp ∧
    (noticed c).status = c.status)

/-- O4. At reset every scalar object reads the default of its table row (but for CLOCK_LOCKED; a default the spec leaves open is
the model's, logs 5 to 8), the mode is BOOT, no transition, session, pending write or fault stands, the clocks of BOOT run
(log 98), the TAP is in Test-Logic-Reset with the identification register, ALIVE is high, and no command waits. (R47, R445,
R446, R433, R467) -/
def Obligations.ResetHoldsDefaults : Prop :=
  (∀ k : Key, k ≠ clockKey → rd State.reset.core k = dfltOf k) ∧ rd State.reset.core clockKey = bootClocks ∧ modeNow State.reset.core = modeCode .boot ∧
  rd State.reset.core (mkKey 0x1200 3) = 0xFF ∧ rd State.reset.core (mkKey 0x1110 1) = 0x9CAE ∧
  rd State.reset.core (mkKey 0x1301 1) = 1000 ∧ rd State.reset.core (mkKey 0x6020 0) = 0xFFFF ∧
  rd State.reset.core (mkKey 0x7000 8) = 0x3FFFFFF ∧ State.reset.core.dap = {} ∧ State.reset.core.rwe = [] ∧
  State.reset.core.faults.srcs = [] ∧ State.reset.core.mode.transition = none ∧
  State.reset.core.tap.state = .testLogicReset ∧ State.reset.core.tap.idcode = true ∧
  State.reset.core.faults.aliveHigh = true ∧ State.reset.pending = []

/-- O5. From every state whose memory is in canonical form (addresses strictly rising, no listed byte 0, block tags by rising
block, error marks rising), every step answers a state whose memory is in canonical form. (R36, R317, R320) -/
def Obligations.MemoryStaysCanonical : Prop :=
  ∀ (s t : State), s.MemInv → step s = .next t → t.MemInv

/-- O6. The memory at reset lists nothing, so that every byte reads 0 (the model's choice, log 3), and is in canonical form.
(R36, R317) -/
def Obligations.ResetMemoryIsCanonical : Prop :=
  State.reset.MemInv ∧ ∀ a : Nat, readByte State.reset.mem a = 0

/-- O7. A raise sets the sticky bit of its source, counts it, holds its level, effective level and stamp, changes no other
source and no register but the first-fault latch and, at L4, the link states; an effective level of 3 or 4 closes the
journal and leads to the end of ALIVE, and a first one of level 3 with L3_ACTION SAFE makes SAFE due. (R428, R429, R430,
R432) -/
def Obligations.RaiseCountsAndReacts : Prop :=
  ∀ (c : Core) (src lvl d : Nat),
    Raised c (raise c src lvl d) src lvl ∧
    (∀ k : Key, k ≠ mkKey 0x7000 4 → k ≠ mkKey 0x7000 5 → (∀ l < 8, k ≠ mkKey (0x6000 + l) 2) → rd (raise c src lvl d) k = rd c k) ∧
    (2 < effectiveLevel c src lvl → (raise c src lvl d).journal.closed = true ∧ (raise c src lvl d).faults.aliveStopping = true) ∧
    (effectiveLevel c src lvl = 3 → c.faults.reaction < 3 → rd c (mkKey 0x7000 9) = 0 → (raise c src lvl d).faults.safeDue = true) ∧
    (effectiveLevel c src lvl = 3 → c.faults.reaction < 3 → rd c (mkKey 0x7000 9) = 1 → (raise c src lvl d).mode.resetDue = true) ∧
    (effectiveLevel c src lvl < 2 → (raise c src lvl d).weavers = c.weavers ∧ (raise c src lvl d).mode = c.mode)

/-- O8. The number that a segment descriptor with fields within their widths is laid out as reads back as the same descriptor,
so no bit of a field is dropped or shared with another. (R94) -/
def Obligations.DescriptorFieldsRoundTrip : Prop :=
  ∀ d : SegDesc, d.dataBase < 2 ^ 40 → d.instrBase < 2 ^ 40 → d.imageGranules < 2 ^ 27 → d.entryGranule < 2 ^ 26 →
    d.maxGranules < 2 ^ 27 → d.period < 2 ^ 37 → d.rateMul < 4 → d.next < 256 → d.trgMask < 256 → d.pecList < 2 ^ 16 →
    d.streamBase < 2 ^ 16 → d.units < 2 ^ 24 → d.rate < 256 → d.dest < 256 → d.tag < 2 ^ 32 → d.dir < 2 ^ 256 →
    parseDesc (encodeDesc d) = d

/-- O9. A microword with fields within their widths and one to four cycles reads back from its data bits as the same microword.
(R122) -/
def Obligations.MicrowordFieldsRoundTrip : Prop :=
  ∀ w : MicroWord, w.op < 64 → w.a < 32 → w.b < 32 → w.imm < 1024 → w.wait < 16 → 1 ≤ w.cyc → w.cyc ≤ 4 →
    decodeMicro (encodeMicro w) = w

/-- O10. A power-on reset clears the memory, brings every object that is not held in eMRAM to its default (but for REF_STATUS,
whose input levels stand, log 71, and CLOCK_LOCKED, which shows the clocks of BOOT), keeps the stored ones, the history, the
journal slots and the images, counts itself in RESETS and sets RESET_CAUSE 0; a due warm reset outside an L3 reaction keeps
the HBM contents and TB3, loses the other bytes, and sets RESET_CAUSE 1; both begin BOOT. (R445, R446, R313) -/
def Obligations.ResetsKeepEmram : Prop :=
  (∀ s : State, ∃ c, Gives .powerOnReset s {} c ∧ rd c (mo 7) = (rd s.core (mo 7) + 1) % 2 ^ 32 ∧ rd c (mo 6) = 0 ∧
    (∀ k, storedKey k = true → k ≠ mo 7 → rd c k = rd s.core k ∧ dom c k = dom s.core k) ∧
    (∀ k, storedKey k = false → k ≠ refKey → k ≠ clockKey → k ≠ mo 6 → rd c k = dfltOf k) ∧ rd c clockKey = bootClocks ∧ rd c (mo 1) = modeCode .boot ∧
    c.faults.history = s.core.faults.history ∧ c.journal.slots = s.core.journal.slots ∧ c.mode.slots = s.core.mode.slots ∧
    c.faults.srcs = [] ∧ c.weavers = [] ∧ c.dap = {} ∧ c.rwe = []) ∧
  (∀ s : State, s.core.mode.resetDue = true → s.core.faults.reaction ≠ 3 → ∃ m c, Gives .warmReset s m c ∧
    rd c (mo 7) = (rd s.core (mo 7) + 1) % 2 ^ 32 ∧ rd c (mo 6) = 1 ∧ rd c (mo 1) = modeCode .boot ∧
    (∀ a < hbmTop, readByte m a = readByte s.mem a) ∧ (∀ a, hbmTop ≤ a → readByte m a = 0) ∧ m.tags = s.mem.tags ∧
    (∀ k, storedKey k = true → k ≠ mo 7 → rd c k = rd s.core k) ∧ getTb c 3 = getTb s.core 3 ∧
    rd c (tbk 3 6) = rd s.core (tbk 3 6) ∧ c.mode.resetDue = false ∧ c.weavers = [] ∧ c.dap = {})

/-- O11. TAP_RESET selects the identification register in Test-Logic-Reset; a rising TCK edge moves the controller by TMS,
captures 0x12560A3B in Capture-DR and shifts TDI in from the top in Shift-DR, and an arrival in Test-Logic-Reset selects the
identification register; a falling edge in Shift-DR puts its low bit on TDO; nothing else of the block changes; and from
every controller state five rising edges with TMS at 1 reach Test-Logic-Reset. (R445, R467) -/
def Obligations.TestAccessPort : Prop :=
  (∀ s : State, Makes .tapReset s { s.core with
      tap := { s.core.tap with state := .testLogicReset, idcode := true, shift := 0, tdo := false } }) ∧
  (∀ (s : State) (tms tdi : Bool), ∃ x : Tap, Makes (.tckEdge true tms tdi) s { s.core with tap := x } ∧
    x.state = tapNext s.core.tap.state tms ∧ x.tdo = s.core.tap.tdo ∧ x.lastEdge = some s.core.time ∧
    (s.core.tap.state = .captureDr → x.shift = 0x12560A3B) ∧
    (s.core.tap.state = .shiftDr → x.shift = s.core.tap.shift / 2 + ofBool tdi * 2 ^ 31) ∧
    (s.core.tap.state ≠ .captureDr → s.core.tap.state ≠ .shiftDr → x.shift = s.core.tap.shift) ∧
    (x.state = .testLogicReset → x.idcode = true)) ∧
  (∀ (s : State) (tms tdi : Bool), s.core.tap.state = .shiftDr → s.core.tap.idcode = true →
    Makes (.tckEdge false tms tdi) s { s.core with
      tap := { s.core.tap with lastEdge := some s.core.time, tdo := bit s.core.tap.shift 0 } }) ∧
  (∀ (x : Tap) (a b c d e : Bool), (tapRise (tapRise (tapRise (tapRise (tapRise x true a) true b) true c) true d) true e).state = .testLogicReset)

/-- O12. SUPPLY_FAULT raises source 308 at L3, the firmware watchdog source 309 at L3, a junction temperature above 110 degC
source 307 at L3 and one above 100 degC at L1, each counted once, a lower one nothing, and the reading of the sensor stands.
(R427, R428, R460) -/
def Obligations.AlarmsRaiseTheirSources : Prop :=
  ∀ s : State, (∃ c, Makes .supplyFault s c ∧ Raised s.core c 308 3) ∧ (∃ c, Makes .firmwareWatchdog s c ∧ Raised s.core c 309 3) ∧
    (∀ r : ThermalReading,
      let t := 125 * r.eighths
      (110000 < t → ∃ c, Makes (.thermalAlarm r) s c ∧ Raised s.core c 307 3 ∧ tempOf c r.group.val = t) ∧
      (100000 < t → t ≤ 110000 → ∃ c, Makes (.thermalAlarm r) s c ∧ Raised s.core c 307 1 ∧ tempOf c r.group.val = t) ∧
      (t ≤ 100000 → Makes (.thermalAlarm r) s (setTemp s.core r.group.val t)))

/-- O13. Outside DORMANT the appearance of REFCLK sets REF_PRESENT and the REF bit of CLOCK_LOCKED; in STANDBY, with REFCLK
present, and the scale counting, its lock sets REF_LOCKED and brings CLOCK_LOCKED in line with the mode; REFWARM is taken
into bit 4 of REF_STATUS, and a level that is low before or after the change is noted by what measures. (R30, R249, R251) -/
def Obligations.ReferenceClockReturnsAndLocks : Prop :=
  (∀ s : State, modeNow s.core ≠ modeCode .dormant → ∃ c, Makes .refclkPresent s c ∧ bit (rd c refKey) 0 = true ∧ clockBit c 1 = true ∧
    SameRegsBut [refKey, clockKey] s.core c) ∧
  (∀ s : State, modeNow s.core = modeCode .standby → bit (rd s.core refKey) 0 = true → s.core.clk.counting = true →
    ∃ c, Makes .refLockComplete s c ∧ refLocked c = true ∧ bit (rd c refKey) 0 = true ∧
      clockBit c 38 = true ∧ clockBit c 4 = false ∧ SameRegsBut [refKey, clockKey] s.core c) ∧
  (∀ s : State, bit (rd s.core refKey) 4 = true → ∃ c, Makes (.refwarmChange true) s c ∧ bit (rd c refKey) 4 = true ∧ SameRegsBut [refKey] s.core c) ∧
  (∀ s : State, bit (rd s.core refKey) 4 = false → ∃ c, Makes (.refwarmChange true) s (coldMeasures c) ∧ bit (rd c refKey) 4 = true ∧
    c.cal.coldNow = true ∧ SameRegsBut [refKey] s.core c) ∧
  (∀ s : State, ∃ c, Makes (.refwarmChange false) s (coldMeasures c) ∧ bit (rd c refKey) 4 = false ∧ c.cal.coldNow = true ∧
    SameRegsBut [refKey] s.core c)

/-- O14. The loss of a present REFCLK clears REF_PRESENT, REF_LOCKED and the phase bit, notes the loss, stops the domains that
it drives and the counter, and then raises source 241 at L2; a domain that falls out of lock clears its bit, and a domain
that drives the stamp or pin clocks also REF_LOCKED, and raises its source at its level; a loss of SYNC clears the phase bit
and raises source 295 at L1. (R32, R442) -/
def Obligations.ClocksLost : Prop :=
  (∀ s : State, bit (rd s.core refKey) 0 = true → ∃ x, Makes .refclkLoss s (raise ([0, 1, 2].foldl enterHoldXtal x) 241 2 0) ∧
    bit (rd x refKey) 0 = false ∧ bit (rd x refKey) 1 = false ∧ bit (rd x refKey) 2 = false ∧ bit (rd x refKey) 5 = true ∧
    (∀ d ∈ [1, 4, 5, 6, 21, 38, 42, 43, 44, 45], clockBit x d = false) ∧ x.clk.counting = false ∧ x.clk.phased = false) ∧
  (∀ (s : State) (d : Fin 48), d.val ≠ 1 → d.val ≠ 47 → clockBit s.core d.val = true →
    ∃ x, Makes (.clockLockLoss d) s (raise x (240 + d.val) (clockLevel d.val) 0) ∧ clockBit x d.val = false ∧
      (∀ e, e ≠ d.val → clockBit x e = clockBit s.core e) ∧ (4 ≤ d.val → d.val ≤ 21 → refLocked x = false) ∧
      SameRegsBut [refKey, clockKey] s.core x) ∧
  (∀ s : State, bit (rd s.core refKey) 2 = true → Makes .syncLoss s (raise (setRef s.core 2 false) 295 1 0))

/-- O15. With SYNC_OUT off, a pulse whose shifted instant lies a whole number of epochs from the latest boundary sets the phase
bit, any other one sets the error bit and raises source 295 at L1; at an epoch boundary, while the scale counts, time passes
to the boundary, the time bases apply and latch, the tally counters copy, mode changes, pending entries, group arms and
group swaps apply, the waits of the ARMED Weavers age and they make their checks, and EVERY_N subscriptions count one epoch.
(R31, R374, R375, R434) -/
def Obligations.SyncPulsesAndEpochs : Prop :=
  (∀ (s : State) (i : BitVec 64), clockBit s.core 1 = true → s.core.clk.counting = true → s.core.clk.phased = true →
    rdb s.core (mkKey 0x1301 3) = false → 
      let t := nearInstant (scaleNow s.core) (2 ^ 64) i.toNat
      let c := elapseScale s.core t
      (((t + s.core.clk.comp : Nat) : Int) - c.clk.boundary) % epochTicks c = 0 → Makes (.syncPulse i) s (setRef c 2 true)) ∧
  (∀ (s : State) (i : BitVec 64), clockBit s.core 1 = true → s.core.clk.counting = true → s.core.clk.phased = true →
    rdb s.core (mkKey 0x1301 3) = false → 
      let t := nearInstant (scaleNow s.core) (2 ^ 64) i.toNat
      let c := elapseScale s.core t
      (((t + s.core.clk.comp : Nat) : Int) - c.clk.boundary) % epochTicks c ≠ 0 → Makes (.syncPulse i) s (raise (setRef c 3 true) 295 1 0)) ∧
  (∀ s : State, s.core.clk.counting = true → 
    let a := crossBoundary s.core
    let b := copyTally (tallyEvent (latchTbs ([0, 1, 2].foldl applyTb a) (epochNow a) a.clk.boundary) 0xD1)
    Gives .epochBoundary s (modeAtBoundary s.mem b).1
      (countEpoch (launchChecks (modeAtBoundary s.mem b).1 (ageWaits (groupSwap (groupArms (applyPendings (modeAtBoundary s.mem b).2) (epochNow a)))))))

/-- O16. Without a due EPOCH_ALIGN and without a change of SYNC_PERIOD or SYNC_COMP, crossing a boundary raises the 48-bit epoch
count by one, sets the latest boundary one period later, and changes no other register. (R374, R375, R232) -/
def Obligations.EpochCountRises : Prop :=
  ∀ c : Core, c.clk.align = none → c.clk.periods = [] → c.clk.comps = [] →
    epochNow (crossBoundary c) = (epochNow c + 1) % 2 ^ 48 ∧ (crossBoundary c).clk.boundary = c.clk.boundary + epochTicks c ∧
    SameRegsBut [mkKey 0x1300 1] c (crossBoundary c)

/-- O17. An accepted FAULT_ACK clears the sticky bit and acknowledges the raises of each source of its mask, keeps their counts
and leaves the others; FIRST_CLR empties the latch; HISTORY_RECORD_WRITE moves the oldest queued event into the next of
32,768 slots; a tally CLEAR sets VALUE to 0; ALIVE toggles, and its edge after an L3 or L4 raise is the last one. (R428,
R432, R433, R434, R435, R436) -/
def Obligations.FaultRecordsAndCounters : Prop :=
  (∀ (s : State) (data : List Byte), Open s.core → data.length = 64 → ∃ f : Faults, Accepts (.faultAck data) s { s.core with faults := f } ∧
    f = { s.core.faults with srcs := f.srcs } ∧ ∀ src, src < 310 → mget {} f.srcs src =
      if bit (ofLe data) src then { getFault s.core src with sticky := false, unacked := none } else getFault s.core src) ∧
  (∀ s : State, Open s.core → Accepts .firstClr s (wr (wr s.core (mkKey 0x7000 4) 0xFFFFFFFF) (mkKey 0x7000 5) 0)) ∧
  (∀ (s : State) (e : FaultEvent) (q : List FaultEvent), s.core.faults.queue = e :: q → ∃ c, Makes .historyRecordWrite s c ∧
    c.faults.queue = q ∧ mget [] c.faults.history (rd s.core (mkKey 0x7000 0xD)) = historyRecord s.core e ∧
    rd c (mkKey 0x7000 0xD) = (rd s.core (mkKey 0x7000 0xD) + 1) % 32768 ∧ c.faults.srcs = s.core.faults.srcs ∧
    SameRegsBut [mkKey 0x7000 0xD] s.core c) ∧
  (∀ (s : State) (k : Fin 128), Open s.core → Accepts (.tallyClear k) s
    { s.core with tally := mset {} s.core.tally k.val { mget {} s.core.tally k.val with value := 0 } }) ∧
  (∀ s : State, rd s.core (mkKey 0x7200 1) ≠ 1 → s.core.faults.aliveStopping = false → Makes .aliveTransition s
    { s.core with faults := { s.core.faults with aliveHigh := !s.core.faults.aliveHigh } }) ∧
  (∀ s : State, rd s.core (mkKey 0x7200 1) ≠ 1 → s.core.faults.aliveStopping = true → Makes .aliveTransition s
    (wr { s.core with faults := { s.core.faults with aliveHigh := !s.core.faults.aliveHigh } } (mkKey 0x7200 1) 1))

/-- O18. Outside BOOT and SAFE a request of SAFE is accepted where no change is under way: TRANSITION names it, and it waits for
the next boundary while REF_LOCKED; a prepare of SAFE for an epoch at least three ahead takes CHANGE_ID, CHANGE_EPOCH and
CHANGE_STATE 1; COMMIT and ABORT of the prepared change set CHANGE_STATE 2 and 4 and flood their tokens, and do nothing on a
device without ID, which is in no mode-change group; SWAP_SEND floods the SWAP token of the group after executing it. (R438,
R439, R379, R380, R381, R38) -/
def Obligations.ModeChangesAskedFor : Prop :=
  (∀ (s : State) (data : List Byte), Open s.core → data.length = 16 → leAt data 0 1 = 7 → leAt data 1 3 = 0 → leAt data 4 4 = 0 →
    leAt data 8 8 = 0 → modeNow s.core ≠ 0 → modeNow s.core ≠ 7 → s.core.mode.transition = none → rd s.core (chg 3) ≠ 1 → rd s.core (chg 3) ≠ 2 →
    (modeNow s.core ≠ 2 ∨ rd s.core (wkk 5) ≠ 1) → Accepts (.modeRequest data) s { wr s.core (mo 3) 7 with
      mode := { s.core.mode with transition := some { target := 7, boundary := if refLocked s.core then some (epochNow s.core + 1) else none
                                                      prepared := false } } }) ∧
  (∀ (s : State) (data : List Byte), Open s.core → data.length = 16 → leAt data 0 1 = 7 → leAt data 1 3 = 0 → leAt data 4 4 ≠ 0 →
    epochNow s.core + 3 ≤ leAt data 8 8 → noDeviceId s.core = false → modeNow s.core ≠ 0 → modeNow s.core ≠ 7 → s.core.mode.transition = none →
    rd s.core (chg 3) ≠ 1 → rd s.core (chg 3) ≠ 2 → Accepts (.prepare data) s
      { wr (wr (wr s.core (chg 1) (leAt data 4 4)) (chg 2) (leAt data 8 8)) (chg 3) 1 with
        mode := { s.core.mode with prepared := some (leAt data 4 4, 7, leAt data 8 8) } }) ∧
  (∀ (s : State) (id : BitVec 32) (t e : Nat), Open s.core → s.core.mode.prepared = some (id.toNat, t, e) → rd s.core (chg 3) = 1 →
    epochNow s.core + 1 < e → noDeviceId s.core = false → (modeNow s.core ≠ 2 ∨ rd s.core (wkk 5) ≠ 1) →
    Accepts (.changeCommit id) s (sendToken (wr s.core (chg 3) 2) tokCommit e id.toNat)) ∧
  (∀ (s : State) (id : BitVec 32) (t e : Nat), Open s.core → s.core.mode.prepared = some (id.toNat, t, e) → rd s.core (chg 3) = 1 →
    epochNow s.core < e → noDeviceId s.core = false → Accepts (.changeAbort id) s (sendToken (wr s.core (chg 3) 4) tokAbort 0 id.toNat)) ∧
  (∀ (s : State) (id : BitVec 32), Open s.core → noDeviceId s.core = true →
    Accepts (.changeCommit id) s s.core ∧ Accepts (.changeAbort id) s s.core) ∧
  (∀ (s : State) (e : BitVec 64), Open s.core → deviceId s.core ≠ 0xFFFF → rd s.core (mkKey 0x1311 1) ≠ 0 → epochNow s.core + 2 ≤ e.toNat →
    e.toNat ≤ epochNow s.core + 2 ^ 32 → Accepts (.swapSend e) s
      (sendToken (wr s.core (gk 0xE) e.toNat) tokSwap (e.toNat % 2 ^ 48) (rd s.core (mkKey 0x1311 1))))

/-- O19. A timed transition enters its mode, and a prepared one sets CHANGE_STATE 3; after an L3 or L4 raise SAFE is entered
once no Weaver runs or holds; a RESET write makes a warm reset due; boot with a valid firmware image enters STANDBY with
FW_ACTIVE, FW_SLOT and COMPAT_LEVEL of the images it takes, and without one SERVICE in recovery. (R34, R430, R431, R439,
R446, R447, R449) -/
def Obligations.ModeTransitionsComplete : Prop :=
  (∀ (s : State) (r : List StackTraining) (t : Nat), s.core.mode.transition = some { target := t, boundary := none, prepared := false } →
    Gives (.modeTransitionComplete r) s (enterMode s.mem s.core t r).1 (enterMode s.mem s.core t r).2) ∧
  (∀ (s : State) (r : List StackTraining) (t : Nat), s.core.mode.transition = some { target := t, boundary := none, prepared := true } →
    Gives (.modeTransitionComplete r) s (enterMode s.mem s.core t r).1 (wr (enterMode s.mem s.core t r).2 (chg 3) 3)) ∧
  (∀ s : State, s.core.faults.safeDue = true → (∀ w < 64, wState s.core w ≠ 2 ∧ wState s.core w ≠ 3) → modeNow s.core ≠ 0 → modeNow s.core ≠ 7 →
    let c := { s.core with faults := { s.core.faults with safeDue := false } }
    Gives .deviceFaultSafeEntry s (enterMode s.mem c 7 []).1 (enterMode s.mem c 7 []).2) ∧
  (∀ s : State, Open s.core → Accepts .reset s { s.core with mode := { s.core.mode with resetDue := true } }) ∧
  (∀ (s : State) (f : Nat), modeNow s.core = 0 → bootSlot s.core .firmware = some f → bootSlot s.core .microcode = none →
    let c := scanJournal (bootBanks (wr (wr (wr s.core (mkKey 0x1009 1) (imageVersion (slotImage s.core .firmware f))) (mkKey 0x1009 2) f)
      (mkKey 0x1008 0) (imageLevel (slotImage s.core .firmware f))))
    Gives .bootComplete s (enterMode s.mem c 2 []).1 (enterMode s.mem c 2 []).2) ∧
  (∀ (s : State) (f u : Nat), modeNow s.core = 0 → bootSlot s.core .firmware = some f → bootSlot s.core .microcode = some u →
    let a := bootMicrocode (wr (wr s.core (mkKey 0x1009 1) (imageVersion (slotImage s.core .firmware f))) (mkKey 0x1009 2) f) u
    let c := scanJournal (bootBanks (wr a (mkKey 0x1008 0)
      (min (imageLevel (slotImage s.core .firmware f)) (imageLevel (slotImage s.core .microcode u)))))
    Gives .bootComplete s (enterMode s.mem c 2 []).1 (enterMode s.mem c 2 []).2) ∧
  (∀ s : State, modeNow s.core = 0 → bootSlot s.core .firmware = none →
    let c := { s.core with mode := { s.core.mode with recovery := true } }
    Gives .bootComplete s (enterMode s.mem c 6 []).1 (enterMode s.mem c 6 []).2)

/-- O20. In SERVICE a STAGE write of a header, its reserved bytes 0, and payload of at most the size of its kind is held; an
INSTALL of a slot that is not the running one sets STATUS 1; its completion puts a valid staged image into the slot with
STATUS 2 and leaves the slots with STATUS 3 otherwise; a FLOOR write up to the running version raises the floor and never
lowers it. (R448, R451, R452) -/
def Obligations.ImagesStagedAndInstalled : Prop :=
  (∀ (s : State) (k : ImageKind) (data : List Byte), Open s.core → modeNow s.core = modeCode .service → 256 ≤ data.length →
    data.length ≤ 256 + imageMax k → allZero (slice data 64 96) = true →
    Accepts (.stage k data) s (setDom s.core (imk k 1) data)) ∧
  (∀ (s : State) (k : ImageKind) (slot : Byte), Open s.core → modeNow s.core = modeCode .service → slot.toNat ≤ 1 →
    runningSlot s.core k ≠ some slot.toNat → rd s.core (imk k 3) ≠ 1 → Accepts (.install k slot) s { wr s.core (imk k 3) 1 with
      mode := { s.core.mode with installing := mset 0 s.core.mode.installing (slotKey k 0) (slot.toNat + 1) } }) ∧
  (∀ (s : State) (k : ImageKind) (n : Nat), mget 0 s.core.mode.installing (slotKey k 0) = n + 1 → imageValid s.core k (dom s.core (imk k 1)) = true →
    ∃ c, Makes (.installComplete k) s c ∧ rd c (imk k 3) = 2 ∧ mfind c.mode.slots (slotKey k n) = some (dom s.core (imk k 1)) ∧
      (∀ j, j ≠ slotKey k n → mfind c.mode.slots j = mfind s.core.mode.slots j) ∧ SameRegsBut [imk k 3] s.core c) ∧
  (∀ (s : State) (k : ImageKind) (n : Nat), mget 0 s.core.mode.installing (slotKey k 0) = n + 1 → imageValid s.core k (dom s.core (imk k 1)) = false →
    ∃ c, Makes (.installComplete k) s c ∧ rd c (imk k 3) = 3 ∧ c.mode.slots = s.core.mode.slots ∧ SameRegsBut [imk k 3] s.core c) ∧
  (∀ (s : State) (k : ImageKind) (v : BitVec 32), Open s.core → v.toNat ≤ runningVersion s.core k →
    Accepts (.floor k v) s (wr s.core (imk k 7) (max v.toNat (rd s.core (imk k 7)))))

/-- O21. In DORMANT with no transition under way a low WAKE_N sets bit 0 of WAKE_CAUSE and an enabled alarm bit 2, and the
device leaves for STANDBY; a TRGI input takes its level, and while no Weaver runs or holds a rise is noted by the
acquisition units and is a device cause; the wake NOTIFY is resent with RETRY at 1; WAKE_CLR withdraws the request and
releases WAKE_N. (R453, R454, R274) -/
def Obligations.WakeCausesAndRequests : Prop :=
  (∀ s : State, modeNow s.core = modeCode .dormant → s.core.mode.transition = none → Makes .wakePin s
    { wr (wr s.core (wkk 1) (setBit (rd s.core (wkk 1)) 0)) (mo 3) 2 with mode := { s.core.mode with
      wakePinSeen := true, transition := some { target := 2, boundary := none, prepared := false } } }) ∧
  (∀ s : State, modeNow s.core = modeCode .dormant → s.core.mode.transition = none → bit (rd s.core (wkk 2)) 2 = true → Makes .wakeAlarm s
    { wr (wr s.core (wkk 1) (setBit (rd s.core (wkk 1)) 2)) (mo 3) 2 with mode := { s.core.mode with
      wakeOwed := true, transition := some { target := 2, boundary := none, prepared := false } } }) ∧
  (∀ (s : State) (k : Fin 4), (∀ w < 64, wState s.core w ≠ 2 ∧ wState s.core w ≠ 3) → Makes (.trgiEdge k false) s
    { s.core with mode := { s.core.mode with trgi := putBit s.core.mode.trgi k.val false } }) ∧
  (∀ (s : State) (k : Fin 4), (∀ w < 64, wState s.core w ≠ 2 ∧ wState s.core w ≠ 3) → bit s.core.mode.trgi k.val = false →
    Makes (.trgiEdge k true) s (deviceCause (noteTrgi { s.core with mode := { s.core.mode with trgi := putBit s.core.mode.trgi k.val true } } k.val) (3 + k.val))) ∧
  (∀ (s : State) (n : Nat) (a : HostAddr), s.core.dap.wakeNotify = some n → wakeHost s.core = some a → Makes .wakeNotifyResend s
    (sendUdp s.core (rd s.core (mo 8)) svcDap a (wakeFrame s.core n true))) ∧
  (∀ s : State, Open s.core → Accepts .wakeClr s { wr s.core (wkk 5) 0 with
    mode := { s.core.mode with wakeDriven := false }, dap := { s.core.dap with wakeNotify := none } })

/-- O22. In RUN the PLL of a pin group that runs and is not needed stops when it has idled for PG_IDLE; a PLL that starts locks
in the modes that run it while the REF domain runs; one that does not lock raises the CLOCK source of its bit at L2, 300
microseconds after its start. (R443, R444) -/
def Obligations.PinGroupPlls : Prop :=
  (∀ (s : State) (g : Fin 16), modeNow s.core = modeCode .run → clockBit s.core (6 + g.val) = true → pgNeeded s.core g.val = false →
    Makes (.pgIdleExpiry g) s (setClock (elapseUntil s.core (pgIdleEnd s.core g.val)) (6 + g.val) false)) ∧
  (∀ (s : State) (g : Fin 16), pgStarting s.core g.val = true → InModes s.core [.warm, .calibrate, .run] → clockBit s.core 1 = true →
    ∃ c, Makes (.pgPllLock g) s c ∧ clockBit c (6 + g.val) = true ∧ pgStarting c g.val = false ∧ SameRegsBut [clockKey] s.core c ∧
      ∀ d, d ≠ 6 + g.val → clockBit c d = clockBit s.core d) ∧
  (∀ (s : State) (g : Fin 16), pgStarting s.core g.val = true → ∃ c, Makes (.pgPllLockTimeout g) s (raise c (246 + g.val) 2 0) ∧
    pgStarting c g.val = false ∧ c.regs = s.core.regs)

/-- O23. A token heard on an UP link or port that was executed within the last 10 ms changes nothing; on first arrival it is
noted, executed and flooded: a COMMIT in time for the prepared change sets CHANGE_STATE 2, an ABORT 4, a SWAP of another
group does nothing further, an ARM for a later boundary is held, a FIRE reaches the units of its group; a datagram with a
good CRC and tag is the token it holds. (R377, R378, R380, R381, R382, R281, R282) -/
def Obligations.TokensExecuteOnceAndFlood : Prop :=
  (∀ (s : State) (t : Token), tokenHeard s.core t.arrival = true → firstArrival s.core t.src.toNat t.number.toNat = none →
    Makes (.tokenCommit t) s s.core ∧ Makes (.tokenAbort t) s s.core ∧ Makes (.tokenSwap t) s s.core ∧ Makes (.tokenArm t) s s.core ∧
    Makes (.tokenFire t) s s.core) ∧
  (∀ (s : State) (t : Token), tokenHeard s.core t.arrival = true →
    (∀ d ∈ s.core.tokens.done, s.core.time < d.2.2 + 10000000 → ¬ (d.1 = t.src.toNat ∧ d.2.1 = t.number.toNat)) →
    let c := { s.core with tokens := { s.core.tokens with done := ((t.src.toNat, t.number.toNat, s.core.time) ::
      s.core.tokens.done.filter (fun d => decide (s.core.time < d.2.2 + 10000000))) } }
    (∀ m e, c.mode.prepared = some (t.id.toNat, m, e) → deviceId c ≠ 0xFFFF → rd c (chg 3) = 1 → epochNow c + 1 < e →
      modeNow c ≠ 2 → Makes (.tokenCommit t) s (floodToken (wr c (chg 3) 2) (slotsOfToken tokCommit t) (some t.arrival))) ∧
    (∀ m e, c.mode.prepared = some (t.id.toNat, m, e) → deviceId c ≠ 0xFFFF → rd c (chg 3) = 1 → epochNow c < e →
      Makes (.tokenAbort t) s (floodToken (wr c (chg 3) 4) (slotsOfToken tokAbort t) (some t.arrival))) ∧
    (rd c (mkKey 0x1311 1) ≠ t.id.toNat % 256 → Makes (.tokenSwap t) s (floodToken c (slotsOfToken tokSwap t) (some t.arrival))) ∧
    (rd c (mkKey 0x1311 1) = t.id.toNat % 256 → t.id.toNat % 256 ≠ 0 → deviceId c ≠ 0xFFFF → epochNow c + 2 ≤ t.epoch.toNat →
      t.epoch.toNat ≤ epochNow c + 2 ^ 32 →
      Makes (.tokenSwap t) s (floodToken (wr c (gk 0xE) t.epoch.toNat) (slotsOfToken tokSwap t) (some t.arrival))) ∧
    (epochNow c + 1 < t.epoch.toNat → Makes (.tokenArm t) s (floodToken { c with tokens := { c.tokens with
      arms := c.tokens.arms ++ [(t.id.toNat % 256, t.epoch.toNat)] } } (slotsOfToken tokArm t) (some t.arrival))) ∧
    Makes (.tokenFire t) s (floodToken (groupFire c t.tgroup.toNat (unwrapStamp c t.stamp.toNat) t.src.toNat t.unit.toNat none)
      (fireSlots t.src.toNat t.number.toNat t.stamp.toNat t.tgroup.toNat t.unit.toNat) (some t.arrival))) ∧
  (∀ (s : State) (d : TokenDatagram) (p : Nat), p < 2 → portUp s.core p = true → ipTaken s.core p d.ip = true → bits d.header.toNat 0 4 = 6 → bits d.body.toNat 0 4 = 1 →
    d.crc = crc32c (leBytes 16 d.header.toNat ++ leBytes 16 d.body.toNat) →
    (authRequired s.core = true → d.tag = hmac256 (psk s.core) (leBytes 16 d.header.toNat ++ leBytes 16 d.body.toNat ++ leBytes 4 d.crc.toNat)) →
    Makes (.tokenDatagram d) s (commitToken s.core (tokenOf d.src d.header.toNat d.body.toNat)))

/-- O24. In their modes an EPOCH_ALIGN with a count below 2^48 and a valid time is held while TB0 is not in holdover, a
SYNC_PERIOD in range is held with the instant of its write, and a SYNC_COMP in range ends every TDC measurement with cause 6
and is held with its instant. (R375, R376, R477) -/
def Obligations.EpochSettings : Prop :=
  (∀ (s : State) (data : List Byte), Open s.core → InModes s.core [.standby, .warm] → data.length = 20 → leAt data 0 8 < 2 ^ 48 →
    bits (leAt data 8 12) 16 32 < 1000000000 → tbState s.core 0 ≠ 3 → tbState s.core 0 ≠ 4 → Accepts (.epochAlign data) s
      { setDom s.core (mkKey 0x1300 2) data with clk := { s.core.clk with align := some (leAt data 0 8, leAt data 8 12) } }) ∧
  (∀ (s : State) (v : BitVec 32), Open s.core → InModes s.core [.standby, .warm] → 100 ≤ v.toNat → v.toNat ≤ 1000000 →
    Accepts (.syncPeriod v) s { wr s.core (mkKey 0x1301 1) v.toNat with
      clk := { s.core.clk with periods := s.core.clk.periods ++ [(v.toNat, s.core.time)] } }) ∧
  (∀ (s : State) (v : BitVec 64), Open s.core → InModes s.core [.standby, .warm, .calibrate] → v.toNat ≤ 409599 →
    let c := endMeasures s.core 6
    Accepts (.syncComp v) s { wr c (mkKey 0x1301 2) v.toNat with
      clk := { c.clk with comps := c.clk.comps ++ [(v.toNat, c.time)] } })

/-- O25. A READ, SUBSCRIBE, UNSUBSCRIBE, READ_BLOCK, WRITE or WRITE_BLOCK frame that comes in intact with its session's next
sequence number runs its operation on the block as it stands and is answered with the result, the reply kept for a repeat, a
block request where no retrain keeps its bytes waiting; one whose effect awaits the journal is answered later; SESSION_CLOSE
is answered and ends the session, its subscriptions and its deferred replies. (R54, R55, R59, R60, R62, R65) -/
def Obligations.SessionRequestsExecute : Prop :=
  (∀ (s : State) (f : DapFrame) (x : Session), HeardBy s.core opRead f x → NextOf x f →
    let r := runOp s.mem (begun s.core x f) (sessionAt s.core x f) opRead f
    Gives (.read f) s r.mem (replied s.core x opRead f r) ∧ r.mem = s.mem ∧ r.core = begun s.core x f) ∧
  (∀ (s : State) (f : DapFrame) (x : Session), HeardBy s.core opReadBlock f x → NextOf x f → blockWaits s.core f = false →
    let r := runReadBlock s.mem (begun s.core x f) f.eth.val f
    Gives (.readBlock f) s r.mem (replied s.core x opReadBlock f r)) ∧
  (∀ (s : State) (f : DapFrame) (x : Session), HeardBy s.core opSubscribe f x → NextOf x f →
    let r := runSubscribe s.mem (begun s.core x f) x.id f
    Gives (.subscribe f) s r.mem (replied s.core x opSubscribe f r)) ∧
  (∀ (s : State) (f : DapFrame) (x : Session), HeardBy s.core opUnsubscribe f x → NextOf x f →
    let r := runOp s.mem (begun s.core x f) (sessionAt s.core x f) opUnsubscribe f
    Gives (.unsubscribe f) s r.mem (replied s.core x opUnsubscribe f r)) ∧
  (∀ (s : State) (f : DapFrame) (x : Session), HeardBy s.core opWrite f x → NextOf x f → bits f.flags.toNat 7 9 = 0 → f.reserved1 = 0 →
    f.reserved2 = 0 →
    let r := runWrite s.mem (begun s.core x f) x.auth f
    r.waits.all (accepted r.core) = true →
    Gives (.write f) s r.mem (replied s.core x opWrite f r)) ∧
  (∀ (s : State) (f : DapFrame) (x : Session), HeardBy s.core opWriteBlock f x → NextOf x f → bits f.flags.toNat 7 9 = 0 → f.reserved1 = 0 →
    f.reserved2 = 0 → blockWaits s.core f = false →
    let r := runWriteBlock s.mem (begun s.core x f) (sessionAt s.core x f) f.eth.val f
    r.waits.all (accepted r.core) = true →
    Gives (.writeBlock f) s r.mem (replied s.core x opWriteBlock f r)) ∧
  (∀ (s : State) (f : DapFrame) (x : Session), HeardBy s.core opClose f x → NextOf x f → ∃ c, Makes (.sessionClose f) s c ∧
    (∀ y ∈ c.dap.sessions, y.id ≠ x.id) ∧ (∀ y ∈ c.dap.subs, y.session ≠ x.id) ∧ (∀ d ∈ c.dap.deferred, d.session ≠ x.id) ∧
    c.regs = s.core.regs ∧ c.doms = s.core.doms)

/-- O26. A WRITE with ATOMIC at 0 executes its entries in payload order, each on what the one before has left and with its own
status; a refused entry changes nothing and does not stop later entries; the frame status is OK when every entry is OK, and
PARTIAL otherwise. (R66) -/
def Obligations.NonAtomicWriteRunsEachEntry : Prop :=
  (∀ (m : Mem) (c : Core) (auth : Bool) (f : DapFrame) (es : List Entry), entriesOf f.payload = .ok es → hasFlag f flagAtomic = false →
    let r := writeInOrder auth m c es
    (runWrite m c auth f).mem = r.2.1 ∧ (runWrite m c auth f).core = r.2.2 ∧
      (runWrite m c auth f).payload = writePayload c es r.1 ∧ r.1.length = es.length ∧
      ((∀ st ∈ r.1, st = stOk) → (runWrite m c auth f).st = stOk) ∧ ((∃ st ∈ r.1, st ≠ stOk) → (runWrite m c auth f).st = stPartial)) ∧
  (∀ (m : Mem) (c : Core) (auth : Bool) (es fs : List Entry),
    let a := writeInOrder auth m c es
    let b := writeInOrder auth a.2.1 a.2.2 fs
    writeInOrder auth m c (es ++ fs) = (a.1 ++ b.1, b.2)) ∧
  (∀ (m : Mem) (c : Core) (auth : Bool) (e : Entry) (st : Status), entryFail c auth e 0 = some st → writeEntry m c auth e = (st, (m, c)))

/-- O27. An atomic WRITE that is answered ATOMIC_FAILED leaves the memory and the block as they were; one that is not, and whose
payload holds whole entries, applied every entry with a good status. (R67, R68) -/
def Obligations.AtomicWriteIsAllOrNothing : Prop :=
  ∀ (m : Mem) (c : Core) (auth : Bool) (f : DapFrame) (es : List Entry), entriesOf f.payload = .ok es → hasFlag f flagAtomic = true →
    ((runWrite m c auth f).st = stAtomicFailed → (runWrite m c auth f).mem = m ∧ (runWrite m c auth f).core = c) ∧
    ((runWrite m c auth f).st ≠ stAtomicFailed → (∀ st ∈ (writeInOrder auth m c es).1, good st = true) ∧
      (runWrite m c auth f).mem = (writeInOrder auth m c es).2.1 ∧ (runWrite m c auth f).core = (writeInOrder auth m c es).2.2)

/-- O28. While AUTH_REQUIRED is 1, a well-typed write of AUTH_REQUIRED or of PSK from a session that is not authenticated is
refused with AUTH_REQUIRED, and from an authenticated session it passes the checks. (R61) -/
def Obligations.AuthObjectsNeedAuthentication : Prop :=
  ∀ c : Core, Open c → authRequired c = true →
    (∀ v, v < 256 → writeFail c false (dk 3) v 0 0 = some stAuthRequired) ∧ blockFail c false (dk 4) = some stAuthRequired ∧
    (∀ v, v ≤ 1 → writeFail c true (dk 3) v 0 0 = none) ∧ blockFail c true (dk 4) = none

/-- O29. SESSION_OPEN without authentication opens a session of its sender with MAX_WINDOW; an idle session closes with what
hangs on it; a held request whose predecessors are done executes; an EVERY_N subscription whose epochs have passed falls due
and counts again; an unacknowledged NOTIFY is resent with RETRY at 1; a NOTIFY_ACK with no pending value frees its place; a
probe is answered with the ID, level, nonce and mode; a frame for another device goes on by its route with one hop fewer and
RELAYED set. (R59, R62, R72, R73, R74, R75) -/
def Obligations.SessionsAndNotifications : Prop :=
  (∀ (s : State) (f : DapFrame), portUp s.core f.eth.val = true → ipTaken s.core f.eth.val f.ip = true → dapIntact opOpen f = true → hasFlag f flagReply = false →
    forOther s.core f = false → hasFlag f flagAuth = false → f.version = 1 → tooLong s.core f.eth.val opOpen f = false →
    authRequired s.core = false → s.core.dap.sessions.length < 32 → f.payload.length = 16 → ∃ c x, Makes (.sessionOpen f) s c ∧
      c.dap.sessions = s.core.dap.sessions ++ [x] ∧ x.host = f.src ∧ x.auth = false ∧ x.done = 0 ∧ x.window = rd s.core (dk 6) ∧
      x.eth = f.eth.val ∧ c.regs = s.core.regs ∧ c.dap.subs = s.core.dap.subs) ∧
  (∀ (s : State) (sid : BitVec 16), Makes (.sessionIdleTimeout sid) s { s.core with dap := { s.core.dap with
      sessions := s.core.dap.sessions.filter (fun x => x.id != sid.toNat), subs := s.core.dap.subs.filter (fun x => x.session != sid.toNat)
      deferred := s.core.dap.deferred.filter (fun d => d.session != sid.toNat) } }) ∧
  (∀ (s : State) (sid : BitVec 16) (x : Session) (h : Byte × DapFrame), sessionOf s.core sid.toNat = some x →
    x.held.find? (fun h => h.2.sequence.toNat == x.done + 1) = some h → heldWaits s.core sid.toNat = none →
    let r := execute s.mem s.core sid.toNat h.1.toNat h.2
    Gives (.heldRequestExecute sid) s r.1 r.2) ∧
  (∀ (s : State) (n : BitVec 16) (x : Subscription), s.core.dap.subs.find? (fun x => x.number == n.toNat) = some x → x.every ≠ 0 → x.left = 0 →
    Makes (.subscriptionEveryN n) s (fallDue (modSub s.core n.toNat (fun y => { y with left := y.every })) x (noticeBytes s.core x.key))) ∧
  (∀ (s : State) (sid : BitVec 16) (n : BitVec 48) (x : Session) (u : SentNotify), sessionOf s.core sid.toNat = some x →
    x.unacked.find? (fun u => u.number == n.toNat) = some u →
    Makes (.notifyResend sid n) s (sendDap s.core x.eth x.host (notifyFrame x u.target n.toNat true u.bytes))) ∧
  (∀ (s : State) (f : DapFrame) (x : Session) (u : SentNotify), HeardBy s.core opNotifyAck f x → u ∈ x.unacked → u.number = f.sequence.toNat →
    x.due = [] →
    let y := { x with lastSeen := s.core.time, eth := f.eth.val, unacked := x.unacked.filter (fun u => u.number != f.sequence.toNat) }
    ∃ c, Makes (.notifyAck f) s c ∧ c.regs = s.core.regs ∧ c.outbox = s.core.outbox ∧
      c.dap = { s.core.dap with sessions := s.core.dap.sessions.map (fun z => if z.id = x.id then y else z) }) ∧
  (∀ (s : State) (f : DapFrame), portUp s.core f.eth.val = true → ipTaken s.core f.eth.val f.ip = true → dapIntact opProbe f = true → hasFlag f flagReply = false →
    forOther s.core f = false → hasFlag f flagAuth = false → f.version = 1 → authRequired s.core = false → f.payload.length = 16 →
    Makes (.partnerProbe f) s (sendReply s.core f.eth.val opProbe f stOk 0 none (leBytes 16 (packFields
      [(16, deviceId s.core), (16, rd s.core (mkKey 0x1008 0)), (64, leAt f.payload 4 8), (8, modeNow s.core), (24, 0)])))) ∧
  (∀ (s : State) (op : Byte) (f : DapFrame) (l : Nat), portUp s.core f.eth.val = true → ipTaken s.core f.eth.val f.ip = true → dapIntact op.toNat f = true →
    hasFlag f flagReply = false → forOther s.core f = true → f.hops ≠ 0 → routeOf s.core f.target.toNat = some l → linkUp s.core l = true →
    let g := { f with hops := f.hops - 1, flags := f.flags ||| 0x20 }
    let h := { g with crc := crc32c (dapBytes op.toNat g) }
    Makes (.dapFrameRelay op f) s (relayOver (notePath s.core f.target.toNat f.src f.eth.val) l 1 f.src (dapWhole op.toNat h)))

/-- O30. A port that its mode runs comes UP with its bit of CLOCK_LOCKED; an UP port that loses its link trains again, loses its
bit and raises the source of its clock and its own at L1; an echo request and an untagged address request for the port's own
address are answered on an UP port. (R50, R51) -/
def Obligations.EthernetPorts : Prop :=
  (∀ (s : State) (p : Fin 2), portRuns s.core p.val = true → ∃ c, Makes (.ethLinkUp p) s c ∧ rd c (ek p.val 8) = 2 ∧ clockBit c (39 + p.val) = true ∧
    SameRegsBut [ek p.val 8, clockKey] s.core c) ∧
  (∀ (s : State) (p : Fin 2), portUp s.core p.val = true → ∃ c, Makes (.ethLinkLoss p) s (raise (raise c (clockFault (39 + p.val)) 1 0) (305 + p.val) 1 0) ∧ rd c (ek p.val 8) = 1 ∧
    clockBit c (39 + p.val) = false ∧ SameRegsBut [ek p.val 8, clockKey] s.core c ∧ c.faults = s.core.faults) ∧
  (∀ (s : State) (e : EchoFrame), portUp s.core e.eth.val = true → ipOk e.ip = true → ownAddress s.core e.eth.val e.ip.v6 e.dst.toNat = true →
    Makes (.echoRequest e) s (emit s.core (.echoReply e.eth.val (!e.ip.v6) e.src e.payload))) ∧
  (∀ (s : State) (a : ArpFrame), portUp s.core a.eth.val = true → a.vlanTagged = false → ownAddress s.core a.eth.val a.v6 a.target.toNat = true →
    Makes (.arpAndNeighborDiscovery a) s (emit s.core (.neighbour a.eth.val a.v6 (Config.macAddr a.eth).toNat a.senderMac.toNat a.target.toNat
      a.senderIp.toNat)))

/-- O31. A write that fails a check of R474 answers that check's status and changes nothing else; one that passes has the effect
of its object, unless an L4 raise or the journal's recovery closes it; SESSION_IDLE_TIMEOUT takes a value in its range, with
nothing else changed; a DEVICE_ID that is 0xFFFF or that no partner of an UP link has is taken in STANDBY or WARM while no
stream and no boom is enabled. (R10, R46, R38, R474) -/
def Obligations.RegisterWrites : Prop :=
  (∀ (s : State) (o : ObjWrite) (st : Status), writeFail s.core false (mkKey o.index.toNat o.sub.toNat) o.value.toNat o.epoch.toNat 0 = some st →
    Makes (.registerWrite o) s { s.core with status := st }) ∧
  (∀ (s : State) (o : ObjWrite), writeFail s.core false (mkKey o.index.toNat o.sub.toNat) o.value.toNat o.epoch.toNat 0 = none →
    let k := mkKey o.index.toNat o.sub.toNat
    let r := guarded k (effectOf k o.value.toNat (boundaryOf s.core o.epoch.toNat)) s.mem s.core
    Gives (.registerWrite o) s r.2.1 { r.2.2 with status := r.1 }) ∧
  (∀ (s : State) (o : ObjWrite), Open s.core → o.index = 0x1110 → o.sub = 5 → 100 ≤ o.value.toNat → o.value.toNat ≤ 600000 → o.epoch = 0 →
    Accepts (.registerWrite o) s (wr s.core (dk 5) o.value.toNat)) ∧
  (∀ (s : State) (v : BitVec 16), Open s.core → InModes s.core [.standby, .warm] → (v.toNat ≤ 16383 ∨ v = 0xFFFF) → anyStream s.core = false →
    anyBoom s.core = false → (v = 0xFFFF ∨ ∀ l < 8, linkUp s.core l = true → rd s.core (lk l 3) ≠ v.toNat) →
    Accepts (.deviceId v) s (tryRecover s.mem (pairRefresh (wr (renumber s.core v.toNat) (mkKey 0x6020 0) v.toNat))))

/-- O32. A LAUNCH for a boundary that is not past, of a descriptor the table holds, on a ready device arms the Weaver with a
copy of the descriptor and is pending for its epoch; a JUMP of a number up to 0x100 goes to the FAR slot after the commit
point and else to the NEAR slot; an ABORT of an emitting Weaver empties both slots and asks for a stop with cause 8, one of
an ARMED Weaver rejects the launch and returns to IDLE; STOP_ACK returns a STOPPED Weaver to IDLE; a table without a failing
descriptor is taken, and one with a failing descriptor sets TABLE_ERROR and nothing else. (R94, R96, R104, R105, R106, R113,
R178) -/
def Obligations.LaunchesJumpsAndAborts : Prop :=
  (∀ (s : State) (w : Fin 64) (i : Byte) (epoch : BitVec 48) (d : SegDesc),
    let e := boundaryOf s.core epoch.toNat
    Open s.core → epochNow s.core < e → e ≤ epochNow s.core + 2 ^ 32 → s.core.rwe.length < 1024 → runBy s.core e = true → descAt s.core w.val i.toNat = some d →
    launchReady s.core w.val d e = true → ∃ c, Accepts (.launch w i epoch) s c ∧ wState c w.val = 1 ∧ rd c (wk w.val 2) = i.toNat ∧
      (getW c w.val).desc = some d ∧ (getW c w.val).launchEpoch = e ∧
      c.rwe = s.core.rwe ++ [{ key := jk w.val 1, value := i.toNat, epoch := e }]) ∧
  (∀ (s : State) (w : Fin 64) (v : BitVec 16), Open s.core → v.toNat ≤ 0x100 →
    (wState s.core w.val = 1 ∨ wState s.core w.val = 2 ∨ wState s.core w.val = 3) →
    Accepts (.jump w v) s (wr (wr s.core (if wState s.core w.val = 2 ∧ pastCommit s.mem s.core w.val = true then jk w.val 4 else jk w.val 3) v.toNat)
      (jk w.val 2) v.toNat)) ∧
  (∀ (s : State) (w : Fin 64), Open s.core → (wState s.core w.val = 2 ∨ wState s.core w.val = 3) →
    let x := getW s.core w.val
    Accepts (.abort w) s (requestStop (wr (wr s.core (jk w.val 3) 0xFFFF) (jk w.val 4) 0xFFFF) w.val 8
      (if s.core.stamp ≤ x.gStart then x.gStart else granuleEndOf x))) ∧
  (∀ (s : State) (w : Fin 64) (d : SegDesc), Open s.core → wState s.core w.val = 1 → (getW s.core w.val).desc = some d →
    Accepts (.abort w) s (enterRest (discardLists (tallyEvent
      ((setBits (enabledSites s.core w.val) 8).foldl (fun c site => makeRejected c w.val site d 8) s.core) 0xD5) w.val) w.val 0)) ∧
  (∀ (s : State) (w : Fin 64), Open s.core → wState s.core w.val = 4 → Accepts (.stopAck w) s (enterRest (wr s.core (wk w.val 5) 0) w.val 0)) ∧
  (∀ (s : State) (w : Fin 64) (data : List Byte), Open s.core → data.length % 128 = 0 → 128 ≤ data.length → data.length ≤ 32768 →
    badDesc (descNumbers data).length (capacity s.core) 0 (descNumbers data) = none →
    rasterRefuses s.core w.val ((descNumbers data).map parseDesc) = none →
    Accepts (.segTable w data) s (setDom s.core (mkKey (0x2040 + w.val) 1) data)) ∧
  (∀ (s : State) (w : Fin 64) (data : List Byte) (i : Nat) (st : Status), Open s.core → data.length % 128 = 0 → 128 ≤ data.length →
    data.length ≤ 32768 → badDesc (descNumbers data).length (capacity s.core) 0 (descNumbers data) = some (i, st) →
    Makes (.segTable w data) s { wr s.core (mkKey (0x2040 + w.val) 2) i with status := st })

/-- O33. A window that opens with no timer pending dispatches nothing in a tail or hold granule, and otherwise presets NXT to
the next granule and T to 0 and dispatches an instruction that passes its checks at the address of its entry; a granule that
ends without a stop in it emits its 64 vectors, takes their results, counts them and goes on; a stop boundary inside the
granule cuts it; a fetched block stands verified or failing in the stream buffer; a TRGO pulse rises at its instant and its
output falls. (R83, R108, R110, R111, R114, R124) -/
def Obligations.GranulesWindowsAndPulses : Prop :=
  (∀ (s : State) (w : Fin 64) (d : SegDesc), (getW s.core w.val).desc = some d → emitting s.core w.val = true →
    (getW s.core w.val).micro.phase = .closed → (getW s.core w.val).opening = none →
    let c := elapseTo s.core (windowOpenTick (getW s.core w.val))
    let a := modM c w.val (fun y => { y with phase := .running, iw := granuleIw s.mem (getW s.core w.val) d, cycles := 0, handler := none, prog := false, stalled := false, upset := none, todo := y.pending })
    let b := spend (modM a w.val (fun y => { y with nxt := (getW a w.val).k + 1, t := false })) w.val 1
    let entry := dispatchEntry b w.val (dispatchIndex b w.val)
    (getW c w.val).micro.pending = 0 →
    ((getW a w.val).inHold = true ∨ (getW a w.val).tailLeft ≠ 0 → Makes (.granuleWindowOpen w none) s (modM a w.val (fun y => { y with phase := .ended }))) ∧
    ((getW a w.val).inHold = false → (getW a w.val).tailLeft = 0 → csEntryGood entry = true → (getW b w.val).micro.cycles ≤ windowCycles (getW a w.val) →
      dispatchOk b w.val = true → Makes (.granuleWindowOpen w none) s (modM b w.val (fun y => { y with phase := .dispatched, upc := bits entry 0 14 })))) ∧
  (∀ (s : State) (w : Fin 64) (d : SegDesc), (getW s.core w.val).desc = some d → emitting s.core w.val = true →
    (getW s.core w.val).inHold = false → (getW s.core w.val).stopReq = none → (getW s.core w.val).opening = none →
    let fin := (getW s.core w.val).gStart + 64 * d.period
    let e := (getW s.core w.val).e
    let a := closeWindow s.mem s.core w.val
    let b := deliverLate (emitVectors s.mem (elapseTo a fin) w.val 64) w.val
    let c := wr (applyOff (drainQueue (drainHold (takeGranule b w.val (64 * e)) w.val (e - 1)) w.val) w.val) (wk w.val 4) (64 * (e + 1))
    (getW a w.val).stopReq = none →
    Makes (.granuleEnd w) s (afterGranule s.mem (modW c w.val (fun y => { y with recent := ((getW s.core w.val).k :: y.recent).take 32 })) w.val d fin)) ∧
  (∀ (s : State) (w : Fin 64) (cause b : Nat), (getW s.core w.val).stopReq = some (cause, b) → emitting s.core w.val = true →
    b < granuleEndOf (getW s.core w.val) → Makes (.safeStop w) s (cutStop s.mem s.core w.val cause b)) ∧
  (∀ (s : State) (w : Fin 64) (b : BitVec 28), emitting s.core w.val = true →
    let c := if 4096 * b.toNat < capacity s.core then (checkedRead s.mem s.core (4096 * b.toNat) 4096 .stay).2 else s.core
    Makes (.blockFetchComplete w b) s (modW c w.val (fun x => { x with
      blocks := minsert (merase x.blocks b.toNat) b.toNat (streamerCheck s.mem s.core b.toNat) }))) ∧
  (∀ (s : State) (w : Fin 64) (mask rise : Nat) (rest : List (Nat × Nat)), (getW s.core w.val).pulses = (mask, rise) :: rest →
    Makes (.trgoPulse w) s (riseTrgo (elapseTo (modW s.core w.val (fun x => { x with pulses := rest })) rise) mask rise)) ∧
  (∀ (s : State) (k : Fin 8),
    let c := elapseTo s.core (mget 0 s.core.trgoHigh k.val)
    Makes (.trgoPulseEnd k) s { c with trgoHigh := mset 0 c.trgoHigh k.val 0 })

/-- O34. On an emitting Weaver a native instruction, a user opcode or a ZH64 instruction that has been dispatched in its mode
begins its microprogram at its first word, which goes on until it ends, waits or overruns; one that R87 calls illegal by its
flow also asks for a stop with cause 2 at the end of its granule. (R85, R124, R130, R131, R141) -/
def Obligations.DispatchedInstructionsRun : Prop :=
  ∀ (s : State) (w : Fin 64), emitting s.core w.val = true → (getW s.core w.val).micro.phase = .dispatched →
    let b := if flowIllegal s.core w.val then requestStop s.core w.val 2 (granuleEndOf (getW s.core w.val)) else s.core
    let c := resume (modM b w.val (fun y => { y with phase := .running, prog := true })) w.val
    (nanoMode s.core w.val = false → ∀ e ∈ [(Instr.nop w, 0), (.tail w, 1), (.jmp w, 2), (.rpt w, 3), (.loop w, 4), (.call w, 5), (.ret w, 6), (.pmatch w, 7), (.jf w, 8), (.jnf w, 9), (.jmt w, 10), (.clrf w, 11), (.siteoff w, 12), (.pec w, 13), (.mark w, 14), (.trig w, 15)],
      iwOpcode (getW s.core w.val).micro.iw = e.2 → Makes e.1 s c) ∧
    (nanoMode s.core w.val = false → 0xE0 ≤ iwOpcode (getW s.core w.val).micro.iw → Makes (.userOpcode w) s c) ∧
    (nanoMode s.core w.val = true → ∀ e ∈ [(Instr.hstep w, 0), (.hfin w, 1), (.hgo w, 2), (.hrpt w, 3), (.hlpa w, 4), (.hlpb w, 5), (.hsub w, 6), (.hback w, 7), (.hseek w, 8), (.hfail w, 9), (.hpass w, 10), (.hrst w, 11), (.hlvl w, 12), (.htag w, 13)],
      hwHop (getW s.core w.val).micro.iw = e.2 → Makes e.1 s c)

/-- O35. With the vendor words loaded and room for them in the window, a dispatched NOP ends with NXT as dispatch set it, a JMP
whose TARGET lies in the image with NXT at TARGET, and a TRIG with the outputs of its TARGET added to those that pulse at
the next granule; the microprogram has then ended, no stop is asked for, and no register of the dictionary but tally
counters and time has changed. (R85, R126, R130) -/
def Obligations.FlowOfSimpleInstructions : Prop :=
  ∀ (s : State) (w : Fin 64) (d : SegDesc),
    let x := getW s.core w.val
    let bank := vendorBank 0 false
    emitting s.core w.val = true → x.desc = some d → (∀ a < 0x1800, csWord s.core w.val a = mget 0 bank.words a) →
    x.micro.phase = .dispatched → x.micro.upc = bits (mget 0x8000 bank.dispatch (iwOpcode x.micro.iw)) 0 14 → x.micro.handler = none →
    x.micro.upset = none → x.micro.stalled = false → nanoMode s.core w.val = false →
    x.micro.cycles + 4 ≤ windowCycles x → x.micro.nxt < d.imageGranules →
    (iwOpcode x.micro.iw = 0 → ∃ c, Makes (.nop w) s c ∧ (getW c w.val).micro.phase = .ended ∧ (getW c w.val).micro.nxt = x.micro.nxt ∧
      (getW c w.val).stopReq = x.stopReq ∧ (getW c w.val).trgo = x.trgo ∧ c.regs = s.core.regs) ∧
    (iwOpcode x.micro.iw = 2 → iwTarget x.micro.iw < d.imageGranules → ∃ c, Makes (.jmp w) s c ∧ (getW c w.val).micro.phase = .ended ∧
      (getW c w.val).micro.nxt = iwTarget x.micro.iw ∧ (getW c w.val).stopReq = x.stopReq ∧ c.regs = s.core.regs) ∧
    (iwOpcode x.micro.iw = 0xF → ∃ c, Makes (.trig w) s c ∧ (getW c w.val).micro.phase = .ended ∧
      (getW c w.val).micro.nxt = x.micro.nxt ∧ (getW c w.val).trgo = x.trgo ||| iwTarget x.micro.iw % 256 ∧
      (getW c w.val).stopReq = x.stopReq ∧ c.regs = s.core.regs)

/-- O36. A legal word without a WAIT writes register A: MOV and, with T at 1, MOVT the value of B; LDI the immediate and LDIS A
shifted left by ten with the immediate; ADD, SUB, AND, OR and XOR of A and B; ADDI the sum of A and the sign-extended
immediate; SHL and SHR A shifted by IMM[5:0]; all modulo 2^64, with the cycles of the word passed and the next word due.
(R127) -/
def Obligations.MicrowordArithmetic : Prop :=
  ∀ (s : State) (w : Fin 64) (m : MicroArgs),
    let c := atWord s.core w.val
    (WordRuns s.core w.val (wordOf 0x04 m) → Makes (.mov w m) s (wordEnd (regWrite c w.val m.a.toNat (regRead c w.val m.b.toNat)) w.val (m.cyc.toNat + 1))) ∧
    (WordRuns s.core w.val (wordOf 0x05 m) → Makes (.movt w m) s (wordEnd (if (getW c w.val).micro.t then regWrite c w.val m.a.toNat (regRead c w.val m.b.toNat) else c) w.val (m.cyc.toNat + 1))) ∧
    (WordRuns s.core w.val (wordOf 0x06 m) → Makes (.ldi w m) s (wordEnd (regWrite c w.val m.a.toNat (m.imm.toNat)) w.val (m.cyc.toNat + 1))) ∧
    (WordRuns s.core w.val (wordOf 0x07 m) → Makes (.ldis w m) s (wordEnd (regWrite c w.val m.a.toNat (regRead c w.val m.a.toNat * 1024 ||| m.imm.toNat)) w.val (m.cyc.toNat + 1))) ∧
    (WordRuns s.core w.val (wordOf 0x08 m) → Makes (.add w m) s (wordEnd (regWrite c w.val m.a.toNat (regRead c w.val m.a.toNat + regRead c w.val m.b.toNat)) w.val (m.cyc.toNat + 1))) ∧
    (WordRuns s.core w.val (wordOf 0x09 m) → Makes (.sub w m) s (wordEnd (regWrite c w.val m.a.toNat (regRead c w.val m.a.toNat + 2 ^ 64 - regRead c w.val m.b.toNat)) w.val (m.cyc.toNat + 1))) ∧
    (WordRuns s.core w.val (wordOf 0x0A m) → Makes (.addi w m) s (wordEnd (regWrite c w.val m.a.toNat (ofSigned 64 ((regRead c w.val m.a.toNat : Int) + toSigned 10 m.imm.toNat))) w.val (m.cyc.toNat + 1))) ∧
    (WordRuns s.core w.val (wordOf 0x0B m) → Makes (.and w m) s (wordEnd (regWrite c w.val m.a.toNat (regRead c w.val m.a.toNat &&& regRead c w.val m.b.toNat)) w.val (m.cyc.toNat + 1))) ∧
    (WordRuns s.core w.val (wordOf 0x0C m) → Makes (.or w m) s (wordEnd (regWrite c w.val m.a.toNat (regRead c w.val m.a.toNat ||| regRead c w.val m.b.toNat)) w.val (m.cyc.toNat + 1))) ∧
    (WordRuns s.core w.val (wordOf 0x0D m) → Makes (.xor w m) s (wordEnd (regWrite c w.val m.a.toNat (regRead c w.val m.a.toNat ^^^ regRead c w.val m.b.toNat)) w.val (m.cyc.toNat + 1))) ∧
    (WordRuns s.core w.val (wordOf 0x0E m) → Makes (.shl w m) s (wordEnd (regWrite c w.val m.a.toNat (regRead c w.val m.a.toNat * 2 ^ (m.imm.toNat % 64))) w.val (m.cyc.toNat + 1))) ∧
    (WordRuns s.core w.val (wordOf 0x0F m) → Makes (.shr w m) s (wordEnd (regWrite c w.val m.a.toNat (regRead c w.val m.a.toNat / 2 ^ (m.imm.toNat % 64))) w.val (m.cyc.toNat + 1)))

/-- O37. NOP only takes its cycles; TEQ, TLT, TBIT and TST set T; BRC and JMPR lead to a word of their region or, untaken, to
the next; CSTEP loads an inactive counter and counts an active one down, with T telling whether it goes on; CCLR clears it;
PUSH and POP use a stack of 16; DONE ends the instruction; TRET ends the handler and the window goes on; an illegal word
abandons the microprogram and asks for a stop with cause 2 at the end of the granule. (R123, R126, R127, R128, R129) -/
def Obligations.MicrowordTestsAndFlow : Prop :=
  ∀ (s : State) (w : Fin 64) (m : MicroArgs),
    let c := atWord s.core w.val
    (WordRuns s.core w.val (wordOf 0x00 m) → Makes (.microNop w m) s (wordEnd (c) w.val (m.cyc.toNat + 1))) ∧
    (WordRuns s.core w.val (wordOf 0x10 m) → Makes (.teq w m) s (wordEnd (setT c w.val (regRead c w.val m.a.toNat == regRead c w.val m.b.toNat)) w.val (m.cyc.toNat + 1))) ∧
    (WordRuns s.core w.val (wordOf 0x11 m) → Makes (.tlt w m) s (wordEnd (setT c w.val (decide (regRead c w.val m.a.toNat < regRead c w.val m.b.toNat))) w.val (m.cyc.toNat + 1))) ∧
    (WordRuns s.core w.val (wordOf 0x12 m) → Makes (.tbit w m) s (wordEnd (setT c w.val (bit (regRead c w.val m.a.toNat) (m.imm.toNat % 64))) w.val (m.cyc.toNat + 1))) ∧
    (WordRuns s.core w.val (wordOf 0x13 m) → m.a.toNat ≠ 8 → Makes (.tst w m) s (wordEnd (setT c w.val (condHolds c w.val m.a.toNat)) w.val (m.cyc.toNat + 1))) ∧
    (WordRuns s.core w.val (wordOf 0x13 m) → m.a.toNat = 8 → Makes (.tst w m) s (wordEnd (sampleMto (modW (setT c w.val (condHolds c w.val 8)) w.val (fun x => { x with mto := false })) w.val) w.val (m.cyc.toNat + 1))) ∧
    (WordRuns s.core w.val (wordOf 0x14 m) → condHolds c w.val m.a.toNat = false → Makes (.brc w m) s (wordEnd (c) w.val (m.cyc.toNat + 1))) ∧
    (WordRuns s.core w.val (wordOf 0x14 m) → condHolds c w.val m.a.toNat = true → Makes (.brc w m) s (modM (spend c w.val (m.cyc.toNat + 1)) w.val (fun y => { y with upc := (((getW c w.val).micro.upc : Int) + toSigned 10 m.imm.toNat).toNat }))) ∧
    (WordRuns s.core w.val (wordOf 0x15 m) → (csRegion (nanoMode s.core w.val) (getW s.core w.val).micro.upc).1 ≤ regRead c w.val m.b.toNat % 2 ^ 13 → regRead c w.val m.b.toNat % 2 ^ 13 ≤ (csRegion (nanoMode s.core w.val) (getW s.core w.val).micro.upc).2 → Makes (.jmpr w m) s (modM (spend c w.val (m.cyc.toNat + 1)) w.val (fun y => { y with upc := regRead c w.val m.b.toNat % 2 ^ 13 }))) ∧
    (WordRuns s.core w.val (wordOf 0x16 m) → (ctrOf c w.val m.a.toNat).active = false → Makes (.cstep w m) s (wordEnd (setT (setCtr c w.val m.a.toNat { value := regRead c w.val m.b.toNat % 2 ^ 18, active := true, owner := (getW c w.val).k }) w.val true) w.val (m.cyc.toNat + 1))) ∧
    (WordRuns s.core w.val (wordOf 0x16 m) → (ctrOf c w.val m.a.toNat).active = true → (ctrOf c w.val m.a.toNat).owner = (getW c w.val).k → 1 < (ctrOf c w.val m.a.toNat).value → Makes (.cstep w m) s (wordEnd (setT (setCtr c w.val m.a.toNat { ctrOf c w.val m.a.toNat with value := (ctrOf c w.val m.a.toNat).value - 1 }) w.val true) w.val (m.cyc.toNat + 1))) ∧
    (WordRuns s.core w.val (wordOf 0x16 m) → (ctrOf c w.val m.a.toNat).active = true → (ctrOf c w.val m.a.toNat).owner = (getW c w.val).k → (ctrOf c w.val m.a.toNat).value ≤ 1 → Makes (.cstep w m) s (wordEnd (setT (setCtr c w.val m.a.toNat {}) w.val false) w.val (m.cyc.toNat + 1))) ∧
    (WordRuns s.core w.val (wordOf 0x17 m) → Makes (.cclr w m) s (wordEnd (setCtr c w.val m.a.toNat {}) w.val (m.cyc.toNat + 1))) ∧
    (WordRuns s.core w.val (wordOf 0x18 m) → (getW c w.val).stack.length < 16 → Makes (.push w m) s (wordEnd (setW c w.val { getW c w.val with stack := (getW c w.val).stack ++ [regRead c w.val m.b.toNat % 2 ^ 26] }) w.val (m.cyc.toNat + 1))) ∧
    (∀ (l : List Nat) (v : Nat), WordRuns s.core w.val (wordOf 0x19 m) → (getW c w.val).stack = l ++ [v] → Makes (.pop w m) s (wordEnd (regWrite (setW c w.val { getW c w.val with stack := l }) w.val m.a.toNat v) w.val (m.cyc.toNat + 1))) ∧
    (WordRuns s.core w.val (wordOf 0x01 m) → Makes (.done w m) s (finishInstr (spend c w.val (m.cyc.toNat + 1)) w.val)) ∧
    (∀ n, emitting s.core w.val = true → (getW s.core w.val).micro.phase = .running → (getW s.core w.val).micro.handler = some n → m.wait = 0 → (getW s.core w.val).micro.stalled = false →
      (getW s.core w.val).micro.cycles + m.cyc.toNat + 1 ≤ windowCycles (getW s.core w.val) →
      Makes (.tret w m) s (resume (modM (spend c w.val (m.cyc.toNat + 1)) w.val (fun y => { y with handler := none, prog := false })) w.val)) ∧
    (emitting s.core w.val = true → (getW s.core w.val).micro.phase = .running → (getW s.core w.val).micro.prog = true → (getW s.core w.val).micro.stalled = false →
      Makes (.ill w m) s (requestStop (modM s.core w.val (fun y => { y with phase := .abandoned, handler := none })) w.val 2
        (granuleEndOf (getW s.core w.val))))

/-- O38. STAIL marks the tail once, and before granule 13 asks for a stop with cause 5; FCLR clears the fail accumulators, MCLR
the match latches and MC; MTOUT sets MTO and queues a MATCH_TIMEOUT record for the sites whose latch is clear; SOFF names
sites to switch off; PECQ queues a list; REC queues a record of the enabled sites, but none in a hold granule; TRGS adds
trigger outputs; ECFG sets a detector to its source with the present level and no flag; ETST tests its flag into T; EACK
clears it unless its edge came in the same cycle. (R91, R92, R99, R127, R134, R177, R216) -/
def Obligations.MicrowordSegmentEffects : Prop :=
  ∀ (s : State) (w : Fin 64) (m : MicroArgs),
    let c := atWord s.core w.val
    let x := getW c w.val
    (WordRuns s.core w.val (wordOf 0x1A m) → x.inHold = false → x.tailed = false → 12 < x.e → Makes (.stail w m) s (wordEnd (setW c w.val { x with tailed := true }) w.val (m.cyc.toNat + 1))) ∧
    (WordRuns s.core w.val (wordOf 0x1A m) → x.inHold = false → x.tailed = false → x.e ≤ 12 → Makes (.stail w m) s (wordEnd (requestStop (setW c w.val { x with tailed := true }) w.val 5 (granuleEndOf x)) w.val (m.cyc.toNat + 1))) ∧
    (WordRuns s.core w.val (wordOf 0x1A m) → (x.inHold = true ∨ x.tailed = true) → Makes (.stail w m) s (wordEnd (c) w.val (m.cyc.toNat + 1))) ∧
    (WordRuns s.core w.val (wordOf 0x1B m) → Makes (.fclr w m) s (wordEnd (setW c w.val { x with acc := 0 }) w.val (m.cyc.toNat + 1))) ∧
    (WordRuns s.core w.val (wordOf 0x1C m) → Makes (.mclr w m) s (wordEnd (setW c w.val { x with mc := {}, latch := [] }) w.val (m.cyc.toNat + 1))) ∧
    (WordRuns s.core w.val (wordOf 0x1D m) → Makes (.mtout w m) s (wordEnd (opMtout c w.val) w.val (m.cyc.toNat + 1))) ∧
    (WordRuns s.core w.val (wordOf 0x1E m) → Makes (.soff w m) s (wordEnd (setW c w.val { x with off := x.off ||| regRead c w.val m.b.toNat % 256 }) w.val (m.cyc.toNat + 1))) ∧
    (WordRuns s.core w.val (wordOf 0x1F m) → (getW s.core w.val).lists.length < 16 → regRead c w.val m.b.toNat % 2 ^ 16 ≠ 0 → Makes (.pecq w m) s (wordEnd (setW c w.val { x with lists := x.lists ++ [regRead c w.val m.b.toNat % 2 ^ 16] }) w.val (m.cyc.toNat + 1))) ∧
    (WordRuns s.core w.val (wordOf 0x20 m) → (getW s.core w.val).recq.length < 8 → x.inHold = false → Makes (.recq w m) s (wordEnd (setW c w.val { x with recq := x.recq ++ [{ kind := 4 + m.a.toNat, value := regRead c w.val m.b.toNat % 2 ^ 44, sites := sitesReg c w.val }] }) w.val (m.cyc.toNat + 1))) ∧
    (WordRuns s.core w.val (wordOf 0x20 m) → (getW s.core w.val).recq.length < 8 → x.inHold = true → Makes (.recq w m) s (wordEnd (c) w.val (m.cyc.toNat + 1))) ∧
    (WordRuns s.core w.val (wordOf 0x21 m) → Makes (.trgs w m) s (wordEnd (setW c w.val { x with trgo := x.trgo ||| regRead c w.val m.b.toNat % 256 }) w.val (m.cyc.toNat + 1))) ∧
    (WordRuns s.core w.val (wordOf 0x22 m) → Makes (.ecfg w m) s (wordEnd (setW c w.val { x with eds := mset {} x.eds m.a.toNat { src := regRead c w.val m.b.toNat % 2 ^ 16, edge := m.imm.toNat % 4, last := edgeLevel c w.val (regRead c w.val m.b.toNat % 2 ^ 16), flag := false } }) w.val (m.cyc.toNat + 1))) ∧
    (WordRuns s.core w.val (wordOf 0x23 m) → Makes (.etst w m) s (wordEnd (setT c w.val (mget {} x.eds m.a.toNat).flag) w.val (m.cyc.toNat + 1))) ∧
    (WordRuns s.core w.val (wordOf 0x24 m) → Makes (.eack w m) s (wordEnd (setW c w.val { x with eds := mmod {} x.eds m.a.toNat (fun e => { e with flag := e.flag && e.edgeAt == some c.time }) }) w.val (m.cyc.toNat + 1)))

/-- O39. Time passes to the expiry of a running micro-timer; NANO_MODE loads the running microcode in its mode, fills the nano
store and clears the shadow bank; SHADOW_SLOT of a valid slot loads the shadow bank, which reads READY or, after a failed
read-back, ERROR; an acceptable USER_UCODE goes to the READY shadow bank; EXCHANGE swaps the banks at once in IDLE and
STOPPED and waits otherwise. (R131, R132, R133, R138, R143, R144, R145) -/
def Obligations.ControlStoreObjects : Prop :=
  (∀ (s : State) (w : Fin 64) (n : Fin 8), emitting s.core w.val = true → mget 0 (getW s.core w.val).micro.mt n.val ≠ 0 → clockBit s.core 4 = true →
    Makes (.microTimerExpiry w n) s (elapse s.core (mget 0 (getW s.core w.val).micro.mt n.val))) ∧
  (∀ (s : State) (w : Fin 64) (v : Byte), Open s.core → InModes s.core [.standby, .warm] → v.toNat ≤ 1 → ∃ c, Accepts (.nanoMode w v) s c ∧
    rd c (wk w.val 0xC) = v.toNat ∧ rd c (wk w.val 0xE) = 0 ∧ rd c (wk w.val 0x12) = 0 ∧ rd c (wk w.val 0x17) = 0 ∧
    activeCs c w.val = (if rd s.core (mkKey 0x100A 1) = 0 then {} else vendorBank (rd s.core (mkKey 0x100A 2)) (v.toNat == 1)) ∧ shadowCs c w.val = {} ∧
    (v.toNat = 1 → (getW c w.val).nano = horotNano) ∧
    SameRegsBut [wk w.val 0xC, wk w.val 0xE, wk w.val 0x12, wk w.val 0x17] s.core c) ∧
  (∀ (s : State) (w : Fin 64) (v : Byte) (good : Bool), Open s.core → v.toNat ≤ 1 → rd s.core (wk w.val 0x12) ≠ 1 → ucodeValid s.core v.toNat = true →
    (nanoMode s.core w.val = false ∨ (getW s.core w.val).nanoSlot = some v.toNat) → ∃ c, Accepts (.shadowSlot w v good) s c ∧ rd c (wk w.val 0xF) = v.toNat ∧ rd c (wk w.val 0xE) = (if good then 1 else 2) ∧
      shadowCs c w.val = vendorBank v.toNat (nanoMode s.core w.val) ∧ activeCs c w.val = activeCs s.core w.val ∧ SameRegsBut [wk w.val 0xF, wk w.val 0xE] s.core c) ∧
  (∀ (s : State) (w : Fin 64) (data : List Byte), Open s.core → userPartOk data = true → rd s.core (wk w.val 0xE) = 1 → rd s.core (wk w.val 0x12) ≠ 1 →
    nanoMode s.core w.val = false → Accepts (.userUcode w data) s (setShadowCs s.core w.val (withUser (shadowCs s.core w.val)
      ((List.range 32).map (fun i => leAt data (2 * i) 2)) ((List.range 8).map (fun i => leAt data (64 + 2 * i) 2)) (userWords data)))) ∧
  (∀ (s : State) (w : Fin 64), Open s.core → rd s.core (wk w.val 0xE) = 1 → (wState s.core w.val = 0 ∨ wState s.core w.val = 4) →
    Accepts (.exchange w) s (swapBanks s.core w.val)) ∧
  (∀ (s : State) (w : Fin 64), Open s.core → rd s.core (wk w.val 0xE) = 1 → wState s.core w.val ≠ 0 → wState s.core w.val ≠ 4 →
    Accepts (.exchange w) s (wr s.core (wk w.val 0x12) 1))

/-- O40. A comparator change at an ISOLATED pin only moves the level at the ball as POLARITY inverts it; at another pin a level
that differs from the last accepted one is accepted at its own instant with GLITCH_W 0 and else waits for the filter, which
accepts it GLITCH_W ticks later; the end of a hold-off changes no register and no pin; an acceptable TSET_SHADOW becomes the
shadow bank, a failing one sets TSET_ERROR only; TSET_COMMIT swaps the banks at once on a pin without a running Weaver and
else waits; STICKY_CLR clears the bits of its mask. (R159, R160, R163, R164, R169, R475) -/
def Obligations.ComparatorsAndPinObjects : Prop :=
  (∀ (s : State) (p : Fin 256) (lv : Bool) (t : BitVec 64), rd s.core (pk p.val 9) = 0 →
    (∃ c, Makes (.comparatorChange p .high lv t) s c ∧ (getPin c p.val).rawH = (lv != bit (rd s.core (pk p.val 3)) 2) ∧
      (getPin c p.val).rawL = (getPin s.core p.val).rawL ∧ (getPin c p.val).history = (getPin s.core p.val).history ∧ c.regs = s.core.regs) ∧
    (∃ c, Makes (.comparatorChange p .low lv t) s c ∧ (getPin c p.val).rawL = (lv != bit (rd s.core (pk p.val 3)) 3) ∧
      (getPin c p.val).rawH = (getPin s.core p.val).rawH ∧ (getPin c p.val).history = (getPin s.core p.val).history ∧ c.regs = s.core.regs)) ∧
  (∀ (s : State) (p : Fin 256) (line : CmpLine) (lv : Bool) (t : BitVec 64),
    let x := getPin s.core p.val
    let at_ := nearInstant s.core.stamp (2 ^ 64) t.toNat
    let new := polarLevel s.core p.val line lv
    rd s.core (pk p.val 9) ≠ 0 → candOf x line = none → lastAccepted x line ≠ new → ∃ c, Makes (.comparatorChange p line lv t) s c ∧ c.regs = s.core.regs ∧
      (glitchOf s.core p.val = 0 → candOf (getPin c p.val) line = none ∧
        (getPin c p.val).history = x.history ++ [{ at_ := at_, line := line, level := new }]) ∧
      (glitchOf s.core p.val ≠ 0 → candOf (getPin c p.val) line = some (at_, new) ∧ (getPin c p.val).history = x.history)) ∧
  (∀ (s : State) (p : Fin 256) (line : CmpLine) (t : Nat) (lv : Bool), candOf (getPin s.core p.val) line = some (t, lv) →
    ∃ c, Makes (.glitchFilterAccept p line) s c ∧ candOf (getPin c p.val) line = none ∧ c.regs = s.core.regs ∧
      (getPin c p.val).history = (getPin s.core p.val).history ++ [{ at_ := t, line := line, level := lv }] ∧
      (clockBit s.core 5 = true → t + glitchOf s.core p.val < c.stamp + 4096)) ∧
  (∀ (s : State) (p : Fin 256) (e : Nat), holdoffEndOf s.core p.val = some e → ∃ c, Makes (.holdoffEnd p) s c ∧ c.pins = s.core.pins ∧
    c.regs = s.core.regs ∧ (clockBit s.core 5 = true → e < c.stamp + 4096)) ∧
  (∀ (s : State) (p : Fin 256) (data : List Byte), Open s.core → data.length = 4096 → badTset data 64 = none → rd s.core (tk p.val 4) ≠ 1 →
    ∃ c, Accepts (.tsetShadow p data) s c ∧ shadowBank c p.val = data ∧ activeBank c p.val = activeBank s.core p.val ∧
      rd c (tk p.val 6) = 0xFF ∧ SameRegsBut [tk p.val 6] s.core c) ∧
  (∀ (s : State) (p : Fin 256) (data : List Byte) (n : Nat) (st : Status), Open s.core → data.length = 4096 → badTset data 64 = some (n, st) →
    Makes (.tsetShadow p data) s { wr s.core (tk p.val 6) n with status := st }) ∧
  (∀ (s : State) (p : Fin 256),
    let w := quadWeaver s.core (p.val / 4)
    Open s.core → rd s.core (tk p.val 5) ≤ 1 →
    ((64 ≤ w ∨ wState s.core w = 0 ∨ wState s.core w = 4) → ∃ c, Accepts (.tsetCommit p) s c ∧ activeBank c p.val = shadowBank s.core p.val ∧
      shadowBank c p.val = activeBank s.core p.val ∧ rd c (tk p.val 4) = 0 ∧ rd c (tk p.val 7) = (rd s.core (tk p.val 7) + 1) % 2 ^ 64 ∧
      SameRegsBut [tk p.val 4, tk p.val 5, tk p.val 7] s.core c) ∧
    (w < 64 → wState s.core w ≠ 0 → wState s.core w ≠ 4 → Accepts (.tsetCommit p) s (wr s.core (tk p.val 4) 1))) ∧
  (∀ (s : State) (p : Fin 256) (mask : BitVec 32), Open s.core →
    Accepts (.stickyClr p mask) s (wr s.core (pk p.val 0xA) (clearBits (rd s.core (pk p.val 0xA)) mask.toNat)))

/-- O41. A sound LIST_STORE is taken with STORE_ERROR 0xFFFF, one with a failing directory entry sets STORE_ERROR to it and
nothing else; ISSUE puts a list at the end of a port's queue of 64, or is refused; a Weaver's first list enters every port
that holds it once all have room, before lists of the same instant that rank behind it; a port starts the first list of its
queue once its CS_GAP has ended, or drops one its store lacks; a frame that ends has gone out in its mode with its bits in
their order and leads to the next one after CS_GAP, or ends the list with CS_N high and LISTS_ISSUED counted, and with RD
set its bits become READBACK. (R173, R174, R175, R177) -/
def Obligations.ControlPorts : Prop :=
  (∀ (s : State) (k : Fin 16) (data : List Byte), Open s.core → 8 ≤ data.length → data.length ≤ 65536 → leAt data 0 4 ≤ 4096 →
    leAt data 4 4 = 0 → 8 + 8 * leAt data 0 4 ≤ data.length →
    (firstBadEntry data (leAt data 0 4) = none →
      Accepts (.listStore k data) s (setDom (wr s.core (ck k.val 6) 0xFFFF) (ck k.val 5) data)) ∧
    (∀ i, firstBadEntry data (leAt data 0 4) = some i →
      Makes (.listStore k data) s { wr s.core (ck k.val 6) i with status := stOutOfRange })) ∧
  (∀ (s : State) (k : Fin 16) (n : BitVec 16),
    let p := getPec s.core k.val
    Open s.core → InModes s.core [.standby, .warm, .calibrate, .run, .service] → n ≠ 0 →
    (p.queue.length < 64 → Accepts (.issue k n) s (setPec s.core k.val { p with queue := p.queue ++ [{ list := n.toNat, source := .host, since := s.core.time }] })) ∧
    (64 ≤ p.queue.length → Makes (.issue k n) s { s.core with status := stStateConflict })) ∧
  (∀ (s : State) (w : Fin 64) (n : Nat) (rest : List Nat),
    let x := getW s.core w.val
    x.lists = n :: rest → x.micro.stalled = false →
    ((∀ k ∈ portsOf s.core w.val n, (getPec s.core k).queue.length < 64) → ∃ c, Makes (.pecQueueTransfer w) s c ∧
      (∀ k ∈ portsOf s.core w.val n, getPec c k = { getPec s.core k with queue := insertList { list := n, source := .weaver w.val, since := s.core.time } (getPec s.core k).queue }) ∧
      (∀ k, k ∉ portsOf s.core w.val n → getPec c k = getPec s.core k) ∧ c.regs = s.core.regs ∧
      getW c w.val = { x with lists := rest ++ x.listsWaiting.take (16 - rest.length), listsWaiting := x.listsWaiting.drop (16 - rest.length) }) ∧
    ((∃ k ∈ portsOf s.core w.val n, 64 ≤ (getPec s.core k).queue.length) → Makes (.pecQueueTransfer w) s s.core)) ∧
  (∀ (s : State) (k : Fin 16) (e : PortList) (rest : List PortList),
    let p := getPec s.core k.val
    let c := elapseUntil s.core p.gapEnd
    p.active = none → p.queue = e :: rest →
    (∀ off frames, findList (listStore s.core k.val) e.list = some (off, frames) → Makes (.pecListStart k) s
      (setPec c k.val { p with queue := rest, active := some (listStore s.core k.val, off, frames), csHigh := false, falls := c.time })) ∧
    (findList (listStore s.core k.val) e.list = none → Makes (.pecListStart k) s (setPec c k.val { p with queue := rest }))) ∧
  (∀ (s : State) (k : Fin 16) (store : List Byte) (off left : Nat) (sdi : List Bool),
    let p := getPec s.core k.val
    let h := leAt store off 4
    let n := bits h 0 13
    let mode := rd s.core (ck k.val 2)
    let rises := p.falls + (rd s.core (ck k.val 3) + n) * sckPeriod s.core k.val
    let gap := rises + rd s.core (ck k.val 4) * sckPeriod s.core k.val
    p.active = some (store, off, left) → ∃ c, Makes (.pecFrameComplete k sdi) s c ∧
      Out.pecFrame k.val p.falls rises (bit mode 1) (bit mode 0) (rd s.core (ck k.val 3)) (sckPeriod s.core k.val)
        (sentBits (bit mode 2) (slice store (off + 4) (ceilDiv n 8)) n) ∈ c.outbox ∧
      (left ≤ 1 → getPec c k.val = { p with active := none, csHigh := true, gapEnd := gap }) ∧
      (1 < left → getPec c k.val = { p with active := some (store, off + frameBytes n, left - 1), csHigh := decide (c.time < gap), falls := gap, gapEnd := gap }) ∧
      rd c (ck k.val 9) = (if left = 1 then (rd s.core (ck k.val 9) + 1) % 2 ^ 64 else rd s.core (ck k.val 9)) ∧
      (bit h 13 = false → c.doms = s.core.doms ∧ rd c (ck k.val 0xC) = rd s.core (ck k.val 0xC)) ∧
      (bit h 13 = true → sdi.length = n → rd c (ck k.val 0xC) = (rd s.core (ck k.val 0xC) + 1) % 2 ^ 64 ∧
        dom c (ck k.val 0xB) = packSent (bit mode 2) sdi) ∧
      SameRegsBut [ck k.val 9, ck k.val 0xC] s.core c)

/-- O42. The end of a round with tracking on takes, in CALIBRATE, what the calibration source gives it, adds to each drift the
mean of the 64 or more residuals of its path and clears the residuals, counts the round in RUN and CALIBRATE where it
counts, and starts a rebuild if some pin wants one; the end of a rebuild raises GENERATION, sets SWAP_READY of the running
and grouped Weavers and swaps the banks of unassigned pins; a wait beyond SWAP_TIMEOUT is counted and raises source 288 at
L1 once; GROUP_EPOCH takes 0 or, with a device ID, an epoch at least two ahead, and a held rebuild may then start; CAL_START
sets CAL_STATUS 1; a calibration whose coarse tables are valid ends with CAL_STATUS 2, the drifts cleared and its deltas
staged, another with CAL_STATUS 3; FIELD_COMMIT takes the staged set only after a calibration; TAP_QUERY decomposes its time
with the active bank. (R190, R191, R192, R193, R195, R197, R199, R200, R202) -/
def Obligations.CalibrationCommands : Prop :=
  (∀ s : State, rd s.core (gk 1) ≠ 1 → Makes .trackerRoundEnd s s.core) ∧
  (∀ s : State, rd s.core (gk 1) = 1 →
    let c := if inMode s.core .calibrate then takeSources s.core else s.core
    ∃ b, Makes .trackerRoundEnd s (if (List.range 256).any (wantsRebuild b) then startRebuild b else startHeld b) ∧
    ∀ p : Fin 256, (getPin b p.val).resid = [] ∧ (getPin b p.val).used = 0 ∧ (getPin b p.val).eye = [] ∧
      rd b (mkKey (0x3200 + p.val) 2) =
        (if roundCounts (getPin c p.val) && inModes c [.run, .calibrate] then (rd s.core (mkKey (0x3200 + p.val) 2) + 1) % 2 ^ 32 else rd s.core (mkKey (0x3200 + p.val) 2)) ∧
      (mwf (getPin c p.val).resid = true → ∀ path : Nat,
        let r := mget {} (getPin c p.val).resid path
        mget 0 (getPin b p.val).drift path = mget 0 (getPin c p.val).drift path + (if 64 ≤ r.n then roundDiv r.sum r.n else 0))) ∧
  (∀ s : State, s.core.cal.rebuilding.isSome = true → s.core.cal.rebuildAgain = false → ∃ c, Makes .rebuildComplete s c ∧
    rd c (gk 8) = (rd s.core (gk 8) + 1) % 2 ^ 32 ∧ c.cal.rebuilding = none ∧ SameRegsBut [gk 4, gk 8] s.core c ∧
    (∀ w : Fin 64, quadsOf s.core w.val ≠ [] →
      bit (rd c (gk 4)) w.val = (inSwapGroup s.core w.val || (wState s.core w.val != 0 && wState s.core w.val != 4))) ∧
    (∀ p : Fin 256, 64 ≤ quadWeaver s.core (p.val / 4) → (activeCorr (getPin s.core p.val)).gen < (shadowCorr (getPin s.core p.val)).gen →
      activeCorr (getPin c p.val) = shadowCorr (getPin s.core p.val))) ∧
  (∀ (s : State) (w : Fin 64), bit (rd s.core (gk 4)) w.val = true → (getW s.core w.val).swapRaised = false →
    ∃ x, Makes (.swapTimeout w) s (raise x 288 1 w.val) ∧ (getW x w.val).swapRaised = true ∧
      rd x (gk 0x10) = (rd s.core (gk 0x10) + 1) % 2 ^ 64 ∧ SameRegsBut [gk 0x10] s.core x) ∧
  (∀ (s : State) (e : BitVec 64), Open s.core →
    ((e = 0 ∨ epochNow s.core + 2 ≤ e.toNat ∧ e.toNat ≤ epochNow s.core + 2 ^ 32 ∧ noDeviceId s.core = false) →
      Accepts (.groupEpoch e) s (startHeld (wr s.core (gk 0xE) e.toNat))) ∧
    (e ≠ 0 → e.toNat < epochNow s.core + 2 → Makes (.groupEpoch e) s { s.core with status := stEpochPast }) ∧
    (epochNow s.core + 2 ^ 32 < e.toNat → Makes (.groupEpoch e) s { s.core with status := stEpochTooFar })) ∧
  (∀ s : State, Open s.core → InModes s.core [.calibrate] → ∃ c, Accepts .calStart s c ∧ rd c (gk 7) = 1 ∧ c.cal.fgRunning = true ∧
    c.cal.fgCold = !refwarm s.core ∧ SameRegsBut [gk 7] s.core c) ∧
  (∀ (s : State) (rs : List CalResult), s.core.cal.fgRunning = true →
    let bad := rs.filter (fun r => !((List.range 8).all (fun g => coarseValid (r.coarse.getD g []))))
    ∃ b, Makes (.foregroundCalComplete rs) s (startRebuild (raiseGroups b (bad.foldl (fun m r => setBit m (r.pin.val / 16)) 0) 1)) ∧
      b.cal.fgRunning = false ∧ b.cal.source = rs.flatMap (fun r => r.source.map (fun e => (r.pin.val, e))) ∧ b.cal.sourceRound = 0 ∧
      (∀ p : Fin 256, (getPin b p.val).drift = []) ∧ rd b (gk 7) = (if bad = [] then 2 else 3) ∧
      (bad ≠ [] → b.cal.fgDone = s.core.cal.fgDone ∧ ∀ p : Fin 256, (getPin b p.val).staged = (getPin s.core p.val).staged) ∧
      (bad = [] → b.cal.fgDone = true ∧ ∀ r ∈ rs, (∀ o ∈ rs, o.pin = r.pin → o = r) → rd b (mkKey (0x3200 + r.pin.val) 5) = r.eye.toNat ∧
        ∀ path < 20, mget 0 (getPin b r.pin.val).staged path =
          r.offsets.getD path 0 - interpAt r.tempMc (fun i => Config.factoryOffset r.pin.val i path))) ∧
  (∀ s : State, Open s.core → InModes s.core [.calibrate] →
    (s.core.cal.fgDone = true → ∃ c, Accepts .fieldCommit s c ∧ c.regs = s.core.regs ∧ ∀ p : Fin 256, getPin c p.val =
      { getPin s.core p.val with field := (getPin s.core p.val).staged, fieldCold := (getPin s.core p.val).stagedCold }) ∧
    (s.core.cal.fgDone = false → Makes .fieldCommit s { s.core with status := stStateConflict })) ∧
  (∀ (s : State) (p : Fin 256) (v : BitVec 64), Open s.core → bit v.toNat 39 = false → bits v.toNat 40 5 ≤ 19 → bits v.toNat 45 19 = 0 →
    Accepts (.tapQuery p v) s (wr s.core (mkKey (0x3300 + p.val) 6) (tapWord (activeCorr (getPin s.core p.val)) (bits v.toNat 36 3)
      ((bits v.toNat 0 36 : Nat) + ofsOf (activeCorr (getPin s.core p.val)) (bits v.toNat 40 5)) % 2 ^ 64)))

/-- O43. With nothing staged for a stream, or no room at its destination, RECORD_PLACEMENT changes nothing; a record for its
stream's ring that passes its check is written unit by unit at the ring's next position, each unit at the address of that
position and no other byte, its credit returns and the record may be passed by the journal; one that fails its check leaves
a VOID record in its place, counted and raised; a DIRECT one-unit record stays in the Landing as placed; STREAM_TABLE, a
positive multiple of 32 bytes, is taken whole where each entry is sound and the entries of used streams stand, and else
refused. (R215, R219, R220, R221, R413) -/
def Obligations.RecordsReachTheirPlace : Prop :=
  (∀ (s : State) (n : BitVec 16), nextStaged s.core n.toNat = none → Makes (.recordPlacement n) s s.core) ∧
  (∀ (s : State) (n : BitVec 16) (x : Staged), nextStaged s.core n.toNat = some x → crcOk x.bytes = true → goesToRing x.dest x.bytes = true →
    ringTakes s.core n.toNat (unitsOf x.bytes) = false → Makes (.recordPlacement n) s s.core) ∧
  (∀ (s : State) (n : BitVec 16) (x : Staged), nextStaged s.core n.toNat = some x →
    let e := streamEntry s.core n.toNat
    let bytes := (checkedRecord s.core x).1
    let c := (checkedRecord s.core x).2
    let st := getStream c n.toNat
    let w := storeUnits s.mem c e st.ringPos (ringHint bytes) (unitsOf bytes) bytes
    let c0 := setStream w.2 n.toNat { st with ringPos := (st.ringPos + unitsOf bytes) % max 1 e.ringUnits, ring := st.ring ++ [{ seq := x.seq, pos := st.ringPos, units := unitsOf bytes }] }
    (bytes.length = 32 ∨ bytes.length = 64) → goesToRing x.dest bytes = true → goesToBoom x.dest bytes = false →
    ringTakes s.core n.toNat (unitsOf bytes) = true →
    Gives (.recordPlacement n) s w.1 (reschedule (recordStands (releaseShares
      { c0 with landing := { c0.landing with staged := c0.landing.staged.erase x, held := c0.landing.held - x.credit } }) n.toNat x.seq bytes)) ∧
    ringBytes w.1 e { seq := x.seq, pos := st.ringPos, units := unitsOf bytes } = bytes ∧
    ∀ a, (∀ k < unitsOf bytes, a < ringAddr e (st.ringPos + k) ∨ ringAddr e (st.ringPos + k) + 32 ≤ a) → readByte w.1 a = readByte s.mem a) ∧
  (∀ (s : State) (x : Staged), (crcOk x.bytes = true → checkedRecord s.core x = (x.bytes, s.core)) ∧
    (crcOk x.bytes = false → checkedRecord s.core x =
      (voidRecord s.core x.stream x.seq 1, voided (countCrcFail s.core 0) x.seq [x.weaver]))) ∧
  (∀ (s : State) (n : BitVec 16) (x : Staged), nextStaged s.core n.toNat = some x → crcOk x.bytes = true → x.dest = 0 → recKind x.bytes < 8 →
    Makes (.recordPlacement n) s (reschedule (recordStands (releaseShares { s.core with landing := { s.core.landing with staged := s.core.landing.staged.map (fun y => if y = x then { y with bytes := x.bytes, placed := true } else y) } }) n.toNat x.seq x.bytes))) ∧
  (∀ (s : State) (data : List Byte), Open s.core → data.length ≤ 2097152 → 0 < data.length → data.length % 32 = 0 →
    (streamTableStatus data = none → (∀ n ∈ usedStreams s.core, slice (dom s.core (mkKey 0x5C01 0)) (32 * n) 32 = slice data (32 * n) 32) →
      Accepts (.streamTable data) s (setDom s.core (mkKey 0x5C01 0) data)) ∧
    (streamTableStatus data = none → (∃ n ∈ usedStreams s.core, slice (dom s.core (mkKey 0x5C01 0)) (32 * n) 32 ≠ slice data (32 * n) 32) →
      Makes (.streamTable data) s { s.core with status := stStateConflict }) ∧
    (∀ st, streamTableStatus data = some st → Makes (.streamTable data) s { s.core with status := st }))

/-- O44. Once the journal is closed, or with nothing waiting, JOURNAL_WRITE changes nothing; a record with the carried and the
taken entries goes to the next slot under the next JSEQ, the head moves on modulo 65,536 slots, the taken entries wait no
longer, and the pointers of their streams reach their values; a retried write also raises source 302 at L1, and one that
failed twice only raises it at L3. (R22, R416, R417, R418, R419, R430) -/
def Obligations.JournalRecords : Prop :=
  (∀ (s : State) (a : EmramWrite), s.core.journal.closed = true ∨ s.core.journal.waiting = [] → Makes (.journalWrite a) s s.core) ∧
  (∀ s : State, s.core.journal.closed = false → s.core.journal.waiting ≠ [] → Makes (.journalWrite .failedTwice) s (raise s.core 302 3 0)) ∧
  (∀ (s : State) (j : Journal),
    let carry := carried j.slots j.head
    let taken := takeGroups s.core j.waiting (14 - carry.length) []
    let entries := (carry.filter (fun e => !taken.any (fun t => t.kind == e.kind && t.id == e.id)) ++ taken).take 14
    s.core.journal = j → j.closed = false → j.waiting ≠ [] → entries ≠ [] →
    ∃ c, Makes (.journalWrite .good) s c ∧ Makes (.journalWrite .retried) s (raise c 302 1 0) ∧
      rd c (jo 1) = (rd s.core (jo 1) + 1) % 2 ^ 48 ∧
      c.journal = { j with slots := mset [] j.slots j.head (journalRecord ((rd s.core (jo 1) + 1) % 2 ^ 48) entries), head := (j.head + 1) % journalSlots, waiting := j.waiting.filter (fun e => !taken.contains e) } ∧
      (∀ e ∈ taken, e.kind = 1 → e.value ≤ (getStream c e.id).journal) ∧ c.landing = s.core.landing)

/-- O45. Held records of a bound stream leave in one DATA frame within the window and the port, each after its egress check,
where no retrain keeps its ring waiting; an acceptable OPEN binds the stream to its sender, is answered OK and acts as an
ACK of SEQ - 1, and one below the records held binds it and is answered STALE_SEQUENCE; a cumulative ACK of its bound host
is taken up to the highest sequence sent, ignored below an earlier one and counted above; without booms an ACK frees the
ring units and the credit of the records it covers; a NAK sends again from its SEQ, CLOSE ends the binding, and ACK_TIMEOUT
sends again from the lowest unacknowledged record. (R223, R224, R225, R226, R227) -/
def Obligations.StreamTransportFrames : Prop :=
  (∀ (s : State) (n : BitVec 16) (host : HostAddr) (p : Nat) (h : Held),
    let st := getStream s.core n.toNat
    let top := min st.journal (st.lastAck + st.window)
    let again := decide (heldSeq h ≤ st.everSent)
    let r := gather 256 s.mem s.core n.toNat st.sent top (frameUnits s.core p) again
    let c := r.2.2.2
    st.bound = some host → streamPort s.core (streamEntry s.core n.toNat).port st.eth = some p →
    stStopped s.core = false → (pairState s.core = 5 → (streamEntry s.core n.toNat).mirror = false) → pairState s.core ≠ 4 →
    (s.core.hbm.training = false ∨ st.ring = []) → nextHeld s.core n.toNat st.sent top = some h → r.1 ≠ [] →
    Gives (.stData n) s r.2.2.1 (tallyEvent (sendUdp (modStream c n.toNat (fun st => { st with sent := r.2.1, everSent := max st.everSent r.2.1, eth := p })) p svcSt host
      (dataFrame c (deviceId c) n.toNat (heldSeq h) st.session again false r.1)) 0xDC)) ∧
  (∀ (s : State) (f : StFrame) (key : Option (List Byte)), stAccept s.core stTypeOpen f = .ok key →
    pairState s.core ≠ 4 → forOwn s.core f = true → (authRequired s.core = true → key.isSome = true) →
    let st := getStream s.core f.stream.toNat
    let y := { st with bound := some f.src, session := (if key.isSome then f.session.toNat else 0), eth := f.eth.val, window := f.window.toNat }
    let r := ackStream s.mem (setStream (openReply s.core f key (st.acked + 1) stOk) f.stream.toNat
      { y with sent := f.seq.toNat - 1, everSent := max st.everSent (f.seq.toNat - 1), lastAck := f.seq.toNat - 1 }) f.stream.toNat (f.seq.toNat - 1)
    (st.acked + 1 ≤ f.seq.toNat → f.seq.toNat ≤ st.next → Gives (.stOpen f) s r.1 r.2) ∧
    (f.seq.toNat < st.acked + 1 → Makes (.stOpen f) s (setStream (openReply s.core f key (st.acked + 1) stStaleSequence) f.stream.toNat y))) ∧
  (∀ (s : State) (f : StFrame) (key : Option (List Byte)), stAccept s.core stTypeAck f = .ok key →
    pairState s.core ≠ 4 → forOwn s.core f = true → (authRequired s.core = true → key.isSome = true) →
    let st := getStream s.core f.stream.toNat
    let r := ackStream s.mem (setStream (tallyEvent s.core 0xDE) f.stream.toNat
        { st with lastAck := f.seq.toNat, window := f.window.toNat, sent := max st.sent f.seq.toNat }) f.stream.toNat f.seq.toNat
    st.bound = some f.src →
    (f.seq.toNat < st.lastAck → Makes (.stAck f) s (tallyEvent s.core 0xDE)) ∧
    (st.lastAck ≤ f.seq.toNat → st.everSent < f.seq.toNat → Makes (.stAck f) s (bump (tallyEvent s.core 0xDE) (mkKey 0x5C00 9))) ∧
    (st.lastAck ≤ f.seq.toNat → f.seq.toNat ≤ st.everSent → Gives (.stAck f) s r.1 r.2)) ∧
  (∀ (m : Mem) (c : Core) (n seq : Nat), c.booms = [] → (getStream c n).acked < seq →
    (ackStream m c n seq).1 = m ∧ (getStream (ackStream m c n seq).2 n).acked = seq ∧
    (getStream (ackStream m c n seq).2 n).ring = (getStream c n).ring.filter (fun r => decide (seq < r.seq)) ∧
    (ackStream m c n seq).2.landing.held = c.landing.held -
      ((c.landing.staged.filter (fun x => x.stream == n && x.placed && decide (x.seq ≤ seq))).map Staged.credit).sum) ∧
  (∀ (s : State) (f : StFrame) (key : Option (List Byte)), stAccept s.core stTypeNak f = .ok key → pairState s.core ≠ 4 →
    forOwn s.core f = true → (authRequired s.core = true → key.isSome = true) →
    let st := getStream s.core f.stream.toNat
    st.bound = some f.src →
    (f.seq.toNat ≤ st.everSent → Makes (.stNak f) s (countResend (setStream s.core f.stream.toNat { st with sent := max st.acked (f.seq.toNat - 1) }))) ∧
    (st.everSent < f.seq.toNat → Makes (.stNak f) s s.core)) ∧
  (∀ (s : State) (f : StFrame) (key : Option (List Byte)), stAccept s.core stTypeClose f = .ok key → pairState s.core ≠ 4 →
    forOwn s.core f = true → (authRequired s.core = true → key.isSome = true) →
    let st := getStream s.core f.stream.toNat
    st.bound = some f.src → Makes (.stClose f) s (setStream s.core f.stream.toNat { st with bound := none })) ∧
  (∀ (s : State) (n : BitVec 16),
    let st := getStream s.core n.toNat
    st.bound.isSome = true → st.acked < st.sent →
    Makes (.stAckTimeout n) s (countResend (setStream s.core n.toNat { st with sent := st.acked })))

/-- O46. ARM copies the configuration, starts at the next ns and counts a RUN, unless the channel measures; disarming, a gate
end outside FREQ and a time-out leave the channel IDLE, the first two with an END entry of their cause, unless 256 entries
wait: then the END entry of a disarm waits for a place and the channel stays MEASURING; a gate of FREQ gives the fit of 16
or more stamps, or FREQ_STATUS 2; without a locked stamp clock an edge does nothing; a qualifying edge in STAMP gives a
result with its index and stamp; a waiting entry is stored at RING_BASE plus 32 times RING_WRITE modulo RING_ENTRIES, in no
other byte, and RING_WRITE counts it, unless the ring is full, and an END entry that waited takes its place; CD_START and
the interval start a run on every channel; valid hits make a table, others fail the channel and raise source 289 at L1.
(R232, R235, R236, R237, R239, R242, R243, R244, R249, R250) -/
def Obligations.TimeToDigitalConverters : Prop :=
  (∀ (s : State) (ch : Fin 264), Open s.core → InModes s.core [.warm, .calibrate, .run] → gateOk s.core ch.val = true →
    (measuring s.core ch.val = false → ∃ c, Accepts (.tdcArm ch) s c ∧ rd c (tdk ch.val 0x12) = 1 ∧
      rd c (tdk ch.val 0x13) = (rd s.core (tdk ch.val 0x13) + 1) % 2 ^ 64 ∧ (getTdc c ch.val).cfg = tdcConfig s.core ch.val ∧
      (getTdc c ch.val).arm = (s.core.stamp / 4096 + 1) * 4096 ∧ (getTdc c ch.val).results = 0 ∧ (getTdc c ch.val).edges = 0 ∧
      (getTdc c ch.val).fifo = (getTdc s.core ch.val).fifo ∧ (getTdc c ch.val).armTable = (getTdc s.core ch.val).table ∧
      (getTdc c ch.val).coldRef = !refwarm s.core ∧ (getTdc c ch.val).busyA = (getTdc s.core ch.val).busyA ∧
      (getTdc c ch.val).busyB = (getTdc s.core ch.val).busyB ∧ (getTdc c ch.val).missed = (getTdc s.core ch.val).missed ∧
      (ch.val < 256 → (getPin c ch.val).due = []) ∧ SameRegsBut [tdk ch.val 0x12, tdk ch.val 0x13] s.core c) ∧
    (measuring s.core ch.val = true → Makes (.tdcArm ch) s { s.core with status := stStateConflict })) ∧
  (∀ (s : State) (ch : Fin 264), Open s.core → InModes s.core [.warm, .calibrate, .run] →
    let x := getTdc s.core ch.val
    let last := resultEntry s.core ch.val 0xF 0 3 s.core.stamp x.results
    (live s.core ch.val = true → tdcDue s.core ch.val s.core.stamp = s.core → (x.cfg.ringEntries = 0 ∨ x.fifo.length < 256) →
      ∃ c, Accepts (.tdcDisarm ch) s c ∧ rd c (tdk ch.val 0x12) = 0 ∧
        (getTdc c ch.val).fifo = (if x.cfg.ringEntries = 0 then x.fifo else x.fifo ++ [last]) ∧ SameRegsBut [tdk ch.val 0x12] s.core c) ∧
    (live s.core ch.val = true → tdcDue s.core ch.val s.core.stamp = s.core → x.cfg.ringEntries ≠ 0 → 256 ≤ x.fifo.length →
      Accepts (.tdcDisarm ch) s (setTdc s.core ch.val { x with ending := some last })) ∧
    (live s.core ch.val = false → Accepts (.tdcDisarm ch) s s.core)) ∧
  (∀ (s : State) (e : TdcEdge), stampsRun s.core = false → Makes (.tdcEdge e) s s.core) ∧
  (∀ (s : State) (e : TdcEdge),
    let x := getTdc s.core e.ch.val
    let ns := nearInstant (s.core.stamp / 4096) (2 ^ 52) e.ns.toNat
    let t := stampOf e.ch.val x.armTable 0 ns e.raw.toNat
    let c := elapseTo s.core (ns * 4096)
    let fl := (if x.missed then rfMissed else 0) ||| (if x.coldRef ∨ tableWarming x.armTable then rfWarming else 0) |||
      (if x.armTable = [] then rfFactory else 0)
    stampsRun s.core = true → live s.core e.ch.val = true → x.cfg.mode = 1 → x.cfg.divide = 1 → x.cfg.start = e.source.toNat → e.source ≠ 0 → x.holdStart = none →
    x.busyA = none → x.results + 1 ≠ x.cfg.count → x.fifo.length < 255 →
    bit x.cfg.edge (if e.rising then 0 else 1) = true → x.arm ≤ t → tdcDue c e.ch.val t = c →
    ∃ d, Makes (.tdcEdge e) s d ∧ rd d (tdk e.ch.val 0x14) = t % 2 ^ 64 ∧ rd d (tdk e.ch.val 0x15) = x.edges % 2 ^ 64 ∧ rd d (tdk e.ch.val 0x16) = fl ∧
      SameRegsBut [tdk e.ch.val 0x14, tdk e.ch.val 0x15, tdk e.ch.val 0x16] s.core d ∧ (getTdc d e.ch.val).edges = x.edges + 1 ∧
      (getTdc d e.ch.val).results = x.results + 1 ∧ (getTdc d e.ch.val).missed = false ∧
      (getTdc d e.ch.val).fifo = (if x.cfg.ringEntries = 0 then x.fifo else x.fifo ++ [resultEntry s.core e.ch.val 1 fl x.edges t x.edges])) ∧
  (∀ (s : State) (ch : Fin 264) (g : Nat),
    let x := getTdc s.core ch.val
    live s.core ch.val = true → gateAt x = some g → (x.cfg.ringEntries = 0 ∨ x.fifo.length < 256) → (∀ l, timeoutAt x = some l → g ≤ l) →
    (x.cfg.mode ≠ 5 → ∃ c, Makes (.tdcGateEnd ch) s c ∧ rd c (tdk ch.val 0x12) = 0 ∧
      (getTdc c ch.val).fifo = (if x.cfg.ringEntries = 0 then x.fifo else x.fifo ++ [resultEntry s.core ch.val 0xF 0 1 g x.results]) ∧
      SameRegsBut [tdk ch.val 0x12] s.core c) ∧
    (x.cfg.mode = 5 → ∃ c, Makes (.tdcGateEnd ch) s c ∧ measuring c ch.val = false ∧ rd c (tdk ch.val 0x1C) = x.sums.n % 2 ^ 64 ∧
      rd c (tdk ch.val 0x17) = (if x.sums.n < 16 then 2 else 1) ∧
      (16 ≤ x.sums.n → ∀ v, freqFit x.sums = some v → rd c (tdk ch.val 0x18) = v.1 % 2 ^ 64 ∧ rd c (tdk ch.val 0x19) = v.2.1 % 2 ^ 64 ∧
        rd c (tdk ch.val 0x1A) = v.2.2.1 % 2 ^ 64 ∧ rd c (tdk ch.val 0x1B) = v.2.2.2 % 2 ^ 64))) ∧
  (∀ (s : State) (ch : Fin 264) (l : Nat),
    let x := getTdc s.core ch.val
    live s.core ch.val = true → timeoutAt x = some l → (x.cfg.ringEntries = 0 ∨ x.fifo.length < 256) →
    (∀ g, gateAt x = some g → l < g) → ∃ c, Makes (.tdcTimeout ch) s c ∧ measuring c ch.val = false ∧
      (x.cfg.mode ≠ 4 → (x.cfg.ringEntries = 0 ∨ x.fifo.length < 255) → rd c (tdk ch.val 0x14) = l % 2 ^ 64 ∧
        rd c (tdk ch.val 0x15) = x.cfg.timeout * 4096 % 2 ^ 64 ∧ bit (rd c (tdk ch.val 0x16)) 0 = true)) ∧
  (∀ (s : State) (ch : Fin 264) (e : List Byte) (es : List (List Byte)),
    let x := getTdc s.core ch.val
    let a := x.cfg.ringBase + 32 * (rd s.core (tdk ch.val 0xE) % max 1 x.cfg.ringEntries)
    let c := bump (checkedStore s.mem s.core a e .auto).2 (tdk ch.val 0xE)
    x.fifo = e :: es → e.length = 32 → s.core.hbm.training = false →
    (x.cfg.ringEntries ≠ 0 → rd s.core (tdk ch.val 0xE) - rd s.core (tdk ch.val 0xF) < x.cfg.ringEntries → localMapped s.core a 32 = true →
      (x.ending = none → Gives (.tdcResultWrite ch) s (store s.mem a e) (setTdc c ch.val { x with fifo := es })) ∧
      (∀ last, x.ending = some last → Gives (.tdcResultWrite ch) s (store s.mem a e)
        (wr (setTdc c ch.val { x with fifo := es ++ [last], ending := none }) (tdk ch.val 0x12) 0)) ∧
      readBytes (store s.mem a e) a 32 = e ∧ SameBytesBut a 32 s.mem (store s.mem a e)) ∧
    ((x.cfg.ringEntries = 0 ∨ x.cfg.ringEntries ≤ rd s.core (tdk ch.val 0xE) - rd s.core (tdk ch.val 0xF)) → Makes (.tdcResultWrite ch) s s.core)) ∧
  (∀ s : State, Open s.core → InModes s.core [.warm, .calibrate, .run] →
    (s.core.cd.running = false → ∃ c, Accepts .cdStart s c ∧ c.cd.running = true ∧ c.cd.generation = s.core.cd.generation + 1 ∧ rd c (tgk 3) = 0 ∧
      ∀ ch : Fin 264, rd c (tdk ch.val 0x1F) = 1 ∧ (getTdc c ch.val).cdRunning = true ∧ (getTdc c ch.val).table = (getTdc s.core ch.val).table) ∧
    (s.core.cd.running = true → Makes .cdStart s { s.core with status := stStateConflict })) ∧
  (∀ s : State, (rd s.core (tgk 4) ≠ 0 → s.core.cd.running = false → InModes s.core [.warm, .calibrate, .run] →
      Makes .cdIntervalExpiry s (startRun s.core)) ∧
    (rd s.core (tgk 4) = 0 → Makes .cdIntervalExpiry s s.core)) ∧
  (∀ (s : State) (ch : Fin 264) (a b : List Nat),
    let x := getTdc s.core ch.val
    let y := raise (setTdc (wr s.core (tdk ch.val 0x1F) 3) ch.val { x with cdRunning := false }) 289 1 ch.val
    let z := wr y (tgk 3) (rd y (tgk 3) + 1)
    x.cdRunning = true → measuring s.core ch.val = false →
    s.core.cd.restart = false → stampsRun s.core = true →
    ((hitsOk a && hitsOk b) = true → ∃ c, Makes (.cdTableComplete ch a b) s c ∧ rd c (tdk ch.val 0x1F) = 2 ∧
      getTdc c ch.val = { x with cdRunning := false, table := cdTable s.core ch.val a b } ∧ rd c (tgk 3) = rd s.core (tgk 3) + 1 ∧
      SameRegsBut [tdk ch.val 0x1F, tgk 3] s.core c) ∧
    ((hitsOk a && hitsOk b) = false → Makes (.cdTableComplete ch a b) s
        (if (List.range 264).any (fun k => (getTdc z k).cdRunning) then z else { z with cd := { z.cd with running := false } })))

/-- O47. Out of WARM, CALIBRATE and RUN, or without the stamp clock, nothing is converted; in a slot each of the four ADCs
converts its next enabled input, whose LAST_CODE, LAST_STAMP and LAST_FLAGS then tell the code clamped to 18 bits, with
OVR_COUNT and OVR at an over-range code; a complete detector block gives its six values and is counted; OVR_CLR clears OVR;
a chain with a usable source starts empty with its counts at 0, and a stop ends the acquisitions that take it; COEFFS takes
128 coefficients in range while the chain is stopped in preset 3. (R256, R259, R260, R265, R266, R267, R268) -/
def Obligations.SenseScanAndChains : Prop :=
  (∀ (s : State) (v0 v1 v2 v3 : Int), (¬InModes s.core [.warm, .calibrate, .run] ∨ clockBit s.core 5 = false) →
    Makes (.senseConversion v0 v1 v2 v3) s s.core) ∧
  (∀ (s : State) (v0 v1 v2 v3 : Int),
    let m := nextSlotNs s.core / 500
    InModes s.core [.warm, .calibrate, .run] → clockBit s.core 5 = true →
    Makes (.senseConversion v0 v1 v2 v3) s
      (convert (convert (convert (convert (elapseTo s.core (nextSlotNs s.core * 4096)) 0 m v0) 1 m v1) 2 m v2) 3 m v3)) ∧
  (∀ (c : Core) (a m n : Nat) (v : Int),
    let x : Adc := mget {} c.adcs a
    let st := x.settling && x.lastSlot == some (m - 1)
    let d := convert c a m v
    a < 4 → (enabledInputs c a)[m % max 1 (enabledInputs c a).length]? = some n → (∀ k < 8, rd c (fk k 1) ≠ n) → (∀ u < 8, rd c (qk u 1) ≠ n) →
    (-131072 ≤ v → v ≤ 131071 → rd d (nk n 3) = ofSigned 32 v ∧ rd d (nk n 4) = m * 500 * 4096 % 2 ^ 64 ∧
      rd d (nk n 5) = (if st then 2 else 0) + (if refwarm c then 0 else 64) ∧ rd d (nk n 6) = rd c (nk n 6) ∧
      rd d (nk n 9) = (if st then (rd c (nk n 9) + 1) % 2 ^ 64 else rd c (nk n 9)) ∧
      SameRegsBut [nk n 3, nk n 4, nk n 5, nk n 9] c d ∧ mget {} d.adcs a = { settling := false, lastSlot := some m } ∧
      mget none d.sourceLast n = (if st then mget none c.sourceLast n else some (v, false))) ∧
    (131071 < v → rd c (nk n 6) = 1 → rd d (nk n 3) = 131071 ∧ rd d (nk n 6) = 1 ∧ rd d (nk n 8) = (rd c (nk n 8) + 1) % 2 ^ 64 ∧
      bit (rd d (nk n 5)) 0 = true ∧ mget {} d.adcs a = { settling := true, lastSlot := some m }) ∧
    (131071 < v → rd c (nk n 6) = 0 → ∃ b, d = (if st then raise b 290 0 n else noteAccepted (raise b 290 0 n) n 131071 true) ∧ rd b (nk n 3) = 131071 ∧ rd b (nk n 6) = 1 ∧
      rd b (nk n 8) = (rd c (nk n 8) + 1) % 2 ^ 64 ∧ mget {} b.adcs a = { settling := true, lastSlot := some m })) ∧
  (∀ (s : State) (n : Fin 8),
    let x := getChain s.core n.val
    (blockFull s.core n.val = true → ∃ c, Makes (.detectorBlockEnd n) s c ∧ rd c (fk n.val 0x11) = ofSigned 32 x.blockMax ∧
      rd c (fk n.val 0x12) = ofSigned 32 x.blockMin ∧ rd c (fk n.val 0x13) = ofSigned 32 (roundDiv x.blockSum x.blockN) ∧
      rd c (fk n.val 0x14) = roundSqrtDiv x.blockSq x.blockN ∧ rd c (fk n.val 0x15) = x.env ∧ rd c (fk n.val 0x16) = x.blockFlags ∧
      rd c (fk n.val 0x17) = (rd s.core (fk n.val 0x17) + 1) % 2 ^ 64 ∧ (getChain c n.val).blockN = 0 ∧ (getChain c n.val).env = x.env ∧
      SameRegsBut [fk n.val 0x11, fk n.val 0x12, fk n.val 0x13, fk n.val 0x14, fk n.val 0x15, fk n.val 0x16, fk n.val 0x17] s.core c) ∧
    (blockFull s.core n.val = false → Makes (.detectorBlockEnd n) s s.core)) ∧
  (∀ (s : State) (n : Fin 32), Open s.core → Accepts (.ovrClr n) s (wr s.core (nk n.val 6) 0)) ∧
  (∀ (s : State) (n : Fin 8), Open s.core → InModes s.core [.warm, .calibrate, .run] →
    let src := rd s.core (fk n.val 1)
    (src ≠ 0xFFFF → (0x20 ≤ src ∨ rd s.core (nk src 1) = 1) → rd s.core (fk n.val 8) = 1 → Accepts (.fcStart n) s s.core) ∧
    (src ≠ 0xFFFF → (0x20 ≤ src ∨ rd s.core (nk src 1) = 1) → rd s.core (fk n.val 8) ≠ 1 → ∃ c, Accepts (.fcStart n) s c ∧
      rd c (fk n.val 7) = 1 ∧ rd c (fk n.val 8) = 1 ∧ rd c (fk n.val 0x18) = 0 ∧ rd c (fk n.val 0x19) = 0 ∧
      getChain c n.val = { fillLeft := taintLen s.core n.val } ∧
      SameRegsBut [fk n.val 7, fk n.val 8, fk n.val 0xC, fk n.val 0x18, fk n.val 0x19] s.core c ∧
      rd c (fk n.val 0xC) = (if rd s.core (fk n.val 2) = 3 then enbwAtStart s.core n.val else rd s.core (fk n.val 0xC))) ∧
    ((src = 0xFFFF ∨ src < 0x20 ∧ rd s.core (nk src 1) ≠ 1) → Makes (.fcStart n) s { s.core with status := stStateConflict })) ∧
  (∀ (s : State) (n : Fin 8), Open s.core → InModes s.core [.warm, .calibrate, .run] →
    let c := wr (wr s.core (fk n.val 7) 0) (fk n.val 8) 0
    (rd s.core (fk n.val 8) = 0 → Accepts (.fcStop n) s c) ∧
    (rd s.core (fk n.val 8) ≠ 0 → Accepts (.fcStop n) s
      ((List.range 8).foldl (fun c u => if rd c (qk u 1) = 0x20 + n.val then endAcq c u 4 else c) c))) ∧
  (∀ (s : State) (n : Fin 8) (data : List Byte), Open s.core → data.length = 512 →
    (∀ j < 128, -8388608 ≤ toSigned 32 (leAt data (4 * j) 4) ∧ toSigned 32 (leAt data (4 * j) 4) ≤ 8388607) →
    (rd s.core (fk n.val 8) = 0 → rd s.core (fk n.val 2) = 3 → Accepts (.coeffs n data) s (setDom s.core (fk n.val 6) data)) ∧
    ((rd s.core (fk n.val 8) ≠ 0 ∨ rd s.core (fk n.val 2) ≠ 3) → Makes (.coeffs n data) s { s.core with status := stStateConflict }))

/-- O48. An IDLE unit whose stream is free arms, ACQUIRING with a new RUN; a disarm lets the next sample end it with cause 1,
and HOST_FIRE notes the present instant, on a running unit only; GROUP_ARM of a master adds its arm token for the epoch and
is sent and pending; on a running unit a due held sample is tested, a full interval closes into a MINMAX record and a POST
of no samples left ends the acquisition; the first record of the FIFO goes to its stream's ring under the next number,
counted, and no other byte of memory changes; MASK and CONDITIONS are taken while the unit is IDLE. (R269, R270, R273, R274,
R276, R277, R278, R279, R281, R283, R286) -/
def Obligations.AcquisitionUnits : Prop :=
  (∀ (s : State) (u : Fin 8), Open s.core → InModes s.core [.warm, .calibrate, .run] →
    (acqState s.core u.val = 0 → acqStreamFree s.core u.val = true → ∃ c, Accepts (.acqArm u) s c ∧ acqState c u.val = 1 ∧
      rd c (qk u.val 0xB) = (rd s.core (qk u.val 0xB) + 1) % 2 ^ 64 ∧ SameRegsBut [qk u.val 0xA, qk u.val 0xB] s.core c ∧
      getAcq c u.val = { fifo := (getAcq s.core u.val).fifo, waiting := (getAcq s.core u.val).waiting, notBefore := s.core.stamp }) ∧
    ((acqState s.core u.val ≠ 0 ∨ acqStreamFree s.core u.val = false) → Makes (.acqArm u) s { s.core with status := stStateConflict })) ∧
  (∀ (s : State) (u : Fin 8), Open s.core → InModes s.core [.warm, .calibrate, .run] →
    (acqState s.core u.val = 0 → Accepts (.acqDisarm u) s s.core) ∧
    (acqState s.core u.val ≠ 0 → Accepts (.acqDisarm u) s (setAcq s.core u.val { getAcq s.core u.val with ends := some 1 }))) ∧
  (∀ (s : State) (u : Fin 8), Open s.core → (acqState s.core u.val = 0 → Accepts (.hostFire u) s s.core) ∧
    (acqState s.core u.val ≠ 0 → Accepts (.hostFire u) s
      (setAcq s.core u.val { getAcq s.core u.val with hostFires := (getAcq s.core u.val).hostFires ++ [s.core.stamp] }))) ∧
  (∀ (s : State) (u : Fin 8) (epoch : BitVec 48), Open s.core →
    let e := epoch.toNat
    let g := rd s.core (qk u.val 0xC)
    let c := sendToken { s.core with tokens := { s.core.tokens with arms := s.core.tokens.arms ++ [(g, e)] } } tokArm e g
    epoch ≠ 0 → epochNow s.core + 2 ≤ e →
    e ≤ epochNow s.core + 2 ^ 32 → s.core.rwe.length < 1024 → rd s.core (qk u.val 0xD) = 1 → g ≠ 0 →
    noDeviceId s.core = false →
      Accepts (.groupArm u epoch) s { c with rwe := c.rwe ++ [{ key := qk u.val 0xE, value := 1, epoch := e }] }) ∧
  (∀ (s : State) (u : Fin 8), acqState s.core u.val = 0 → Makes (.acqConditionTest u) s s.core ∧ Makes (.acqIntervalEnd u) s s.core ∧
    Makes (.acqPostEnd u) s s.core) ∧
  (∀ (s : State) (u : Fin 8) (h : AcqSample) (rest : List AcqSample),
    let x := getAcq s.core u.val
    acqState s.core u.val ≠ 0 → x.held = h :: rest →
    (h.stamp ≤ s.core.stamp - heldTicks s.core u.val → Makes (.acqConditionTest u) s (testSample (setAcq s.core u.val { x with held := rest }) u.val h)) ∧
    (s.core.stamp - heldTicks s.core u.val < h.stamp → Makes (.acqConditionTest u) s s.core)) ∧
  (∀ (c : Core) (u : Fin 8) (h : AcqSample),
    let x := getAcq c u.val
    let d := testSample c u.val h
    acqState c u.val = 1 → spanFull c u.val = false → x.postLeft = none →
    metMask c u.val x h (!(firesAt x h.stamp).isEmpty) = 0 → acqState d u.val = 1 ∧
      (getAcq d u.val).tested = x.tested + 1 ∧ (getAcq d u.val).prev = h.value ∧ (getAcq d u.val).span = some (spanAdd c u.val x h) ∧
      (getAcq d u.val).marks = x.marks ∧ (getAcq d u.val).postLeft = none ∧ d.regs = c.regs) ∧
  (∀ (s : State) (u : Fin 8) (p : AcqSpan),
    let x := getAcq s.core u.val
    acqState s.core u.val ≠ 0 → x.span = some p →
    rd s.core (qk u.val 2) ≤ p.count → x.waiting = [] → x.fifo.length < 64 → ∃ c, Makes (.acqIntervalEnd u) s c ∧
      getAcq c u.val = { x with span := none, fifo := x.fifo ++ [spanRecord u.val (rd s.core (qk u.val 3)) (rd s.core (qk u.val 0xB)) p (spanPartial s.core u.val p)] } ∧
      c.regs = s.core.regs) ∧
  (∀ (s : State) (u : Fin 8), acqState s.core u.val ≠ 0 → (getAcq s.core u.val).postLeft = some 0 → ∃ c, Makes (.acqPostEnd u) s c ∧
    acqState c u.val = 0 ∧ rd c (qk u.val 0x10) = 0) ∧
  (∀ (s : State) (u : Fin 8) (r : AcqRec) (rs : List AcqRec),
    let x := getAcq s.core u.val
    let e := streamEntry s.core r.stream
    let st := getStream s.core r.stream
    let bytes := twoUnit (commonFields s.core r.kind r.stream st.next r.flags r.run ++ r.body)
    let y := { st with next := (st.next + 1) % 2 ^ 48 }
    let w := storeUnits s.mem (setStream (setAcq s.core u.val { x with fifo := rs }) r.stream y) e st.ringPos (ringHint bytes) 2 bytes
    let m := w.1
    let c := setStream w.2 r.stream
      { y with ringPos := (st.ringPos + 2) % max 1 e.ringUnits, ring := st.ring ++ [{ seq := st.next, pos := st.ringPos, units := 2 }] }
    x.fifo = r :: rs → ringTakes s.core r.stream 2 = true → rd s.core (jo 8) ≠ 1 → noDeviceId s.core = false → s.core.hbm.training = false →
    Gives (.acqRecordWrite u) s m
      (fillFifo 64 (tallyEvent (bump (recordStands c r.stream st.next bytes) (qk u.val 0x15)) (0x68 + u.val)) u.val) ∧
    ringBytes m e { seq := st.next, pos := st.ringPos, units := 2 } = bytes ∧
    ∀ a, (∀ k < 2, a < ringAddr e (st.ringPos + k) ∨ ringAddr e (st.ringPos + k) + 32 ≤ a) → readByte m a = readByte s.mem a) ∧
  (∀ (s : State) (u : Fin 8), (getAcq s.core u.val).fifo = [] → Makes (.acqRecordWrite u) s s.core) ∧
  (∀ (s : State) (u : Fin 8) (data : List Byte), Open s.core → maskOk data = true →
    (acqState s.core u.val = 0 → Accepts (.mask u data) s (setDom s.core (qk u.val 5) data)) ∧
    (acqState s.core u.val ≠ 0 → Makes (.mask u data) s { s.core with status := stStateConflict })) ∧
  (∀ (s : State) (u : Fin 8) (data : List Byte), Open s.core → data.length = 64 → (∀ n < 4, condStatus (leAt data (16 * n) 16) = none) →
    (acqState s.core u.val = 0 → Accepts (.conditions u data) s (setDom s.core (qk u.val 4) data)) ∧
    (acqState s.core u.val ≠ 0 → Makes (.conditions u data) s { s.core with status := stStateConflict }))

/-- O49. A group that meets R288 binds with an empty position and its clock where the PLLs run, else it is refused; it is
released unless its Weaver is at work, with PENDING and SHOWN 0xFF; PRESENT makes an existing slot of an enabled group
PENDING and counts a replaced one; valid TIMING and RECTS are staged with the present instant; SELF_REFRESH takes 1 and 0,
which boundaries and steps after the write see; MISMATCH_CLR clears the bits of its mask; a decision that is due rests the
group in SELF_REFRESH, starts a frame (counted, with the PENDING slot shown) in fixed blanking, or adds a line in variable
blanking with nothing presented; complete CRCs go to LAST_CRC and are compared with the expected value of their frame, where
the rectangle asks for it. (R288, R292, R294, R296, R297, R298, R299, R300, R302, R303, R304) -/
def Obligations.RasterGroups : Prop :=
  (∀ (s : State) (g : Fin 2), Open s.core →
    (rasterBinds s.core g.val = true → ∃ c, Accepts (.rasterEnable g) s c ∧ rd c (rk g.val 1) = 1 ∧ SameRegsBut [rk g.val 1, clockKey] s.core c ∧
      getR c g.val = { timing := (getR s.core g.val).timing, rects := (getR s.core g.val).rects } ∧
      clockBit c (44 + g.val) = (clockBit s.core (44 + g.val) || (pllModes s.core && refLocked s.core))) ∧
    (rasterBinds s.core g.val = false → Makes (.rasterEnable g) s { s.core with status := stStateConflict })) ∧
  (∀ (s : State) (g : Fin 2), Open s.core →
    let st := wState s.core (rd s.core (rk g.val 2))
    ((rd s.core (rk g.val 1) ≠ 1 ∨ st ≠ 1 ∧ st ≠ 2 ∧ st ≠ 3) → ∃ c, Accepts (.rasterDisable g) s c ∧ rd c (rk g.val 1) = 0 ∧
      rd c (rk g.val 0x11) = 0xFF ∧ rd c (rk g.val 0x12) = 0xFF ∧ clockBit c (44 + g.val) = false ∧
      SameRegsBut [rk g.val 1, rk g.val 0x11, rk g.val 0x12, clockKey] (writeDues s.core g.val (getR s.core g.val).dues) c) ∧
    (rd s.core (rk g.val 1) = 1 → (st = 1 ∨ st = 2 ∨ st = 3) → Makes (.rasterDisable g) s { s.core with status := stStateConflict })) ∧
  (∀ (s : State) (g : Fin 2) (n : Byte), Open s.core →
    (slotExists s.core g.val n.toNat = true → rd s.core (rk g.val 1) = 1 → ∃ c, Accepts (.present g n) s c ∧ rd c (rk g.val 0x11) = n.toNat ∧
      rd c (rk g.val 0x19) = (if rd s.core (rk g.val 0x11) = 0xFF then rd s.core (rk g.val 0x19) else (rd s.core (rk g.val 0x19) + 1) % 2 ^ 64) ∧
      (getR c g.val).presentAt = s.core.stamp ∧ (getR c g.val).older = (if rd s.core (rk g.val 0x11) ≠ 0xFF ∧ rasterRuns s.core g.val
        then (getR s.core g.val).older ++ [((getR s.core g.val).presentAt, rd s.core (rk g.val 0x11))] else []) ∧
      SameRegsBut [rk g.val 0x11, rk g.val 0x19] s.core c) ∧
    (slotExists s.core g.val n.toNat = false → Makes (.present g n) s { s.core with status := stOutOfRange }) ∧
    (slotExists s.core g.val n.toNat = true → rd s.core (rk g.val 1) ≠ 1 → Makes (.present g n) s { s.core with status := stStateConflict })) ∧
  (∀ (s : State) (g : Fin 2) (data : List Byte), Open s.core →
    (timingValid s.core g.val data = true → Accepts (.timing g data) s
      (setR s.core g.val { getR s.core g.val with timing := stageAt s.core g.val (getR s.core g.val).timing data })) ∧
    (timingValid s.core g.val data = false → Makes (.timing g data) s { s.core with status := stOutOfRange }) ∧
    (rectsValid data = true → Accepts (.rects g data) s (setR s.core g.val
      { getR s.core g.val with rects := stageAt s.core g.val (getR s.core g.val).rects data })) ∧
    (rectsValid data = false → Makes (.rects g data) s { s.core with status := stOutOfRange })) ∧
  (∀ (s : State) (g : Fin 2), Open s.core → Accepts (.selfRefreshRequest g) s (writeLive s.core g.val 0x13 1) ∧
    Accepts (.selfRefreshExit g) s (writeLive s.core g.val 0x13 0)) ∧
  (∀ (c : Core) (g sub v t : Nat),
    let d := writeLive c g sub v
    let from_ := (getW c (rd c (rk g 2))).gStart
    rd d (rk g sub) = v ∧ SameRegsBut [rk g sub] c d ∧ (from_ ≤ t → t ≤ c.stamp → liveAt d g sub t = liveAt c g sub t) ∧
    ((∀ e ∈ (getR c g).writes, e.1 ≤ c.stamp) → c.stamp < t → liveAt d g sub t = v)) ∧
  (∀ (s : State) (g : Fin 2) (m : BitVec 32), Open s.core →
    let c := wr s.core (rk g.val 0x1F) (clearBits (rd s.core (rk g.val 0x1F)) m.toNat)
    Accepts (.mismatchClr g m) s (if m = 0xFFFFFFFF then wr c (rk g.val 0x22) 0 else c)) ∧
  (∀ (s : State) (g : Fin 2), ((getR s.core g.val).deciding = false ∨ rd s.core (rk g.val 1) ≠ 1) → Makes (.frameStart g) s s.core) ∧
  (∀ (s : State) (g : Fin 2),
    let r := getR s.core g.val
    let t := (getW s.core (rd s.core (rk g.val 2))).gStart
    r.deciding = true → rd s.core (rk g.val 1) = 1 →
    (liveAt s.core g.val 0x13 t = 1 → r.porch = (frameLimits s.core g.val).1 → ∃ c, Makes (.frameStart g) s c ∧
      getR c g.val = { r with resting := true, inFrame := false, deciding := false, exiting := false } ∧ clockBit c (44 + g.val) = false ∧
      SameRegsBut [clockKey] s.core c) ∧
    ((liveAt s.core g.val 0x13 t ≠ 1 ∨ r.porch ≠ (frameLimits s.core g.val).1) → (timingOf s.core g.val).blank = 0 →
      ∃ c, Makes (.frameStart g) s c ∧ rd c (rk g.val 0x17) = (rd s.core (rk g.val 0x17) + 1) % 2 ^ 64 ∧ rd c (rk g.val 0x1B) = r.porch ∧
        (getR c g.val).line = 0 ∧ (getR c g.val).porch = 0 ∧ (getR c g.val).inFrame = true ∧ (getR c g.val).deciding = false ∧
        (rd s.core (rk g.val 0x11) ≠ 0xFF → r.presentAt < t → rd c (rk g.val 0x12) = rd s.core (rk g.val 0x11) ∧ rd c (rk g.val 0x11) = 0xFF) ∧
        (∀ n, rd s.core (rk g.val 0x11) ≠ 0xFF → t ≤ r.presentAt → (r.older.filter (fun e => decide (e.1 < t))).getLast? = some n →
          rd c (rk g.val 0x12) = n.2 ∧ rd c (rk g.val 0x11) = rd s.core (rk g.val 0x11)) ∧
        (presentCounted s.core g.val t = none → rd c (rk g.val 0x12) = rd s.core (rk g.val 0x12) ∧
          rd c (rk g.val 0x11) = rd s.core (rk g.val 0x11))) ∧
    ((liveAt s.core g.val 0x13 t ≠ 1 ∨ r.porch ≠ (frameLimits s.core g.val).1) → (timingOf s.core g.val).blank = 1 →
      presentCounted s.core g.val t = none → r.porch < (frameLimits s.core g.val).2 →
      Makes (.frameStart g) s (setR s.core g.val { r with porch := r.porch + 1, px := 0, deciding := false }))) ∧
  (∀ (s : State) (g : Fin 2) (back : Bool), (getR s.core g.val).dues.find? (fun d => d.returned == back) = none →
    Makes (.rectCrcComplete g back) s s.core) ∧
  (∀ (s : State) (g : Fin 2) (d : RectDue) (i crc : Nat) (expect : Option Nat), (getR s.core g.val).dues.find? (fun x => x.returned == d.returned) = some d →
    d.crcs = [(i, crc, expect)] → i < 16 → crc < 2 ^ 32 → (dom s.core (rk g.val 0x1E)).length = 128 → ∃ c, Makes (.rectCrcComplete g d.returned) s c ∧
    leAt (dom c (rk g.val 0x1E)) (64 * ofBool d.returned + 4 * i) 4 = crc ∧ d ∉ (getR c g.val).dues ∧
    ((expect = none ∨ expect = some crc) → c.regs = s.core.regs) ∧
    (∀ v, expect = some v → crc ≠ v →
      rd c (rk g.val 0x1F) = setBit (rd s.core (rk g.val 0x1F)) (16 * ofBool d.returned + i) ∧
      rd c (rk g.val 0x21) = (rd s.core (rk g.val 0x21) + 1) % 2 ^ 64 ∧
      SameRegsBut [rk g.val 0x1F, rk g.val 0x21, rk g.val 0x22] s.core c)) ∧
  (∀ (c : Core) (g i : Nat),
    rectExpect c g 0 i = (if bit (rectOf c g i).flags 2 then some (rectOf c g i).emit else none) ∧
    rectExpect c g 1 i = (if bit (rectOf c g i).flags 3 then some (rectOf c g i).ret else none))

/-- O50. A running initialisation ends with INIT_STATE 2, the order and capacity of the stacks that are not degraded, and every
HBM byte at 0 unless two or more stacks are degraded; REINIT starts one unless one or a memory test runs; TRAIN_START starts
a retrain in CALIBRATE, which ends with the failed pseudo-channels and TRAIN_STATUS 2 or 3 and keeps the contents; MEM_TEST
in SERVICE clears the HBM, and ends with the errors of each stack and MEM_TEST_STATUS 2 or 3; no byte outside the HBM
changes. (R308, R309, R310, R311, R313, R315, R328) -/
def Obligations.MemoryInitialisationAndTests : Prop :=
  (∀ (s : State) (l : List StackTraining),
    let r := initComplete s.mem s.core l
    Gives (.hbmInitComplete l) s r.1 (tryRecover r.1 r.2) ∧
    (rd s.core (hk 0x16) ≠ 1 → r = (s.mem, s.core)) ∧
    (rd s.core (hk 0x16) = 1 → rd r.2 (hk 0x16) = 2 ∧ (∀ a, hbmTop ≤ a → readByte r.1 a = readByte s.mem a) ∧
      ((List.range 4).filter (degraded r.2) = [] → rd r.2 (hk 2) = 0 ∧ rd r.2 (hk 3) = 0xF ∧ rd r.2 (hk 5) = 2 ^ 38 ∧ rd r.2 (hk 6) = 1250 ∧
        rd r.2 (hk 8) = 250) ∧
      (∀ x, (List.range 4).filter (degraded r.2) = [x] → rd r.2 (hk 2) = 1 + x ∧ rd r.2 (hk 3) = 0xF - 2 ^ x ∧ rd r.2 (hk 5) = 192 * 2 ^ 30 ∧
        rd r.2 (hk 6) = 937 ∧ rd r.2 (hk 8) = 187) ∧
      (2 ≤ ((List.range 4).filter (degraded r.2)).length → rd r.2 (hk 2) = 0xFF ∧ rd r.2 (hk 5) = 0 ∧ r.1 = s.mem) ∧
      (((List.range 4).filter (degraded r.2)).length < 2 → (∀ a < hbmTop, readByte r.1 a = 0) ∧ r.1.tags = [] ∧ r.1.bad = []) ∧
      (s.core.hbm.trained = false → l.length = 4 → ∀ (x : Nat) (t : StackTraining), l[x]? = some t →
        rd r.2 (stk x 4) = t.failed.toNat ∧ rd r.2 (stk x 6) = t.lanes.toNat))) ∧
  (∀ s : State, Open s.core → InModes s.core [.warm, .calibrate, .service] →
    (rd s.core (hk 0x16) ≠ 1 → rd s.core (hk 0x15) ≠ 1 → Accepts .reinit s (wr s.core (hk 0x16) 1)) ∧
    ((rd s.core (hk 0x16) = 1 ∨ rd s.core (hk 0x15) = 1) → Makes .reinit s { s.core with status := stStateConflict })) ∧
  (∀ s : State, Open s.core → InModes s.core [.calibrate] →
    Accepts .trainStart s { wr s.core (hk 0x13) 1 with hbm := { s.core.hbm with training := true } }) ∧
  (∀ (s : State) (l : List StackTraining), (s.core.hbm.training = false → Makes (.trainComplete l) s s.core) ∧
    (s.core.hbm.training = true → l.length = 4 → ∃ c, Makes (.trainComplete l) s c ∧ c.hbm.training = false ∧
      rd c (hk 0x13) = (if l.any (fun t => t.failed != 0) then 3 else 2) ∧
      (∀ (x : Nat) (t : StackTraining), l[x]? = some t → rd c (stk x 4) = t.failed.toNat ∧ rd c (stk x 6) = t.lanes.toNat) ∧
      SameRegsBut [hk 0x13, stk 0 4, stk 0 6, stk 1 4, stk 1 6, stk 2 4, stk 2 6, stk 3 4, stk 3 6] s.core c)) ∧
  (∀ s : State, Open s.core → InModes s.core [.service] →
    (rd s.core (hk 0x15) ≠ 1 → rd s.core (hk 0x16) = 2 → Gives .memTest s (clearHbm s.mem) { wr s.core (hk 0x15) 1 with status := stOk } ∧
      (∀ a < hbmTop, readByte (clearHbm s.mem) a = 0) ∧ ∀ a, hbmTop ≤ a → readByte (clearHbm s.mem) a = readByte s.mem a) ∧
    ((rd s.core (hk 0x15) = 1 ∨ rd s.core (hk 0x16) ≠ 2) → Makes .memTest s { s.core with status := stStateConflict })) ∧
  (∀ (s : State) (l : List (BitVec 32)), (rd s.core (hk 0x15) ≠ 1 → Makes (.memTestComplete l) s s.core) ∧
    (rd s.core (hk 0x15) = 1 → l.length = 4 → ∃ c, Gives (.memTestComplete l) s (clearHbm s.mem) c ∧
      rd c (hk 0x15) = (if l.any (fun e => e != 0) then 3 else 2) ∧ (∀ (x : Nat) (e : BitVec 32), l[x]? = some e → rd c (stk x 5) = e.toNat) ∧
      SameRegsBut [hk 0x15, stk 0 5, stk 1 5, stk 2 5, stk 3 5] s.core c))

/-- O51. In the modes of R312 an idle pseudo-channel of a stack that is not in self-refresh enters power-down where PD_IDLE is
not 0, and an idle stack self-refresh where SR_IDLE is not 0 and no Weaver is at work; a refresh takes the temperature and
doubles the rate above 85 degC; the scrub reads the next unit, goes on past it, writes back what the code corrects, counts
it and raises the stack at L1 for it, and logs an uncorrectable error; it waits during a retrain and does nothing while it
is off or outside ready memory; the code corrects one wrong byte of the 72; a request leaves its row open as its page hint
and PAGE_IDLE say; of the best-effort requests the deficit round-robin serves the head of the class whose turn it is where
its deficit covers it, and a lone request in any case. (R312, R315, R316, R317, R320, R321, R322, R323, R327) -/
def Obligations.MemoryPowerRefreshAndScrub : Prop :=
  (∀ (s : State) (p : Fin 128), (hbmActive s.core = true → rd s.core (hk 0xA) ≠ 0 → rd s.core (stk (p.val / 32) 3) = 0 →
      Makes (.hbmPowerDownEntry p) s { s.core with hbm := { s.core.hbm with powerDown := setBit s.core.hbm.powerDown p.val } }) ∧
    ((hbmActive s.core = false ∨ rd s.core (hk 0xA) = 0 ∨ rd s.core (stk (p.val / 32) 3) ≠ 0) → Makes (.hbmPowerDownEntry p) s s.core)) ∧
  (∀ (s : State) (x : Fin 4),
    (hbmActive s.core = true → rd s.core (hk 0xB) ≠ 0 → (∀ w < 64, wState s.core w = 0 ∨ wState s.core w = 4) →
      Makes (.hbmSelfRefreshEntry x) s (wr s.core (stk x.val 3) 1)) ∧
    ((hbmActive s.core = false ∨ rd s.core (hk 0xB) = 0 ∨ ∃ w < 64, wState s.core w = 1 ∨ wState s.core w = 2 ∨ wState s.core w = 3) →
      Makes (.hbmSelfRefreshEntry x) s s.core)) ∧
  (∀ (s : State) (x : Fin 4) (t : Int), ∃ c, Makes (.hbmRefresh x t) s c ∧ rd c (stk x.val 1) = ofSigned 32 t ∧
    (hbmActive s.core = true → rd c (stk x.val 2) = (if 85000 < t then 1 else 0)) ∧
    (hbmActive s.core = false → rd c (stk x.val 2) = rd s.core (stk x.val 2)) ∧ SameRegsBut [stk x.val 1, stk x.val 2] s.core c) ∧
  (∀ (s : State) (f : ScrubFound), (s.core.hbm.training = true → exec (.scrubRead f) s = .next { s with core := beWait s.core ⟨.maint, 64, none, .scrubRead f⟩ }) ∧
    (s.core.hbm.training = false → (rd s.core (hk 0xD) = 0 ∨ hbmActive s.core = false ∨ hbmReady s.core = false) →
      Makes (.scrubRead f) s s.core)) ∧
  (∀ (s : State) (f : ScrubFound),
    let u := s.core.hbm.scrub
    let b := touchHbm s.core (64 * u) 64 .close
    let a := { b with hbm := { b.hbm with scrub := if capacity s.core ≤ 64 * (u + 1) then 0 else u + 1 } }
    let c := if f.onDie then bump a (hk 0x10) else a
    let w := (f.errors.map (fun e => (e.1.val, e.2.toNat))).foldl addError (unitWord s.mem u)
    rd s.core (hk 0xD) ≠ 0 → hbmActive s.core = true → hbmReady s.core = true → s.core.hbm.training = false →
    (u ∈ s.mem.bad → Makes (.scrubRead f) s (ueMet c u)) ∧
    (u ∉ s.mem.bad → (decodeWord w = .clean → Gives (.scrubRead f) s (putWord s.mem u w) c) ∧
      (∀ i e, decodeWord w = .one i e → Gives (.scrubRead f) s (putWord s.mem u (addError w (i, e))) (ceMet c u)) ∧
      (decodeWord w = .detected → ∃ m, Gives (.scrubRead f) s m (ueMet c u) ∧ m.cells = s.mem.cells ∧ m.tags = s.mem.tags ∧
        ∀ v, v ∈ m.bad ↔ v = u ∨ v ∈ s.mem.bad))) ∧
  (∀ (l : List Nat) (i e : Nat), l.length = 72 → (∀ x ∈ l, x < 256) → (∀ k < 4, syndrome k l = 0) → i < 72 → 0 < e → e < 256 →
    decodeWord l = .clean ∧ corrected (addError l (i, e)) = l) ∧
  (∀ (c : Core) (u : Nat), ∃ b, ceMet c u = raise b (232 + stackOf c (64 * u)) 1 (64 * u) ∧ rd b (hk 0xE) = (rd c (hk 0xE) + 1) % 2 ^ 64 ∧
    rd b (stk (stackOf c (64 * u)) 7) = (rd c (stk (stackOf c (64 * u)) 7) + 1) % 2 ^ 64 ∧ b.hbm = c.hbm) ∧
  (∀ (c : Core) (a n : Nat) (hint : PageHint), a < hbmTop →
    let pc := (placeOf c a).1
    let o := (placeOf c a).2
    let d := { touchHbm c a 1 hint with time := c.time + n }
    rowNow d pc (o / 2048 % bankTotal) = (if hint ≠ .close ∧ n < (if hint = .stay then 4 else 1) * rd c (hk 9) then some (o / 2048 / bankTotal) else none)) ∧
  (∀ (c : Core) (r : BestEffort), c.hbm.training = false → (
    (beHead c c.hbm.turn = some r → r.bytes ≤ mget 0 c.hbm.deficits c.hbm.turn → nextBest c =
      some (r.cmd, beTake c r c.hbm.turn (mset 0 c.hbm.deficits c.hbm.turn (mget 0 c.hbm.deficits c.hbm.turn - r.bytes)))) ∧
    (c.hbm.waiting = [r] → 0 < beQuantum c r.cls.field → ∃ d, nextBest c = some (r.cmd, d) ∧ d.hbm.waiting = []))) ∧
  (∀ (c : Core) (u : Nat), ∃ b, ueMet c u = raise b (232 + stackOf c (64 * u)) 2 (64 * u) ∧ rd b (hk 0xF) = (rd c (hk 0xF) + 1) % 2 ^ 64 ∧
    b.hbm.ueLog = ((64 * u, c.stamp) :: c.hbm.ueLog).take 16 ∧ SameRegsBut [hk 0xF] c b)

/-- O52. On a hart that is stopped or waits an Xsaw instruction does nothing; with a non-zero unused field or a closed XSAWEN
bit below M mode it takes the illegal-instruction exception; one that executes and answers a value writes rd (x0 discards)
and steps the pc by 4 and changes nothing else of the block but what it names: CRC32C.B, .W and .D the checksum of 1, 4 and
8 bytes of rs2, CRC32C.REC 0 or 1 for the record of its buffer and -8 for a KIND without length, BQ.STAT the undispatched
entries or -7, TALLY.RD a counter, TALLY.ADD 0 while the software source counts. (R334, R335, R336, R339, R340, R342) -/
def Obligations.XsawInstructionsOnRegisters : Prop :=
  (∀ (s : State) (n : Fin 1024) (x : RType), ∀ e ∈ [(Instr.bqEnq n x, [], some 0), (.bqWait n x, [x.rs2], some 0), (.bqPoll n x, [x.rs2], some 0), (.bqRes n x, [], some 0),
      (.bqDone n x, [], some 0), (.bqAbort n x, [], some 0), (.bqStat n x, [x.rs2], some 0), (.tallyAdd n x, [x.rd], some 1),
      (.tallyRd n x, [x.rs2], none), (.crc32cB n x, [], none), (.crc32cW n x, [], none), (.crc32cD n x, [], none), (.crc32cRec n x, [x.rs2], none)],
    (¬HartRuns s.core n.val → Makes e.1 s s.core) ∧
    (HartRuns s.core n.val → s.core.hbm.training = false → xsawIllegal (getHart s.core n.val) x e.2.1 e.2.2 = true → Makes e.1 s (hartTrap s.core n.val 2 0))) ∧
  (∀ (c : Core) (n : Nat) (x : RType) (v : Nat),
    let d := xret c n x v
    (getHart d n).pc = ((getHart c n).pc + 4) % 2 ^ 64 ∧
    getX (getHart d n) x.rd.toNat = (if x.rd = 0 then 0 else v % 2 ^ 64) ∧ (∀ r, r ≠ x.rd.toNat → getX (getHart d n) r = getX (getHart c n) r) ∧
    (getHart d n).csr = (getHart c n).csr ∧ (getHart d n).mode = (getHart c n).mode ∧ (getHart d n).held = (getHart c n).held ∧
    (∀ k, k ≠ n → getHart d k = getHart c k) ∧ { d with harts := c.harts } = c) ∧
  (∀ (s : State) (n : Fin 1024) (x : RType), Executes s.core n.val x [] none →
    let a := getX (getHart s.core n.val) x.rs1.toNat
    let b := getX (getHart s.core n.val) x.rs2.toNat
    Makes (.crc32cB n x) s (xret s.core n.val x (crcBytes (BitVec.ofNat 32 a) (leBytes 1 b)).toNat) ∧
    Makes (.crc32cW n x) s (xret s.core n.val x (crcBytes (BitVec.ofNat 32 a) (leBytes 4 b)).toNat) ∧
    Makes (.crc32cD n x) s (xret s.core n.val x (crcBytes (BitVec.ofNat 32 a) (leBytes 8 b)).toNat)) ∧
  (∀ (s : State) (n : Fin 1024) (x : RType) (a : Nat), Executes s.core n.val x [x.rs2] none →
    let h := getHart s.core n.val
    let va := getX h x.rs1.toNat
    let c := walkMet s.mem s.core n.val h va .load
    let kind := readNat s.mem a 1 % 16
    bufferAt s.mem c n.val h va 32 32 .load = .ok a →
    ((kind = 0 ∨ kind = 7) → Makes (.crc32cRec n x) s (xret c n.val x (2 ^ 64 - 8))) ∧
    (1 ≤ kind → kind ≤ 6 → Makes (.crc32cRec n x) s (xret c n.val x (if crcOk (readBytes s.mem a 32) then 0 else 1))) ∧
    (8 ≤ kind → ∀ b, bufferAt s.mem c n.val h va 64 32 .load = .ok b →
      Makes (.crc32cRec n x) s (xret c n.val x (if crcOk (readBytes s.mem b 64) then 0 else 1)))) ∧
  (∀ (s : State) (n : Fin 1024) (x : RType), Executes s.core n.val x [x.rs2] (some 0) →
    let q := getX (getHart s.core n.val) x.rs1.toNat % 2 ^ 16
    Makes (.bqStat n x) s (xret s.core n.val x
      (if bdEnabled (getBoom s.core q).desc then boomTail s.core q - (getBoom s.core q).dispatch else 2 ^ 64 - 7))) ∧
  (∀ (s : State) (n : Fin 1024) (x : RType), Executes s.core n.val x [x.rd] (some 1) →
    let h := getHart s.core n.val
    Makes (.tallyAdd n x) s (xret (tallyEvents s.core (0x70 + getX h x.rs1.toNat % 16) (getX h x.rs2.toNat % 2 ^ 32)) n.val x 0)) ∧
  (∀ (s : State) (n : Fin 1024) (x : RType), Executes s.core n.val x [x.rs2] none →
    Makes (.tallyRd n x) s (xret s.core n.val x (mget {} s.core.tally (getX (getHart s.core n.val) x.rs1.toNat % 128)).value))

/-- O53. A buffer operand that fails its checks is an exception; BQ.ENQ to a full boom answers -1, to one that takes no core's
jobs -2, and else makes a job entry at the boom's next place, in no other byte, with the boom's new tail as its answer; a
hart that holds two tasks gets -4; a delivered task is written to the buffer, in no byte beyond it, held, and its handle
answered; with none delivered BQ.WAIT blocks and BQ.POLL of a push partition answers -5; BQ.RES of a held task stages the
bytes of its buffer up to RES_MAX, and BQ.DONE and BQ.ABORT close it COMPLETED and ABORTED; a handle that is not held is
STALE and answers -3. (R335, R336, R337, R344, R345, R346, R352, R354) -/
def Obligations.XsawTasksAndJobs : Prop :=
  (∀ (s : State) (n : Fin 1024) (x : RType) (e : Nat), s.core.hbm.training = false →
    let h := getHart s.core n.val
    let va := getX h x.rs1.toNat
    let c := walkMet s.mem s.core n.val h va .load
    let d := walkMet s.mem s.core n.val h va .store
    (Executes s.core n.val x [] (some 0) → bufferAt s.mem c n.val h va 64 64 .load = .error e →
      Makes (.bqEnq n x) s (hartTrap c n.val e va) ∧ Makes (.bqRes n x) s (hartTrap c n.val e va) ∧
      (va ≠ 0 → Makes (.bqDone n x) s (hartTrap c n.val e va))) ∧
    (Executes s.core n.val x [x.rs2] (some 0) → bufferAt s.mem d n.val h va 1088 64 .store = .error e →
      Makes (.bqWait n x) s (hartTrap d n.val e va) ∧ Makes (.bqPoll n x) s (hartTrap d n.val e va))) ∧
  (∀ (s : State) (n : Fin 1024) (x : RType) (a : Nat), Executes s.core n.val x [] (some 0) → s.core.hbm.training = false →
    let h := getHart s.core n.val
    let va := getX h x.rs1.toNat
    let c := walkMet s.mem s.core n.val h va .load
    let q := getX h x.rs2.toNat % 2 ^ 16
    let b := getBoom c q
    let t := (b.tail + 1) % 2 ^ 48
    let body : EntryBody := { idem := bit (readNat s.mem (a + 28) 1) 5, buf := readBytes s.mem (a + 31) 29 }
    let l := jobEntry c q t 0 0 body
    bufferAt s.mem c n.val h va 64 64 .load = .ok a →
    ((bdEnabled b.desc = false ∨ bdSource b.desc ≠ 0) → Makes (.bqEnq n x) s (xret c n.val x (2 ^ 64 - 2))) ∧
    (bdEnabled b.desc = true → bdSource b.desc = 0 → boomFree c q = 0 →
      Makes (.bqEnq n x) s (xret (tallyEvent c 0xE6) n.val x (2 ^ 64 - 1))) ∧
    (bdEnabled b.desc = true → bdSource b.desc = 0 → boomFree c q ≠ 0 → bdStreamOut b.desc = false →
      Gives (.bqEnq n x) s (store s.mem (entryAddr b.desc t) l)
        (xret (reschedule (appendEntry s.mem c q true (fun k => jobEntry c q k 0 0 body)).2) n.val x t) ∧
      l.length = 64 ∧ SameBytesBut (entryAddr b.desc t) 64 s.mem (store s.mem (entryAddr b.desc t) l))) ∧
  (∀ (s : State) (n : Fin 1024) (x : RType) (a : Nat), Executes s.core n.val x [x.rs2] (some 0) → s.core.hbm.training = false →
    let h := getHart s.core n.val
    let va := getX h x.rs1.toNat
    let c := walkMet s.mem s.core n.val h va .store
    bufferAt s.mem c n.val h va 1088 64 .store = .ok a →
    (2 ≤ h.held.length → Makes (.bqWait n x) s (xret c n.val x (2 ^ 64 - 4)) ∧ Makes (.bqPoll n x) s (xret c n.val x (2 ^ 64 - 4))) ∧
    (h.held.length < 2 → h.delivered = none →
      Makes (.bqWait n x) s (interruptsOf (modHart c n.val (fun h => { h with waits := some (.task x.rd.toNat a) })) n.val) ∧
      (pushes c (partitionOf c n.val) = true → Makes (.bqPoll n x) s (xret c n.val x (2 ^ 64 - 5))) ∧
      (pushes c (partitionOf c n.val) = false → ∀ q f d, deliverTurn s.mem c (partitionOf c n.val) n.val = (some (q, f), d) →
        Gives (.bqPoll n x) s (collect s.mem d n.val x.rd.toNat a q f).1 (collect s.mem d n.val x.rd.toNat a q f).2)) ∧
    (h.held.length < 2 → ∀ q f, h.delivered = some (q, f) →
      let r := collect s.mem c n.val x.rd.toNat a q f
      Gives (.bqWait n x) s r.1 (interruptsOf r.2 n.val) ∧ Gives (.bqPoll n x) s r.1 (interruptsOf r.2 n.val))) ∧
  (∀ (m : Mem) (c : Core) (n rd a q f : Nat),
    let r := collect m c n rd a q f
    let h := getHart r.2 n
    let l := taskBytes m c q f
    r.1 = pokeBytes m a l ∧ SameBytesBut a l.length m r.1 ∧ h.held = (getHart c n).held ++ [(q, f)] ∧ h.delivered = none ∧ h.waits = none ∧
    bit (csrGet h csrMip) 16 = false ∧ h.pc = ((getHart c n).pc + 4) % 2 ^ 64 ∧ getX h rd = (if rd = 0 then 0 else handleOf q f % 2 ^ 64) ∧
    (∀ k, k ≠ n → getHart r.2 k = getHart c k) ∧ { r.2 with harts := c.harts } = c) ∧
  (∀ (s : State) (n : Fin 1024) (x : RType) (a q f : Nat) (t : Task), Executes s.core n.val x [] (some 0) → s.core.hbm.training = false →
    let h := getHart s.core n.val
    let va := getX h x.rs1.toNat
    let c := walkMet s.mem s.core n.val h va .load
    let b := getBoom c q
    let close := fun (c : Core) (buf : Option (List Byte)) => settleBooms s.mem (closeTask (xret c n.val x 0) q f 1 0 buf)
    let cut := settleBooms s.mem (closeTask (xret s.core n.val x 0) q f 2 (va % 256) none)
    heldTask h (getX h x.rs2.toNat) = some (q, f) →
    (bufferAt s.mem c n.val h va 64 64 .load = .ok a → taskOf b f = some t →
      (bdResEn b.desc = false → Makes (.bqRes n x) s (xret c n.val x (2 ^ 64 - 2))) ∧
      (bdResEn b.desc = true → bdResMax b.desc ≤ t.staged.length → Makes (.bqRes n x) s (xret c n.val x (2 ^ 64 - 4))) ∧
      (bdResEn b.desc = true → t.staged.length < bdResMax b.desc →
        Makes (.bqRes n x) s (xret (setBoom c q { b with tasks := b.tasks.map (fun t =>
          if t.first = f then { t with staged := t.staged ++ [readBytes s.mem (a + 31) 29] } else t) }) n.val x 0))) ∧
    (va = 0 → Gives (.bqDone n x) s (close s.core none).1 (close s.core none).2) ∧
    (bufferAt s.mem c n.val h va 64 64 .load = .ok a → va ≠ 0 →
      Gives (.bqDone n x) s (close c (some (readBytes s.mem (a + 31) 29))).1 (close c (some (readBytes s.mem (a + 31) 29))).2) ∧
    (va % 256 < 0x80 → Gives (.bqAbort n x) s cut.1 cut.2)) ∧
  (∀ (s : State) (n : Fin 1024) (x : RType) (a : Nat), Executes s.core n.val x [] (some 0) → s.core.hbm.training = false →
    let h := getHart s.core n.val
    let va := getX h x.rs1.toNat
    let c := walkMet s.mem s.core n.val h va .load
    let q := getX h x.rs2.toNat % 2 ^ 16
    heldTask h (getX h x.rs2.toNat) = none →
    Makes (.bqAbort n x) s (xret (staleOp s.core q) n.val x (2 ^ 64 - 3)) ∧
    (va = 0 → Makes (.bqDone n x) s (xret (staleOp s.core q) n.val x (2 ^ 64 - 3))) ∧
    (bufferAt s.mem c n.val h va 64 64 .load = .ok a → Makes (.bqRes n x) s (xret (staleOp c q) n.val x (2 ^ 64 - 3)) ∧
      (va ≠ 0 → Makes (.bqDone n x) s (xret (staleOp c q) n.val x (2 ^ 64 - 3))))) ∧
  (∀ (c : Core) (q : Nat), (getBoom (staleOp c q) q).stale = ((getBoom c q).stale + 1) % 2 ^ 64)

/-- O54. A load extends the bytes at its translated address into rd; LR also takes the reservation; a store writes its bytes
there and no others; SC stores and answers 0 with its reservation, and answers 1 and stores nothing without; an AMO answers
the old value and stores its result; a misaligned, translated-away, unmapped or Yard-protected access takes its exception; a
trap to M mode saves pc, cause, value and the MIE and MPP bits and goes to mtvec; mtime at mtimecmp makes MTIP pending, and
the interrupt is taken where it is enabled. (R331, R332, R333) -/
def Obligations.CoreLoadsStoresAndTimer : Prop :=
  (∀ (s : State) (n : Fin 1024) (x : MemAccess) (a : Nat), ReachesMemory s n.val x a → s.core.hbm.training = false →
    let len := 2 ^ x.size.toNat
    let c := walkMet s.mem s.core n.val (getHart s.core n.val) x.vaddr.toNat (kindOf x.op)
    let hint := hartHint (getHart c n.val)
    let read := touchHbm c a len hint
    let old := readNat s.mem a len
    let value := x.value.toNat % 2 ^ (8 * len)
    let amo := amoResult x.op (8 * len) old value
    let written := fun (d : Core) (v : Nat) => breakReservations (checkedStore s.mem d a (leBytes len v) .close).2 a len
    let kept := fun (d : Core) (v : Option (Nat × Nat)) => modHart d n.val (fun h => { h with reserved := v })
    (∀ sg, x.op = .load sg → badUnits s.mem a len = [] → Makes (.sawyerLoadStore n x) s (retire read n.val x.op x.rd.toNat (extended sg (8 * len) old))) ∧
    (∀ sg, x.op = .load sg → badUnits s.mem a len ≠ [] → Makes (.sawyerLoadStore n x) s
      (uncorrectableTrap (checkedRead s.mem c a len hint).2 n.val 5 x.vaddr.toNat)) ∧
    (x.op = .lr → badUnits s.mem a len = [] → Makes (.sawyerLoadStore n x) s
      (retire (kept read (some (a, len))) n.val x.op x.rd.toNat (extended true (8 * len) old))) ∧
    (x.op = .store → protectedYard c a len = false → Gives (.sawyerLoadStore n x) s (store s.mem a (leBytes len value))
      (retireStore (written read value) n.val x.op)) ∧
    (x.op = .sc → protectedYard c a len = false → (getHart c n.val).reserved ≠ some (a, len) → Makes (.sawyerLoadStore n x) s
      (retire (kept c none) n.val x.op x.rd.toNat 1)) ∧
    (x.op = .sc → protectedYard c a len = false → (getHart c n.val).reserved = some (a, len) →
      Gives (.sawyerLoadStore n x) s (store s.mem a (leBytes len value)) (retire (kept (written read value) none) n.val x.op x.rd.toNat 0)) ∧
    (atomic x.op = true → x.op ≠ .lr → x.op ≠ .sc → protectedYard c a len = false → badUnits s.mem a len = [] →
      Gives (.sawyerLoadStore n x) s (store s.mem a (leBytes len amo))
        (retire (written read amo) n.val x.op x.rd.toNat (extended true (8 * len) old))) ∧
    (x.op = .fetch → badUnits s.mem a len = [] → Makes (.sawyerLoadStore n x) s read) ∧
    (kindOf x.op = .store → protectedYard c a len = true → Makes (.sawyerLoadStore n x) s (hartTrap c n.val 7 x.vaddr.toNat))) ∧
  (∀ (m : Mem) (a len v : Nat), SameBytesBut a len m (store m a (leBytes len v)) ∧ readNat (store m a (leBytes len v)) a len = v % 2 ^ (8 * len)) ∧
  (∀ (s : State) (n : Fin 1024) (x : MemAccess), HartRuns s.core n.val → s.core.hbm.training = false →
    let k := kindOf x.op
    let len := 2 ^ x.size.toNat
    let c := walkMet s.mem s.core n.val (getHart s.core n.val) x.vaddr.toNat k
    (atomic x.op = true → 4 ≤ len) →
    (x.vaddr.toNat % (if k = .fetch then 2 else len) ≠ 0 → Makes (.sawyerLoadStore n x) s (hartTrap s.core n.val (alignCause k) x.vaddr.toNat)) ∧
    (x.vaddr.toNat % (if k = .fetch then 2 else len) = 0 →
      (∀ e, translate s.mem s.core n.val (getHart s.core n.val) x.vaddr.toNat len k = .error e →
        Makes (.sawyerLoadStore n x) s (hartTrap c n.val e x.vaddr.toNat)) ∧
      (∀ p, translate s.mem s.core n.val (getHart s.core n.val) x.vaddr.toNat len k = .ok p → regionOf c n.val p len = .unmapped →
        Makes (.sawyerLoadStore n x) s (hartTrap c n.val (accessCause k) x.vaddr.toNat)))) ∧
  (∀ (c : Core) (n : Nat) (op : MemOp) (rd v : Nat),
    let d := retire c n op rd v
    op ≠ .fetch → rd < 32 →
    ((getHart d n).pc = ((getHart c n).pc + 2) % 2 ^ 64 ∨ (getHart d n).pc = ((getHart c n).pc + 4) % 2 ^ 64) ∧
    getX (getHart d n) rd = (if rd = 0 then 0 else v % 2 ^ 64) ∧ (∀ r, r ≠ rd → getX (getHart d n) r = getX (getHart c n) r) ∧
    (getHart d n).csr = (getHart c n).csr ∧ d.regs = c.regs) ∧
  (∀ (h : Hart) (irq : Bool) (cause tval : Nat), h.mode ≤ 3 → (h.mode = 3 ∨ bit (csrGet h (if irq then csrMideleg else csrMedeleg)) cause = false) →
    let t := trap h irq cause tval
    t.mode = 3 ∧ csrGet t csrMepc = h.pc ∧ csrGet t csrMcause = cause + ofBool irq * 2 ^ 63 ∧
      csrGet t csrMtval = tval ∧ bits (csrGet t csrMstatus) 11 2 = h.mode ∧
      bits (csrGet t csrMstatus) 7 1 = bits (csrGet h csrMstatus) 3 1 ∧ bits (csrGet t csrMstatus) 3 1 = 0 ∧
      t.pc = csrGet h csrMtvec / 4 * 4 + (if irq = true ∧ csrGet h csrMtvec % 4 = 1 then 4 * cause else 0) ∧ t.x = h.x) ∧
  (∀ (s : State) (n : Fin 1024),
    let h := getHart s.core n.val
    let g := timerPending s.core h
    (h.running = true → h.mtimecmp ≤ mtime s.core → bit (csrGet g csrMip) 7 = true ∧
      Makes (.machineTimerInterrupt n) s (interruptsOf (setHart s.core n.val g) n.val) ∧
      (h.waits = none → pendingInts g = 2 ^ 7 → bit (csrGet g csrMideleg) 7 = false → (h.mode < 3 ∨ bit (csrGet g csrMstatus) 3 = true) →
        Makes (.machineTimerInterrupt n) s (setHart s.core n.val (trap g true 7 0)))) ∧
    ((h.running = false ∨ mtime s.core < h.mtimecmp) → Makes (.machineTimerInterrupt n) s s.core))

/-- O55. An acceptable descriptor configures a disabled boom; disabling closes the undispatched entries of a boom without a task
in flight; a migration drains an enabled boom toward its group, at once with its open tasks ABORTED(MIGRATED) or when they
are done, and DRAIN_TIMEOUT aborts those that are left; a partition that does not run delivers nothing, and one that runs
delivers the next ready task to the core that takes it; a task held beyond its TASK_TIMEOUT closes ABORTED(TIMEOUT) and is
counted; RUN starts the cores in M mode at BOOT_ADDR, a stop resets them; WIN_SUBMIT of the next consecutive jobs enters
them into the boom of the window. (R342, R343, R345, R346, R348, R349, R350, R353, R355, R358, R359) -/
def Obligations.BoomsPartitionsAndTheWindow : Prop :=
  (∀ (s : State) (q : BitVec 16) (data : List Byte), Open s.core → data.length = 32 →
    let b := getBoom s.core q.toNat
    let d := putField (ofLe data) 128 16 (bdPlacement b.desc)
    let r := resumeBoom s.mem (reschedule (setBoom s.core q.toNat { b with desc := d })) q.toNat
    (bdEnabled b.desc = false → bdEnabled (ofLe data) = false → bdEnabled d = false →
      (bits d 59 5 ≠ 0 ∨ bits d 111 17 ≠ 0 ∨ bits d 144 112 ≠ 0) → Makes (.boomDesc q data) s { s.core with status := stOutOfRange }) ∧
    (bdEnabled b.desc = false → bdEnabled (ofLe data) = false → bdEnabled d = false → bits d 59 5 = 0 → bits d 111 17 = 0 → bits d 144 112 = 0 →
      Accepts (.boomDesc q data) s (setBoom s.core q.toNat { b with desc := d })) ∧
    (bdEnabled b.desc = false → bdEnabled (ofLe data) = true → boomDescStatus d = none → boomDescConflict s.core q.toNat d = false →
      Gives (.boomDesc q data) s r.1 { r.2 with status := stOk }) ∧
    (bdEnabled b.desc = true → ofLe data ≠ clearBit b.desc 53 → Makes (.boomDesc q data) s { s.core with status := stStateConflict })) ∧
  (∀ (s : State) (q : BitVec 16), Open s.core →
    let b := getBoom s.core q.toNat
    let r := settleBooms s.mem (modBoom (closeEntries s.core q.toNat (b.dispatch + 1) (b.tail - b.dispatch) 3 0x85) q.toNat
      (fun b => { b with desc := clearBit b.desc 53 }))
    let t := resumeBoom r.1 r.2 q.toNat
    bdEnabled b.desc = true → b.desc < 2 ^ 256 →
    (inFlight b ≠ 0 → Makes (.boomDisable q) s { s.core with status := stStateConflict }) ∧
    (inFlight b = 0 → b.draining = none → b.again = [] →
      Gives (.boomDisable q) s t.1 { t.2 with status := stOk })) ∧
  (∀ (s : State) (q : BitVec 16) (g : BitVec 6), Open s.core →
    let b := getBoom s.core q.toNat
    let c := reschedule (setBoom s.core q.toNat { b with draining := some g.toNat, drainSince := s.core.time, drainAborts := 0 })
    (bdEnabled b.desc = true → b.draining = none →
      Gives (.migrateFinish q g) s (settleBooms s.mem c).1 { (settleBooms s.mem c).2 with status := stOk } ∧
      Gives (.migrateAbort q g) s (drainBoom s.mem c q.toNat).1 { (drainBoom s.mem c q.toNat).2 with status := stOk }) ∧
    ((bdEnabled b.desc = false ∨ b.draining.isSome = true) → Makes (.migrateFinish q g) s { s.core with status := stStateConflict } ∧
      Makes (.migrateAbort q g) s { s.core with status := stStateConflict })) ∧
  (∀ (s : State) (q : BitVec 16),
    let l := (getBoom s.core q.toNat).tasks.filter (fun t => t.closed.isNone)
    let r := settleBooms s.mem (modBoom (l.foldl (fun c t => closeTask c q.toNat t.first 2 0x81 none) s.core) q.toNat
      (fun b => { b with drainAborts := b.drainAborts + l.length }))
    ((getBoom s.core q.toNat).draining.isSome = true → Gives (.drainTimeout q) s r.1 r.2) ∧
    ((getBoom s.core q.toNat).draining = none → Makes (.drainTimeout q) s s.core)) ∧
  (∀ (s : State) (k : Fin 8), s.core.hbm.training = false →
    let p := settleBooms s.mem s.core
    (rd p.2 (mkKey (0x5410 + k.val) 4) = 0 → Gives (.taskDelivery k) s p.1 p.2) ∧
    (∀ n q f c, rd p.2 (mkKey (0x5410 + k.val) 4) ≠ 0 → takerOf p.2 k.val = some (n, false) → deliverTurn p.1 p.2 k.val n = (some (q, f), c) →
      Gives (.taskDelivery k) s (reachCore p.1 c n q f).1 (reachCore p.1 c n q f).2)) ∧
  (∀ (m : Mem) (c : Core) (n q f : Nat), (getHart c n).waits = none → ∃ d, reachCore m c n q f = (m, interruptsOf d n) ∧
    (getHart d n).delivered = some (q, f) ∧ csrGet (getHart d n) csrMip = setBit (csrGet (getHart c n) csrMip) 16 ∧ d.booms = c.booms) ∧
  (∀ (s : State) (q : BitVec 16) (f : BitVec 48) (t : Task), taskOf (getBoom s.core q.toNat) f.toNat = some t →
    let r := settleBooms s.mem (tallyEvent (bump (closeTask s.core q.toNat f.toNat 2 0x84 none) (mkKey 0x5400 5)) 0xE8)
    (t.closed = none → t.core.isSome = true → rd s.core (mkKey (0x5420 + t.group) 4) ≠ 0 →
      Gives (.taskTimeout q f) s r.1 r.2) ∧
    ((t.closed.isSome = true ∨ t.core = none ∨ rd s.core (mkKey (0x5420 + t.group) 4) = 0) → Makes (.taskTimeout q f) s s.core)) ∧
  (∀ (s : State) (k : Fin 8), Open s.core → InModes s.core [.warm, .calibrate, .run, .service] →
    (rd s.core (mkKey (0x5410 + k.val) 4) = 1 → Accepts (.partitionRun k) s s.core) ∧
    (rd s.core (mkKey (0x5410 + k.val) 4) ≠ 1 → ∃ c, Accepts (.partitionRun k) s c ∧ rd c (mkKey (0x5410 + k.val) 4) = 1 ∧
      (∀ n ∈ coresOf s.core k.val, getHart c n = { running := true, pc := rd s.core (mkKey (0x5410 + k.val) 3) }) ∧
      (∀ n, n ∉ coresOf s.core k.val → getHart c n = getHart s.core n)) ∧
    (rd s.core (mkKey (0x5410 + k.val) 4) = 0 → Accepts (.partitionStop k) s s.core) ∧
    (rd s.core (mkKey (0x5410 + k.val) 4) ≠ 0 → (∀ n ∈ coresOf s.core k.val, (getHart s.core n).held = [] ∧ (getHart s.core n).delivered = none) →
      ∃ c, Gives (.partitionStop k) s (settleBooms s.mem c).1 { (settleBooms s.mem c).2 with status := stOk } ∧ rd c (mkKey (0x5410 + k.val) 4) = 0 ∧
        (∀ n ∈ coresOf s.core k.val, getHart c n = {}) ∧ (∀ n, n ∉ coresOf s.core k.val → getHart c n = getHart s.core n))) ∧
  (∀ (s : State) (data : List Byte), Open s.core →
    let q := rd s.core (mkKey 0x5800 1)
    let b := getBoom s.core q
    let l := cutEntries data
    let r := enterJobs s.mem (bumpBy s.core (mkKey 0x5800 5) 0) q l
    data.length % 64 = 0 → data.length ≤ 65536 → winStatus s.core q l = none → (∀ e ∈ l, winNext s.core q ≤ recSeq e) →
    noDeviceId s.core = false → rd s.core (mkKey 0x7800 8) ≠ 1 → pairState s.core ≤ 1 → bdEnabled b.desc = true → bdSource b.desc = 2 →
    (l.length ≤ boomFree s.core q →
      Gives (.winSubmit data) s r.1 { reschedule r.2 with status := stOk }) ∧
    (boomFree s.core q < l.length → Makes (.winSubmit data) s { s.core with status := stStateConflict }))

/-- O56. An enabled link that is not UP takes its trained state, partner, partner link and the lower level, its clock locks and
the pair is brought up to date; it retrains as TRAINING; a link without requests, lost tokens or the mirroring goes DOWN
with its objects cleared, DOWN_EVENTS counted and the link source raised at L1; a good flit frees the replay buffer up to
its ACK and the credit it carries; the expected DATA flit is taken into the receive buffer, any other one answered by one
NAK; a NAK or a replay time-out sends what is unacknowledged again, and takes the link DOWN at the sixteenth replay; the ACK
timer sends an IDLE flit. (R364, R365, R366, R367, R368, R369) -/
def Obligations.WithyLinksAndFlits : Prop :=
  (∀ (s : State) (l : Fin 8) (p lv : BitVec 16) (k : Fin 8), (rd s.core (lk l.val 1) ≠ 1 ∨ linksRun s.core = false ∨ linkUp s.core l.val = true) →
    Makes (.withyLinkUp l p k lv) s s.core ∧ Makes (.withyRetrain l) s s.core) ∧
  (∀ (s : State) (l : Fin 8) (p lv : BitVec 16) (k : Fin 8), rd s.core (lk l.val 1) = 1 → linksRun s.core = true → linkUp s.core l.val = false →
    Makes (.withyRetrain l) s (wr s.core (lk l.val 2) 1) ∧
    ∃ x y, Makes (.withyLinkUp l p k lv) s (pairRefresh
        (if levelDiffers x = true ∧ levelDiffers s.core = false ∧ pairState s.core = 2 then raise y 301 1 0 else y)) ∧
      (y = if bit (rd x (bk 2)) l.val = true ∧ pairState x = 1 ∧ x.buddy.probing.isSome = true then resendMirror (stopProbing x) (fun _ => true) else x) ∧
      (getLink x l.val).level = lv.toNat ∧ (getLink x l.val).heard = some s.core.time ∧ rd x (lk l.val 2) = (if oneLane s.core then 3 else 2) ∧ rd x (lk l.val 3) = p.toNat ∧
      rd x (lk l.val 4) = k.val ∧ rd x (lk l.val 5) = min lv.toNat (rd s.core (mkKey 0x1008 0)) ∧ clockBit x (30 + l.val) = true ∧
      SameRegsBut [lk l.val 2, lk l.val 3, lk l.val 4, lk l.val 5, clockKey] s.core x) ∧
  (∀ (s : State) (l : Fin 8), (linkUp s.core l.val = false → Makes (.withyLinkDown l) s s.core) ∧
    (let d := linkClockLost (linkFell s.core l.val) l.val
     linkUp s.core l.val = true → lostTokens (getLink s.core l.val) = [] →
      (∀ r ∈ d.remote.reqs, r.link ≠ l.val) → mirrorLink s.core ≠ some l.val → Makes (.withyLinkDown l) s d)) ∧
  (∀ (c : Core) (l : Fin 8), ∃ x, linkFell c l.val = raise x (224 + l.val) 1 l.val ∧ rd x (lk l.val 2) = 0 ∧ rd x (lk l.val 3) = 0xFFFF ∧
    rd x (lk l.val 4) = 0xFF ∧ rd x (lk l.val 5) = 0 ∧ rd x (lk l.val 8) = (rd c (lk l.val 8) + 1) % 2 ^ 64 ∧ (getLink x l.val).level = 0 ∧ (getLink x l.val).replay = [] ∧
    (getLink x l.val).rx = [] ∧ (getLink x l.val).waiting = [] ∧ (getLink x l.val).next = 0 ∧ (getLink x l.val).expect = 0) ∧
  (∀ (c : Core) (l : Fin 8),
    let d := setClock c (30 + l.val) false
    linkClockLost c l.val = if rd c (lk l.val 1) = 1 ∧ linksRun c = true then raise d (270 + l.val) 1 0 else d) ∧
  (∀ (c : Core) (l : Nat) (f : Flit),
    let x := getLink c l
    let d := heardFlit c l f
    x.waiting = [] →
    (getLink d l).replay = ackFlits x.replay f.ack.toNat ∧ (getLink d l).heard = some c.time ∧ (getLink d l).rx = x.rx ∧
    (getLink d l).expect = x.expect ∧ (∀ e ∈ [(0, f.credit0), (1, f.credit1), (2, f.credit2), (3, f.credit3)],
      mget 0 (getLink d l).inUse e.1 = mget 0 x.inUse e.1 - e.2.toNat) ∧ d.regs = c.regs ∧ d.outbox = c.outbox) ∧
  (∀ (s : State) (l : Fin 8) (f : Flit), linkUp s.core l.val = false →
    Makes (.flitData l f) s s.core ∧ Makes (.flitIdle l f) s s.core ∧ Makes (.flitNak l f) s s.core ∧ Makes (.flitReplayTimeout l) s s.core ∧
    Makes (.flitAckTimer l) s s.core) ∧
  (∀ (s : State) (l : Fin 8) (f : Flit), linkUp s.core l.val = true →
    let c := if flitGood 0 f then heardFlit s.core l.val f else s.core
    let x := getLink c l.val
    (flitGood 0 f = true → f.fseq.toNat = x.expect → Makes (.flitData l f) s (setLink c l.val
      { x with expect := (x.expect + 1) % 4096, nakSent := false, rx := tidySlots (x.rx.length + 16) (x.rx ++ f.slots) })) ∧
    ((flitGood 0 f = false ∨ f.fseq.toNat ≠ x.expect) → x.nakSent = true → Makes (.flitData l f) s c) ∧
    ((flitGood 0 f = false ∨ f.fseq.toNat ≠ x.expect) → x.nakSent = false →
      Makes (.flitData l f) s (sendFlit (setLink c l.val { x with nakSent := true }) l.val 2 0 (List.replicate 15 0)))) ∧
  (∀ (s : State) (l : Fin 8) (f : Flit), linkUp s.core l.val = true → (flitGood 1 f = true → Makes (.flitIdle l f) s (heardFlit s.core l.val f)) ∧
    (flitGood 1 f = false → Makes (.flitIdle l f) s s.core) ∧ (flitGood 2 f = false → Makes (.flitNak l f) s s.core) ∧
    Makes (.flitAckTimer l) s (sendFlit s.core l.val 1 0 (List.replicate 15 0))) ∧
  (∀ (s : State) (l : Fin 8) (f : Flit), linkUp s.core l.val = true → flitGood 2 f = true →
    let c := heardFlit s.core l.val f
    let x := getLink c l.val
    (x.replay = [] → Makes (.flitNak l f) s c) ∧
    (x.replay ≠ [] → (∀ e ∈ x.replay, e.replays < 15) → Makes (.flitNak l f) s (replayFlits c l.val)) ∧
    (x.replay ≠ [] → (∃ e ∈ x.replay, e.replays = 15) → (∀ e ∈ x.replay, e.replays ≤ 15) →
      Gives (.flitNak l f) s (linkDown s.mem (replayFlits c l.val) l.val).1 (linkDown s.mem (replayFlits c l.val) l.val).2)) ∧
  (∀ (s : State) (l : Fin 8), linkUp s.core l.val = true →
    let x := getLink s.core l.val
    (x.replay = [] → Makes (.flitReplayTimeout l) s s.core) ∧
    (x.replay ≠ [] → (∀ e ∈ x.replay, e.replays < 15) → Makes (.flitReplayTimeout l) s (replayFlits s.core l.val))) ∧
  (∀ (c : Core) (l : Fin 8),
    let x := getLink c l.val
    let d := replayFlits c l.val
    rd d (lk l.val 6) = (rd c (lk l.val 6) + x.replay.length) % 2 ^ 64 ∧ (getLink d l.val).progress = c.time ∧
    (getLink d l.val).replay = x.replay.map (fun f => { f with replays := f.replays + 1 }) ∧ d.outbox.length = c.outbox.length + x.replay.length) ∧
  (∀ (c : Core) (l kind fseq : Nat) (slots : List Slot),
    let d := sendFlit c l kind fseq slots
    d.outbox = c.outbox ++ [.flit l kind fseq (flitBytes (getLink c l) kind fseq slots)] ∧ (getLink d l).replay = (getLink c l).replay ∧
    d.regs = c.regs)

/-- O57. A request for this device is served through its aperture: a read answers STATUS 0 with the bytes, a write stores its
body at the aperture's local address and in no other byte, and a closed aperture answers its status; a request for another
device goes on by ROUTE; a response ends the request it answers and one that answers none does nothing but free its slots;
without a response REMOTE_TIMEOUT ends it with STATUS 8; an acceptable BLOCK_LOAD runs and asks for its first block, a
second one is refused, and each block that arrives whole is stored at its place; a relayed DAP frame that is damaged is
counted, one for another device goes on, and one for this device is taken. (R39, R40, R75, R371, R372, R373) -/
def Obligations.RemoteAccessAndBlockLoads : Prop :=
  (∀ (s : State) (l : Fin 8) (m : Msg),
    let c := takeSlots s.core l.val 1 (1 + msgSlots m)
    let g := m.addr.toNat / 64 * 64
    let n := 64 * (m.size.toNat % 16 + 1)
    (forMe s.core m = false → Makes (.rdReq l m) s (forwardMsg c 1 m) ∧ Makes (.wrReq l m) s (forwardMsg c 2 m)) ∧
    (forMe s.core m = true → noDeviceId s.core = false → s.core.hbm.training = false →
      (∀ st, apertureOf c g n false = .error st → Makes (.rdReq l m) s (sendTo c 3 2 m.src.toNat false m.tag.toNat 0 st 0 []).1) ∧
      (∀ a, apertureOf c g n false = .ok a → badUnits s.mem a n = [] → m.block = false →
        Makes (.rdReq l m) s (sendTo (touchHbm c a n .auto) 3 2 m.src.toNat false m.tag.toNat 0 0 0 (readBytes s.mem a n)).1) ∧
      (∀ a t, apertureOf c g n false = .ok a → badUnits s.mem a n = [] → m.block = true → mfind s.mem.tags (a / 4096) = some t →
        Makes (.rdReq l m) s (sendTo (touchHbm c a n .auto) 3 2 m.src.toNat false m.tag.toNat t 0 0 (readBytes s.mem a n)).1) ∧
      (∀ st, apertureOf c g m.body.length true = .error st → Makes (.wrReq l m) s (sendTo c 4 2 m.src.toNat false m.tag.toNat 0 st 0 []).1) ∧
      (∀ a, apertureOf c g m.body.length true = .ok a → Gives (.wrReq l m) s (store s.mem a m.body)
          (sendTo (breakReservations (checkedStore s.mem c a m.body .auto).2 a m.body.length) 4 2 m.src.toNat false m.tag.toNat 0 0 0 []).1 ∧
        SameBytesBut a m.body.length s.mem (store s.mem a m.body)))) ∧
  (∀ (s : State) (l : Fin 8) (m : Msg),
    let c := takeSlots s.core l.val 2 (1 + msgSlots m)
    let d := { c with remote := { c.remote with reqs := c.remote.reqs.filter (fun x => x.tag != m.tag.toNat) } }
    (forMe s.core m = false → Makes (.rdResp l m) s (forwardMsg c 3 m) ∧ Makes (.wrResp l m) s (forwardMsg c 4 m)) ∧
    (forMe s.core m = true → s.core.hbm.training = false → (∀ r ∈ s.core.remote.reqs, r.tag ≠ m.tag.toNat) → Makes (.rdResp l m) s c ∧ Makes (.wrResp l m) s c) ∧
    (∀ r, forMe s.core m = true → s.core.hbm.training = false →
      s.core.remote.reqs.find? (fun r => r.tag == m.tag.toNat && r.dst == m.src.toNat) = some r →
      let p := loadPart s.mem d r.part m.status.toNat (m.addr.toNat % 2 ^ 32) m.body
      (∀ n, r.core = some n → Makes (.rdResp l m) s (remoteAnswer d n m.status.toNat m.body) ∧
        Makes (.wrResp l m) s (remoteAnswer d n m.status.toNat m.body)) ∧
      (r.core = none → Gives (.rdResp l m) s p.1 p.2))) ∧
  (∀ (s : State) (tag : BitVec 16) (r : RemoteReq), s.core.remote.reqs.find? (fun r => r.tag == tag.toNat) = some r →
    let d := { s.core with remote := { s.core.remote with reqs := s.core.remote.reqs.filter (fun x => x.tag != tag.toNat) } }
    let p := endRequest s.mem d r 8 0 []
    Gives (.remoteTimeout tag) s p.1 p.2) ∧
  (∀ (s : State) (tag : BitVec 16), s.core.remote.reqs.find? (fun r => r.tag == tag.toNat) = none → Makes (.remoteTimeout tag) s s.core) ∧
  (∀ (c : Core) (n : Nat) (tag g : Nat) (x : MemAccess) (w : Bool) (st : Nat) (data : List Byte), (getHart c n).waits = some (.remote tag x g w) →
    (st ≠ 0 → remoteAnswer c n st data = hartTrap (modHart c n (fun h => { h with waits := none })) n (accessCause (kindOf x.op)) x.vaddr.toNat) ∧
    (∀ sg, x.op = .load sg → remoteAnswer c n 0 data = interruptsOf (retire (modHart c n (fun h => { h with waits := none })) n x.op x.rd.toNat
      (extended sg (8 * 2 ^ x.size.toNat) (leAt data (g % 64) (2 ^ x.size.toNat)))) n)) ∧
  (∀ (s : State) (data : List Byte), Open s.core → InModes s.core [.warm, .calibrate, .run, .service] → data.length = 24 →
    let src := leAt data 0 8
    let dst := leAt data 8 8
    let len := leAt data 16 4
    leAt data 20 4 = 0 → src % 4096 = 0 → src < 2 ^ 48 → dst % 4096 = 0 →
    len % 4096 = 0 → 4096 ≤ len → len ≤ 2 ^ 30 → dst + len ≤ capacity s.core →
    (rd s.core (wo 7) = 1 → Makes (.blockLoad data) s { s.core with status := stStateConflict }) ∧
    (rd s.core (wo 7) ≠ 1 → (∃ b ∈ blocksOf dst len, blockInUse s.core b = true) → Makes (.blockLoad data) s { s.core with status := stBlockInUse }) ∧
    (rd s.core (wo 7) ≠ 1 → (∀ b ∈ blocksOf dst len, blockInUse s.core b = false) → ∃ b,
      Gives (.blockLoad data) s (askBlock (len / 4096) s.mem b).1 { (askBlock (len / 4096) s.mem b).2 with status := stOk } ∧
      rd b (wo 7) = 1 ∧ rd b (wo 8) = 0 ∧ rd b (wo 9) = 0xFF ∧ dom b (wo 6) = data ∧
      b.remote.load = some { source := src, dest := dst, length := len, block := 0, parts := [] } ∧
      SameRegsBut [wo 7, wo 8, wo 9] s.core b)) ∧
  (∀ (m : Mem) (c : Core) (x : Load) (part crc : Nat) (data : List Byte), c.remote.load = some x →
    let b := loadDest x
    let parts := minsert (merase x.parts part) part data
    let w := store m (4096 * b) (padTo 4096 (parts.flatMap Prod.snd))
    let r := loadPart m c part 0 crc data
    (∀ st, st ≠ 0 → (loadPart m c part st crc data).1.cells = m.cells ∧ mfind (loadPart m c part st crc data).1.tags b = none ∧
      rd (loadPart m c part st crc data).2 (wo 7) = 3 ∧ rd (loadPart m c part st crc data).2 (wo 9) = st) ∧
    (parts.length < 4 → r = (m, { c with remote := { c.remote with load := some { x with parts := parts } } })) ∧
    SameBytesBut (4096 * b) 4096 m w ∧ readBytes w (4096 * b) 4096 = padTo 4096 (parts.flatMap Prod.snd) ∧
    (4 ≤ parts.length → mfind w.tags b ≠ some crc → r.1.cells = w.cells ∧ mfind r.1.tags b = none ∧ rd r.2 (wo 7) = 3 ∧ rd r.2 (wo 9) = 5) ∧
    (4 ≤ parts.length → mfind w.tags b = some crc → x.length ≤ 4096 * (x.block + 1) →
      r.1 = w ∧ rd r.2 (wo 7) = 2 ∧ rd r.2 (wo 8) = rd c (wo 8) + 1 ∧ r.2.remote.load = none) ∧
    (4 ≤ parts.length → mfind w.tags b = some crc → 4096 * (x.block + 1) < x.length → ∃ d,
      r = askBlock (x.length / 4096 - (x.block + 1)) w d ∧ rd d (wo 8) = rd c (wo 8) + 1 ∧
      d.remote = { c.remote with load := some { x with block := x.block + 1, parts := [] } })) ∧
  (∀ (s : State) (l : Fin 8) (op : Byte) (f : DapFrame),
    let b := hasFlag f flagReply || op.toNat == opNotify
    let c := takeSlots s.core l.val (if b then 2 else 1) (relaySlots op.toNat f)
    let p := dapHere s.mem c (2 + l.val) op.toNat f
    (dapIntact op.toNat f = false → Makes (.dapRelay l op f) s (frameDiscarded c)) ∧
    (dapIntact op.toNat f = true → b = true → Makes (.dapRelay l op f) s (relayBack c op.toNat f)) ∧
    (dapIntact op.toNat f = true → b = false → forOther s.core f = true → Makes (.dapRelay l op f) s (relayRequest c (2 + l.val) op.toNat f)) ∧
    (dapIntact op.toNat f = true → b = false → forOther s.core f = false →
      Gives (.dapRelay l op f) s p.1 p.2))

/-- O58. A MIRROR or CONFIRM for another device goes on; a MIRROR of the named buddy is stored and confirmed with STATUS 0, one
that fails its check is confirmed with STATUS 5 and counted, and one that finds the area full is left unconfirmed; a CONFIRM
with STATUS 0 of the first waiting item of its stream lets the item's pointer pass, any other one changes no item; 50 us
without a CONFIRM in the MIRRORED state starts the probes, which go on every 500 us; 5 ms without a reply make the partner
lost; a reply with the nonce ends the probing; TAKEOVER with a higher fence makes a device whose partner is lost serve its
streams; a recovery ends with the items of the buddy, and with the device FENCED where the buddy has the higher fence.
(R384, R385, R386, R387, R421) -/
def Obligations.TheBuddyPair : Prop :=
  (∀ (s : State) (l : Fin 8) (m : MirrorMsg), m.dst.toNat ≠ deviceId s.core →
    Makes (.mirror l m) s (forwardMirror (takeSlots s.core l.val 3 (1 + (m.item.bytes.length + 15) / 16)) m)) ∧
  (∀ (s : State) (l : Fin 8) (m : MirrorMsg), s.core.hbm.training = false → m.dst.toNat = deviceId s.core →
    let n := 1 + (m.item.bytes.length + 15) / 16
    let c := freeHeld s.core m.item m.acked.toNat
    let same := fun (x : MirrorItem) => x.kind == m.item.kind && x.id == m.item.id && x.sequence == m.item.sequence
    let d := takeSlots c l.val 3 n
    (m.owner.toNat ≠ rd s.core (bk 1) → Makes (.mirror l m) s (takeSlots s.core l.val 3 n)) ∧
    (m.owner.toNat = rd s.core (bk 1) → noDeviceId s.core = false →
      (itemGood m.item = false → Makes (.mirror l m) s (sendConfirm (countCrcFail (takeSlots c l.val 3 n) 1) m 5)) ∧
      (itemGood m.item = true → c.buddy.held.any same = false → rd s.core (bk 4) < mirrorUsed c + unitsOf m.item.bytes → Makes (.mirror l m) s c) ∧
      (itemGood m.item = true → c.buddy.held.any same = false → mirrorUsed c + unitsOf m.item.bytes ≤ rd s.core (bk 4) →
        Makes (.mirror l m) s (sendConfirm
          (notePartnerRun { d with buddy := { d.buddy with held := freeSteps (c.buddy.held ++ [m.item]) } } m.item) m 0)))) ∧
  (∀ (s : State) (l : Fin 8) (f : ConfirmMsg),
    let c := takeSlots s.core l.val 3 2
    (f.device.toNat ≠ deviceId s.core → Makes (.confirm l f) s (forwardConfirm c f)) ∧
    (f.device.toNat = deviceId s.core → f.fence.toNat ≤ rd s.core (bk 9) →
      (firstWaiting s.core f.kind f.id = none → Makes (.confirm l f) s c) ∧
      (∀ it, firstWaiting s.core f.kind f.id = some it → it.sequence ≠ f.sequence → Makes (.confirm l f) s c) ∧
      (∀ it, firstWaiting s.core f.kind f.id = some it → it.sequence = f.sequence → f.status = 0 → Makes (.confirm l f) s (confirmItem c it)) ∧
      (∀ it, firstWaiting s.core f.kind f.id = some it → it.sequence = f.sequence → f.status ≠ 0 → itemGood it = true →
        Makes (.confirm l f) s (resendMirror (recoveredCopy c it.sequence.toNat) (fun x => x.kind == it.kind && x.id == it.id))))) ∧
  (∀ (c : Core) (it : MirrorItem),
    let d := confirmItem c it
    d.buddy.waiting = c.buddy.waiting.erase it ∧ d.buddy.lastConfirm = c.time ∧
    (it.kind = .record → it.sequence.toNat ≤ (getStream d it.id.toNat).confirmed) ∧
    (it.kind = .job → it.sequence.toNat ≤ (getBoom d it.id.toNat).covered)) ∧
  (∀ s : State, (s.core.buddy.probing = none → Makes .partnerProbeTimer s s.core ∧ Makes .partnerProbeTimeout s s.core) ∧
    (s.core.buddy.probing.isSome = true → Makes .partnerProbeTimer s (sendProbe s.core) ∧
      ((pairState s.core = 1 ∨ pairState s.core = 2) → Makes .partnerProbeTimeout s (leaveMirrored s.core 3))) ∧
    ((pairState s.core ≠ 1 ∨ s.core.buddy.waiting = []) → Makes .confirmTimeout s s.core) ∧
    (pairState s.core = 1 → s.core.buddy.waiting ≠ [] → s.core.buddy.probing = none → Makes .confirmTimeout s
      (sendProbe { s.core with buddy := { s.core.buddy with probing := some s.core.time, nonce := s.core.buddy.nonce + 1 } }))) ∧
  (∀ (c : Core) (st : Nat), st ≠ 1 → st < 6 → rd (leaveMirrored c st) (bk 7) = st ∧ (leaveMirrored c st).buddy.waiting = []) ∧
  (∀ c : Core, ((sendProbe c).outbox = c.outbox ∨ ∃ p v4 k a l, (sendProbe c).outbox = c.outbox ++ [.udp p svcDap v4 k a l] ∧ buddyAddr c = some a ∧
      portUp c p = true) ∧ (sendProbe c).regs = c.regs ∧ (sendProbe c).buddy = { c.buddy with probeLast := c.time }) ∧
  (∀ (s : State) (f : DapFrame),
    let c := { s.core with buddy := { s.core.buddy with probing := none } }
    portUp s.core f.eth.val = true → ipTaken s.core f.eth.val f.ip = true → dapIntact opProbe f = true → authRequired s.core = false →
    hasFlag f flagReply = true → f.payload.length = 16 → s.core.buddy.probing.isSome = true → leAt f.payload 0 2 = rd s.core (bk 1) →
    leAt f.payload 4 8 = Config.deviceNumber s.core.buddy.nonce % 2 ^ 64 → pairState s.core = 1 → leAt f.payload 2 2 = rd s.core (mkKey 0x1008 0) →
    rd (leaveMirrored c 2) (mkKey 0x1008 0) = rd s.core (mkKey 0x1008 0) →
    Makes (.partnerProbeReply f) s (pairRefresh (leaveMirrored c 2))) ∧
  (∀ (s : State) (fence : BitVec 64), Open s.core →
    (pairState s.core = 3 → rd s.core (bk 9) < fence.toNat → ∃ c, Accepts (.takeover fence) s c ∧ rd c (bk 9) = fence.toNat ∧ pairState c = 4 ∧
      SameRegsBut [bk 7, bk 9] s.core c ∧
      c.buddy.jobs = (s.core.buddy.held.filter (fun it => it.kind == .job)).map (partnerJob s.core) ∧ c.buddy.probing = none ∧
      ∀ it ∈ s.core.buddy.held, it ∈ c.buddy.held) ∧
    ((pairState s.core ≠ 3 ∨ fence.toNat ≤ rd s.core (bk 9)) → Makes (.takeover fence) s { s.core with status := stStateConflict })) ∧
  (∀ (s : State) (l : List MirrorItem) (fence : BitVec 64),
    ((canRecover s.core = false ∨ rd s.core (bk 1) = 0xFFFF) → Makes (.recoveryBuddySync l fence) s s.core) ∧
    (canRecover s.core = true → rd s.core (bk 1) ≠ 0xFFFF →
      let c := recover s.mem s.core l
      rd c (jo 8) = 0 ∧
      (rd c (bk 9) < fence.toNat → Makes (.recoveryBuddySync l fence) s (enterFenced c)) ∧
      (fence.toNat ≤ rd c (bk 9) → Makes (.recoveryBuddySync l fence) s (pairRefresh (wr c (bk 7) 2)))))

/-- O59. SET waits for the boundary where the time base is UNSET, else it and ADJUST are corrections, and both are refused under
MGMT; a correction up to JUMP_THRESHOLD becomes the slew, a larger one becomes PENDING_STEP, sets STATUS, counts and raises
L1 once; FORCE is refused without a pending step and in HOLDOVER_XTAL of TB0 to TB2; a crystal second loads TB3's SET or
applies its FORCE; CONV_STAMP gives EPOCH_TIME plus the stamp's distance at INCREMENT in the epoch in progress and refuses a
stamp in the future; a source's silence enters HOLDOVER_REF and raises L0; a measurement sets MEAS_OFFSET and, under MGMT,
INCREMENT in its range and the slew; LOCKED and FREE follow from slew, pending step and offset; the ageing term follows
INCREMENT, AGE_RATE and the whole days; XTAL_PPB follows the measurement while REFCLK is present; a TIME message sets
LINK_OFFSET and measures the time bases that follow its link; each UP link sends the TIME message; TPULSE rises once its
source reaches the next boundary, is counted, and falls. The management servo's law (assumption log 58), the mean of the
exchanges (log 57) and the message's layout (log 30) are the model's. (R375, R394, R395, R396, R397, R398, R399, R400, R401,
R404, R405, R407) -/
def Obligations.TimeBasesAndTheTimePulse : Prop :=
  (∀ (s : State) (t : Fin 4) (v : BitVec 96), Open s.core → bits v.toNat 16 32 < 1000000000 →
    (underMgmt s.core t.val = true → Makes (.set t v) s { s.core with status := stStateConflict }) ∧
    (underMgmt s.core t.val = false → tbState s.core t.val = 0 →
      Accepts (.set t v) s (modTb s.core t.val (fun x => { x with setDue := some v.toNat }))) ∧
    (underMgmt s.core t.val = false → tbState s.core t.val ≠ 0 →
      Accepts (.set t v) s (correctTb s.core t.val (((time96Val v.toNat : Int) - (getTb s.core t.val).val) / 65536)))) ∧
  (∀ (s : State) (t : Fin 4) (a : BitVec 64), Open s.core →
    (underMgmt s.core t.val = true → Makes (.adjust t a) s { s.core with status := stStateConflict }) ∧
    (underMgmt s.core t.val = false → Accepts (.adjust t a) s (correctTb s.core t.val a.toInt))) ∧
  (∀ (c : Core) (t : Fin 4) (d : Int), -(2 ^ 63) ≤ d → d < 2 ^ 63 →
    (d.natAbs ≤ rd c (tbk t.val 9) * 65536 → (getTb (correctTb c t.val d) t.val).slew = d * 65536 ∧
      SameRegsBut [tbk t.val 3] c (correctTb c t.val d)) ∧
    (rd c (tbk t.val 9) * 65536 < d.natAbs → ∃ x, correctTb c t.val d = refreshTb (if rd c (tbk t.val 0xA) = 0 then raise x (297 + t.val) 1 0 else x) t.val ∧
      rd x (tbk t.val 0xA) = ofSigned 64 d ∧ rd x (tbk t.val 0xC) = 1 ∧ rd x (tbk t.val 0xD) = (rd c (tbk t.val 0xD) + 1) % 2 ^ 64 ∧
      (∀ o, getTb x o = getTb c o) ∧ SameRegsBut [tbk t.val 0xA, tbk t.val 0xC, tbk t.val 0xD] c x)) ∧
  (∀ (s : State) (t : Fin 4), Open s.core →
    (rd s.core (tbk t.val 0xA) ≠ 0 → (t = 3 ∨ tbState s.core t.val ≠ 4) →
      Accepts (.force t) s (modTb s.core t.val (fun x => { x with forceDue := true }))) ∧
    ((rd s.core (tbk t.val 0xA) = 0 ∨ (t ≠ 3 ∧ tbState s.core t.val = 4)) → Makes (.force t) s { s.core with status := stStateConflict })) ∧
  (∀ s : State,
    let x := getTb s.core 3
    (x.setDue = none → x.forceDue = false → Makes .crystalSecond s s.core) ∧
    (∀ v, x.setDue = some v → x.forceDue = false → ∃ c, Makes .crystalSecond s c ∧
      getTb c 3 = { x with val := time96Val v, phase := 0, slew := 0, carry := 0, setDue := none } ∧ (tbSource s.core 3 = 0 → tbState c 3 = 1) ∧
      SameRegsBut [tbk 3 3] s.core c) ∧
    (x.setDue = none → x.forceDue = true → ∃ c, Makes .crystalSecond s c ∧ rd c (tbk 3 0xA) = 0 ∧ rd c (tbk 3 0xC) = 0 ∧
      rd c (tbk 3 0xE) = (rd s.core (tbk 3 0xE) + 1) % 2 ^ 64 ∧
      getTb c 3 = { x with val := ((x.val : Int) + rdI64 s.core (tbk 3 0xA) * 65536).toNat, slew := 0, carry := 0, forceDue := false } ∧
      SameRegsBut [tbk 3 3, tbk 3 0xA, tbk 3 0xC, tbk 3 0xE, tpk 0x25] s.core c)) ∧
  (∀ (s : State) (t : Fin 4) (v : BitVec 64), Open s.core → s.core.stamp < 2 ^ 64 →
    (s.core.stamp < v.toNat → Makes (.convStamp t v) s { s.core with status := stOutOfRange }) ∧
    (∀ e b l rest L, v.toNat ≤ s.core.stamp → s.core.clk.latches = (e, b, l) :: rest → b ≤ v.toNat → l[t.val]? = some (some L) →
      Accepts (.convStamp t v) s (wr (wr s.core (tbk t.val 0x12) v.toNat) (tbk t.val 0x13)
        (time96Of16 (roundDiv ((L * 4096 + (v.toNat - b) * rd s.core (tbk t.val 6) : Nat) : Int) (2 ^ 28)))))) ∧
  (∀ (s : State) (t : Fin 4),
    ((tbState s.core t.val ≠ 1 ∧ tbState s.core t.val ≠ 2 ∨ tbSource s.core t.val = 0) → Makes (.holdoverTimeout t) s s.core) ∧
    ((tbState s.core t.val = 1 ∨ tbState s.core t.val = 2) → tbSource s.core t.val ≠ 0 → ∃ x, Makes (.holdoverTimeout t) s (raise x (297 + t.val) 0 0) ∧
      tbState x t.val = 3 ∧ SameRegsBut (if underMgmt s.core t.val then [tbk t.val 3, tbk t.val 6] else [tbk t.val 3]) s.core x ∧
      (underMgmt s.core t.val = true → rd x (tbk t.val 6) = meanIncrement s.core t.val) ∧ x.tbs = s.core.tbs)) ∧
  (∀ (s : State) (t : Fin 4), ((getTb s.core t.val).slew = 0 → Makes (.slewComplete t) s (refreshTb s.core t.val)) ∧
    ((getTb s.core t.val).slew ≠ 0 → Makes (.slewComplete t) s s.core)) ∧
  (∀ (c : Core) (t : Fin 4), SameRegsBut [tbk t.val 3] c (refreshTb c t.val) ∧ (refreshTb c t.val).tbs = c.tbs ∧
    (tbState c t.val ≠ 1 → tbState c t.val ≠ 2 → refreshTb c t.val = c) ∧
    ((tbState c t.val = 1 ∨ tbState c t.val = 2) → tbSource c t.val ≠ 0 → (getTb c t.val).measAt.isSome = true → (getTb c t.val).slew = 0 →
      rd c (tbk t.val 0xA) = 0 → (rdI64 c (tbk t.val 0xF)).natAbs ≤ 6553600 → tbState (refreshTb c t.val) t.val = 2) ∧
    ((tbState c t.val = 1 ∨ tbState c t.val = 2) → (tbSource c t.val = 0 ∨ (getTb c t.val).measAt.isSome = false ∨ (getTb c t.val).slew ≠ 0 ∨
      rd c (tbk t.val 0xA) ≠ 0 ∨ 6553600 < (rdI64 c (tbk t.val 0xF)).natAbs) → tbState (refreshTb c t.val) t.val = 1)) ∧
  (∀ (s : State) (d r : Nat), (getTb s.core 3).val = time96Val (rd s.core (tbk 3 0x15)) + d * (86400000000000 * 2 ^ 32) + r →
    r < 86400000000000 * 2 ^ 32 → ∃ c, Makes .ageingUpdate s c ∧ c.regs = s.core.regs ∧ c.keeper.lastHour = s.core.time ∧
      getTb c 3 = { getTb s.core 3 with ageing := roundDiv ((rd s.core (tbk 3 6) : Int) * toSigned 32 (rd s.core (tbk 3 0x14)) * d) (10 ^ 12) } ∧
      (∀ t, t ≠ 3 → getTb c t = getTb s.core t)) ∧
  (∀ (s : State) (ppb : BitVec 32), (clockBit s.core 1 = true → Makes (.xtalMeasurement ppb) s (wr s.core (tbk 3 0x16) ppb.toNat)) ∧
    (clockBit s.core 1 = false → Makes (.xtalMeasurement ppb) s s.core)) ∧
  (∀ (c : Core) (t : Fin 4) (off : Int), -(2 ^ 63) ≤ off → off < 2 ^ 63 →
    ((tbState c t.val = 0 ∨ tbState c t.val = 4) → measureTb c t.val off = c) ∧
    (tbState c t.val = 1 ∨ tbState c t.val = 2 ∨ tbState c t.val = 3 →
      let d := measureTb c t.val off
      (getTb d t.val).measAt = some c.time ∧
      (underMgmt c t.val = false → rd d (tbk t.val 0xF) = ofSigned 64 off ∧ (tbState d t.val = 1 ∨ tbState d t.val = 2) ∧
        (getTb d t.val).slew = (getTb c t.val).slew ∧ SameRegsBut [tbk t.val 3, tbk t.val 0xF] c d) ∧
      (underMgmt c t.val = true → off.natAbs ≤ rd c (tbk t.val 9) * 65536 → rd d (tbk t.val 0xF) = ofSigned 64 off ∧
        (tbState d t.val = 1 ∨ tbState d t.val = 2) ∧ incLow ≤ rd d (tbk t.val 6) ∧ rd d (tbk t.val 6) ≤ incHigh ∧
        (getTb d t.val).slew = off * 65536 ∧ SameRegsBut [tbk t.val 3, tbk t.val 6, tbk t.val 0xF] c d))) ∧
  (∀ (s : State) (l : Fin 8) (m : TimeMsg), ((linkUp s.core l.val = false ∨ clockBit s.core 5 = false) → Makes (.time l m) s s.core) ∧
    (linkUp s.core l.val = true → clockBit s.core 5 = true → ∃ b, (getLink b l.val).lastSent = m.senderStamp.toNat ∧
      (getLink b l.val).lastHeard = m.localStamp.toNat ∧ b.tbs = s.core.tbs ∧ b.stamp = s.core.stamp ∧ SameRegsBut [lk l.val 9] s.core b ∧
      ((getLink s.core l.val).offsets = [] → toSigned 32 (rd s.core (lk l.val 0xA)) = 0 → (m.echoSent ≠ 0 ∨ m.echoReceived ≠ 0) →
        rd b (lk l.val 9) = ofSigned 64 ((stampDiff m.echoReceived.toNat m.echoSent.toNat + stampDiff m.senderStamp.toNat m.localStamp.toNat) / 2)) ∧
      ((∀ t, t < 3 → tbSource s.core t ≠ 0x10 + l.val) → Makes (.time l m) s b) ∧
      (∀ t own st v, t < 3 → tbSource s.core t = 0x10 + l.val → (∀ o, o < 3 → o ≠ t → tbSource s.core o ≠ 0x10 + l.val) →
        [m.st0, m.st1, m.st2][t]? = some st → [m.tb0, m.tb1, m.tb2][t]? = some v →
        timeAt b t (ofSigned 64 ((m.senderStamp.toNat : Int) - rdI64 b (lk l.val 9))) = some own →
        ((st = 0 ∨ st = 4) → Makes (.time l m) s b) ∧ (st ≠ 0 → st ≠ 4 → Makes (.time l m) s (measureTb b t (of96To16 v.toNat - own)))))) ∧
  (∀ s : State, (clockBit s.core 5 = false → Makes .timeExchange s s.core) ∧
    (clockBit s.core 5 = true → Makes .timeExchange s ((upLinks s.core).foldl (fun c l => sendSlots c l 0
      (messageSlots 7 (deviceId c) (rd c (lk l 3) % 2 ^ 14) false 0 0 0 0 (timeBody c l))) s.core))) ∧
  (∀ (x : Tpulse) (last : Nat), 0 < x.period → last < nextPulse x last ∧ nextPulse x last ≤ last + x.period ∧
    nextPulse x last % x.period = x.phase % x.period) ∧
  (∀ s : State, (pulseSource s.core = none → Makes .tpulseRise s s.core) ∧
    (∀ t, pulseSource s.core = some t →
      let b := nextPulse s.core.tpulse (s.core.tpulse.last.getD (tbNs s.core t))
      ((s.core.tpulse.high = true ∨ tbNs s.core t < b) → Makes .tpulseRise s s.core) ∧
      (s.core.tpulse.high = false → b ≤ tbNs s.core t → ∃ c, Makes .tpulseRise s c ∧ c.tpulse.high = true ∧
        rd c (tpk 0x24) = (rd s.core (tpk 0x24) + 1) % 2 ^ 64 ∧ c.outbox = s.core.outbox ++ [.tpulse true (pulseInstant s.core t b)] ∧
        c.tpulse.src = rd s.core (tpk 0x20) ∧ c.tpulse.period = rd s.core (tpk 0x21) ∧ c.tpulse.phase = rd s.core (tpk 0x22) ∧
        c.tpulse.width = rd s.core (tpk 0x23) ∧ (rd s.core (tpk 0x20) = t → c.tpulse.last = some b) ∧ c.tbs = s.core.tbs))) ∧
  (∀ s : State, (s.core.tpulse.high = true → Makes .tpulseFall s
      (emit { s.core with tpulse := { s.core.tpulse with high := false } } (.tpulse false s.core.stamp))) ∧
    (s.core.tpulse.high = false → Makes .tpulseFall s s.core))

/-- O60. A port that is disabled, down, without the stamp clock, or that a message does not suit takes no message and sends
none; Sync and Follow_Up of the parent give the corrected origin; the offset follows from it, the mean delay and the time at
the receipt, and goes to the time base that follows the port; a time transmitter answers Delay_Req with the receipt time, a
peer-to-peer port answers Pdelay_Req in one step with the turnaround or in two; Delay_Resp and Pdelay_Resp of the own
request give the mean delay; an Announce is noted among the foreign time transmitters, and the best one that qualifies
becomes the parent, or makes the port a transmitter or PASSIVE; a transmitter's timers send Sync and Announce, and the
receipt time-out ends the parent. The comparison of datasets and the completion of the first offset are the model's
(assumption log 56). (R396, R402, R403) -/
def Obligations.PrecisionTimeProtocolPorts : Prop :=
  (∀ (s : State) (m : PtpMsg), ptpTakes s.core m = false → Makes (.ptpSync m) s s.core ∧ Makes (.ptpFollowUp m) s s.core ∧
    Makes (.ptpDelayReq m) s s.core ∧ Makes (.ptpDelayResp m) s s.core ∧ Makes (.ptpPdelayReq m) s s.core ∧ Makes (.ptpPdelayResp m) s s.core ∧
    Makes (.ptpPdelayRespFollowUp m) s s.core ∧ Makes (.ptpAnnounce m) s s.core) ∧
  (∀ (s : State) (p : Fin 2) (k : PtpTimer), (rd s.core (pk' p.val 1) = 0 ∨ clockBit s.core 5 = false ∨ portUp s.core p.val = false) →
    Makes (.ptpMessageTimer p k) s s.core ∧ ∀ m : PtpMsg, m.port = p → ptpTakes s.core m = false) ∧
  (∀ (s : State) (m : PtpMsg), ptpTakes s.core m = true →
    let corr := m.correction.toInt + rdI64 s.core (pk' m.port.val 0xD)
    (fromParent s.core m = false → Makes (.ptpSync m) s s.core ∧ Makes (.ptpFollowUp m) s s.core) ∧
    (fromParent s.core m = true → m.twoStep = true → Makes (.ptpSync m) s
      (modPtp s.core m.port.val (fun x => { x with sync := some (m.sequence.toNat, m.stamp.toNat, ofSigned 128 corr, true) }))) ∧
    (fromParent s.core m = true → m.twoStep = false →
      Makes (.ptpSync m) s (ptpSyncDone s.core m.port.val (of96To16 m.origin.toNat + corr) m.stamp.toNat)) ∧
    (fromParent s.core m = true → (getPtp s.core m.port.val).sync = none → Makes (.ptpFollowUp m) s s.core) ∧
    (∀ q st k f, fromParent s.core m = true → (getPtp s.core m.port.val).sync = some (q, st, k, f) →
      (q ≠ m.sequence.toNat → Makes (.ptpFollowUp m) s s.core) ∧
      (q = m.sequence.toNat → Makes (.ptpFollowUp m) s
        (ptpSyncDone s.core m.port.val (of96To16 m.origin.toNat + toSigned 128 k + m.correction.toInt) st)))) ∧
  (∀ (c : Core) (p : Fin 2) (t1 : Int) (st : Nat), -(2 ^ 127) ≤ t1 → t1 < 2 ^ 127 →
    ((getPtp c p.val).measured = none → ptpSyncDone c p.val t1 st =
      modPtp c p.val (fun x => { x with sync := none, syncPair := some (ofSigned 128 t1, st) })) ∧
    (∀ w t2, (getPtp c p.val).measured = some w → ptpTime c p.val st = some t2 → ∃ d, rd d (pk' p.val 0xF) = 9 ∧ SameRegsBut [pk' p.val 0xF] c d ∧
      (getPtp d p.val).syncPair = some (ofSigned 128 t1, st) ∧ (getPtp d p.val).sync = none ∧ d.tbs = c.tbs ∧
      (tbSource c (ptpTb c p.val) ≠ 1 + p.val → ptpSyncDone c p.val t1 st = d) ∧
      (tbSource c (ptpTb c p.val) = 1 + p.val →
        ptpSyncDone c p.val t1 st = measureTb d (ptpTb c p.val) (t1 + rdI64 c (pk' p.val 0x10) - t2)))) ∧
  (∀ (s : State) (m : PtpMsg), ptpTakes s.core m = true →
    ((rd s.core (pk' m.port.val 0xF) ≠ 6 ∨ rd s.core (pk' m.port.val 4) ≠ 0) → Makes (.ptpDelayReq m) s s.core) ∧
    (∀ t4, rd s.core (pk' m.port.val 0xF) = 6 → rd s.core (pk' m.port.val 4) = 0 → ptpTime s.core m.port.val m.stamp.toNat = some t4 →
      Makes (.ptpDelayReq m) s (emit s.core (.ptp m.port.val 9 [m.sequence.toNat, 0, time96Of16 t4, m.correction.toNat, m.clockId.toNat, m.sourcePort.toNat])))) ∧
  (∀ (s : State) (m : PtpMsg), ptpTakes s.core m = true →
    let x := getPtp s.core m.port.val
    ((m.reqClockId ≠ Config.clockIdentity m.port ∨ fromParent s.core m = false ∨ rd s.core (pk' m.port.val 4) ≠ 0 ∨ x.delayReq = none) →
      Makes (.ptpDelayResp m) s s.core) ∧
    (∀ q s3 t1 s2 t2 t3, m.reqClockId = Config.clockIdentity m.port → fromParent s.core m = true → rd s.core (pk' m.port.val 4) = 0 →
      x.delayReq = some (q, s3) → x.syncPair = some (t1, s2) → q = m.sequence.toNat → ptpTime s.core m.port.val s2 = some t2 →
      ptpTime s.core m.port.val s3 = some t3 → Makes (.ptpDelayResp m) s
        (ptpDelay (modPtp s.core m.port.val (fun x => { x with delayReq := none })) m.port.val
          (((t2 - toSigned 128 t1) + (of96To16 m.origin.toNat - m.correction.toInt - t3)) / 2)))) ∧
  (∀ (c : Core) (p : Fin 2) (d : Int), -(2 ^ 63) ≤ d → d < 2 ^ 63 → (getPtp c p.val).measured.isSome = true →
    rd (ptpDelay c p.val d) (pk' p.val 0x10) = ofSigned 64 d ∧ (getPtp (ptpDelay c p.val d) p.val).measured = some c.time ∧
    SameRegsBut [pk' p.val 0x10] c (ptpDelay c p.val d)) ∧
  (∀ (s : State) (m : PtpMsg), ptpTakes s.core m = true → (rd s.core (pk' m.port.val 4) ≠ 1 → Makes (.ptpPdelayReq m) s s.core) ∧
    (∀ t2 t3, rd s.core (pk' m.port.val 4) = 1 → ptpTime s.core m.port.val m.stamp.toNat = some t2 →
      ptpTime s.core m.port.val (s.core.stamp % 2 ^ 64) = some t3 →
      (rd s.core (pk' m.port.val 6) = 1 → Makes (.ptpPdelayReq m) s (emit s.core (.ptp m.port.val 3
        [m.sequence.toNat, 0, 0, ofSigned 64 (m.correction.toInt + (t3 - t2)), m.clockId.toNat, m.sourcePort.toNat]))) ∧
      (rd s.core (pk' m.port.val 6) ≠ 1 → ∃ c, Makes (.ptpPdelayReq m) s c ∧ c.regs = s.core.regs ∧ c.outbox = s.core.outbox ++
        [.ptp m.port.val 3 [m.sequence.toNat, 1, time96Of16 t2, 0, m.clockId.toNat, m.sourcePort.toNat],
         .ptp m.port.val 0xA [m.sequence.toNat, 0, time96Of16 t3, m.correction.toNat, m.clockId.toNat, m.sourcePort.toNat]]))) ∧
  (∀ (s : State) (m : PtpMsg), ptpTakes s.core m = true →
    let x := getPtp s.core m.port.val
    ((m.reqClockId ≠ Config.clockIdentity m.port ∨ rd s.core (pk' m.port.val 4) ≠ 1 ∨ x.pdelayReq = none) →
      Makes (.ptpPdelayResp m) s s.core ∧ Makes (.ptpPdelayRespFollowUp m) s s.core) ∧
    (∀ q s1, m.reqClockId = Config.clockIdentity m.port → rd s.core (pk' m.port.val 4) = 1 → x.pdelayReq = some (q, s1) → q = m.sequence.toNat →
      (m.twoStep = true → Makes (.ptpPdelayResp m) s (modPtp s.core m.port.val
        (fun x => { x with pdelayResp := some (q, m.origin.toNat, m.stamp.toNat, ofSigned 128 m.correction.toInt) }))) ∧
      (m.twoStep = false → Makes (.ptpPdelayResp m) s (pdelayDone s.core m.port.val s1 m.stamp.toNat m.correction.toInt)) ∧
      (x.pdelayResp = none → Makes (.ptpPdelayRespFollowUp m) s s.core) ∧
      (∀ t2 s4 k, x.pdelayResp = some (q, t2, s4, k) → Makes (.ptpPdelayRespFollowUp m) s
        (pdelayDone s.core m.port.val s1 s4 (of96To16 m.origin.toNat - of96To16 t2 + toSigned 128 k + m.correction.toInt))))) ∧
  (∀ (c : Core) (p : Fin 2) (s1 s4 : Nat) (turn t1 t4 : Int), ptpTime c p.val s1 = some t1 → ptpTime c p.val s4 = some t4 →
    pdelayDone c p.val s1 s4 turn = ptpDelay (modPtp c p.val (fun x => { x with pdelayReq := none, pdelayResp := none })) p.val
      ((t4 - t1 - turn - rdI64 c (pk' p.val 0xD)) / 2)) ∧
  (∀ (s : State) (m : PtpMsg), ptpTakes s.core m = true →
    let p := m.port.val
    let who := (m.clockId.toNat, m.sourcePort.toNat)
    let x := getPtp s.core p
    let seen := ((x.foreign.find? (fun f => f.who == who)).map (fun f => f.heard.take 1)).getD []
    let f : ForeignMaster := { who := who, data := announceData m, heard := s.core.time :: seen }
    Makes (.ptpAnnounce m) s (decidePort (setPtp s.core p { x with foreign := f :: x.foreign.filter (fun g => g.who != who) }) p)) ∧
  (∀ (c : Core) (p : Fin 2),
    let d := decidePort c p.val
    let r := rd d (pk' p.val 0xF)
    (foreignBest c p.val = none → d = c) ∧
    (∀ f, foreignBest c p.val = some f → foreignQualified c p.val f = true ∧ f ∈ (getPtp c p.val).foreign ∧ SameRegsBut [pk' p.val 0xF] c d ∧
      ((rd c (pk' p.val 7) = 1 ∨ (betterData (ownData c p.val) f.data = false ∧ (ownClass = 0 ∨ 127 < ownClass))) →
        (getPtp d p.val).parent = some f.who ∧ (r = 8 ∨ r = 9) ∧ ((getPtp c p.val).parent ≠ some f.who → r = 8)) ∧
      (rd c (pk' p.val 7) ≠ 1 → betterData (ownData c p.val) f.data = true →
        r = 6 ∧ (rd c (pk' p.val 0xF) ≠ 6 → (getPtp d p.val).parent = none)) ∧
      (rd c (pk' p.val 7) ≠ 1 → betterData (ownData c p.val) f.data = false → 1 ≤ ownClass → ownClass ≤ 127 →
        r = 7 ∧ (getPtp d p.val).parent = none))) ∧
  (∀ (s : State) (p : Fin 2), ptpRuns s.core p.val = true →
    (rd s.core (pk' p.val 0xF) ≠ 6 → Makes (.ptpMessageTimer p .sync) s s.core ∧ Makes (.ptpMessageTimer p .announce) s s.core) ∧
    (∀ t1, rd s.core (pk' p.val 0xF) = 6 → ptpTime s.core p.val (s.core.stamp % 2 ^ 64) = some t1 → rd s.core (pk' p.val 6) = 1 → ∃ c,
      Makes (.ptpMessageTimer p .sync) s c ∧ c.regs = s.core.regs ∧ (getPtp c p.val).seqSync = (getPtp s.core p.val).seqSync + 1 ∧
      c.outbox = s.core.outbox ++ [.ptp p.val 0 [(getPtp s.core p.val).seqSync % 65536, 0, time96Of16 (t1 / 65536 * 65536), ofSigned 64 (t1 % 65536)]]) ∧
    (∀ t1, rd s.core (pk' p.val 0xF) = 6 → ptpTime s.core p.val (s.core.stamp % 2 ^ 64) = some t1 → rd s.core (pk' p.val 6) ≠ 1 → ∃ c,
      Makes (.ptpMessageTimer p .sync) s c ∧ c.regs = s.core.regs ∧ c.outbox = s.core.outbox ++
        [.ptp p.val 0 [(getPtp s.core p.val).seqSync % 65536, 1, 0, 0],
         .ptp p.val 8 [(getPtp s.core p.val).seqSync % 65536, 0, time96Of16 (t1 / 65536 * 65536), ofSigned 64 (t1 % 65536)]]) ∧
    (rd s.core (pk' p.val 0xF) = 6 → ∃ c, Makes (.ptpMessageTimer p .announce) s c ∧ c.regs = s.core.regs ∧
      c.outbox = s.core.outbox ++ [.ptp p.val 0xB ([(getPtp s.core p.val).seqAnnounce % 65536, 0, 0, 0] ++ ownData s.core p.val)]) ∧
    ((rd s.core (pk' p.val 0xF) = 8 ∨ rd s.core (pk' p.val 0xF) = 9) → rd s.core (pk' p.val 4) = 0 → ∃ c, Makes (.ptpMessageTimer p .delayReq) s c ∧
      (getPtp c p.val).delayReq = some ((getPtp s.core p.val).seqDelay % 65536, s.core.stamp % 2 ^ 64) ∧ c.outbox.length = s.core.outbox.length + 1 ∧
      c.regs = s.core.regs) ∧
    (rd s.core (pk' p.val 4) = 1 → ∃ c, Makes (.ptpMessageTimer p .delayReq) s c ∧
      (getPtp c p.val).pdelayReq = some ((getPtp s.core p.val).seqDelay % 65536, s.core.stamp % 2 ^ 64) ∧ c.outbox.length = s.core.outbox.length + 1 ∧
      c.regs = s.core.regs) ∧
    (rd s.core (pk' p.val 0xF) = 6 → Makes (.ptpMessageTimer p .announceReceipt) s s.core) ∧
    (rd s.core (pk' p.val 0xF) ≠ 6 → ∃ c, Makes (.ptpMessageTimer p .announceReceipt) s c ∧
      rd c (pk' p.val 0xF) = (if rdb s.core (pk' p.val 7) then 4 else 6) ∧ (getPtp c p.val).parent = none ∧ SameRegsBut [pk' p.val 0xF] s.core c ∧
      ∀ f ∈ (getPtp c p.val).foreign, some f.who ≠ (getPtp s.core p.val).parent))
end

