-- ==== Sys2Proof/Laws/Bits.lean ====
section
/-!
SUPPORT. Sys2Proof/Laws/Bits.lean: what the bit operations leave of each bit.
-/
namespace Sys2Proof.Machine

theorem bit_setBit (n i j : Nat) : bit (setBit n i) j = (bit n j || decide (i = j)) := by
  simp [bit, setBit, Nat.testBit_or, Nat.testBit_two_pow]

/-- Numbers with no common bit add as they or. -/
theorem add_of_and_zero : ∀ (k a b : Nat), a < 2 ^ k → a &&& b = 0 → a + b = a ||| b := by
  intro k
  induction k with
  | zero => intro a b h _; simp at h; simp [h]
  | succ k ih =>
    intro a b h h0
    have h1 := ih (a / 2) (b / 2) (by omega) (by rw [← Nat.and_div_two, h0])
    have h2 : (a ||| b) / 2 = a / 2 ||| b / 2 := Nat.or_div_two
    have h4 : (a ||| b) % 2 = a % 2 + b % 2 := by
      have e1 : (a ||| b) % 2 = 1 ↔ _ := Nat.or_mod_two_eq_one
      have e2 : (a &&& b) % 2 = 1 ↔ _ := Nat.and_mod_two_eq_one
      rw [h0] at e2
      omega
    omega

theorem clearBits_eq (n m : Nat) : clearBits n m = n ^^^ (n &&& m) := by
  unfold clearBits
  have h1 : (n ^^^ (n &&& m)) &&& (n &&& m) = 0 := by
    apply Nat.eq_of_testBit_eq
    intro i
    simp only [Nat.testBit_and, Nat.testBit_xor, Nat.zero_testBit]
    cases n.testBit i <;> cases m.testBit i <;> rfl
  have h2 : (n ^^^ (n &&& m)) ||| (n &&& m) = n := by
    apply Nat.eq_of_testBit_eq
    intro i
    simp only [Nat.testBit_or, Nat.testBit_and, Nat.testBit_xor]
    cases n.testBit i <;> cases m.testBit i <;> rfl
  have h3 : (n ^^^ (n &&& m)) + (n &&& m) = n := by
    rw [add_of_and_zero _ _ _ Nat.lt_two_pow_self h1, h2]
  omega

theorem bit_clearBits (n m i : Nat) : bit (clearBits n m) i = (bit n i && !bit m i) := by
  rw [clearBits_eq]
  simp only [bit, Nat.testBit_xor, Nat.testBit_and]
  cases n.testBit i <;> cases m.testBit i <;> rfl

theorem bit_clearBit (n i j : Nat) : bit (clearBit n i) j = (bit n j && !decide (i = j)) := by
  unfold clearBit
  rw [bit_clearBits]
  simp [bit, Nat.testBit_two_pow]

theorem bit_putBit (n i : Nat) (b : Bool) (j : Nat) : bit (putBit n i b) j = if i = j then b else bit n j := by
  unfold putBit
  cases b
  · simp only [Bool.false_eq_true, if_false, bit_clearBit]
    split <;> simp_all
  · simp only [if_true, bit_setBit]
    split <;> simp_all

@[simp] theorem bit_putBit_same (n i : Nat) (b : Bool) : bit (putBit n i b) i = b := by simp [bit_putBit]

theorem bit_putBit_ne (n : Nat) {i j : Nat} (b : Bool) (h : i ≠ j) : bit (putBit n i b) j = bit n j := by
  simp [bit_putBit, h]

end Sys2Proof.Machine
end

