-- ==== Sys2Proof/Laws/Map.lean ====
section
/-!
SUPPORT. Sys2Proof/Laws/Map.lean: the laws of the finite maps: a read after a write, and the canonical form that
every map operation keeps.
-/
namespace Sys2Proof.Machine

/-! ## A read after a write -/

theorem mfind_merase_same {α : Type} (m : SMap α) (i : Nat) : mfind (merase m i) i = none := by
  induction m with
  | nil => rfl
  | cons e m ih =>
    obtain ⟨k, v⟩ := e
    by_cases h : k = i <;> simp [merase, mfind, h, ih]

theorem mfind_merase_ne {α : Type} (m : SMap α) {i j : Nat} (h : j ≠ i) : mfind (merase m i) j = mfind m j := by
  induction m with
  | nil => rfl
  | cons e m ih =>
    obtain ⟨k, v⟩ := e
    by_cases hk : k = i
    · subst hk; simp [merase, mfind, ih, Ne.symm h]
    · simp only [merase, hk, if_false, mfind, ih]

theorem mfind_minsert_same {α : Type} (m : SMap α) (i : Nat) (x : α) (h : mfind m i = none) :
    mfind (minsert m i x) i = some x := by
  induction m with
  | nil => simp [minsert, mfind]
  | cons e m ih =>
    obtain ⟨k, v⟩ := e
    by_cases hk : k = i
    · simp [mfind, hk] at h
    · simp only [mfind, hk, if_false] at h
      by_cases hl : i < k <;> simp [minsert, mfind, hk, hl, ih h]

theorem mfind_minsert_ne {α : Type} (m : SMap α) {i j : Nat} (x : α) (h : j ≠ i) :
    mfind (minsert m i x) j = mfind m j := by
  induction m with
  | nil => simp [minsert, mfind, Ne.symm h]
  | cons e m ih =>
    obtain ⟨k, v⟩ := e
    by_cases hl : i < k
    · simp [minsert, mfind, hl, Ne.symm h]
    · simp only [minsert, hl, if_false, mfind, ih]

@[simp] theorem mget_mset_same {α : Type} [DecidableEq α] (d : α) (m : SMap α) (i : Nat) (x : α) :
    mget d (mset d m i x) i = x := by
  unfold mget mset
  by_cases h : x = d
  · simp [h, mfind_merase_same]
  · simp [h, mfind_minsert_same _ _ _ (mfind_merase_same m i)]

theorem mget_mset_ne {α : Type} [DecidableEq α] (d d' : α) (m : SMap α) {i j : Nat} (x : α) (h : j ≠ i) :
    mget d (mset d' m i x) j = mget d m j := by
  unfold mget mset
  by_cases hx : x = d'
  · simp [hx, mfind_merase_ne m h]
  · simp [hx, mfind_minsert_ne _ x h, mfind_merase_ne m h]

theorem mfind_filter {α : Type} (p : Nat → Bool) (m : SMap α) (i : Nat) :
    mfind (m.filter (fun e => p e.1)) i = if p i then mfind m i else none := by
  induction m with
  | nil => simp [mfind]
  | cons e m ih =>
    obtain ⟨k, v⟩ := e
    by_cases hp : p k = true
    · by_cases hk : k = i
      · subst hk; simp [List.filter, hp, mfind]
      · simp [List.filter, hp, mfind, hk, ih]
    · by_cases hk : k = i
      · subst hk; simp [List.filter, hp, ih]
      · simp [List.filter, hp, mfind, hk, ih]

theorem mget_filter {α : Type} (d : α) (p : Nat → Bool) (m : SMap α) (i : Nat) :
    mget d (m.filter (fun e => p e.1)) i = if p i then mget d m i else d := by
  unfold mget
  rw [mfind_filter]
  split <;> rfl

/-! ## The canonical form -/

/-- Every key of a map exceeds a number. -/
def mabove {α : Type} (n : Nat) (m : SMap α) : Prop := ∀ e ∈ m, n < e.1

theorem mwf_cons {α : Type} (k : Nat) (v : α) (m : SMap α) :
    mwf ((k, v) :: m) = true ↔ mabove k m ∧ mwf m = true := by
  induction m generalizing k v with
  | nil => simp [mwf, mabove]
  | cons e m ih =>
    obtain ⟨a, b⟩ := e
    simp only [mwf, Bool.and_eq_true, decide_eq_true_eq]
    constructor
    · rintro ⟨h, hw⟩
      refine ⟨?_, hw⟩
      intro e he
      rcases List.mem_cons.mp he with rfl | he
      · exact h
      · exact lt_trans h (((ih a b).mp hw).1 e he)
    · rintro ⟨h, hw⟩
      exact ⟨h (a, b) (by simp), hw⟩

theorem mwf_filter {α : Type} (p : Nat × α → Bool) (m : SMap α) (h : mwf m = true) : mwf (m.filter p) = true := by
  induction m with
  | nil => rfl
  | cons e m ih =>
    obtain ⟨k, v⟩ := e
    obtain ⟨ha, hm⟩ := (mwf_cons k v m).mp h
    by_cases hp : p (k, v) = true
    · rw [List.filter_cons_of_pos hp, mwf_cons]
      exact ⟨fun e he => ha e (List.mem_filter.mp he).1, ih hm⟩
    · rw [List.filter_cons_of_neg hp]
      exact ih hm

theorem merase_eq_filter {α : Type} (m : SMap α) (i : Nat) : merase m i = m.filter (fun e => e.1 != i) := by
  induction m with
  | nil => rfl
  | cons e m ih =>
    obtain ⟨k, v⟩ := e
    by_cases h : k = i <;> simp [merase, h, ih]

theorem mwf_merase {α : Type} (m : SMap α) (i : Nat) (h : mwf m = true) : mwf (merase m i) = true := by
  rw [merase_eq_filter]
  exact mwf_filter _ m h

theorem mem_minsert {α : Type} (m : SMap α) (i : Nat) (x : α) (e : Nat × α) :
    e ∈ minsert m i x ↔ e = (i, x) ∨ e ∈ m := by
  induction m with
  | nil => simp [minsert]
  | cons f m ih =>
    obtain ⟨k, v⟩ := f
    by_cases hl : i < k
    · simp [minsert, hl]
    · simp only [minsert, hl, if_false, List.mem_cons, ih]
      tauto

theorem mwf_minsert {α : Type} (m : SMap α) (i : Nat) (x : α) (h : mwf m = true) (hi : ∀ e ∈ m, e.1 ≠ i) :
    mwf (minsert m i x) = true := by
  induction m with
  | nil => rfl
  | cons e m ih =>
    obtain ⟨k, v⟩ := e
    obtain ⟨ha, hm⟩ := (mwf_cons k v m).mp h
    by_cases hl : i < k
    · simp only [minsert, hl, if_true]
      refine (mwf_cons _ _ _).mpr ⟨?_, h⟩
      intro e he
      rcases List.mem_cons.mp he with rfl | he
      · exact hl
      · exact lt_trans hl (ha e he)
    · simp only [minsert, hl, if_false]
      refine (mwf_cons _ _ _).mpr ⟨?_, ih hm (fun e he => hi e (List.mem_cons_of_mem _ he))⟩
      intro e he
      rcases (mem_minsert m i x e).mp he with rfl | he
      · have := hi (k, v) (by simp)
        simp only at this ⊢
        omega
      · exact ha e he

theorem merase_no_key {α : Type} (m : SMap α) (i : Nat) : ∀ e ∈ merase m i, e.1 ≠ i := by
  rw [merase_eq_filter]
  intro e he
  simpa using (List.mem_filter.mp he).2

theorem mwf_mput {α : Type} (m : SMap α) (i : Nat) (x : α) (h : mwf m = true) :
    mwf (minsert (merase m i) i x) = true :=
  mwf_minsert _ i x (mwf_merase m i h) (merase_no_key m i)

theorem mcanon_iff {α : Type} [DecidableEq α] (d : α) (m : SMap α) :
    mcanon d m = true ↔ mwf m = true ∧ ∀ e ∈ m, e.2 ≠ d := by
  simp [mcanon, List.all_eq_true]

theorem mcanon_filter {α : Type} [DecidableEq α] (d : α) (p : Nat × α → Bool) (m : SMap α)
    (h : mcanon d m = true) : mcanon d (m.filter p) = true := by
  rw [mcanon_iff] at h ⊢
  exact ⟨mwf_filter p m h.1, fun e he => h.2 e (List.mem_filter.mp he).1⟩

theorem mcanon_mset {α : Type} [DecidableEq α] (d : α) (m : SMap α) (i : Nat) (x : α)
    (h : mcanon d m = true) : mcanon d (mset d m i x) = true := by
  have he : mcanon d (merase m i) = true := by
    rw [merase_eq_filter]; exact mcanon_filter d _ m h
  unfold mset
  split
  · exact he
  · rename_i hx
    rw [mcanon_iff] at he ⊢
    refine ⟨mwf_minsert _ i x he.1 (merase_no_key m i), ?_⟩
    intro e hm
    rcases (mem_minsert _ i x e).mp hm with rfl | hm
    · exact hx
    · exact he.2 e hm

/-! ## Rising lists -/

theorem rising_iff (l : List Nat) : rising l = true ↔ l.Pairwise (· < ·) := by
  induction l with
  | nil => simp [rising]
  | cons a l ih =>
    cases l with
    | nil => simp [rising]
    | cons b l =>
      simp only [rising, Bool.and_eq_true, decide_eq_true_eq, ih]
      constructor
      · rintro ⟨h, hp⟩
        refine List.Pairwise.cons ?_ hp
        intro x hx
        rcases List.mem_cons.mp hx with rfl | hx
        · exact h
        · exact lt_trans h (List.rel_of_pairwise_cons hp hx)
      · intro h
        exact ⟨List.rel_of_pairwise_cons h (by simp), h.of_cons⟩

theorem rising_filter (p : Nat → Bool) (l : List Nat) (h : rising l = true) : rising (l.filter p) = true := by
  rw [rising_iff] at h ⊢
  exact h.filter p

theorem rising_put (l : List Nat) (u : Nat) (h : rising l = true) :
    rising ((l.filter (· < u)) ++ u :: l.filter (fun v => u < v)) = true := by
  rw [rising_iff] at h ⊢
  refine List.pairwise_append.mpr ⟨h.filter _, ?_, ?_⟩
  · refine List.Pairwise.cons ?_ (h.filter _)
    intro x hx
    simpa using (List.mem_filter.mp hx).2
  · intro a ha b hb
    have ha' : a < u := by simpa using (List.mem_filter.mp ha).2
    rcases List.mem_cons.mp hb with rfl | hb
    · exact ha'
    · have : u < b := by simpa using (List.mem_filter.mp hb).2
      omega

end Sys2Proof.Machine
end

