-- ==== Sys2Proof/Laws/State.lean ====
section
/-!
SUPPORT. Sys2Proof/Laws/State.lean: what each named update of the core leaves of each of its fields, and what a register
reads after it; generated, one lemma per field and update.
-/
namespace Sys2Proof.Machine

/-! ## Registers and DOMAINs -/

@[simp] theorem rd_wr_same (c : Core) (k : Key) (v : Nat) : rd (wr c k v) k = v := by simp [rd, wr]

theorem rd_wr_ne (c : Core) {k j : Key} (v : Nat) (h : j ≠ k) : rd (wr c k v) j = rd c j := by
  simp only [rd, wr]; exact mget_mset_ne _ _ _ _ h

theorem rd_wr (c : Core) (k j : Key) (v : Nat) : rd (wr c k v) j = if j = k then v else rd c j := by
  split
  · subst j; simp
  · exact rd_wr_ne c v (by assumption)

@[simp] theorem dom_setDom_same (c : Core) (k : Key) (l : List Byte) : dom (setDom c k l) k = l := by simp [dom, setDom]

theorem dom_setDom_ne (c : Core) {k j : Key} (l : List Byte) (h : j ≠ k) : dom (setDom c k l) j = dom c j := by
  simp only [dom, setDom]; exact mget_mset_ne _ _ _ _ h

/-- A register reads by the registers alone. -/
theorem rd_congr {a b : Core} (h : a.regs = b.regs) (k : Key) : rd a k = rd b k := by simp only [rd, h]

/-! ## Pieces -/

@[simp] theorem getW_setW_same (c : Core) (i : Nat) (x : Weaver) : getW (setW c i x) i = x := by simp [getW, setW]

theorem getW_setW_ne (c : Core) {i j : Nat} (x : Weaver) (h : j ≠ i) : getW (setW c i x) j = getW c j := by
  simp only [getW, setW]; exact mget_mset_ne _ _ _ _ h

@[simp] theorem getPin_setPin_same (c : Core) (i : Nat) (x : Pin) : getPin (setPin c i x) i = x := by simp [getPin, setPin]

theorem getPin_setPin_ne (c : Core) {i j : Nat} (x : Pin) (h : j ≠ i) : getPin (setPin c i x) j = getPin c j := by
  simp only [getPin, setPin]; exact mget_mset_ne _ _ _ _ h

@[simp] theorem getStream_setStream_same (c : Core) (i : Nat) (x : Stream) : getStream (setStream c i x) i = x := by simp [getStream, setStream]

theorem getStream_setStream_ne (c : Core) {i j : Nat} (x : Stream) (h : j ≠ i) : getStream (setStream c i x) j = getStream c j := by
  simp only [getStream, setStream]; exact mget_mset_ne _ _ _ _ h

@[simp] theorem getPec_setPec_same (c : Core) (i : Nat) (x : Pec) : getPec (setPec c i x) i = x := by simp [getPec, setPec]

theorem getPec_setPec_ne (c : Core) {i j : Nat} (x : Pec) (h : j ≠ i) : getPec (setPec c i x) j = getPec c j := by
  simp only [getPec, setPec]; exact mget_mset_ne _ _ _ _ h

@[simp] theorem getTb_setTb_same (c : Core) (i : Nat) (x : Tb) : getTb (setTb c i x) i = x := by simp [getTb, setTb]

theorem getTb_setTb_ne (c : Core) {i j : Nat} (x : Tb) (h : j ≠ i) : getTb (setTb c i x) j = getTb c j := by
  simp only [getTb, setTb]; exact mget_mset_ne _ _ _ _ h

@[simp] theorem getTdc_setTdc_same (c : Core) (i : Nat) (x : Tdc) : getTdc (setTdc c i x) i = x := by simp [getTdc, setTdc]

theorem getTdc_setTdc_ne (c : Core) {i j : Nat} (x : Tdc) (h : j ≠ i) : getTdc (setTdc c i x) j = getTdc c j := by
  simp only [getTdc, setTdc]; exact mget_mset_ne _ _ _ _ h

/-! ## wr -/

@[simp] theorem wr_fresh (c : Core) (k : Key) (v : Nat) : (wr c k v).fresh = c.fresh := rfl
@[simp] theorem wr_time (c : Core) (k : Key) (v : Nat) : (wr c k v).time = c.time := rfl
@[simp] theorem wr_stamp (c : Core) (k : Key) (v : Nat) : (wr c k v).stamp = c.stamp := rfl
@[simp] theorem wr_status (c : Core) (k : Key) (v : Nat) : (wr c k v).status = c.status := rfl
@[simp] theorem wr_outbox (c : Core) (k : Key) (v : Nat) : (wr c k v).outbox = c.outbox := rfl
@[simp] theorem wr_doms (c : Core) (k : Key) (v : Nat) : (wr c k v).doms = c.doms := rfl
@[simp] theorem wr_dap (c : Core) (k : Key) (v : Nat) : (wr c k v).dap = c.dap := rfl
@[simp] theorem wr_rwe (c : Core) (k : Key) (v : Nat) : (wr c k v).rwe = c.rwe := rfl
@[simp] theorem wr_faults (c : Core) (k : Key) (v : Nat) : (wr c k v).faults = c.faults := rfl
@[simp] theorem wr_tally (c : Core) (k : Key) (v : Nat) : (wr c k v).tally = c.tally := rfl
@[simp] theorem wr_clk (c : Core) (k : Key) (v : Nat) : (wr c k v).clk = c.clk := rfl
@[simp] theorem wr_tbs (c : Core) (k : Key) (v : Nat) : (wr c k v).tbs = c.tbs := rfl
@[simp] theorem wr_tpulse (c : Core) (k : Key) (v : Nat) : (wr c k v).tpulse = c.tpulse := rfl
@[simp] theorem wr_mode (c : Core) (k : Key) (v : Nat) : (wr c k v).mode = c.mode := rfl
@[simp] theorem wr_tap (c : Core) (k : Key) (v : Nat) : (wr c k v).tap = c.tap := rfl
@[simp] theorem wr_weavers (c : Core) (k : Key) (v : Nat) : (wr c k v).weavers = c.weavers := rfl
@[simp] theorem wr_trgoHigh (c : Core) (k : Key) (v : Nat) : (wr c k v).trgoHigh = c.trgoHigh := rfl
@[simp] theorem wr_pins (c : Core) (k : Key) (v : Nat) : (wr c k v).pins = c.pins := rfl
@[simp] theorem wr_pecs (c : Core) (k : Key) (v : Nat) : (wr c k v).pecs = c.pecs := rfl
@[simp] theorem wr_cal (c : Core) (k : Key) (v : Nat) : (wr c k v).cal = c.cal := rfl
@[simp] theorem wr_landing (c : Core) (k : Key) (v : Nat) : (wr c k v).landing = c.landing := rfl
@[simp] theorem wr_streams (c : Core) (k : Key) (v : Nat) : (wr c k v).streams = c.streams := rfl
@[simp] theorem wr_otherStreams (c : Core) (k : Key) (v : Nat) : (wr c k v).otherStreams = c.otherStreams := rfl
@[simp] theorem wr_journal (c : Core) (k : Key) (v : Nat) : (wr c k v).journal = c.journal := rfl
@[simp] theorem wr_tdcs (c : Core) (k : Key) (v : Nat) : (wr c k v).tdcs = c.tdcs := rfl
@[simp] theorem wr_cd (c : Core) (k : Key) (v : Nat) : (wr c k v).cd = c.cd := rfl
@[simp] theorem wr_rasters (c : Core) (k : Key) (v : Nat) : (wr c k v).rasters = c.rasters := rfl
@[simp] theorem wr_adcs (c : Core) (k : Key) (v : Nat) : (wr c k v).adcs = c.adcs := rfl
@[simp] theorem wr_sourceLast (c : Core) (k : Key) (v : Nat) : (wr c k v).sourceLast = c.sourceLast := rfl
@[simp] theorem wr_chains (c : Core) (k : Key) (v : Nat) : (wr c k v).chains = c.chains := rfl
@[simp] theorem wr_acqs (c : Core) (k : Key) (v : Nat) : (wr c k v).acqs = c.acqs := rfl
@[simp] theorem wr_hbm (c : Core) (k : Key) (v : Nat) : (wr c k v).hbm = c.hbm := rfl
@[simp] theorem wr_harts (c : Core) (k : Key) (v : Nat) : (wr c k v).harts = c.harts := rfl
@[simp] theorem wr_booms (c : Core) (k : Key) (v : Nat) : (wr c k v).booms = c.booms := rfl
@[simp] theorem wr_sched (c : Core) (k : Key) (v : Nat) : (wr c k v).sched = c.sched := rfl
@[simp] theorem wr_links (c : Core) (k : Key) (v : Nat) : (wr c k v).links = c.links := rfl
@[simp] theorem wr_remote (c : Core) (k : Key) (v : Nat) : (wr c k v).remote = c.remote := rfl
@[simp] theorem wr_tokens (c : Core) (k : Key) (v : Nat) : (wr c k v).tokens = c.tokens := rfl
@[simp] theorem wr_buddy (c : Core) (k : Key) (v : Nat) : (wr c k v).buddy = c.buddy := rfl
@[simp] theorem wr_ptps (c : Core) (k : Key) (v : Nat) : (wr c k v).ptps = c.ptps := rfl
@[simp] theorem wr_keeper (c : Core) (k : Key) (v : Nat) : (wr c k v).keeper = c.keeper := rfl
@[simp] theorem dom_wr (c : Core) (k : Key) (v : Nat) (j : Key) : dom (wr c k v) j = dom c j := rfl

/-! ## setDom -/

@[simp] theorem setDom_fresh (c : Core) (k : Key) (l : List Byte) : (setDom c k l).fresh = c.fresh := rfl
@[simp] theorem setDom_time (c : Core) (k : Key) (l : List Byte) : (setDom c k l).time = c.time := rfl
@[simp] theorem setDom_stamp (c : Core) (k : Key) (l : List Byte) : (setDom c k l).stamp = c.stamp := rfl
@[simp] theorem setDom_status (c : Core) (k : Key) (l : List Byte) : (setDom c k l).status = c.status := rfl
@[simp] theorem setDom_outbox (c : Core) (k : Key) (l : List Byte) : (setDom c k l).outbox = c.outbox := rfl
@[simp] theorem setDom_regs (c : Core) (k : Key) (l : List Byte) : (setDom c k l).regs = c.regs := rfl
@[simp] theorem setDom_dap (c : Core) (k : Key) (l : List Byte) : (setDom c k l).dap = c.dap := rfl
@[simp] theorem setDom_rwe (c : Core) (k : Key) (l : List Byte) : (setDom c k l).rwe = c.rwe := rfl
@[simp] theorem setDom_faults (c : Core) (k : Key) (l : List Byte) : (setDom c k l).faults = c.faults := rfl
@[simp] theorem setDom_tally (c : Core) (k : Key) (l : List Byte) : (setDom c k l).tally = c.tally := rfl
@[simp] theorem setDom_clk (c : Core) (k : Key) (l : List Byte) : (setDom c k l).clk = c.clk := rfl
@[simp] theorem setDom_tbs (c : Core) (k : Key) (l : List Byte) : (setDom c k l).tbs = c.tbs := rfl
@[simp] theorem setDom_tpulse (c : Core) (k : Key) (l : List Byte) : (setDom c k l).tpulse = c.tpulse := rfl
@[simp] theorem setDom_mode (c : Core) (k : Key) (l : List Byte) : (setDom c k l).mode = c.mode := rfl
@[simp] theorem setDom_tap (c : Core) (k : Key) (l : List Byte) : (setDom c k l).tap = c.tap := rfl
@[simp] theorem setDom_weavers (c : Core) (k : Key) (l : List Byte) : (setDom c k l).weavers = c.weavers := rfl
@[simp] theorem setDom_trgoHigh (c : Core) (k : Key) (l : List Byte) : (setDom c k l).trgoHigh = c.trgoHigh := rfl
@[simp] theorem setDom_pins (c : Core) (k : Key) (l : List Byte) : (setDom c k l).pins = c.pins := rfl
@[simp] theorem setDom_pecs (c : Core) (k : Key) (l : List Byte) : (setDom c k l).pecs = c.pecs := rfl
@[simp] theorem setDom_cal (c : Core) (k : Key) (l : List Byte) : (setDom c k l).cal = c.cal := rfl
@[simp] theorem setDom_landing (c : Core) (k : Key) (l : List Byte) : (setDom c k l).landing = c.landing := rfl
@[simp] theorem setDom_streams (c : Core) (k : Key) (l : List Byte) : (setDom c k l).streams = c.streams := rfl
@[simp] theorem setDom_otherStreams (c : Core) (k : Key) (l : List Byte) : (setDom c k l).otherStreams = c.otherStreams := rfl
@[simp] theorem setDom_journal (c : Core) (k : Key) (l : List Byte) : (setDom c k l).journal = c.journal := rfl
@[simp] theorem setDom_tdcs (c : Core) (k : Key) (l : List Byte) : (setDom c k l).tdcs = c.tdcs := rfl
@[simp] theorem setDom_cd (c : Core) (k : Key) (l : List Byte) : (setDom c k l).cd = c.cd := rfl
@[simp] theorem setDom_rasters (c : Core) (k : Key) (l : List Byte) : (setDom c k l).rasters = c.rasters := rfl
@[simp] theorem setDom_adcs (c : Core) (k : Key) (l : List Byte) : (setDom c k l).adcs = c.adcs := rfl
@[simp] theorem setDom_sourceLast (c : Core) (k : Key) (l : List Byte) : (setDom c k l).sourceLast = c.sourceLast := rfl
@[simp] theorem setDom_chains (c : Core) (k : Key) (l : List Byte) : (setDom c k l).chains = c.chains := rfl
@[simp] theorem setDom_acqs (c : Core) (k : Key) (l : List Byte) : (setDom c k l).acqs = c.acqs := rfl
@[simp] theorem setDom_hbm (c : Core) (k : Key) (l : List Byte) : (setDom c k l).hbm = c.hbm := rfl
@[simp] theorem setDom_harts (c : Core) (k : Key) (l : List Byte) : (setDom c k l).harts = c.harts := rfl
@[simp] theorem setDom_booms (c : Core) (k : Key) (l : List Byte) : (setDom c k l).booms = c.booms := rfl
@[simp] theorem setDom_sched (c : Core) (k : Key) (l : List Byte) : (setDom c k l).sched = c.sched := rfl
@[simp] theorem setDom_links (c : Core) (k : Key) (l : List Byte) : (setDom c k l).links = c.links := rfl
@[simp] theorem setDom_remote (c : Core) (k : Key) (l : List Byte) : (setDom c k l).remote = c.remote := rfl
@[simp] theorem setDom_tokens (c : Core) (k : Key) (l : List Byte) : (setDom c k l).tokens = c.tokens := rfl
@[simp] theorem setDom_buddy (c : Core) (k : Key) (l : List Byte) : (setDom c k l).buddy = c.buddy := rfl
@[simp] theorem setDom_ptps (c : Core) (k : Key) (l : List Byte) : (setDom c k l).ptps = c.ptps := rfl
@[simp] theorem setDom_keeper (c : Core) (k : Key) (l : List Byte) : (setDom c k l).keeper = c.keeper := rfl
@[simp] theorem rd_setDom (c : Core) (k : Key) (l : List Byte) (j : Key) : rd (setDom c k l) j = rd c j := rfl

/-! ## emit -/

@[simp] theorem emit_fresh (c : Core) (o : Out) : (emit c o).fresh = c.fresh := rfl
@[simp] theorem emit_time (c : Core) (o : Out) : (emit c o).time = c.time := rfl
@[simp] theorem emit_stamp (c : Core) (o : Out) : (emit c o).stamp = c.stamp := rfl
@[simp] theorem emit_status (c : Core) (o : Out) : (emit c o).status = c.status := rfl
@[simp] theorem emit_regs (c : Core) (o : Out) : (emit c o).regs = c.regs := rfl
@[simp] theorem emit_doms (c : Core) (o : Out) : (emit c o).doms = c.doms := rfl
@[simp] theorem emit_dap (c : Core) (o : Out) : (emit c o).dap = c.dap := rfl
@[simp] theorem emit_rwe (c : Core) (o : Out) : (emit c o).rwe = c.rwe := rfl
@[simp] theorem emit_faults (c : Core) (o : Out) : (emit c o).faults = c.faults := rfl
@[simp] theorem emit_tally (c : Core) (o : Out) : (emit c o).tally = c.tally := rfl
@[simp] theorem emit_clk (c : Core) (o : Out) : (emit c o).clk = c.clk := rfl
@[simp] theorem emit_tbs (c : Core) (o : Out) : (emit c o).tbs = c.tbs := rfl
@[simp] theorem emit_tpulse (c : Core) (o : Out) : (emit c o).tpulse = c.tpulse := rfl
@[simp] theorem emit_mode (c : Core) (o : Out) : (emit c o).mode = c.mode := rfl
@[simp] theorem emit_tap (c : Core) (o : Out) : (emit c o).tap = c.tap := rfl
@[simp] theorem emit_weavers (c : Core) (o : Out) : (emit c o).weavers = c.weavers := rfl
@[simp] theorem emit_trgoHigh (c : Core) (o : Out) : (emit c o).trgoHigh = c.trgoHigh := rfl
@[simp] theorem emit_pins (c : Core) (o : Out) : (emit c o).pins = c.pins := rfl
@[simp] theorem emit_pecs (c : Core) (o : Out) : (emit c o).pecs = c.pecs := rfl
@[simp] theorem emit_cal (c : Core) (o : Out) : (emit c o).cal = c.cal := rfl
@[simp] theorem emit_landing (c : Core) (o : Out) : (emit c o).landing = c.landing := rfl
@[simp] theorem emit_streams (c : Core) (o : Out) : (emit c o).streams = c.streams := rfl
@[simp] theorem emit_otherStreams (c : Core) (o : Out) : (emit c o).otherStreams = c.otherStreams := rfl
@[simp] theorem emit_journal (c : Core) (o : Out) : (emit c o).journal = c.journal := rfl
@[simp] theorem emit_tdcs (c : Core) (o : Out) : (emit c o).tdcs = c.tdcs := rfl
@[simp] theorem emit_cd (c : Core) (o : Out) : (emit c o).cd = c.cd := rfl
@[simp] theorem emit_rasters (c : Core) (o : Out) : (emit c o).rasters = c.rasters := rfl
@[simp] theorem emit_adcs (c : Core) (o : Out) : (emit c o).adcs = c.adcs := rfl
@[simp] theorem emit_sourceLast (c : Core) (o : Out) : (emit c o).sourceLast = c.sourceLast := rfl
@[simp] theorem emit_chains (c : Core) (o : Out) : (emit c o).chains = c.chains := rfl
@[simp] theorem emit_acqs (c : Core) (o : Out) : (emit c o).acqs = c.acqs := rfl
@[simp] theorem emit_hbm (c : Core) (o : Out) : (emit c o).hbm = c.hbm := rfl
@[simp] theorem emit_harts (c : Core) (o : Out) : (emit c o).harts = c.harts := rfl
@[simp] theorem emit_booms (c : Core) (o : Out) : (emit c o).booms = c.booms := rfl
@[simp] theorem emit_sched (c : Core) (o : Out) : (emit c o).sched = c.sched := rfl
@[simp] theorem emit_links (c : Core) (o : Out) : (emit c o).links = c.links := rfl
@[simp] theorem emit_remote (c : Core) (o : Out) : (emit c o).remote = c.remote := rfl
@[simp] theorem emit_tokens (c : Core) (o : Out) : (emit c o).tokens = c.tokens := rfl
@[simp] theorem emit_buddy (c : Core) (o : Out) : (emit c o).buddy = c.buddy := rfl
@[simp] theorem emit_ptps (c : Core) (o : Out) : (emit c o).ptps = c.ptps := rfl
@[simp] theorem emit_keeper (c : Core) (o : Out) : (emit c o).keeper = c.keeper := rfl
@[simp] theorem rd_emit (c : Core) (o : Out) (j : Key) : rd (emit c o) j = rd c j := rfl
@[simp] theorem dom_emit (c : Core) (o : Out) (j : Key) : dom (emit c o) j = dom c j := rfl

/-! ## freeUsed -/

@[simp] theorem freeUsed_time (c : Core) : (freeUsed c).time = c.time := rfl
@[simp] theorem freeUsed_stamp (c : Core) : (freeUsed c).stamp = c.stamp := rfl
@[simp] theorem freeUsed_status (c : Core) : (freeUsed c).status = c.status := rfl
@[simp] theorem freeUsed_outbox (c : Core) : (freeUsed c).outbox = c.outbox := rfl
@[simp] theorem freeUsed_regs (c : Core) : (freeUsed c).regs = c.regs := rfl
@[simp] theorem freeUsed_doms (c : Core) : (freeUsed c).doms = c.doms := rfl
@[simp] theorem freeUsed_dap (c : Core) : (freeUsed c).dap = c.dap := rfl
@[simp] theorem freeUsed_rwe (c : Core) : (freeUsed c).rwe = c.rwe := rfl
@[simp] theorem freeUsed_faults (c : Core) : (freeUsed c).faults = c.faults := rfl
@[simp] theorem freeUsed_tally (c : Core) : (freeUsed c).tally = c.tally := rfl
@[simp] theorem freeUsed_clk (c : Core) : (freeUsed c).clk = c.clk := rfl
@[simp] theorem freeUsed_tbs (c : Core) : (freeUsed c).tbs = c.tbs := rfl
@[simp] theorem freeUsed_tpulse (c : Core) : (freeUsed c).tpulse = c.tpulse := rfl
@[simp] theorem freeUsed_mode (c : Core) : (freeUsed c).mode = c.mode := rfl
@[simp] theorem freeUsed_tap (c : Core) : (freeUsed c).tap = c.tap := rfl
@[simp] theorem freeUsed_weavers (c : Core) : (freeUsed c).weavers = c.weavers := rfl
@[simp] theorem freeUsed_trgoHigh (c : Core) : (freeUsed c).trgoHigh = c.trgoHigh := rfl
@[simp] theorem freeUsed_pins (c : Core) : (freeUsed c).pins = c.pins := rfl
@[simp] theorem freeUsed_pecs (c : Core) : (freeUsed c).pecs = c.pecs := rfl
@[simp] theorem freeUsed_cal (c : Core) : (freeUsed c).cal = c.cal := rfl
@[simp] theorem freeUsed_landing (c : Core) : (freeUsed c).landing = c.landing := rfl
@[simp] theorem freeUsed_streams (c : Core) : (freeUsed c).streams = c.streams := rfl
@[simp] theorem freeUsed_otherStreams (c : Core) : (freeUsed c).otherStreams = c.otherStreams := rfl
@[simp] theorem freeUsed_journal (c : Core) : (freeUsed c).journal = c.journal := rfl
@[simp] theorem freeUsed_tdcs (c : Core) : (freeUsed c).tdcs = c.tdcs := rfl
@[simp] theorem freeUsed_cd (c : Core) : (freeUsed c).cd = c.cd := rfl
@[simp] theorem freeUsed_rasters (c : Core) : (freeUsed c).rasters = c.rasters := rfl
@[simp] theorem freeUsed_adcs (c : Core) : (freeUsed c).adcs = c.adcs := rfl
@[simp] theorem freeUsed_sourceLast (c : Core) : (freeUsed c).sourceLast = c.sourceLast := rfl
@[simp] theorem freeUsed_chains (c : Core) : (freeUsed c).chains = c.chains := rfl
@[simp] theorem freeUsed_acqs (c : Core) : (freeUsed c).acqs = c.acqs := rfl
@[simp] theorem freeUsed_hbm (c : Core) : (freeUsed c).hbm = c.hbm := rfl
@[simp] theorem freeUsed_harts (c : Core) : (freeUsed c).harts = c.harts := rfl
@[simp] theorem freeUsed_booms (c : Core) : (freeUsed c).booms = c.booms := rfl
@[simp] theorem freeUsed_sched (c : Core) : (freeUsed c).sched = c.sched := rfl
@[simp] theorem freeUsed_links (c : Core) : (freeUsed c).links = c.links := rfl
@[simp] theorem freeUsed_remote (c : Core) : (freeUsed c).remote = c.remote := rfl
@[simp] theorem freeUsed_tokens (c : Core) : (freeUsed c).tokens = c.tokens := rfl
@[simp] theorem freeUsed_buddy (c : Core) : (freeUsed c).buddy = c.buddy := rfl
@[simp] theorem freeUsed_ptps (c : Core) : (freeUsed c).ptps = c.ptps := rfl
@[simp] theorem freeUsed_keeper (c : Core) : (freeUsed c).keeper = c.keeper := rfl
@[simp] theorem rd_freeUsed (c : Core) (j : Key) : rd (freeUsed c) j = rd c j := rfl
@[simp] theorem dom_freeUsed (c : Core) (j : Key) : dom (freeUsed c) j = dom c j := rfl

/-! ## setW -/

@[simp] theorem setW_fresh (c : Core) (w : Nat) (x : Weaver) : (setW c w x).fresh = c.fresh := rfl
@[simp] theorem setW_time (c : Core) (w : Nat) (x : Weaver) : (setW c w x).time = c.time := rfl
@[simp] theorem setW_stamp (c : Core) (w : Nat) (x : Weaver) : (setW c w x).stamp = c.stamp := rfl
@[simp] theorem setW_status (c : Core) (w : Nat) (x : Weaver) : (setW c w x).status = c.status := rfl
@[simp] theorem setW_outbox (c : Core) (w : Nat) (x : Weaver) : (setW c w x).outbox = c.outbox := rfl
@[simp] theorem setW_regs (c : Core) (w : Nat) (x : Weaver) : (setW c w x).regs = c.regs := rfl
@[simp] theorem setW_doms (c : Core) (w : Nat) (x : Weaver) : (setW c w x).doms = c.doms := rfl
@[simp] theorem setW_dap (c : Core) (w : Nat) (x : Weaver) : (setW c w x).dap = c.dap := rfl
@[simp] theorem setW_rwe (c : Core) (w : Nat) (x : Weaver) : (setW c w x).rwe = c.rwe := rfl
@[simp] theorem setW_faults (c : Core) (w : Nat) (x : Weaver) : (setW c w x).faults = c.faults := rfl
@[simp] theorem setW_tally (c : Core) (w : Nat) (x : Weaver) : (setW c w x).tally = c.tally := rfl
@[simp] theorem setW_clk (c : Core) (w : Nat) (x : Weaver) : (setW c w x).clk = c.clk := rfl
@[simp] theorem setW_tbs (c : Core) (w : Nat) (x : Weaver) : (setW c w x).tbs = c.tbs := rfl
@[simp] theorem setW_tpulse (c : Core) (w : Nat) (x : Weaver) : (setW c w x).tpulse = c.tpulse := rfl
@[simp] theorem setW_mode (c : Core) (w : Nat) (x : Weaver) : (setW c w x).mode = c.mode := rfl
@[simp] theorem setW_tap (c : Core) (w : Nat) (x : Weaver) : (setW c w x).tap = c.tap := rfl
@[simp] theorem setW_trgoHigh (c : Core) (w : Nat) (x : Weaver) : (setW c w x).trgoHigh = c.trgoHigh := rfl
@[simp] theorem setW_pins (c : Core) (w : Nat) (x : Weaver) : (setW c w x).pins = c.pins := rfl
@[simp] theorem setW_pecs (c : Core) (w : Nat) (x : Weaver) : (setW c w x).pecs = c.pecs := rfl
@[simp] theorem setW_cal (c : Core) (w : Nat) (x : Weaver) : (setW c w x).cal = c.cal := rfl
@[simp] theorem setW_landing (c : Core) (w : Nat) (x : Weaver) : (setW c w x).landing = c.landing := rfl
@[simp] theorem setW_streams (c : Core) (w : Nat) (x : Weaver) : (setW c w x).streams = c.streams := rfl
@[simp] theorem setW_otherStreams (c : Core) (w : Nat) (x : Weaver) : (setW c w x).otherStreams = c.otherStreams := rfl
@[simp] theorem setW_journal (c : Core) (w : Nat) (x : Weaver) : (setW c w x).journal = c.journal := rfl
@[simp] theorem setW_tdcs (c : Core) (w : Nat) (x : Weaver) : (setW c w x).tdcs = c.tdcs := rfl
@[simp] theorem setW_cd (c : Core) (w : Nat) (x : Weaver) : (setW c w x).cd = c.cd := rfl
@[simp] theorem setW_rasters (c : Core) (w : Nat) (x : Weaver) : (setW c w x).rasters = c.rasters := rfl
@[simp] theorem setW_adcs (c : Core) (w : Nat) (x : Weaver) : (setW c w x).adcs = c.adcs := rfl
@[simp] theorem setW_sourceLast (c : Core) (w : Nat) (x : Weaver) : (setW c w x).sourceLast = c.sourceLast := rfl
@[simp] theorem setW_chains (c : Core) (w : Nat) (x : Weaver) : (setW c w x).chains = c.chains := rfl
@[simp] theorem setW_acqs (c : Core) (w : Nat) (x : Weaver) : (setW c w x).acqs = c.acqs := rfl
@[simp] theorem setW_hbm (c : Core) (w : Nat) (x : Weaver) : (setW c w x).hbm = c.hbm := rfl
@[simp] theorem setW_harts (c : Core) (w : Nat) (x : Weaver) : (setW c w x).harts = c.harts := rfl
@[simp] theorem setW_booms (c : Core) (w : Nat) (x : Weaver) : (setW c w x).booms = c.booms := rfl
@[simp] theorem setW_sched (c : Core) (w : Nat) (x : Weaver) : (setW c w x).sched = c.sched := rfl
@[simp] theorem setW_links (c : Core) (w : Nat) (x : Weaver) : (setW c w x).links = c.links := rfl
@[simp] theorem setW_remote (c : Core) (w : Nat) (x : Weaver) : (setW c w x).remote = c.remote := rfl
@[simp] theorem setW_tokens (c : Core) (w : Nat) (x : Weaver) : (setW c w x).tokens = c.tokens := rfl
@[simp] theorem setW_buddy (c : Core) (w : Nat) (x : Weaver) : (setW c w x).buddy = c.buddy := rfl
@[simp] theorem setW_ptps (c : Core) (w : Nat) (x : Weaver) : (setW c w x).ptps = c.ptps := rfl
@[simp] theorem setW_keeper (c : Core) (w : Nat) (x : Weaver) : (setW c w x).keeper = c.keeper := rfl
@[simp] theorem rd_setW (c : Core) (w : Nat) (x : Weaver) (j : Key) : rd (setW c w x) j = rd c j := rfl
@[simp] theorem dom_setW (c : Core) (w : Nat) (x : Weaver) (j : Key) : dom (setW c w x) j = dom c j := rfl

/-! ## setPin -/

@[simp] theorem setPin_fresh (c : Core) (p : Nat) (x : Pin) : (setPin c p x).fresh = c.fresh := rfl
@[simp] theorem setPin_time (c : Core) (p : Nat) (x : Pin) : (setPin c p x).time = c.time := rfl
@[simp] theorem setPin_stamp (c : Core) (p : Nat) (x : Pin) : (setPin c p x).stamp = c.stamp := rfl
@[simp] theorem setPin_status (c : Core) (p : Nat) (x : Pin) : (setPin c p x).status = c.status := rfl
@[simp] theorem setPin_outbox (c : Core) (p : Nat) (x : Pin) : (setPin c p x).outbox = c.outbox := rfl
@[simp] theorem setPin_regs (c : Core) (p : Nat) (x : Pin) : (setPin c p x).regs = c.regs := rfl
@[simp] theorem setPin_doms (c : Core) (p : Nat) (x : Pin) : (setPin c p x).doms = c.doms := rfl
@[simp] theorem setPin_dap (c : Core) (p : Nat) (x : Pin) : (setPin c p x).dap = c.dap := rfl
@[simp] theorem setPin_rwe (c : Core) (p : Nat) (x : Pin) : (setPin c p x).rwe = c.rwe := rfl
@[simp] theorem setPin_faults (c : Core) (p : Nat) (x : Pin) : (setPin c p x).faults = c.faults := rfl
@[simp] theorem setPin_tally (c : Core) (p : Nat) (x : Pin) : (setPin c p x).tally = c.tally := rfl
@[simp] theorem setPin_clk (c : Core) (p : Nat) (x : Pin) : (setPin c p x).clk = c.clk := rfl
@[simp] theorem setPin_tbs (c : Core) (p : Nat) (x : Pin) : (setPin c p x).tbs = c.tbs := rfl
@[simp] theorem setPin_tpulse (c : Core) (p : Nat) (x : Pin) : (setPin c p x).tpulse = c.tpulse := rfl
@[simp] theorem setPin_mode (c : Core) (p : Nat) (x : Pin) : (setPin c p x).mode = c.mode := rfl
@[simp] theorem setPin_tap (c : Core) (p : Nat) (x : Pin) : (setPin c p x).tap = c.tap := rfl
@[simp] theorem setPin_weavers (c : Core) (p : Nat) (x : Pin) : (setPin c p x).weavers = c.weavers := rfl
@[simp] theorem setPin_trgoHigh (c : Core) (p : Nat) (x : Pin) : (setPin c p x).trgoHigh = c.trgoHigh := rfl
@[simp] theorem setPin_pecs (c : Core) (p : Nat) (x : Pin) : (setPin c p x).pecs = c.pecs := rfl
@[simp] theorem setPin_cal (c : Core) (p : Nat) (x : Pin) : (setPin c p x).cal = c.cal := rfl
@[simp] theorem setPin_landing (c : Core) (p : Nat) (x : Pin) : (setPin c p x).landing = c.landing := rfl
@[simp] theorem setPin_streams (c : Core) (p : Nat) (x : Pin) : (setPin c p x).streams = c.streams := rfl
@[simp] theorem setPin_otherStreams (c : Core) (p : Nat) (x : Pin) : (setPin c p x).otherStreams = c.otherStreams := rfl
@[simp] theorem setPin_journal (c : Core) (p : Nat) (x : Pin) : (setPin c p x).journal = c.journal := rfl
@[simp] theorem setPin_tdcs (c : Core) (p : Nat) (x : Pin) : (setPin c p x).tdcs = c.tdcs := rfl
@[simp] theorem setPin_cd (c : Core) (p : Nat) (x : Pin) : (setPin c p x).cd = c.cd := rfl
@[simp] theorem setPin_rasters (c : Core) (p : Nat) (x : Pin) : (setPin c p x).rasters = c.rasters := rfl
@[simp] theorem setPin_adcs (c : Core) (p : Nat) (x : Pin) : (setPin c p x).adcs = c.adcs := rfl
@[simp] theorem setPin_sourceLast (c : Core) (p : Nat) (x : Pin) : (setPin c p x).sourceLast = c.sourceLast := rfl
@[simp] theorem setPin_chains (c : Core) (p : Nat) (x : Pin) : (setPin c p x).chains = c.chains := rfl
@[simp] theorem setPin_acqs (c : Core) (p : Nat) (x : Pin) : (setPin c p x).acqs = c.acqs := rfl
@[simp] theorem setPin_hbm (c : Core) (p : Nat) (x : Pin) : (setPin c p x).hbm = c.hbm := rfl
@[simp] theorem setPin_harts (c : Core) (p : Nat) (x : Pin) : (setPin c p x).harts = c.harts := rfl
@[simp] theorem setPin_booms (c : Core) (p : Nat) (x : Pin) : (setPin c p x).booms = c.booms := rfl
@[simp] theorem setPin_sched (c : Core) (p : Nat) (x : Pin) : (setPin c p x).sched = c.sched := rfl
@[simp] theorem setPin_links (c : Core) (p : Nat) (x : Pin) : (setPin c p x).links = c.links := rfl
@[simp] theorem setPin_remote (c : Core) (p : Nat) (x : Pin) : (setPin c p x).remote = c.remote := rfl
@[simp] theorem setPin_tokens (c : Core) (p : Nat) (x : Pin) : (setPin c p x).tokens = c.tokens := rfl
@[simp] theorem setPin_buddy (c : Core) (p : Nat) (x : Pin) : (setPin c p x).buddy = c.buddy := rfl
@[simp] theorem setPin_ptps (c : Core) (p : Nat) (x : Pin) : (setPin c p x).ptps = c.ptps := rfl
@[simp] theorem setPin_keeper (c : Core) (p : Nat) (x : Pin) : (setPin c p x).keeper = c.keeper := rfl
@[simp] theorem rd_setPin (c : Core) (p : Nat) (x : Pin) (j : Key) : rd (setPin c p x) j = rd c j := rfl
@[simp] theorem dom_setPin (c : Core) (p : Nat) (x : Pin) (j : Key) : dom (setPin c p x) j = dom c j := rfl

/-! ## setStream -/

@[simp] theorem setStream_fresh (c : Core) (n : Nat) (x : Stream) : (setStream c n x).fresh = c.fresh := rfl
@[simp] theorem setStream_time (c : Core) (n : Nat) (x : Stream) : (setStream c n x).time = c.time := rfl
@[simp] theorem setStream_stamp (c : Core) (n : Nat) (x : Stream) : (setStream c n x).stamp = c.stamp := rfl
@[simp] theorem setStream_status (c : Core) (n : Nat) (x : Stream) : (setStream c n x).status = c.status := rfl
@[simp] theorem setStream_outbox (c : Core) (n : Nat) (x : Stream) : (setStream c n x).outbox = c.outbox := rfl
@[simp] theorem setStream_regs (c : Core) (n : Nat) (x : Stream) : (setStream c n x).regs = c.regs := rfl
@[simp] theorem setStream_doms (c : Core) (n : Nat) (x : Stream) : (setStream c n x).doms = c.doms := rfl
@[simp] theorem setStream_dap (c : Core) (n : Nat) (x : Stream) : (setStream c n x).dap = c.dap := rfl
@[simp] theorem setStream_rwe (c : Core) (n : Nat) (x : Stream) : (setStream c n x).rwe = c.rwe := rfl
@[simp] theorem setStream_faults (c : Core) (n : Nat) (x : Stream) : (setStream c n x).faults = c.faults := rfl
@[simp] theorem setStream_tally (c : Core) (n : Nat) (x : Stream) : (setStream c n x).tally = c.tally := rfl
@[simp] theorem setStream_clk (c : Core) (n : Nat) (x : Stream) : (setStream c n x).clk = c.clk := rfl
@[simp] theorem setStream_tbs (c : Core) (n : Nat) (x : Stream) : (setStream c n x).tbs = c.tbs := rfl
@[simp] theorem setStream_tpulse (c : Core) (n : Nat) (x : Stream) : (setStream c n x).tpulse = c.tpulse := rfl
@[simp] theorem setStream_mode (c : Core) (n : Nat) (x : Stream) : (setStream c n x).mode = c.mode := rfl
@[simp] theorem setStream_tap (c : Core) (n : Nat) (x : Stream) : (setStream c n x).tap = c.tap := rfl
@[simp] theorem setStream_weavers (c : Core) (n : Nat) (x : Stream) : (setStream c n x).weavers = c.weavers := rfl
@[simp] theorem setStream_trgoHigh (c : Core) (n : Nat) (x : Stream) : (setStream c n x).trgoHigh = c.trgoHigh := rfl
@[simp] theorem setStream_pins (c : Core) (n : Nat) (x : Stream) : (setStream c n x).pins = c.pins := rfl
@[simp] theorem setStream_pecs (c : Core) (n : Nat) (x : Stream) : (setStream c n x).pecs = c.pecs := rfl
@[simp] theorem setStream_cal (c : Core) (n : Nat) (x : Stream) : (setStream c n x).cal = c.cal := rfl
@[simp] theorem setStream_landing (c : Core) (n : Nat) (x : Stream) : (setStream c n x).landing = c.landing := rfl
@[simp] theorem setStream_otherStreams (c : Core) (n : Nat) (x : Stream) : (setStream c n x).otherStreams = c.otherStreams := rfl
@[simp] theorem setStream_journal (c : Core) (n : Nat) (x : Stream) : (setStream c n x).journal = c.journal := rfl
@[simp] theorem setStream_tdcs (c : Core) (n : Nat) (x : Stream) : (setStream c n x).tdcs = c.tdcs := rfl
@[simp] theorem setStream_cd (c : Core) (n : Nat) (x : Stream) : (setStream c n x).cd = c.cd := rfl
@[simp] theorem setStream_rasters (c : Core) (n : Nat) (x : Stream) : (setStream c n x).rasters = c.rasters := rfl
@[simp] theorem setStream_adcs (c : Core) (n : Nat) (x : Stream) : (setStream c n x).adcs = c.adcs := rfl
@[simp] theorem setStream_sourceLast (c : Core) (n : Nat) (x : Stream) : (setStream c n x).sourceLast = c.sourceLast := rfl
@[simp] theorem setStream_chains (c : Core) (n : Nat) (x : Stream) : (setStream c n x).chains = c.chains := rfl
@[simp] theorem setStream_acqs (c : Core) (n : Nat) (x : Stream) : (setStream c n x).acqs = c.acqs := rfl
@[simp] theorem setStream_hbm (c : Core) (n : Nat) (x : Stream) : (setStream c n x).hbm = c.hbm := rfl
@[simp] theorem setStream_harts (c : Core) (n : Nat) (x : Stream) : (setStream c n x).harts = c.harts := rfl
@[simp] theorem setStream_booms (c : Core) (n : Nat) (x : Stream) : (setStream c n x).booms = c.booms := rfl
@[simp] theorem setStream_sched (c : Core) (n : Nat) (x : Stream) : (setStream c n x).sched = c.sched := rfl
@[simp] theorem setStream_links (c : Core) (n : Nat) (x : Stream) : (setStream c n x).links = c.links := rfl
@[simp] theorem setStream_remote (c : Core) (n : Nat) (x : Stream) : (setStream c n x).remote = c.remote := rfl
@[simp] theorem setStream_tokens (c : Core) (n : Nat) (x : Stream) : (setStream c n x).tokens = c.tokens := rfl
@[simp] theorem setStream_buddy (c : Core) (n : Nat) (x : Stream) : (setStream c n x).buddy = c.buddy := rfl
@[simp] theorem setStream_ptps (c : Core) (n : Nat) (x : Stream) : (setStream c n x).ptps = c.ptps := rfl
@[simp] theorem setStream_keeper (c : Core) (n : Nat) (x : Stream) : (setStream c n x).keeper = c.keeper := rfl
@[simp] theorem rd_setStream (c : Core) (n : Nat) (x : Stream) (j : Key) : rd (setStream c n x) j = rd c j := rfl
@[simp] theorem dom_setStream (c : Core) (n : Nat) (x : Stream) (j : Key) : dom (setStream c n x) j = dom c j := rfl

/-! ## setPec -/

@[simp] theorem setPec_fresh (c : Core) (k : Nat) (x : Pec) : (setPec c k x).fresh = c.fresh := rfl
@[simp] theorem setPec_time (c : Core) (k : Nat) (x : Pec) : (setPec c k x).time = c.time := rfl
@[simp] theorem setPec_stamp (c : Core) (k : Nat) (x : Pec) : (setPec c k x).stamp = c.stamp := rfl
@[simp] theorem setPec_status (c : Core) (k : Nat) (x : Pec) : (setPec c k x).status = c.status := rfl
@[simp] theorem setPec_outbox (c : Core) (k : Nat) (x : Pec) : (setPec c k x).outbox = c.outbox := rfl
@[simp] theorem setPec_regs (c : Core) (k : Nat) (x : Pec) : (setPec c k x).regs = c.regs := rfl
@[simp] theorem setPec_doms (c : Core) (k : Nat) (x : Pec) : (setPec c k x).doms = c.doms := rfl
@[simp] theorem setPec_dap (c : Core) (k : Nat) (x : Pec) : (setPec c k x).dap = c.dap := rfl
@[simp] theorem setPec_rwe (c : Core) (k : Nat) (x : Pec) : (setPec c k x).rwe = c.rwe := rfl
@[simp] theorem setPec_faults (c : Core) (k : Nat) (x : Pec) : (setPec c k x).faults = c.faults := rfl
@[simp] theorem setPec_tally (c : Core) (k : Nat) (x : Pec) : (setPec c k x).tally = c.tally := rfl
@[simp] theorem setPec_clk (c : Core) (k : Nat) (x : Pec) : (setPec c k x).clk = c.clk := rfl
@[simp] theorem setPec_tbs (c : Core) (k : Nat) (x : Pec) : (setPec c k x).tbs = c.tbs := rfl
@[simp] theorem setPec_tpulse (c : Core) (k : Nat) (x : Pec) : (setPec c k x).tpulse = c.tpulse := rfl
@[simp] theorem setPec_mode (c : Core) (k : Nat) (x : Pec) : (setPec c k x).mode = c.mode := rfl
@[simp] theorem setPec_tap (c : Core) (k : Nat) (x : Pec) : (setPec c k x).tap = c.tap := rfl
@[simp] theorem setPec_weavers (c : Core) (k : Nat) (x : Pec) : (setPec c k x).weavers = c.weavers := rfl
@[simp] theorem setPec_trgoHigh (c : Core) (k : Nat) (x : Pec) : (setPec c k x).trgoHigh = c.trgoHigh := rfl
@[simp] theorem setPec_pins (c : Core) (k : Nat) (x : Pec) : (setPec c k x).pins = c.pins := rfl
@[simp] theorem setPec_cal (c : Core) (k : Nat) (x : Pec) : (setPec c k x).cal = c.cal := rfl
@[simp] theorem setPec_landing (c : Core) (k : Nat) (x : Pec) : (setPec c k x).landing = c.landing := rfl
@[simp] theorem setPec_streams (c : Core) (k : Nat) (x : Pec) : (setPec c k x).streams = c.streams := rfl
@[simp] theorem setPec_otherStreams (c : Core) (k : Nat) (x : Pec) : (setPec c k x).otherStreams = c.otherStreams := rfl
@[simp] theorem setPec_journal (c : Core) (k : Nat) (x : Pec) : (setPec c k x).journal = c.journal := rfl
@[simp] theorem setPec_tdcs (c : Core) (k : Nat) (x : Pec) : (setPec c k x).tdcs = c.tdcs := rfl
@[simp] theorem setPec_cd (c : Core) (k : Nat) (x : Pec) : (setPec c k x).cd = c.cd := rfl
@[simp] theorem setPec_rasters (c : Core) (k : Nat) (x : Pec) : (setPec c k x).rasters = c.rasters := rfl
@[simp] theorem setPec_adcs (c : Core) (k : Nat) (x : Pec) : (setPec c k x).adcs = c.adcs := rfl
@[simp] theorem setPec_sourceLast (c : Core) (k : Nat) (x : Pec) : (setPec c k x).sourceLast = c.sourceLast := rfl
@[simp] theorem setPec_chains (c : Core) (k : Nat) (x : Pec) : (setPec c k x).chains = c.chains := rfl
@[simp] theorem setPec_acqs (c : Core) (k : Nat) (x : Pec) : (setPec c k x).acqs = c.acqs := rfl
@[simp] theorem setPec_hbm (c : Core) (k : Nat) (x : Pec) : (setPec c k x).hbm = c.hbm := rfl
@[simp] theorem setPec_harts (c : Core) (k : Nat) (x : Pec) : (setPec c k x).harts = c.harts := rfl
@[simp] theorem setPec_booms (c : Core) (k : Nat) (x : Pec) : (setPec c k x).booms = c.booms := rfl
@[simp] theorem setPec_sched (c : Core) (k : Nat) (x : Pec) : (setPec c k x).sched = c.sched := rfl
@[simp] theorem setPec_links (c : Core) (k : Nat) (x : Pec) : (setPec c k x).links = c.links := rfl
@[simp] theorem setPec_remote (c : Core) (k : Nat) (x : Pec) : (setPec c k x).remote = c.remote := rfl
@[simp] theorem setPec_tokens (c : Core) (k : Nat) (x : Pec) : (setPec c k x).tokens = c.tokens := rfl
@[simp] theorem setPec_buddy (c : Core) (k : Nat) (x : Pec) : (setPec c k x).buddy = c.buddy := rfl
@[simp] theorem setPec_ptps (c : Core) (k : Nat) (x : Pec) : (setPec c k x).ptps = c.ptps := rfl
@[simp] theorem setPec_keeper (c : Core) (k : Nat) (x : Pec) : (setPec c k x).keeper = c.keeper := rfl
@[simp] theorem rd_setPec (c : Core) (k : Nat) (x : Pec) (j : Key) : rd (setPec c k x) j = rd c j := rfl
@[simp] theorem dom_setPec (c : Core) (k : Nat) (x : Pec) (j : Key) : dom (setPec c k x) j = dom c j := rfl

/-! ## setTb -/

@[simp] theorem setTb_fresh (c : Core) (t : Nat) (x : Tb) : (setTb c t x).fresh = c.fresh := rfl
@[simp] theorem setTb_time (c : Core) (t : Nat) (x : Tb) : (setTb c t x).time = c.time := rfl
@[simp] theorem setTb_stamp (c : Core) (t : Nat) (x : Tb) : (setTb c t x).stamp = c.stamp := rfl
@[simp] theorem setTb_status (c : Core) (t : Nat) (x : Tb) : (setTb c t x).status = c.status := rfl
@[simp] theorem setTb_outbox (c : Core) (t : Nat) (x : Tb) : (setTb c t x).outbox = c.outbox := rfl
@[simp] theorem setTb_regs (c : Core) (t : Nat) (x : Tb) : (setTb c t x).regs = c.regs := rfl
@[simp] theorem setTb_doms (c : Core) (t : Nat) (x : Tb) : (setTb c t x).doms = c.doms := rfl
@[simp] theorem setTb_dap (c : Core) (t : Nat) (x : Tb) : (setTb c t x).dap = c.dap := rfl
@[simp] theorem setTb_rwe (c : Core) (t : Nat) (x : Tb) : (setTb c t x).rwe = c.rwe := rfl
@[simp] theorem setTb_faults (c : Core) (t : Nat) (x : Tb) : (setTb c t x).faults = c.faults := rfl
@[simp] theorem setTb_tally (c : Core) (t : Nat) (x : Tb) : (setTb c t x).tally = c.tally := rfl
@[simp] theorem setTb_clk (c : Core) (t : Nat) (x : Tb) : (setTb c t x).clk = c.clk := rfl
@[simp] theorem setTb_tpulse (c : Core) (t : Nat) (x : Tb) : (setTb c t x).tpulse = c.tpulse := rfl
@[simp] theorem setTb_mode (c : Core) (t : Nat) (x : Tb) : (setTb c t x).mode = c.mode := rfl
@[simp] theorem setTb_tap (c : Core) (t : Nat) (x : Tb) : (setTb c t x).tap = c.tap := rfl
@[simp] theorem setTb_weavers (c : Core) (t : Nat) (x : Tb) : (setTb c t x).weavers = c.weavers := rfl
@[simp] theorem setTb_trgoHigh (c : Core) (t : Nat) (x : Tb) : (setTb c t x).trgoHigh = c.trgoHigh := rfl
@[simp] theorem setTb_pins (c : Core) (t : Nat) (x : Tb) : (setTb c t x).pins = c.pins := rfl
@[simp] theorem setTb_pecs (c : Core) (t : Nat) (x : Tb) : (setTb c t x).pecs = c.pecs := rfl
@[simp] theorem setTb_cal (c : Core) (t : Nat) (x : Tb) : (setTb c t x).cal = c.cal := rfl
@[simp] theorem setTb_landing (c : Core) (t : Nat) (x : Tb) : (setTb c t x).landing = c.landing := rfl
@[simp] theorem setTb_streams (c : Core) (t : Nat) (x : Tb) : (setTb c t x).streams = c.streams := rfl
@[simp] theorem setTb_otherStreams (c : Core) (t : Nat) (x : Tb) : (setTb c t x).otherStreams = c.otherStreams := rfl
@[simp] theorem setTb_journal (c : Core) (t : Nat) (x : Tb) : (setTb c t x).journal = c.journal := rfl
@[simp] theorem setTb_tdcs (c : Core) (t : Nat) (x : Tb) : (setTb c t x).tdcs = c.tdcs := rfl
@[simp] theorem setTb_cd (c : Core) (t : Nat) (x : Tb) : (setTb c t x).cd = c.cd := rfl
@[simp] theorem setTb_rasters (c : Core) (t : Nat) (x : Tb) : (setTb c t x).rasters = c.rasters := rfl
@[simp] theorem setTb_adcs (c : Core) (t : Nat) (x : Tb) : (setTb c t x).adcs = c.adcs := rfl
@[simp] theorem setTb_sourceLast (c : Core) (t : Nat) (x : Tb) : (setTb c t x).sourceLast = c.sourceLast := rfl
@[simp] theorem setTb_chains (c : Core) (t : Nat) (x : Tb) : (setTb c t x).chains = c.chains := rfl
@[simp] theorem setTb_acqs (c : Core) (t : Nat) (x : Tb) : (setTb c t x).acqs = c.acqs := rfl
@[simp] theorem setTb_hbm (c : Core) (t : Nat) (x : Tb) : (setTb c t x).hbm = c.hbm := rfl
@[simp] theorem setTb_harts (c : Core) (t : Nat) (x : Tb) : (setTb c t x).harts = c.harts := rfl
@[simp] theorem setTb_booms (c : Core) (t : Nat) (x : Tb) : (setTb c t x).booms = c.booms := rfl
@[simp] theorem setTb_sched (c : Core) (t : Nat) (x : Tb) : (setTb c t x).sched = c.sched := rfl
@[simp] theorem setTb_links (c : Core) (t : Nat) (x : Tb) : (setTb c t x).links = c.links := rfl
@[simp] theorem setTb_remote (c : Core) (t : Nat) (x : Tb) : (setTb c t x).remote = c.remote := rfl
@[simp] theorem setTb_tokens (c : Core) (t : Nat) (x : Tb) : (setTb c t x).tokens = c.tokens := rfl
@[simp] theorem setTb_buddy (c : Core) (t : Nat) (x : Tb) : (setTb c t x).buddy = c.buddy := rfl
@[simp] theorem setTb_ptps (c : Core) (t : Nat) (x : Tb) : (setTb c t x).ptps = c.ptps := rfl
@[simp] theorem setTb_keeper (c : Core) (t : Nat) (x : Tb) : (setTb c t x).keeper = c.keeper := rfl
@[simp] theorem rd_setTb (c : Core) (t : Nat) (x : Tb) (j : Key) : rd (setTb c t x) j = rd c j := rfl
@[simp] theorem dom_setTb (c : Core) (t : Nat) (x : Tb) (j : Key) : dom (setTb c t x) j = dom c j := rfl

/-! ## setTdc -/

@[simp] theorem setTdc_fresh (c : Core) (n : Nat) (x : Tdc) : (setTdc c n x).fresh = c.fresh := rfl
@[simp] theorem setTdc_time (c : Core) (n : Nat) (x : Tdc) : (setTdc c n x).time = c.time := rfl
@[simp] theorem setTdc_stamp (c : Core) (n : Nat) (x : Tdc) : (setTdc c n x).stamp = c.stamp := rfl
@[simp] theorem setTdc_status (c : Core) (n : Nat) (x : Tdc) : (setTdc c n x).status = c.status := rfl
@[simp] theorem setTdc_outbox (c : Core) (n : Nat) (x : Tdc) : (setTdc c n x).outbox = c.outbox := rfl
@[simp] theorem setTdc_regs (c : Core) (n : Nat) (x : Tdc) : (setTdc c n x).regs = c.regs := rfl
@[simp] theorem setTdc_doms (c : Core) (n : Nat) (x : Tdc) : (setTdc c n x).doms = c.doms := rfl
@[simp] theorem setTdc_dap (c : Core) (n : Nat) (x : Tdc) : (setTdc c n x).dap = c.dap := rfl
@[simp] theorem setTdc_rwe (c : Core) (n : Nat) (x : Tdc) : (setTdc c n x).rwe = c.rwe := rfl
@[simp] theorem setTdc_faults (c : Core) (n : Nat) (x : Tdc) : (setTdc c n x).faults = c.faults := rfl
@[simp] theorem setTdc_tally (c : Core) (n : Nat) (x : Tdc) : (setTdc c n x).tally = c.tally := rfl
@[simp] theorem setTdc_clk (c : Core) (n : Nat) (x : Tdc) : (setTdc c n x).clk = c.clk := rfl
@[simp] theorem setTdc_tbs (c : Core) (n : Nat) (x : Tdc) : (setTdc c n x).tbs = c.tbs := rfl
@[simp] theorem setTdc_tpulse (c : Core) (n : Nat) (x : Tdc) : (setTdc c n x).tpulse = c.tpulse := rfl
@[simp] theorem setTdc_mode (c : Core) (n : Nat) (x : Tdc) : (setTdc c n x).mode = c.mode := rfl
@[simp] theorem setTdc_tap (c : Core) (n : Nat) (x : Tdc) : (setTdc c n x).tap = c.tap := rfl
@[simp] theorem setTdc_weavers (c : Core) (n : Nat) (x : Tdc) : (setTdc c n x).weavers = c.weavers := rfl
@[simp] theorem setTdc_trgoHigh (c : Core) (n : Nat) (x : Tdc) : (setTdc c n x).trgoHigh = c.trgoHigh := rfl
@[simp] theorem setTdc_pins (c : Core) (n : Nat) (x : Tdc) : (setTdc c n x).pins = c.pins := rfl
@[simp] theorem setTdc_pecs (c : Core) (n : Nat) (x : Tdc) : (setTdc c n x).pecs = c.pecs := rfl
@[simp] theorem setTdc_cal (c : Core) (n : Nat) (x : Tdc) : (setTdc c n x).cal = c.cal := rfl
@[simp] theorem setTdc_landing (c : Core) (n : Nat) (x : Tdc) : (setTdc c n x).landing = c.landing := rfl
@[simp] theorem setTdc_streams (c : Core) (n : Nat) (x : Tdc) : (setTdc c n x).streams = c.streams := rfl
@[simp] theorem setTdc_otherStreams (c : Core) (n : Nat) (x : Tdc) : (setTdc c n x).otherStreams = c.otherStreams := rfl
@[simp] theorem setTdc_journal (c : Core) (n : Nat) (x : Tdc) : (setTdc c n x).journal = c.journal := rfl
@[simp] theorem setTdc_cd (c : Core) (n : Nat) (x : Tdc) : (setTdc c n x).cd = c.cd := rfl
@[simp] theorem setTdc_rasters (c : Core) (n : Nat) (x : Tdc) : (setTdc c n x).rasters = c.rasters := rfl
@[simp] theorem setTdc_adcs (c : Core) (n : Nat) (x : Tdc) : (setTdc c n x).adcs = c.adcs := rfl
@[simp] theorem setTdc_sourceLast (c : Core) (n : Nat) (x : Tdc) : (setTdc c n x).sourceLast = c.sourceLast := rfl
@[simp] theorem setTdc_chains (c : Core) (n : Nat) (x : Tdc) : (setTdc c n x).chains = c.chains := rfl
@[simp] theorem setTdc_acqs (c : Core) (n : Nat) (x : Tdc) : (setTdc c n x).acqs = c.acqs := rfl
@[simp] theorem setTdc_hbm (c : Core) (n : Nat) (x : Tdc) : (setTdc c n x).hbm = c.hbm := rfl
@[simp] theorem setTdc_harts (c : Core) (n : Nat) (x : Tdc) : (setTdc c n x).harts = c.harts := rfl
@[simp] theorem setTdc_booms (c : Core) (n : Nat) (x : Tdc) : (setTdc c n x).booms = c.booms := rfl
@[simp] theorem setTdc_sched (c : Core) (n : Nat) (x : Tdc) : (setTdc c n x).sched = c.sched := rfl
@[simp] theorem setTdc_links (c : Core) (n : Nat) (x : Tdc) : (setTdc c n x).links = c.links := rfl
@[simp] theorem setTdc_remote (c : Core) (n : Nat) (x : Tdc) : (setTdc c n x).remote = c.remote := rfl
@[simp] theorem setTdc_tokens (c : Core) (n : Nat) (x : Tdc) : (setTdc c n x).tokens = c.tokens := rfl
@[simp] theorem setTdc_buddy (c : Core) (n : Nat) (x : Tdc) : (setTdc c n x).buddy = c.buddy := rfl
@[simp] theorem setTdc_ptps (c : Core) (n : Nat) (x : Tdc) : (setTdc c n x).ptps = c.ptps := rfl
@[simp] theorem setTdc_keeper (c : Core) (n : Nat) (x : Tdc) : (setTdc c n x).keeper = c.keeper := rfl
@[simp] theorem rd_setTdc (c : Core) (n : Nat) (x : Tdc) (j : Key) : rd (setTdc c n x) j = rd c j := rfl
@[simp] theorem dom_setTdc (c : Core) (n : Nat) (x : Tdc) (j : Key) : dom (setTdc c n x) j = dom c j := rfl

end Sys2Proof.Machine
end

