-- ==== Sys2Proof/Laws/Faults.lean ====
section
/-!
SUPPORT. Sys2Proof/Laws/Faults.lean: everything a raise can do to the sources and to the registers.
-/
namespace Sys2Proof.Machine

/-! ## A stop request -/

@[simp] theorem stopAtVector_regs (c : Core) (k w : Nat) : (stopAtVector c k w).regs = c.regs := by
  unfold stopAtVector; split
  · rfl
  · split <;> rfl

@[simp] theorem stopAtVector_faults (c : Core) (k w : Nat) : (stopAtVector c k w).faults = c.faults := by
  unfold stopAtVector; split
  · rfl
  · split <;> rfl

theorem foldl_stop_regs (l : List Nat) (k : Nat) (c : Core) : (l.foldl (fun c w => stopAtVector c k w) c).regs = c.regs := by
  induction l generalizing c with
  | nil => rfl
  | cons a l ih => rw [List.foldl_cons, ih, stopAtVector_regs]

theorem foldl_stop_faults (l : List Nat) (k : Nat) (c : Core) : (l.foldl (fun c w => stopAtVector c k w) c).faults = c.faults := by
  induction l generalizing c with
  | nil => rfl
  | cons a l ih => rw [List.foldl_cons, ih, stopAtVector_faults]

/-! ## Writes of several registers -/

theorem foldl_wr_faults (f : Nat → Key) (v : Nat) (l : List Nat) (c : Core) :
    (l.foldl (fun c i => wr c (f i) v) c).faults = c.faults := by
  induction l generalizing c with
  | nil => rfl
  | cons a l ih => rw [List.foldl_cons, ih, wr_faults]

theorem foldl_wr_rd (f : Nat → Key) (v : Nat) (l : List Nat) (c : Core) (k : Key) (h : ∀ i ∈ l, k ≠ f i) :
    rd (l.foldl (fun c i => wr c (f i) v) c) k = rd c k := by
  induction l generalizing c with
  | nil => rfl
  | cons a l ih => rw [List.foldl_cons, ih _ (fun i hi => h i (List.mem_cons_of_mem _ hi)), rd_wr_ne c v (h a (by simp))]

/-! ## The reaction -/

theorem react_srcs (c : Core) (src eff : Nat) (g : List Nat) : (react c src eff g).faults.srcs = c.faults.srcs := by
  unfold react
  split
  · rfl
  · split
    · rw [foldl_stop_faults]
    · dsimp only
      split
      · split
        · simp only [foldl_stop_faults]
        · split <;> simp only [foldl_stop_faults]
      · simp only [foldl_wr_faults, foldl_stop_faults]

/-- The keys that a raise may write: the latch and, at L4, the states of the links. -/
def raiseKeys : List Key := [mkKey 0x7000 4, mkKey 0x7000 5] ++ (List.range 8).map (fun l => mkKey (0x6000 + l) 2)

theorem react_rd (c : Core) (src eff : Nat) (g : List Nat) (k : Key) (h : k ∉ raiseKeys) :
    rd (react c src eff g) k = rd c k := by
  have hk : ∀ i ∈ List.range 8, k ≠ mkKey (0x6000 + i) 2 := by
    intro i hi he
    exact h (List.mem_append_right _ (List.mem_map.mpr ⟨i, hi, he.symm⟩))
  unfold react
  split
  · rfl
  · split
    · simp only [rd, foldl_stop_regs]
    · dsimp only
      split
      · split
        · simp only [rd, foldl_stop_regs]
        · split <;> simp only [rd, foldl_stop_regs]
      · have := fun c' => foldl_wr_rd (fun l => mkKey (0x6000 + l) 2) 0 (List.range 8) c' k hk
        simp only [rd] at this ⊢
        rw [this]
        simp only [foldl_stop_regs]

/-! ## A raise -/

@[simp] theorem latchFirst_srcs (c : Core) (src eff : Nat) : (latchFirst c src eff).1.faults.srcs = c.faults.srcs := by
  unfold latchFirst; dsimp only; split <;> rfl

@[simp] theorem queueEvent_srcs (c : Core) (e : FaultEvent) : (queueEvent c e).faults.srcs = c.faults.srcs := by
  unfold queueEvent; split <;> rfl

@[simp] theorem tallyEvent_faults (c : Core) (n : Nat) : (tallyEvent c n).faults = c.faults := rfl

@[simp] theorem tallyEvent_regs (c : Core) (n : Nat) : (tallyEvent c n).regs = c.regs := rfl

@[simp] theorem queueEvent_regs (c : Core) (e : FaultEvent) : (queueEvent c e).regs = c.regs := by
  unfold queueEvent; split <;> rfl

theorem latchFirst_rd (c : Core) (src eff : Nat) (k : Key) (h : k ∉ raiseKeys) : rd (latchFirst c src eff).1 k = rd c k := by
  have h4 : k ≠ mkKey 0x7000 4 := fun e => h (by simp [raiseKeys, e])
  have h5 : k ≠ mkKey 0x7000 5 := fun e => h (by simp [raiseKeys, e])
  unfold latchFirst; dsimp only; split
  · exact (rd_wr_ne _ _ h5).trans (rd_wr_ne _ _ h4)
  · rfl

/-- A raise writes the state of its own source alone (R428, R429). -/
theorem raiseFor_srcs (c : Core) (src lvl d : Nat) (g : List Nat) :
    (raiseFor c src lvl d g).faults.srcs = mset {} c.faults.srcs src
      { sticky := true, count := ((getFault c src).count + 1) % 2 ^ 64, level := effectiveLevel c src lvl, raised := lvl
        stamp := c.stamp % 2 ^ 64
        unacked := match (getFault c src).unacked with
          | some l => some (max l (effectiveLevel c src lvl))
          | none => some (effectiveLevel c src lvl) } := by
  unfold raiseFor
  dsimp only
  rw [react_srcs]
  split <;> simp only [tallyEvent_faults, queueEvent_srcs, latchFirst_srcs] <;> rfl

/-- A raise leaves every register but the latch and, at L4, the states of the links. -/
theorem raiseFor_rd (c : Core) (src lvl d : Nat) (g : List Nat) (k : Key) (h : k ∉ raiseKeys) :
    rd (raiseFor c src lvl d g) k = rd c k := by
  unfold raiseFor
  dsimp only
  rw [react_rd _ _ _ _ _ h]
  split <;> simp only [rd, tallyEvent_regs, queueEvent_regs] <;> exact latchFirst_rd _ _ _ k h

theorem raise_rd (c : Core) (src lvl d : Nat) (k : Key) (h : k ∉ raiseKeys) : rd (raise c src lvl d) k = rd c k :=
  raiseFor_rd c src lvl d [] k h

/-- A raise raises its source. -/
theorem raised_raise (c : Core) (src lvl d : Nat) : Raised c (raise c src lvl d) src lvl := by
  have h : (raise c src lvl d).faults.srcs = _ := raiseFor_srcs c src lvl d []
  refine ⟨?_, ?_, ?_, ?_, ?_, ?_⟩
  · simp [getFault, h]
  · simp [getFault, h]
  · simp [getFault, h]
  · simp [getFault, h]
  · simp [getFault, h]
  · intro o ho
    simp only [getFault, h]
    exact mget_mset_ne _ _ _ _ ho

end Sys2Proof.Machine
end

