-- ==== Sys2Proof/Laws/Memory.lean ====
section
/-!
SUPPORT. Sys2Proof/Laws/Memory.lean: what the memory operations do: a store changes the bytes it stores and no other
byte, and every operation keeps the canonical form.
-/
namespace Sys2Proof.Machine

/-! ## Reads after writes -/

@[simp] theorem readByte_pokeByte_same (m : Mem) (a : Nat) (b : Byte) : readByte (pokeByte m a b) a = b := by
  simp [readByte, pokeByte]

theorem readByte_pokeByte_ne (m : Mem) {a x : Nat} (b : Byte) (h : x ≠ a) : readByte (pokeByte m a b) x = readByte m x := by
  simp only [readByte, pokeByte]
  exact mget_mset_ne 0 0 m.cells b h

theorem readByte_pokeBytes_outside (l : List Byte) (m : Mem) (a x : Nat) (h : x < a ∨ a + l.length ≤ x) :
    readByte (pokeBytes m a l) x = readByte m x := by
  induction l generalizing m a with
  | nil => rfl
  | cons b l ih =>
    simp only [pokeBytes, List.length_cons] at *
    rw [ih (pokeByte m a b) (a + 1) (by omega), readByte_pokeByte_ne m b (by omega)]

theorem readByte_pokeBytes_inside (l : List Byte) (m : Mem) (a i : Nat) (h : i < l.length) :
    readByte (pokeBytes m a l) (a + i) = l[i] := by
  induction l generalizing m a i with
  | nil => simp at h
  | cons b l ih =>
    cases i with
    | zero =>
      simp only [pokeBytes, Nat.add_zero, List.getElem_cons_zero]
      rw [readByte_pokeBytes_outside l _ (a + 1) a (by omega)]
      simp
    | succ i =>
      simp only [pokeBytes, List.getElem_cons_succ]
      have := ih (pokeByte m a b) (a + 1) i (by simpa using h)
      rw [show a + (i + 1) = a + 1 + i by omega]
      exact this

@[simp] theorem tagBlock_cells (m : Mem) (b : Nat) : (tagBlock m b).cells = m.cells := by
  unfold tagBlock
  repeat' split
  all_goals rfl

theorem foldl_tagBlock_cells (l : List Nat) (m : Mem) : (l.foldl tagBlock m).cells = m.cells := by
  induction l generalizing m with
  | nil => rfl
  | cons b l ih => rw [List.foldl_cons, ih, tagBlock_cells]

theorem store_cells (m : Mem) (a : Nat) (l : List Byte) : (store m a l).cells = (pokeBytes m a l).cells := by
  simp only [store, foldl_tagBlock_cells]

theorem readByte_store_outside (m : Mem) (a : Nat) (l : List Byte) (x : Nat) (h : x < a ∨ a + l.length ≤ x) :
    readByte (store m a l) x = readByte m x := by
  have := readByte_pokeBytes_outside l m a x h
  simp only [readByte, store_cells] at this ⊢
  exact this

theorem readByte_store_inside (m : Mem) (a : Nat) (l : List Byte) (i : Nat) (h : i < l.length) :
    readByte (store m a l) (a + i) = l[i] := by
  have := readByte_pokeBytes_inside l m a i h
  simp only [readByte, store_cells] at this ⊢
  exact this

/-! ## The canonical form -/

theorem Mem.wf_iff (m : Mem) : m.wf = true ↔ mcanon 0 m.cells = true ∧ mwf m.tags = true ∧ rising m.bad = true := by
  simp [Mem.wf, and_assoc]

theorem Mem.wf_reset : Mem.reset.wf = true := by decide

theorem Mem.wf_pokeByte (m : Mem) (a : Nat) (b : Byte) (h : m.wf = true) : (pokeByte m a b).wf = true := by
  rw [Mem.wf_iff] at h ⊢
  exact ⟨mcanon_mset 0 m.cells a b h.1, h.2.1, h.2.2⟩

theorem Mem.wf_pokeBytes (l : List Byte) (m : Mem) (a : Nat) (h : m.wf = true) : (pokeBytes m a l).wf = true := by
  induction l generalizing m a with
  | nil => exact h
  | cons b l ih => exact ih _ _ (Mem.wf_pokeByte m a b h)

theorem Mem.wf_tagBlock (m : Mem) (b : Nat) (h : m.wf = true) : (tagBlock m b).wf = true := by
  rw [Mem.wf_iff] at h
  unfold tagBlock
  split
  · exact (Mem.wf_iff m).mpr h
  · split
    · exact (Mem.wf_iff _).mpr ⟨h.1, mwf_merase m.tags b h.2.1, h.2.2⟩
    · exact (Mem.wf_iff _).mpr ⟨h.1, mwf_mput m.tags b _ h.2.1, h.2.2⟩

theorem Mem.wf_foldl_tagBlock (l : List Nat) (m : Mem) (h : m.wf = true) : (l.foldl tagBlock m).wf = true := by
  induction l generalizing m with
  | nil => exact h
  | cons b l ih => exact ih _ (Mem.wf_tagBlock m b h)

theorem Mem.wf_store (m : Mem) (a : Nat) (l : List Byte) (h : m.wf = true) : (store m a l).wf = true := by
  unfold store
  apply Mem.wf_foldl_tagBlock
  have hp := (Mem.wf_iff _).mp (Mem.wf_pokeBytes l m a h)
  exact (Mem.wf_iff _).mpr ⟨hp.1, hp.2.1, rising_filter _ _ hp.2.2⟩

theorem Mem.wf_filter_cells (m : Mem) (p : Nat × Byte → Bool) (h : m.wf = true) :
    Mem.wf { m with cells := m.cells.filter p } = true := by
  rw [Mem.wf_iff] at h ⊢
  exact ⟨mcanon_filter 0 p m.cells h.1, h.2⟩

theorem Mem.wf_erase_tag (m : Mem) (b : Nat) (h : m.wf = true) : Mem.wf { m with tags := merase m.tags b } = true := by
  rw [Mem.wf_iff] at h ⊢
  exact ⟨h.1, mwf_merase m.tags b h.2.1, h.2.2⟩

theorem Mem.wf_put_bad (m : Mem) (u : Nat) (h : m.wf = true) :
    Mem.wf { m with bad := m.bad.filter (· < u) ++ u :: m.bad.filter (fun v => u < v) } = true := by
  rw [Mem.wf_iff] at h ⊢
  exact ⟨h.1, h.2.1, rising_put m.bad u h.2.2⟩

end Sys2Proof.Machine
end

