-- ==== Sys2Proof/Laws/Notify.lean ====
section
/-!
SUPPORT. Sys2Proof/Laws/Notify.lean: what the subscriptions can do after a command: sessions, free values, what is sent and the links
change, and nothing else.
-/
namespace Sys2Proof.Machine

/-- The second core differs from the first at most in the DAP engine, the outbox, the free values and the links. -/
def OnlySent (a b : Core) : Prop :=
  ∃ (d : Dap) (o : List Out) (f : Nat) (l : SMap Link), b = { a with dap := d, outbox := o, fresh := f, links := l }

theorem OnlySent.refl (a : Core) : OnlySent a a := ⟨a.dap, a.outbox, a.fresh, a.links, rfl⟩

theorem OnlySent.trans {a b c : Core} (h : OnlySent a b) (g : OnlySent b c) : OnlySent a c := by
  obtain ⟨d, o, f, l, rfl⟩ := h
  obtain ⟨d', o', f', l', rfl⟩ := g
  exact ⟨d', o', f', l', rfl⟩

theorem OnlySent.foldl {α : Type} (g : Core → α → Core) (h : ∀ c x, OnlySent c (g c x)) (l : List α) (c : Core) :
    OnlySent c (l.foldl g c) := by
  induction l generalizing c with
  | nil => exact OnlySent.refl c
  | cons x l ih => exact (h c x).trans (ih _)

theorem setLink_only (c : Core) (l : Nat) (x : Link) : OnlySent c (setLink c l x) := ⟨_, _, _, _, rfl⟩

theorem emit_only (c : Core) (o : Out) : OnlySent c (emit c o) := ⟨_, _, _, _, rfl⟩

theorem sendUdp_only (c : Core) (p sv : Nat) (h : HostAddr) (b : List Byte) : OnlySent c (sendUdp c p sv h b) := by
  unfold sendUdp
  first | exact emit_only c _ | (split <;> first | exact emit_only c _ | exact OnlySent.refl c)

theorem freeUsed_only (c : Core) : OnlySent c (freeUsed c) := ⟨_, _, _, _, rfl⟩

theorem modSession_only (c : Core) (i : Nat) (f : Session → Session) : OnlySent c (modSession c i f) := ⟨_, _, _, _, rfl⟩

theorem modSub_only (c : Core) (n : Nat) (f : Subscription → Subscription) : OnlySent c (modSub c n f) := ⟨_, _, _, _, rfl⟩

theorem sendData_only (c : Core) (l : Nat) (slots : List Slot) : OnlySent c (sendData c l slots) := ⟨_, _, _, _, rfl⟩

theorem sendSlots_only (c : Core) (l vc : Nat) (slots : List Slot) : OnlySent c (sendSlots c l vc slots) := by
  unfold sendSlots putMessage
  dsimp only
  split
  · exact setLink_only c _ _
  · exact (setLink_only c _ _).trans (OnlySent.foldl _ (fun c f => sendData_only c l f) _ _)

theorem relayOver_only (c : Core) (l vc : Nat) (host : HostAddr) (frame : List Byte) : OnlySent c (relayOver c l vc host frame) := by
  unfold relayOver
  dsimp only
  split
  · exact OnlySent.refl c
  · exact OnlySent.foldl _ (fun c i => sendSlots_only c _ _ _) _ c

theorem sendDap_only (c : Core) (port : Nat) (host : HostAddr) (frame : List Byte) : OnlySent c (sendDap c port host frame) := by
  unfold sendDap
  split
  · split
    · exact sendUdp_only c _ _ _ _
    · exact OnlySent.refl c
  · exact relayOver_only c _ _ _ _

theorem sendNotify_only (c : Core) (s : Session) (n : Nat) (body : List Byte) : OnlySent c (sendNotify c s n body) :=
  (modSession_only c _ _).trans (sendDap_only _ _ _ _)

theorem fallDue_only (c : Core) (x : Subscription) (v : List Byte) : OnlySent c (fallDue c x v) := by
  unfold fallDue
  split
  · exact OnlySent.refl c
  · dsimp only
    split
    · exact (freeUsed_only c).trans (sendNotify_only _ _ _ _)
    · exact ⟨_, _, _, _, rfl⟩

theorem lookAt_only (c : Core) (x : Subscription) : OnlySent c (lookAt c x) := by
  unfold lookAt
  dsimp only
  split
  · exact OnlySent.refl c
  · exact (modSub_only c _ _).trans (fallDue_only _ _ _)

/-- What the subscriptions do after a command. -/
theorem noticed_only (c : Core) : OnlySent c (noticed c) := OnlySent.foldl _ lookAt_only _ c

theorem noticed_quiet (c : Core) (h : c.dap.subs = []) : noticed c = c := by simp [noticed, h]

/-- A register reads after the notifications as before them. -/
@[simp] theorem rd_noticed (c : Core) (k : Key) : rd (noticed c) k = rd c k := by
  obtain ⟨d, o, f, l, h⟩ := noticed_only c
  rw [h]; rfl

@[simp] theorem dom_noticed (c : Core) (k : Key) : dom (noticed c) k = dom c k := by
  obtain ⟨d, o, f, l, h⟩ := noticed_only c
  rw [h]; rfl

end Sys2Proof.Machine
end

