-- ==== Sys2Proof/Laws/Writes.lean ====
section
/-!
SUPPORT. Sys2Proof/Laws/Writes.lean: when a write passes the checks of R474, and what a write command then answers.
-/
namespace Sys2Proof.Machine

/-- Whether an object has a type, an access right and a range. -/
def objIs (k : Key) (ty : ObjTy) (acc : Acc) (rng : Range) : Bool :=
  match findObj k with
  | .ok x => x == (ty, acc, rng)
  | .error _ => false

theorem objIs_find {k : Key} {ty : ObjTy} {acc : Acc} {rng : Range} (h : objIs k ty acc rng = true) :
    findObj k = .ok (ty, acc, rng) := by
  unfold objIs at h
  split at h
  · rename_i x hx; rw [hx, eq_of_beq h]
  · cases h

theorem lookObj_open {c : Core} (k : Key) (h : Open c) : lookObj c k = findObj k := by
  simp [lookObj, recoveryHides, h.1]

/-- A scalar write passes the checks: an object that takes writes now and in this mode, a value of its type and range. -/
theorem writeFail_none {c : Core} {k : Key} {v : Nat} {ty : ObjTy} {acc : Acc} {rng : Range}
    (ho : objIs k ty acc rng = true) (hc : Open c) (ht : (ty == .domain || ty == .string || decide (2 ^ (8 * ty.width) ≤ v)) = false)
    (hw : acc.writable = true) (ha : (k == dk 3 || k == dk 4) = false) (hr : acc.isRwe = false) (hm : modeAccepts c acc = true)
    (hv : typeFail ty v = none) (hg : rangeFail ty rng v = none) : writeFail c false k v 0 0 = none := by
  have hl := (lookObj_open k hc).trans (objIs_find ho)
  simp only [writeFail, hl, ht, hw, authBars, ha, Bool.not_true, Bool.and_false, firstFail, timingFail, hr, hm, hv, hg,
    Option.orElse, Bool.false_eq_true, if_false, if_true]

/-- A write of a whole DOMAIN passes the checks. -/
theorem blockFail_none {c : Core} {k : Key} {acc : Acc} {rng : Range} (ho : objIs k .domain acc rng = true) (hc : Open c)
    (hw : acc.writable = true) (ha : (k == dk 3 || k == dk 4) = false) (hm : modeAccepts c acc = true) :
    blockFail c false k = none := by
  have hl := (lookObj_open k hc).trans (objIs_find ho)
  simp only [blockFail, hl, hw, authBars, ha, Bool.not_true, Bool.and_false, firstFail, hm, bne_self_eq_false]

/-- An RWM object accepts a write in its modes. -/
theorem modeAccepts_rwm {c : Core} {l : List Mode} (h : InModes c l) : modeAccepts c (.rwm l) = true := by
  obtain ⟨m, hm, he⟩ := h
  exact List.any_eq_true.mpr ⟨m, hm, by simp [inMode, he]⟩

/-- An open block takes the writes of every object but the journal's jobs. -/
theorem closedTo_open {c : Core} {k : Key} (h : Open c) (hk : (keyIx k == 0x5800 && keySub k == 2) = false) : closedTo c k = false := by
  have h4 : (c.faults.reaction == 4) = false := by simpa using h.2
  simp only [closedTo, h4, hk, Bool.false_and, Bool.or_self]

/-- Where the block takes a write of the object, the guard does nothing. -/
theorem guarded_eq {c : Core} {k : Key} (eff : Effect) (m : Mem) (h : closedTo c k = false) : guarded k eff m c = eff m c := by
  simp only [guarded, barredBy, h, Bool.not_false, if_true]

/-- A write command that passes its checks has its object's effect. -/
theorem wrote_eq (s : State) (k : Key) (v e : Nat) (eff : Effect) (h : writeFail s.core false k v e 0 = none)
    (ht : closedTo s.core k = false) :
    wrote s k v e eff = .next { s with mem := (eff s.mem s.core).2.1
                                       core := noticed { (eff s.mem s.core).2.2 with status := (eff s.mem s.core).1 } } := by
  simp only [wrote, writeObj, h, guarded_eq _ _ ht, did, settledM]

/-- A DOMAIN write command that passes its checks has its object's effect. -/
theorem wroteDomain_eq (s : State) (k : Key) (l : List Byte) (eff : Effect) (h : blockFail s.core false k = none)
    (ht : closedTo s.core k = false) (hl : l.length ≤ domMax k) :
    wroteDomain s k l eff = .next { s with mem := (eff s.mem s.core).2.1
                                           core := noticed { (eff s.mem s.core).2.2 with status := (eff s.mem s.core).1 } } := by
  simp only [wroteDomain, writeDomain, h, Nat.not_lt.mpr hl, guarded_eq _ _ ht, if_false, did, settledM]

/-- A write command of a scalar object is accepted with its effect. -/
theorem accepts_scalar {i : Instr} {s : State} {k : Key} {v : Nat} {eff : Effect} {c : Core} (he : exec i s = wrote s k v 0 eff)
    (hw : writeFail s.core false k v 0 0 = none) (ht : closedTo s.core k = false) (hf : eff s.mem s.core = (stOk, (s.mem, c))) :
    Accepts i s c := by
  simp only [Accepts, Makes, Gives, he, wrote_eq _ _ _ _ _ hw ht, hf]

/-- A write command of a DOMAIN object is accepted with its effect. -/
theorem accepts_domain {i : Instr} {s : State} {k : Key} {l : List Byte} {eff : Effect} {c : Core}
    (he : exec i s = wroteDomain s k l eff) (hw : blockFail s.core false k = none) (ht : closedTo s.core k = false)
    (hl : l.length ≤ domMax k) (hf : eff s.mem s.core = (stOk, (s.mem, c))) : Accepts i s c := by
  simp only [Accepts, Makes, Gives, he, wroteDomain_eq _ _ _ _ hw ht hl, hf]

end Sys2Proof.Machine
end

