-- ==== Sys2Proof/Tests/Slice0.lean ====
section
/-!
SUPPORT. Sys2Proof/Tests/Slice0.lean: witnesses that the hypotheses of every statement can be met, a well-formedness smoke test, and a
few tests of single steps whose expected values are the spec's.
-/
namespace Sys2Proof.Machine

set_option maxRecDepth 100000
set_option linter.unusedVariables false
set_option Elab.async false

/-- A core in a mode with listed registers. -/
def coreAt (mode : Nat) (l : SMap Nat) : Core := { regs := (mkKey 0x1200 1, mode) :: l }

/-- A block with a core, no memory listed and no command waiting. -/
def block (c : Core) : State := { pending := [], mem := {}, core := c }

def plainIp : IpInfo := ⟨false, false, false, false, false, false⟩
def hostA : HostAddr := ⟨0xC0A80001, 4242⟩

/-- A DAP frame for any device, in session 5, sequence 1. -/
def dapFrame (payload : List Byte) : DapFrame :=
  { eth := 0, ip := plainIp, src := hostA, magic := 0xDA50, version := 1, flags := 0, target := 0xFFFF, session := 5, status := 0
    sequence := 1, hops := 0, reserved1 := 0, window := 0, reserved2 := 0, payload := payload, crc := 0, tag := [] }

/-- A frame with its CRC. -/
def dapSealed (op : Nat) (f : DapFrame) : DapFrame := { f with crc := crc32c (dapBytes op f) }

/-- Session 5 of host A, without authentication. -/
def sessA : Session :=
  { id := 5, eth := 0, host := hostA, auth := false, key := [], done := 0, window := 8, held := [], replies := [], lastSeen := 0
    staging := [], notified := 0, unacked := [], due := [] }

/-- A core with ETH0 UP and session A. -/
def dapCore (x : Session) : Core := { coreAt 3 [(ek 0 8, 2), (ek 0 2, 1)] with dap := { sessions := [x] } }

/-- Weaver 0 RUNNING a program, with a window of 62 micro-cycles. -/
def runningWeaver : Weaver := { desc := some { imageGranules := 16, period := 4096 }, micro := { phase := .running, prog := true } }

def microCore (x : Weaver) : Core := { coreAt 5 [(wk 0 1, 2)] with weavers := [(0, x)] }

def microArgs : MicroArgs := { a := 24, b := 24, imm := 1, wait := 0, cyc := 0 }

/-- Weaver 0 with an instruction dispatched. -/
def dispatchedWeaver (iw : Nat) : Weaver :=
  { desc := some { imageGranules := 16, period := 4096 }, bankA := vendorBank 0 false
    micro := { phase := .dispatched, iw := iw, upc := bits (mget 0x8000 (vendorBank 0 false).dispatch (iwOpcode iw)) 0 14 } }

def tokenA : Token := { arrival := .link 0, src := 3, number := 1, epoch := 2, id := 7, stamp := 0, tgroup := 0, unit := 0 }

/-- A core with link 0 UP. -/
def linkedCore (l : SMap Nat) : Core := coreAt 3 ((lk 0 2, 2) :: l)

/-- A segment descriptor of 16 granules, FIN, with PERIOD 4,096 ticks and DEST 1. -/
def goodDesc : Nat := 16 * 2 ^ 80 + 16 * 2 ^ 144 + 4096 * 2 ^ 176 + 2 ^ 221 + 1 * 2 ^ 320

theorem good_desc_status : descStatus goodDesc 1 4096 = none := by
  unfold descStatus gradeMin
  cases Config.grade16 <;> decide +kernel

theorem good_desc_listed :
    badDesc (descNumbers (leBytes 128 goodDesc)).length (capacity (block (coreAt 3 [(hk 5, 4096)])).core) 0
      (descNumbers (leBytes 128 goodDesc)) = none := by
  rw [show descNumbers (leBytes 128 goodDesc) = [goodDesc] from by decide +kernel,
    show capacity (block (coreAt 3 [(hk 5, 4096)])).core = 4096 from by decide +kernel]
  simp only [badDesc, List.length_cons, List.length_nil, Nat.zero_add, good_desc_status]

/-- A record of KIND k of one unit, with its CRC. -/
def unitRecord (k : Nat) : List Byte := sealCrc (BitVec.ofNat 8 k :: List.replicate 27 0)

/-- A staged record of stream 0, sequence 1. -/
def stagedA (bytes : List Byte) (dest : Nat) : Staged :=
  { stream := 0, seq := 1, bytes := bytes, weaver := 0, run := 1, credit := 1, dest := dest, placed := false }

/-- A table whose stream 0 is enabled with a ring of 128 units at 0. -/
def streamTable : List Byte := leBytes 32 (2 ^ 96 + 128 * 2 ^ 48)

/-- A core with that stream table, one staged record and registers. -/
def stagedCore (x : Staged) (l : SMap Nat) : Core :=
  { coreAt 5 l with landing := { staged := [x] }, doms := [(mkKey 0x5C01 0, streamTable)] }

/-- An ST frame of stream 0 from host A over ETH0. -/
def stFrame (seq : BitVec 48) : StFrame :=
  { eth := 0, ip := plainIp, src := hostA, magic := 0x5354, version := 1, device := 1, stream := 0, seq := seq, records := 0, units := 0
    window := 4, sender := 0, session := 0, retransmit := false, auth := false, fromBuddy := false, status := 0, payload := [], crc := 0, tag := [] }

def stSealed (ty : Nat) (f : StFrame) : StFrame := { f with crc := crc32c (stBytes ty f) }

/-- Stream 0 of host A: sent up to 5, acknowledged up to 2. -/
def boundStream : Stream :=
  { next := 8, journal := 5, acked := 2, confirmed := 5, sent := 4, everSent := 5, window := 4, bound := some hostA, lastAck := 2 }

def boundCore (x : Stream) : Core := { coreAt 5 [(ek 0 8, 2), (ek 0 2, 1), (mkKey 0x6020 0, 1)] with streams := [(0, x)], doms := [(mkKey 0x5C01 0, streamTable)] }

theorem st_accepted (c : Core) (ty : Nat) (f : StFrame) (h1 : portUp c f.eth.val = true) (h2 : ipTaken c f.eth.val f.ip = true) (h3 : f.magic = 0x5354)
    (h4 : crc32c (stBytes ty f) = f.crc) (h5 : f.version = 1) (h6 : f.auth = false) : stAccept c ty f = .ok none := by
  simp [stAccept, stWhole, h1, h2, h3, h4, h5, h6]

/-- One record is gathered where no other follows. -/
theorem gather_one (k : Nat) (m : Mem) (c c1 : Core) (n after top units : Nat) (again : Bool) (h : Held) (l : List Byte)
    (h1 : nextHeld c n after top = some h) (h2 : decide (heldSeq h ≤ (getStream c n).everSent) = again) (h3 : egress m c n h = (l, (m, c1)))
    (h4 : unitsOf l ≤ units) (h5 : nextHeld c1 n (heldSeq h) top = none) :
    gather (k + 2) m c n after top units again = ([l], (heldSeq h, (m, c1))) := by
  simp [gather, h1, h2, h3, h5, Nat.not_lt.mpr h4]

/-- A ring record that passes its checks leaves as it stands. -/
theorem egress_ring (m : Mem) (c : Core) (n : Nat) (r : RingRec) (h1 : crcOk (trimRecord (ringBytes m (streamEntry c n) r)) = true)
    (h2 : (List.range r.units).flatMap (fun k => badUnits m (ringAddr (streamEntry c n) (r.pos + k)) 32) = []) :
    egress m c n (.ring r) = (trimRecord (ringBytes m (streamEntry c n) r),
      (m, (List.range r.units).foldl (fun d k => touchHbm d (ringAddr (streamEntry c n) (r.pos + k)) 32 .auto) c)) := by
  simp [egress, h1, h2]

/-- Raster group 0 on site 0 of Weaver 0 with the default objects and a smallest timing. -/
def rasterTiming : List Byte := leBytes 16 (8 + 8 * 2 ^ 16 + 0 * 2 ^ 32 + 8 * 2 ^ 48 + 1 * 2 ^ 64 + 1 * 2 ^ 80 + 0 * 2 ^ 96 + 1 * 2 ^ 112) ++ leBytes 16 1

/-- Hart 5 running in M mode, x1 = scratch 0, x2 = 7. -/
def hartA : Hart := { running := true, mode := 3, x := [(1, 0x8000000000), (2, 7)] }

def hartCore (h : Hart) (l : SMap Nat) : Core := { coreAt 5 l with harts := [(5, h)] }

/-- rd x3, rs1 x1, rs2 x2; and with rs2 unused. -/
def rtypeA : RType := { rd := 3, rs1 := 1, rs2 := 2, funct7 := 0 }
def rtypeB : RType := { rtypeA with rs2 := 0 }

/-- A load of 8 bytes at the Yard's first address into x3. -/
def accessA (op : MemOp) : MemAccess := { op := op, size := 3, vaddr := 0x4000000000, value := 0, rd := 3 }

/-- A boom of 64 entries at 0 (RING_LOG2 6, BATCH 1, RES_MAX 1, INFLIGHT_MAX 1), ENABLED. -/
def boomBits : Nat := 6 * 2 ^ 40 + 2 ^ 53 + 2 ^ 96 + 2 ^ 101 + 2 ^ 104

def taskA : Task :=
  { first := 1, count := 1, core := some 5, placement := 0, rerun := false, idem := false, group := 0, level := 0, delivered := 0, since := 0
    staged := [], lent := 0, area := false, closed := none }

theorem ofLe_leBytes (k n : Nat) : ofLe (leBytes k n) = n % 256 ^ k := by
  induction k generalizing n with
  | zero => simp [leBytes, ofLe, Nat.mod_one]
  | succ k ih =>
    rw [leBytes, ofLe, ih, BitVec.toNat_ofNat, show 256 ^ (k + 1) = 256 * 256 ^ k from Nat.pow_succ', Nat.mod_mul]

theorem dap_intact_sealed (op : Nat) (f : DapFrame) (h : f.magic = 0xDA50) : dapIntact op (dapSealed op f) = true := by
  have e : dapIntact op (dapSealed op f) = (f.magic == 0xDA50 && crc32c (dapBytes op f) == crc32c (dapBytes op f)) := rfl
  rw [e, h]; simp

/-- The buddy's reply to the probe in progress: device 3 at COMPAT_LEVEL 7, with the number of the probe. -/
def probeReplyA : DapFrame :=
  dapSealed opProbe { dapFrame [] with flags := 1, payload := leBytes 2 3 ++ leBytes 2 7 ++ (leBytes 8 (Config.deviceNumber 0) ++ leBytes 4 0) }

theorem probe_number : leAt probeReplyA.payload 4 8 = Config.deviceNumber 0 % 2 ^ 64 := by
  have e : leAt probeReplyA.payload 4 8 = ofLe (leBytes 8 (Config.deviceNumber 0)) := rfl
  rw [e, ofLe_leBytes]; norm_num

def linkCore (x : Link) : Core := { linkedCore [] with links := [(0, x)] }

def flitA : Flit := { fseq := 0, ack := 4095, credit0 := 0, credit1 := 0, credit2 := 0, credit3 := 0, slots := List.replicate 15 0, crc := 0 }

/-- A flit of a kind with its CRC. -/
def flitSealed (kind : Nat) (f : Flit) : Flit := { f with crc := crc32c (receivedBytes kind f) }

def msgA : Msg := { src := 3, dst := 1, block := false, tag := 9, addr := 0, status := 0, size := 0, body := List.replicate 64 0 }

def reqA : RemoteReq := { tag := 9, dst := 3, link := 0, since := 0, core := some 5, part := 0 }

def itemA : MirrorItem := { kind := .record, id := 0, sequence := 1, bytes := unitRecord 1 }

def mirrorA : MirrorMsg := { owner := 3, dst := 1, item := itemA, acked := 0 }

/-- The block is device 1 with buddy 3. -/
def buddyCore (l : SMap Nat) (b : Buddy) : Core := { coreAt 5 ((mkKey 0x6020 0, 1) :: (bk 1, 3) :: l) with buddy := b }

def timeA : TimeMsg :=
  { senderStamp := 0, localStamp := 0, echoSent := 0, echoReceived := 0, tb0 := 0, tb1 := 0, tb2 := 0, st0 := 1, st1 := 1, st2 := 1 }

/-- A whole block of zeros as a load stores it, at block 1 of an empty memory. -/
def loadedMem : Mem := store {} 4096 (padTo 4096 [])

/-- Its BLOCK_CRC. -/
def loadedTag : Nat := (mfind loadedMem.tags 1).getD 0

theorem pokeBytes_bad (l : List Byte) (m : Mem) (a : Nat) : (pokeBytes m a l).bad = m.bad := by
  induction l generalizing m a with
  | nil => rfl
  | cons b l ih => rw [pokeBytes, ih]; rfl

theorem loaded_some : (mfind loadedMem.tags 1).isSome = true := by
  unfold loadedMem store
  rw [show (padTo 4096 ([] : List Byte)).length = 4096 by simp [padTo], show blocksOf 4096 4096 = [1] by decide]
  simp only [List.foldl_cons, List.foldl_nil]
  unfold tagBlock
  rw [if_neg (by decide), if_neg (by simp [pokeBytes_bad])]
  rw [mfind_minsert_same _ _ _ (mfind_merase_same _ _)]; rfl

theorem loaded_tag : mfind loadedMem.tags 1 = some loadedTag := by
  unfold loadedTag
  cases h : mfind loadedMem.tags 1 with
  | none => have e := loaded_some; rw [h] at e; exact absurd e (by decide)
  | some t => rfl

theorem loaded_ne : mfind loadedMem.tags 1 ≠ some (loadedTag + 1) := by
  rw [loaded_tag]; simp

/-- PTP port 0 runs on time base 1, with a latch at stamp 8192, the stamp that stands. -/
def ptpCore (l : SMap Nat) (x : PtpPort) : Core :=
  { coreAt 5 (l ++ [(clockKey, 32), (pk' 0 1, 1), (pk' 0 2, 1), (pk' 0 3, 0), (pk' 0 4, 0), (pk' 0 5, 0), (pk' 0 6, 1), (pk' 0 7, 0), (ek 0 8, 2), (ek 0 2, 1)]) with
    ptps := [(0, x)], stamp := 8192, clk := { latches := [(1, 8192, [some 0, some 0, some 0, some 0])] } }

/-- A message from another clock that answers this port. -/
def ptpA : PtpMsg :=
  { port := 0, transport := 0, domain := 0, clockId := Config.clockIdentity 0 + 1, sourcePort := 1, sequence := 7, twoStep := true, correction := 0
    origin := 0, reqClockId := Config.clockIdentity 0, priority1 := 128, quality := 0, priority2 := 128, steps := 1, gmId := 0, stamp := 8192 }

def ptpOne : PtpMsg := { ptpA with twoStep := false }

/-- The port's parent is the sender of `ptpA`. -/
def followsA (x : PtpPort) : PtpPort := { x with parent := some (ptpA.clockId.toNat, 1) }

theorem ptp_takes (c : Core) (m : PtpMsg) (h1 : ptpRuns c m.port.val = true) (h2 : (m.domain.toNat == rd c (pk' m.port.val 3)) = true)
    (h3 : (m.transport.toNat == rd c (pk' m.port.val 5)) = true) (h4 : m.clockId = Config.clockIdentity m.port + 1) : ptpTakes c m = true := by
  unfold ptpTakes; simp only [h1, h2, h3, h4, Bool.true_and]; simp

theorem better_of_steps (a b : List Nat) (h : a.getD 4 0 = b.getD 4 0) (h' : a.getD 3 0 < b.getD 3 0) : betterData a b = true := by
  unfold betterData; rw [if_neg (not_not.mpr h), if_pos (Nat.ne_of_lt h')]; exact decide_eq_true h'

theorem not_better_of_same (a b : List Nat) (h : a.getD 4 0 = b.getD 4 0) (h' : a.getD 3 0 = b.getD 3 0) (hs : ¬ a.getD 5 0 < b.getD 5 0) :
    betterData a b = false := by
  unfold betterData; rw [if_neg (not_not.mpr h), if_neg (not_not.mpr h')]; exact decide_eq_false hs

theorem from_parent (c : Core) (m : PtpMsg) (h1 : (rd c (pk' m.port.val 0xF) == 8 || rd c (pk' m.port.val 0xF) == 9) = true)
    (h2 : (getPtp c m.port.val).parent = some (m.clockId.toNat, m.sourcePort.toNat)) : fromParent c m = true := by
  unfold fromParent; simp only [h1, h2, Bool.true_and]; simp

/-- A port of a clock of class 1 to 127 hears a dataset of its own grandmaster that is not worse (the own quality is the maker's, so
no one value can be evaluated). -/
theorem witness_passive_port (h : 1 ≤ ownClass ∧ ownClass ≤ 127) :
    ∃ (c : Core) (f : ForeignMaster), foreignBest c 0 = some f ∧ rd c (pk' 0 7) ≠ 1 ∧ betterData (ownData c 0) f.data = false ∧
      1 ≤ ownClass ∧ ownClass ≤ 127 := by
  exact ⟨ptpCore [] { foreign := [⟨(1, 1), [0, 0, 0, 0, (Config.clockIdentity 0).toNat, 0], [0, 0]⟩] }, _, rfl, by decide +kernel,
    not_better_of_same _ _ rfl rfl (Nat.lt_irrefl 0), h⟩

theorem witness_StepRunsFrontCommand :
    (∃ (s : State) (i : Instr) (c : Core), nextBest s.core = some (i, c) ∧ s.pending = []) ∧
    (∃ (s : State), s.pending = [] ∧ nextBest s.core = none) :=
  ⟨⟨block { hbm := { waiting := [⟨.host, 64, none, .refclkPresent⟩] } }, .refclkPresent, _, rfl, by decide +kernel⟩,
   ⟨block {}, by decide +kernel⟩⟩

theorem witness_NotifyTouchesOnlySessions :
    (∃ (c : Core), c.dap.subs = []) :=
  ⟨{}, by decide +kernel⟩

theorem witness_ResetHoldsDefaults :
    (∃ (k : Key), k ≠ clockKey) :=
  ⟨mkKey 0x1300 1, by decide +kernel⟩

theorem witness_MemoryStaysCanonical :
    (∃ (s : State) (t : State), s.MemInv ∧ step s = .next t) :=
  ⟨block {}, _, (by decide +kernel : Mem.wf _ = true), rfl⟩

theorem witness_RaiseCountsAndReacts :
    (∃ (c : Core) (src : Nat) (lvl : Nat) (d : Nat) (k : Key), k ≠ mkKey 0x7000 4 ∧ k ≠ mkKey 0x7000 5 ∧ (∀ l < 8, k ≠ mkKey (0x6000 + l) 2)) ∧
    (∃ (c : Core) (src : Nat) (lvl : Nat) (d : Nat), 2 < effectiveLevel c src lvl) ∧
    (∃ (c : Core) (src : Nat) (lvl : Nat) (d : Nat), effectiveLevel c src lvl = 3 ∧ c.faults.reaction < 3 ∧ rd c (mkKey 0x7000 9) = 0) ∧
    (∃ (c : Core) (src : Nat) (lvl : Nat) (d : Nat), effectiveLevel c src lvl = 3 ∧ c.faults.reaction < 3 ∧ rd c (mkKey 0x7000 9) = 1) ∧
    (∃ (c : Core) (src : Nat) (lvl : Nat) (d : Nat), effectiveLevel c src lvl < 2) :=
  ⟨⟨{}, 1, 0, 0, mkKey 0x7000 6, by decide +kernel⟩,
   ⟨{}, 1, 3, 0, by decide +kernel⟩,
   ⟨coreAt 5 [(mkKey 0x7000 9, 0)], 300, 3, 0, by decide +kernel⟩,
   ⟨coreAt 5 [(mkKey 0x7000 9, 1)], 300, 3, 0, by decide +kernel⟩,
   ⟨{}, 0, 1, 0, by decide +kernel⟩⟩

theorem witness_DescriptorFieldsRoundTrip :
    (∃ (d : SegDesc), d.dataBase < 2 ^ 40 ∧ d.instrBase < 2 ^ 40 ∧ d.imageGranules < 2 ^ 27 ∧ d.entryGranule < 2 ^ 26 ∧ d.maxGranules < 2 ^ 27 ∧ d.period < 2 ^ 37 ∧ d.rateMul < 4 ∧ d.next < 256 ∧ d.trgMask < 256 ∧ d.pecList < 2 ^ 16 ∧ d.streamBase < 2 ^ 16 ∧ d.units < 2 ^ 24 ∧ d.rate < 256 ∧ d.dest < 256 ∧ d.tag < 2 ^ 32 ∧ d.dir < 2 ^ 256) :=
  ⟨{ dataBase := 2 ^ 40 - 1, maxGranules := 2 ^ 27 - 1, dir := 2 ^ 256 - 1 }, by decide +kernel⟩

theorem witness_MicrowordFieldsRoundTrip :
    (∃ (w : MicroWord), w.op < 64 ∧ w.a < 32 ∧ w.b < 32 ∧ w.imm < 1024 ∧ w.wait < 16 ∧ 1 ≤ w.cyc ∧ w.cyc ≤ 4) :=
  ⟨{ op := 63, a := 31, b := 31, imm := 1023, wait := 15, cyc := 4 }, by decide +kernel⟩

theorem witness_ResetsKeepEmram :
    (∃ (s : State), s.core.mode.resetDue = true ∧ s.core.faults.reaction ≠ 3) :=
  ⟨block { mode := { resetDue := true } }, by decide +kernel⟩

theorem witness_TestAccessPort :
    (∃ (s : State) (tms : Bool) (tdi : Bool), s.core.tap.state = .shiftDr ∧ s.core.tap.idcode = true) :=
  ⟨block { tap := { state := .shiftDr, idcode := true } }, false, true, by decide +kernel⟩

theorem witness_AlarmsRaiseTheirSources :
    (∃ (s : State) (r : ThermalReading), (let t := 125 * r.eighths; 110000 < t)) ∧
    (∃ (s : State) (r : ThermalReading), (let t := 125 * r.eighths; 100000 < t ∧ t ≤ 110000)) ∧
    (∃ (s : State) (r : ThermalReading), (let t := 125 * r.eighths; t ≤ 100000)) :=
  ⟨⟨block {}, ⟨15, 881⟩, by decide +kernel⟩,
   ⟨block {}, ⟨0, 880⟩, by decide +kernel⟩,
   ⟨block {}, ⟨0, 800⟩, by decide +kernel⟩⟩

theorem witness_ReferenceClockReturnsAndLocks :
    (∃ (s : State), modeNow s.core ≠ modeCode .dormant) ∧
    (∃ (s : State), modeNow s.core = modeCode .standby ∧ bit (rd s.core refKey) 0 = true ∧ s.core.clk.counting = true) ∧
    (∃ (s : State), bit (rd s.core refKey) 4 = true) ∧
    (∃ (s : State), bit (rd s.core refKey) 4 = false) :=
  ⟨⟨block (coreAt 2 []), by decide +kernel⟩,
   ⟨block { coreAt 2 [(refKey, 1)] with clk := { counting := true } }, by decide +kernel⟩,
   ⟨block (coreAt 3 [(refKey, 16)]), by decide +kernel⟩,
   ⟨block (coreAt 3 [(refKey, 1)]), by decide +kernel⟩⟩

theorem witness_ClocksLost :
    (∃ (s : State), bit (rd s.core refKey) 0 = true) ∧
    (∃ (s : State) (d : Fin 48), d.val ≠ 1 ∧ d.val ≠ 47 ∧ clockBit s.core d.val = true) ∧
    (∃ (s : State), bit (rd s.core refKey) 2 = true) :=
  ⟨⟨block (coreAt 2 [(refKey, 1)]), by decide +kernel⟩,
   ⟨block (coreAt 2 [(clockKey, 4)]), 2, by decide +kernel⟩,
   ⟨block (coreAt 2 [(refKey, 4)]), by decide +kernel⟩⟩

theorem witness_SyncPulsesAndEpochs :
    (∃ (s : State) (i : BitVec 64), (clockBit s.core 1 = true ∧ s.core.clk.counting = true ∧ s.core.clk.phased = true ∧ rdb s.core (mkKey 0x1301 3) = false) ∧ (let t := nearInstant (scaleNow s.core) (2 ^ 64) i.toNat; (let c := elapseScale s.core t; (((t + s.core.clk.comp : Nat) : Int) - c.clk.boundary) % epochTicks c = 0))) ∧
    (∃ (s : State) (i : BitVec 64), (clockBit s.core 1 = true ∧ s.core.clk.counting = true ∧ s.core.clk.phased = true ∧ rdb s.core (mkKey 0x1301 3) = false) ∧ (let t := nearInstant (scaleNow s.core) (2 ^ 64) i.toNat; (let c := elapseScale s.core t; (((t + s.core.clk.comp : Nat) : Int) - c.clk.boundary) % epochTicks c ≠ 0))) ∧
    (∃ (s : State), s.core.clk.counting = true) :=
  ⟨⟨block { coreAt 3 [(clockKey, 2), (mkKey 0x1301 3, 0)] with clk := { counting := true, phased := true } }, 0, by decide +kernel, by decide +kernel⟩,
   ⟨block { coreAt 3 [(clockKey, 2), (mkKey 0x1301 3, 0)] with clk := { counting := true, phased := true } }, 4096, by decide +kernel, by decide +kernel⟩,
   ⟨block { coreAt 3 [] with clk := { counting := true } }, by decide +kernel⟩⟩

theorem witness_EpochCountRises :
    (∃ (c : Core), c.clk.align = none ∧ c.clk.periods = [] ∧ c.clk.comps = []) :=
  ⟨{}, by decide +kernel⟩

theorem witness_FaultRecordsAndCounters :
    (∃ (s : State) (data : List Byte), Open s.core ∧ data.length = 64) ∧
    (∃ (s : State), Open s.core) ∧
    (∃ (s : State) (e : FaultEvent) (q : List FaultEvent), s.core.faults.queue = e :: q) ∧
    (∃ (s : State) (k : Fin 128), Open s.core) ∧
    (∃ (s : State), rd s.core (mkKey 0x7200 1) ≠ 1 ∧ s.core.faults.aliveStopping = false) ∧
    (∃ (s : State), rd s.core (mkKey 0x7200 1) ≠ 1 ∧ s.core.faults.aliveStopping = true) :=
  ⟨⟨block {}, List.replicate 64 0xFF, by unfold Open; decide +kernel, by decide +kernel⟩,
   ⟨block {}, by unfold Open; decide +kernel⟩,
   ⟨block { faults := { queue := [⟨300, 1, 1, true, 0, 0, 0, 0⟩] } }, ⟨300, 1, 1, true, 0, 0, 0, 0⟩, [], by decide +kernel⟩,
   ⟨block {}, 127, by unfold Open; decide +kernel⟩,
   ⟨block (coreAt 3 [(mkKey 0x7200 1, 0)]), by decide +kernel⟩,
   ⟨block { coreAt 3 [(mkKey 0x7200 1, 0)] with faults := { aliveStopping := true } }, by decide +kernel⟩⟩

theorem witness_ModeChangesAskedFor :
    (∃ (s : State) (data : List Byte), Open s.core ∧ data.length = 16 ∧ leAt data 0 1 = 7 ∧ leAt data 1 3 = 0 ∧ leAt data 4 4 = 0 ∧ leAt data 8 8 = 0 ∧ modeNow s.core ≠ 0 ∧ modeNow s.core ≠ 7 ∧ s.core.mode.transition = none ∧ rd s.core (chg 3) ≠ 1 ∧ rd s.core (chg 3) ≠ 2 ∧ (modeNow s.core ≠ 2 ∨ rd s.core (wkk 5) ≠ 1)) ∧
    (∃ (s : State) (data : List Byte), Open s.core ∧ data.length = 16 ∧ leAt data 0 1 = 7 ∧ leAt data 1 3 = 0 ∧ leAt data 4 4 ≠ 0 ∧ epochNow s.core + 3 ≤ leAt data 8 8 ∧ noDeviceId s.core = false ∧ modeNow s.core ≠ 0 ∧ modeNow s.core ≠ 7 ∧ s.core.mode.transition = none ∧ rd s.core (chg 3) ≠ 1 ∧ rd s.core (chg 3) ≠ 2) ∧
    (∃ (s : State) (id : BitVec 32) (t : Nat) (e : Nat), Open s.core ∧ s.core.mode.prepared = some (id.toNat, t, e) ∧ rd s.core (chg 3) = 1 ∧ epochNow s.core + 1 < e ∧ noDeviceId s.core = false ∧ (modeNow s.core ≠ 2 ∨ rd s.core (wkk 5) ≠ 1)) ∧
    (∃ (s : State) (id : BitVec 32) (t : Nat) (e : Nat), Open s.core ∧ s.core.mode.prepared = some (id.toNat, t, e) ∧ rd s.core (chg 3) = 1 ∧ epochNow s.core < e ∧ noDeviceId s.core = false) ∧
    (∃ (s : State) (id : BitVec 32), Open s.core ∧ noDeviceId s.core = true) ∧
    (∃ (s : State) (e : BitVec 64), Open s.core ∧ deviceId s.core ≠ 0xFFFF ∧ rd s.core (mkKey 0x1311 1) ≠ 0 ∧ epochNow s.core + 2 ≤ e.toNat ∧ e.toNat ≤ epochNow s.core + 2 ^ 32) :=
  ⟨⟨block (coreAt 3 [(chg 3, 0)]), 7 :: List.replicate 15 0, by unfold Open; decide +kernel, by decide +kernel⟩,
   ⟨block (coreAt 5 [(chg 3, 0), (mkKey 0x6020 0, 1), (mkKey 0x1300 1, 0)]), [7, 0, 0, 0, 1, 0, 0, 0, 3, 0, 0, 0, 0, 0, 0, 0], by unfold Open; decide +kernel, by decide +kernel⟩,
   ⟨block { coreAt 3 [(chg 3, 1), (mkKey 0x6020 0, 1), (mkKey 0x1300 1, 0)] with mode := { prepared := some (9, 4, 2) } }, 9, 4, 2, by unfold Open; decide +kernel, by decide +kernel⟩,
   ⟨block { coreAt 3 [(chg 3, 1), (mkKey 0x6020 0, 1), (mkKey 0x1300 1, 0)] with mode := { prepared := some (9, 4, 1) } }, 9, 4, 1, by unfold Open; decide +kernel, by decide +kernel⟩,
   ⟨block (coreAt 3 [(mkKey 0x6020 0, 0xFFFF)]), 9, by unfold Open; decide +kernel, by decide +kernel⟩,
   ⟨block (coreAt 3 [(mkKey 0x6020 0, 1), (mkKey 0x1311 1, 7), (mkKey 0x1300 1, 0)]), 2, by unfold Open; decide +kernel, by decide +kernel⟩⟩

theorem witness_ModeTransitionsComplete :
    (∃ (s : State) (r : List StackTraining) (t : Nat), s.core.mode.transition = some { target := t, boundary := none, prepared := false }) ∧
    (∃ (s : State) (r : List StackTraining) (t : Nat), s.core.mode.transition = some { target := t, boundary := none, prepared := true }) ∧
    (∃ (s : State), s.core.faults.safeDue = true ∧ (∀ w < 64, wState s.core w ≠ 2 ∧ wState s.core w ≠ 3) ∧ modeNow s.core ≠ 0 ∧ modeNow s.core ≠ 7) ∧
    (∃ (s : State), Open s.core) ∧
    (∃ (s : State), modeNow s.core = 0 ∧ bootSlot s.core .firmware = none) :=
  ⟨⟨block { mode := { transition := some { target := 3, boundary := none, prepared := false } } }, [], 3, by decide +kernel⟩,
   ⟨block { mode := { transition := some { target := 3, boundary := none, prepared := true } } }, [], 3, by decide +kernel⟩,
   ⟨block { coreAt 5 [] with faults := { safeDue := true } }, by decide +kernel⟩,
   ⟨block {}, by unfold Open; decide +kernel⟩,
   ⟨block { coreAt 0 [(imk .firmware 6, 0)] with mode := { slots := [(0, []), (1, [])] } }, by decide +kernel⟩⟩

theorem witness_ImagesStagedAndInstalled :
    (∃ (s : State) (k : ImageKind) (data : List Byte), Open s.core ∧ modeNow s.core = modeCode .service ∧ 256 ≤ data.length ∧ data.length ≤ 256 + imageMax k ∧ allZero (slice data 64 96) = true) ∧
    (∃ (s : State) (k : ImageKind) (slot : Byte), Open s.core ∧ modeNow s.core = modeCode .service ∧ slot.toNat ≤ 1 ∧ runningSlot s.core k ≠ some slot.toNat ∧ rd s.core (imk k 3) ≠ 1) ∧
    (∃ (s : State) (k : ImageKind) (n : Nat), mget 0 s.core.mode.installing (slotKey k 0) = n + 1 ∧ imageValid s.core k (dom s.core (imk k 1)) = false) ∧
    (∃ (s : State) (k : ImageKind) (v : BitVec 32), Open s.core ∧ v.toNat ≤ runningVersion s.core k) :=
  ⟨⟨block (coreAt 6 []), .firmware, List.replicate 256 0, by unfold Open; decide +kernel, by decide +kernel⟩,
   ⟨block (coreAt 6 [(imk .firmware 3, 0)]), .firmware, 1, by unfold Open; decide +kernel, by decide +kernel⟩,
   ⟨block { mode := { installing := [(slotKey .microcode 0, 2)] } }, .microcode, 1, by decide +kernel⟩,
   ⟨block {}, .firmware, 0, by unfold Open; decide +kernel, by decide +kernel⟩⟩

theorem witness_WakeCausesAndRequests :
    (∃ (s : State), modeNow s.core = modeCode .dormant ∧ s.core.mode.transition = none) ∧
    (∃ (s : State), modeNow s.core = modeCode .dormant ∧ s.core.mode.transition = none ∧ bit (rd s.core (wkk 2)) 2 = true) ∧
    (∃ (s : State) (k : Fin 4), (∀ w < 64, wState s.core w ≠ 2 ∧ wState s.core w ≠ 3)) ∧
    (∃ (s : State) (k : Fin 4), (∀ w < 64, wState s.core w ≠ 2 ∧ wState s.core w ≠ 3) ∧ bit s.core.mode.trgi k.val = false) ∧
    (∃ (s : State) (n : Nat) (a : HostAddr), s.core.dap.wakeNotify = some n ∧ wakeHost s.core = some a) ∧
    (∃ (s : State), Open s.core) :=
  ⟨⟨block (coreAt 1 []), by decide +kernel⟩,
   ⟨block (coreAt 1 [(wkk 2, 4)]), by decide +kernel⟩,
   ⟨block {}, 3, by decide +kernel⟩,
   ⟨block {}, 0, by decide +kernel⟩,
   ⟨block { dap := { wakeNotify := some 3 }, doms := [(wkk 4, List.replicate 20 0)] }, 3, { ip := 0, port := 0 }, by decide +kernel⟩,
   ⟨block {}, by unfold Open; decide +kernel⟩⟩

theorem witness_PinGroupPlls :
    (∃ (s : State) (g : Fin 16), modeNow s.core = modeCode .run ∧ clockBit s.core (6 + g.val) = true ∧ pgNeeded s.core g.val = false) ∧
    (∃ (s : State) (g : Fin 16), InModes s.core [.warm, .calibrate, .run] ∧ pgStarting s.core g.val = true ∧ clockBit s.core 1 = true) ∧
    (∃ (s : State) (g : Fin 16), pgStarting s.core g.val = true) :=
  ⟨⟨block (coreAt 5 [(clockKey, 0x200000)]), 15, by decide +kernel⟩,
   ⟨block { coreAt 5 [(clockKey, 2)] with mode := { pgStart := [(0, 1)] } }, 0, ⟨.run, by simp, by decide +kernel⟩, by decide +kernel⟩,
   ⟨block { coreAt 5 [(clockKey, 2)] with mode := { pgStart := [(15, 1)] } }, 15, by decide +kernel⟩⟩

theorem witness_TokensExecuteOnceAndFlood :
    (∃ (s : State) (t : Token), tokenHeard s.core t.arrival = true ∧ firstArrival s.core t.src.toNat t.number.toNat = none) ∧
    (∃ (s : State) (t : Token) (m : _) (e : _), (tokenHeard s.core t.arrival = true ∧ (∀ d ∈ s.core.tokens.done, s.core.time < d.2.2 + 10000000 → ¬ (d.1 = t.src.toNat ∧ d.2.1 = t.number.toNat))) ∧ (let c := { s.core with tokens := { s.core.tokens with done := ((t.src.toNat, t.number.toNat, s.core.time) :: s.core.tokens.done.filter (fun d => decide (s.core.time < d.2.2 + 10000000))) } }; c.mode.prepared = some (t.id.toNat, m, e) ∧ deviceId c ≠ 0xFFFF ∧ rd c (chg 3) = 1 ∧ epochNow c + 1 < e ∧ modeNow c ≠ 2)) ∧
    (∃ (s : State) (t : Token) (m : _) (e : _), (tokenHeard s.core t.arrival = true ∧ (∀ d ∈ s.core.tokens.done, s.core.time < d.2.2 + 10000000 → ¬ (d.1 = t.src.toNat ∧ d.2.1 = t.number.toNat))) ∧ (let c := { s.core with tokens := { s.core.tokens with done := ((t.src.toNat, t.number.toNat, s.core.time) :: s.core.tokens.done.filter (fun d => decide (s.core.time < d.2.2 + 10000000))) } }; c.mode.prepared = some (t.id.toNat, m, e) ∧ deviceId c ≠ 0xFFFF ∧ rd c (chg 3) = 1 ∧ epochNow c < e)) ∧
    (∃ (s : State) (t : Token), (tokenHeard s.core t.arrival = true ∧ (∀ d ∈ s.core.tokens.done, s.core.time < d.2.2 + 10000000 → ¬ (d.1 = t.src.toNat ∧ d.2.1 = t.number.toNat))) ∧ (let c := { s.core with tokens := { s.core.tokens with done := ((t.src.toNat, t.number.toNat, s.core.time) :: s.core.tokens.done.filter (fun d => decide (s.core.time < d.2.2 + 10000000))) } }; rd c (mkKey 0x1311 1) ≠ t.id.toNat % 256)) ∧
    (∃ (s : State) (t : Token), (tokenHeard s.core t.arrival = true ∧ (∀ d ∈ s.core.tokens.done, s.core.time < d.2.2 + 10000000 → ¬ (d.1 = t.src.toNat ∧ d.2.1 = t.number.toNat))) ∧ (let c := { s.core with tokens := { s.core.tokens with done := ((t.src.toNat, t.number.toNat, s.core.time) :: s.core.tokens.done.filter (fun d => decide (s.core.time < d.2.2 + 10000000))) } }; rd c (mkKey 0x1311 1) = t.id.toNat % 256 ∧ t.id.toNat % 256 ≠ 0 ∧ deviceId c ≠ 0xFFFF ∧ epochNow c + 2 ≤ t.epoch.toNat ∧ t.epoch.toNat ≤ epochNow c + 2 ^ 32)) ∧
    (∃ (s : State) (t : Token), (tokenHeard s.core t.arrival = true ∧ (∀ d ∈ s.core.tokens.done, s.core.time < d.2.2 + 10000000 → ¬ (d.1 = t.src.toNat ∧ d.2.1 = t.number.toNat))) ∧ (let c := { s.core with tokens := { s.core.tokens with done := ((t.src.toNat, t.number.toNat, s.core.time) :: s.core.tokens.done.filter (fun d => decide (s.core.time < d.2.2 + 10000000))) } }; epochNow c + 1 < t.epoch.toNat)) ∧
    (∃ (s : State) (d : TokenDatagram) (p : Nat), p < 2 ∧ portUp s.core p = true ∧ ipTaken s.core p d.ip = true ∧ bits d.header.toNat 0 4 = 6 ∧ bits d.body.toNat 0 4 = 1 ∧ d.crc = crc32c (leBytes 16 d.header.toNat ++ leBytes 16 d.body.toNat) ∧ (authRequired s.core = true → d.tag = hmac256 (psk s.core) (leBytes 16 d.header.toNat ++ leBytes 16 d.body.toNat ++ leBytes 4 d.crc.toNat))) :=
  ⟨⟨block { linkedCore [] with tokens := { done := [(3, 1, 0)] } }, tokenA, by decide +kernel⟩,
   ⟨block { linkedCore [(chg 3, 1), (mkKey 0x6020 0, 1), (mkKey 0x1300 1, 0)] with mode := { prepared := some (7, 4, 2) } }, tokenA, 4, 2, by decide +kernel, by decide +kernel⟩,
   ⟨block { linkedCore [(chg 3, 1), (mkKey 0x6020 0, 1), (mkKey 0x1300 1, 0)] with mode := { prepared := some (7, 4, 1) } }, tokenA, 4, 1, by decide +kernel, by decide +kernel⟩,
   ⟨block (linkedCore [(mkKey 0x1311 1, 6)]), tokenA, by decide +kernel, by decide +kernel⟩,
   ⟨block (linkedCore [(mkKey 0x1311 1, 7), (mkKey 0x6020 0, 1), (mkKey 0x1300 1, 0)]), tokenA, by decide +kernel, by decide +kernel⟩,
   ⟨block (linkedCore [(mkKey 0x1300 1, 0)]), tokenA, by decide +kernel, by decide +kernel⟩,
   ⟨block (coreAt 3 [(ek 0 8, 2), (ek 0 2, 1)]), { ip := plainIp, src := hostA, header := 6, body := 1, crc := crc32c (leBytes 16 6 ++ leBytes 16 1), tag := [] }, 0, by decide +kernel⟩⟩

theorem witness_EpochSettings :
    (∃ (s : State) (data : List Byte), Open s.core ∧ InModes s.core [.standby, .warm] ∧ data.length = 20 ∧ leAt data 0 8 < 2 ^ 48 ∧ bits (leAt data 8 12) 16 32 < 1000000000 ∧ tbState s.core 0 ≠ 3 ∧ tbState s.core 0 ≠ 4) ∧
    (∃ (s : State) (v : BitVec 32), Open s.core ∧ InModes s.core [.standby, .warm] ∧ 100 ≤ v.toNat ∧ v.toNat ≤ 1000000) ∧
    (∃ (s : State) (v : BitVec 64), Open s.core ∧ InModes s.core [.standby, .warm, .calibrate] ∧ v.toNat ≤ 409599) :=
  ⟨⟨block (coreAt 3 []), List.replicate 20 0, by unfold Open; decide +kernel, ⟨.warm, by simp, by decide +kernel⟩, by decide +kernel⟩,
   ⟨block (coreAt 3 []), 1000000, by unfold Open; decide +kernel, ⟨.warm, by simp, by decide +kernel⟩, by decide +kernel⟩,
   ⟨block (coreAt 4 []), 409599, by unfold Open; decide +kernel, ⟨.calibrate, by simp, by decide +kernel⟩, by decide +kernel⟩⟩

theorem witness_SessionRequestsExecute :
    (∃ (s : State) (f : DapFrame) (x : Session), HeardBy s.core opRead f x ∧ NextOf x f) ∧
    (∃ (s : State) (f : DapFrame) (x : Session), HeardBy s.core opReadBlock f x ∧ NextOf x f ∧ blockWaits s.core f = false) ∧
    (∃ (s : State) (f : DapFrame) (x : Session), HeardBy s.core opSubscribe f x ∧ NextOf x f) ∧
    (∃ (s : State) (f : DapFrame) (x : Session), HeardBy s.core opUnsubscribe f x ∧ NextOf x f) ∧
    (∃ (s : State) (f : DapFrame) (x : Session), HeardBy s.core opWrite f x ∧ NextOf x f ∧ (bits f.flags.toNat 7 9 = 0 ∧ f.reserved1 = 0 ∧ f.reserved2 = 0) ∧ (let r := runWrite s.mem (begun s.core x f) x.auth f; r.waits.all (accepted r.core) = true)) ∧
    (∃ (s : State) (f : DapFrame) (x : Session), HeardBy s.core opWriteBlock f x ∧ NextOf x f ∧ (bits f.flags.toNat 7 9 = 0 ∧ f.reserved1 = 0 ∧ f.reserved2 = 0 ∧ blockWaits s.core f = false) ∧ (let r := runWriteBlock s.mem (begun s.core x f) (sessionAt s.core x f) f.eth.val f; r.waits.all (accepted r.core) = true)) ∧
    (∃ (s : State) (f : DapFrame) (x : Session), HeardBy s.core opClose f x ∧ NextOf x f) :=
  ⟨⟨block (dapCore sessA), dapSealed opRead (dapFrame []), sessA, by unfold HeardBy; decide +kernel, by unfold NextOf; decide +kernel⟩,
   ⟨block (dapCore sessA), dapSealed opReadBlock (dapFrame []), sessA, by unfold HeardBy; decide +kernel, by unfold NextOf; decide +kernel, by decide +kernel⟩,
   ⟨block (dapCore sessA), dapSealed opSubscribe (dapFrame []), sessA, by unfold HeardBy; decide +kernel, by unfold NextOf; decide +kernel⟩,
   ⟨block (dapCore sessA), dapSealed opUnsubscribe (dapFrame []), sessA, by unfold HeardBy; decide +kernel, by unfold NextOf; decide +kernel⟩,
   ⟨block (dapCore sessA), dapSealed opWrite (dapFrame []), sessA, by unfold HeardBy; decide +kernel, by unfold NextOf; decide +kernel, by decide +kernel, by decide +kernel⟩,
   ⟨block (dapCore sessA), dapSealed opWriteBlock (dapFrame []), sessA, by unfold HeardBy; decide +kernel, by unfold NextOf; decide +kernel, by decide +kernel, by decide +kernel⟩,
   ⟨block (dapCore sessA), dapSealed opClose (dapFrame []), sessA, by unfold HeardBy; decide +kernel, by unfold NextOf; decide +kernel⟩⟩

theorem witness_NonAtomicWriteRunsEachEntry :
    (∃ (m : Mem) (c : Core) (auth : Bool) (f : DapFrame) (es : List Entry), (entriesOf f.payload = .ok es ∧ hasFlag f flagAtomic = false) ∧ (let r := writeInOrder auth m c es; (∀ st ∈ r.1, st = stOk))) ∧
    (∃ (m : Mem) (c : Core) (auth : Bool) (f : DapFrame) (es : List Entry), (entriesOf f.payload = .ok es ∧ hasFlag f flagAtomic = false) ∧ (let r := writeInOrder auth m c es; (∃ st ∈ r.1, st ≠ stOk))) ∧
    (∃ (m : Mem) (c : Core) (auth : Bool) (e : Entry) (st : Status), entryFail c auth e 0 = some st) :=
  ⟨⟨{}, coreAt 3 [], false, dapFrame (dapEntry (dk 5) 4 (leBytes 4 600000) 0 0), [{ key := dk 5, ty := 4, len := 4, epoch := 0, value := leBytes 4 600000 }], by decide +kernel, by decide +kernel⟩,
   ⟨{}, coreAt 3 [], false, dapFrame (dapEntry (mkKey 0x9999 1) 6 (leBytes 4 1) 0 0), [{ key := mkKey 0x9999 1, ty := 6, len := 4, epoch := 0, value := leBytes 4 1 }], by decide +kernel, by decide +kernel⟩,
   ⟨{}, coreAt 3 [], false, { key := mkKey 0x9999 1, ty := 6, len := 4, epoch := 0, value := leBytes 4 1 }, stNoObject, by decide +kernel⟩⟩

theorem witness_AtomicWriteIsAllOrNothing :
    (∃ (m : Mem) (c : Core) (auth : Bool) (f : DapFrame) (es : List Entry), entriesOf f.payload = .ok es ∧ hasFlag f flagAtomic = true ∧ (runWrite m c auth f).st = stAtomicFailed) ∧
    (∃ (m : Mem) (c : Core) (auth : Bool) (f : DapFrame) (es : List Entry), entriesOf f.payload = .ok es ∧ hasFlag f flagAtomic = true ∧ (runWrite m c auth f).st ≠ stAtomicFailed) :=
  ⟨⟨{}, coreAt 3 [], false, { dapFrame (dapEntry (mkKey 0x9999 1) 6 (leBytes 4 1) 0 0) with flags := 2 }, [{ key := mkKey 0x9999 1, ty := 6, len := 4, epoch := 0, value := leBytes 4 1 }], by decide +kernel⟩,
   ⟨{}, coreAt 3 [], false, { dapFrame (dapEntry (dk 5) 4 (leBytes 4 600000) 0 0) with flags := 2 }, [{ key := dk 5, ty := 4, len := 4, epoch := 0, value := leBytes 4 600000 }], by decide +kernel⟩⟩

theorem witness_AuthObjectsNeedAuthentication :
    (∃ (c : Core) (v : Nat), Open c ∧ authRequired c = true ∧ v < 256) ∧
    (∃ (c : Core) (v : Nat), Open c ∧ authRequired c = true ∧ v ≤ 1) :=
  ⟨⟨coreAt 3 [(dk 3, 1)], 255, by unfold Open; decide +kernel, by decide +kernel⟩,
   ⟨coreAt 3 [(dk 3, 1)], 1, by unfold Open; decide +kernel, by decide +kernel⟩⟩

theorem witness_SessionsAndNotifications :
    (∃ (s : State) (f : DapFrame), portUp s.core f.eth.val = true ∧ ipTaken s.core f.eth.val f.ip = true ∧ dapIntact opOpen f = true ∧ hasFlag f flagReply = false ∧ forOther s.core f = false ∧ hasFlag f flagAuth = false ∧ f.version = 1 ∧ tooLong s.core f.eth.val opOpen f = false ∧ authRequired s.core = false ∧ s.core.dap.sessions.length < 32 ∧ f.payload.length = 16) ∧
    (∃ (s : State) (sid : BitVec 16) (x : Session) (h : Byte × DapFrame), sessionOf s.core sid.toNat = some x ∧ x.held.find? (fun h => h.2.sequence.toNat == x.done + 1) = some h ∧ heldWaits s.core sid.toNat = none) ∧
    (∃ (s : State) (n : BitVec 16) (x : Subscription), s.core.dap.subs.find? (fun x => x.number == n.toNat) = some x ∧ x.every ≠ 0 ∧ x.left = 0) ∧
    (∃ (s : State) (sid : BitVec 16) (n : BitVec 48) (x : Session) (u : SentNotify), sessionOf s.core sid.toNat = some x ∧ x.unacked.find? (fun u => u.number == n.toNat) = some u) ∧
    (∃ (s : State) (f : DapFrame) (x : Session) (u : SentNotify), HeardBy s.core opNotifyAck f x ∧ u ∈ x.unacked ∧ u.number = f.sequence.toNat ∧ x.due = []) ∧
    (∃ (s : State) (f : DapFrame), portUp s.core f.eth.val = true ∧ ipTaken s.core f.eth.val f.ip = true ∧ dapIntact opProbe f = true ∧ hasFlag f flagReply = false ∧ forOther s.core f = false ∧ hasFlag f flagAuth = false ∧ f.version = 1 ∧ authRequired s.core = false ∧ f.payload.length = 16) ∧
    (∃ (s : State) (op : Byte) (f : DapFrame) (l : Nat), portUp s.core f.eth.val = true ∧ ipTaken s.core f.eth.val f.ip = true ∧ dapIntact op.toNat f = true ∧ hasFlag f flagReply = false ∧ forOther s.core f = true ∧ f.hops ≠ 0 ∧ routeOf s.core f.target.toNat = some l ∧ linkUp s.core l = true) :=
  ⟨⟨block (coreAt 3 [(ek 0 8, 2), (ek 0 2, 1), (dk 3, 0)]), dapSealed opOpen (dapFrame (List.replicate 16 0)), by decide +kernel⟩,
   ⟨block (dapCore { sessA with held := [(1, dapSealed opRead (dapFrame []))] }), 5, { sessA with held := [(1, dapSealed opRead (dapFrame []))] }, (1, dapSealed opRead (dapFrame [])), by decide +kernel⟩,
   ⟨block { dap := { subs := [{ number := 9, session := 5, key := mkKey 0x1300 1, every := 4, left := 0, last := [] }] } }, 9, { number := 9, session := 5, key := mkKey 0x1300 1, every := 4, left := 0, last := [] }, by decide +kernel⟩,
   ⟨block (dapCore { sessA with unacked := [⟨1, 0, [9], []⟩] }), 5, 1, { sessA with unacked := [⟨1, 0, [9], []⟩] }, ⟨1, 0, [9], []⟩, by decide +kernel⟩,
   ⟨block (dapCore { sessA with unacked := [⟨1, 0, [9], []⟩] }), dapSealed opNotifyAck (dapFrame []), { sessA with unacked := [⟨1, 0, [9], []⟩] }, ⟨1, 0, [9], []⟩, by unfold HeardBy; decide +kernel, by decide +kernel⟩,
   ⟨block (coreAt 3 [(ek 0 8, 2), (ek 0 2, 1), (dk 3, 0)]), dapSealed opProbe (dapFrame (List.replicate 16 0)), by decide +kernel⟩,
   ⟨block { coreAt 3 [(ek 0 8, 2), (ek 0 2, 1), (lk 2 2, 2), (mkKey 0x6020 0, 1)] with doms := [(mkKey 0x6022 1, [0, 0, 0, 0, 2])] }, 1, dapSealed opRead { dapFrame [] with target := 4, hops := 1 }, 2, by decide +kernel⟩⟩

theorem witness_EthernetPorts :
    (∃ (s : State) (p : Fin 2), portRuns s.core p.val = true) ∧
    (∃ (s : State) (p : Fin 2), portUp s.core p.val = true) ∧
    (∃ (s : State) (e : EchoFrame), portUp s.core e.eth.val = true ∧ ipOk e.ip = true ∧ ownAddress s.core e.eth.val e.ip.v6 e.dst.toNat = true) ∧
    (∃ (s : State) (a : ArpFrame), portUp s.core a.eth.val = true ∧ a.vlanTagged = false ∧ ownAddress s.core a.eth.val a.v6 a.target.toNat = true) :=
  ⟨⟨block (coreAt 3 []), 1, by decide +kernel⟩,
   ⟨block (coreAt 3 [(ek 1 8, 2)]), 1, by decide +kernel⟩,
   ⟨block (coreAt 3 [(ek 0 8, 2), (ek 0 2, 0xC0A80002)]), { eth := 0, ip := plainIp, src := hostA, dst := BitVec.ofNat 128 (mappedV4 0xC0A80002), payload := [] }, by decide +kernel⟩,
   ⟨block (coreAt 3 [(ek 0 8, 2), (ek 0 2, 0xC0A80002)]), { eth := 0, v6 := false, senderMac := 1, senderIp := 2, target := BitVec.ofNat 128 (mappedV4 0xC0A80002), vlanTagged := false }, by decide +kernel⟩⟩

theorem witness_RegisterWrites :
    (∃ (s : State) (o : ObjWrite) (st : Status), writeFail s.core false (mkKey o.index.toNat o.sub.toNat) o.value.toNat o.epoch.toNat 0 = some st) ∧
    (∃ (s : State) (o : ObjWrite), writeFail s.core false (mkKey o.index.toNat o.sub.toNat) o.value.toNat o.epoch.toNat 0 = none) ∧
    (∃ (s : State) (o : ObjWrite), Open s.core ∧ o.index = 0x1110 ∧ o.sub = 5 ∧ 100 ≤ o.value.toNat ∧ o.value.toNat ≤ 600000 ∧ o.epoch = 0) ∧
    (∃ (s : State) (v : BitVec 16), Open s.core ∧ InModes s.core [.standby, .warm] ∧ (v.toNat ≤ 16383 ∨ v = 0xFFFF) ∧ anyStream s.core = false ∧ anyBoom s.core = false ∧ (v = 0xFFFF ∨ ∀ l < 8, linkUp s.core l = true → rd s.core (lk l 3) ≠ v.toNat)) :=
  ⟨⟨block (coreAt 3 []), { index := 0x9999, sub := 0, value := 0, epoch := 0 }, stNoObject, by decide +kernel⟩,
   ⟨block (coreAt 3 []), { index := 0x1110, sub := 5, value := 100, epoch := 0 }, by decide +kernel⟩,
   ⟨block (coreAt 3 []), { index := 0x1110, sub := 5, value := 600000, epoch := 0 }, by unfold Open; decide +kernel, by decide +kernel⟩,
   ⟨block (coreAt 3 []), 0xFFFF, by unfold Open; decide +kernel, ⟨.warm, by simp, by decide +kernel⟩, by decide +kernel⟩⟩

theorem witness_LaunchesJumpsAndAborts :
    (∃ (s : State) (w : Fin 64) (i : Byte) (epoch : BitVec 48) (d : SegDesc), (let e := boundaryOf s.core epoch.toNat; Open s.core ∧ epochNow s.core < e ∧ e ≤ epochNow s.core + 2 ^ 32 ∧ s.core.rwe.length < 1024 ∧ runBy s.core e = true ∧ descAt s.core w.val i.toNat = some d ∧ launchReady s.core w.val d e = true)) ∧
    (∃ (s : State) (w : Fin 64) (v : BitVec 16), Open s.core ∧ v.toNat ≤ 0x100 ∧ (wState s.core w.val = 1 ∨ wState s.core w.val = 2 ∨ wState s.core w.val = 3)) ∧
    (∃ (s : State) (w : Fin 64), Open s.core ∧ (wState s.core w.val = 2 ∨ wState s.core w.val = 3)) ∧
    (∃ (s : State) (w : Fin 64) (d : SegDesc), Open s.core ∧ wState s.core w.val = 1 ∧ (getW s.core w.val).desc = some d) ∧
    (∃ (s : State) (w : Fin 64), Open s.core ∧ wState s.core w.val = 4) ∧
    (∃ (s : State) (w : Fin 64) (data : List Byte), Open s.core ∧ badDesc (descNumbers data).length (capacity s.core) 0 (descNumbers data) = none ∧ data.length % 128 = 0 ∧ 128 ≤ data.length ∧ data.length ≤ 32768 ∧ rasterRefuses s.core w.val ((descNumbers data).map parseDesc) = none) ∧
    (∃ (s : State) (w : Fin 64) (data : List Byte) (i : Nat) (st : Status), Open s.core ∧ data.length % 128 = 0 ∧ 128 ≤ data.length ∧ data.length ≤ 32768 ∧ badDesc (descNumbers data).length (capacity s.core) 0 (descNumbers data) = some (i, st)) :=
  ⟨⟨block { coreAt 5 [(mkKey 0x20C0 1, 0), (mkKey 0x20C0 2, 0), (mkKey 0x20C0 3, 0), (wk 0 1, 0), (wk 0 7, 1), (wk 0 0x17, 0), (mkKey 0x6020 0, 1), (mkKey 0x5000 0x16, 2), (mkKey 0x7800 8, 0), (mkKey 0x6010 7, 0), (mkKey 0x6010 6, 0), (mkKey 0x1302 1, 2), (mkKey 0x1300 1, 0), (clockKey, 0x40)] with time := 1000000, clk := { lockedSince := some 0 }, doms := [(mkKey 0x2040 1, List.replicate 128 0), (mkKey 0x5C01 0, leBytes 32 (2 ^ 96 + 2 ^ 48))] }, 0, 0, 1, (parseDesc 0), by unfold Open; decide +kernel, by decide +kernel⟩,
   ⟨block { coreAt 5 [(wk 63 1, 3)] with weavers := [] }, 63, 0x100, by unfold Open; decide +kernel, by decide +kernel⟩,
   ⟨block (coreAt 5 [(wk 63 1, 3)]), 63, by unfold Open; decide +kernel, by decide +kernel⟩,
   ⟨block { coreAt 5 [(wk 0 1, 1)] with weavers := [(0, runningWeaver)] }, 0, { imageGranules := 16, period := 4096 }, by unfold Open; decide +kernel, by decide +kernel⟩,
   ⟨block (coreAt 5 [(wk 63 1, 4)]), 63, by unfold Open; decide +kernel, by decide +kernel⟩,
   ⟨block (coreAt 3 [(hk 5, 4096)]), 0, leBytes 128 goodDesc, by unfold Open; decide +kernel, good_desc_listed, by decide +kernel⟩,
   ⟨block (coreAt 3 []), 0, List.replicate 128 0, 0, stOutOfRange, by unfold Open; decide +kernel, by decide +kernel⟩⟩

theorem witness_GranulesWindowsAndPulses :
    (∃ (s : State) (w : Fin 64) (d : SegDesc), ((getW s.core w.val).desc = some d ∧ emitting s.core w.val = true ∧ (getW s.core w.val).micro.phase = .closed ∧ (getW s.core w.val).opening = none) ∧ (let c := elapseTo s.core (windowOpenTick (getW s.core w.val)); (let a := modM c w.val (fun y => { y with phase := .running, iw := granuleIw s.mem (getW s.core w.val) d, cycles := 0, handler := none, prog := false, stalled := false, upset := none, todo := y.pending }); (getW c w.val).micro.pending = 0 ∧ (getW a w.val).inHold = true ∨ (getW a w.val).tailLeft ≠ 0))) ∧
    (∃ (s : State) (w : Fin 64) (d : SegDesc), ((getW s.core w.val).desc = some d ∧ emitting s.core w.val = true ∧ (getW s.core w.val).micro.phase = .closed ∧ (getW s.core w.val).opening = none) ∧ (let c := elapseTo s.core (windowOpenTick (getW s.core w.val)); (let a := modM c w.val (fun y => { y with phase := .running, iw := granuleIw s.mem (getW s.core w.val) d, cycles := 0, handler := none, prog := false, stalled := false, upset := none, todo := y.pending }); (let b := spend (modM a w.val (fun y => { y with nxt := (getW a w.val).k + 1, t := false })) w.val 1; (let entry := dispatchEntry b w.val (dispatchIndex b w.val); (getW c w.val).micro.pending = 0 ∧ (getW a w.val).inHold = false ∧ (getW a w.val).tailLeft = 0 ∧ csEntryGood entry = true ∧ (getW b w.val).micro.cycles ≤ windowCycles (getW a w.val) ∧ dispatchOk b w.val = true))))) ∧
    (∃ (s : State) (w : Fin 64) (d : SegDesc), ((getW s.core w.val).desc = some d ∧ emitting s.core w.val = true ∧ (getW s.core w.val).inHold = false ∧ (getW s.core w.val).stopReq = none ∧ (getW s.core w.val).opening = none) ∧ (let a := closeWindow s.mem s.core w.val; (getW a w.val).stopReq = none)) ∧
    (∃ (s : State) (w : Fin 64) (cause : Nat) (b : Nat), (getW s.core w.val).stopReq = some (cause, b) ∧ emitting s.core w.val = true ∧ b < granuleEndOf (getW s.core w.val)) ∧
    (∃ (s : State) (w : Fin 64) (b : BitVec 28), emitting s.core w.val = true) ∧
    (∃ (s : State) (w : Fin 64) (mask : Nat) (rise : Nat) (rest : List (Nat × Nat)), (getW s.core w.val).pulses = (mask, rise) :: rest) :=
  ⟨⟨block (microCore { runningWeaver with tailLeft := 1, micro := { phase := .closed } }), 0, { imageGranules := 16, period := 4096 }, by decide +kernel, by decide +kernel⟩,
   ⟨block (microCore { runningWeaver with bankA := vendorBank 0 false, micro := { phase := .closed } }), 0, { imageGranules := 16, period := 4096 }, by decide +kernel, by decide +kernel⟩,
   ⟨block (microCore { runningWeaver with micro := { phase := .ended } }), 0, { imageGranules := 16, period := 4096 }, by decide +kernel, by decide +kernel⟩,
   ⟨block (microCore { runningWeaver with stopReq := some (9, 262143) }), 0, 9, 262143, by decide +kernel⟩,
   ⟨block (microCore runningWeaver), 0, 5, by decide +kernel⟩,
   ⟨block (microCore { runningWeaver with pulses := [(3, 100)] }), 0, 3, 100, [], by decide +kernel⟩⟩

theorem witness_DispatchedInstructionsRun :
    (∃ (s : State) (w : Fin 64) (e : _), emitting s.core w.val = true ∧ (getW s.core w.val).micro.phase = .dispatched ∧ nanoMode s.core w.val = false ∧ e ∈ [(Instr.nop w, 0), (.tail w, 1), (.jmp w, 2), (.rpt w, 3), (.loop w, 4), (.call w, 5), (.ret w, 6), (.pmatch w, 7), (.jf w, 8), (.jnf w, 9), (.jmt w, 10), (.clrf w, 11), (.siteoff w, 12), (.pec w, 13), (.mark w, 14), (.trig w, 15)] ∧ iwOpcode (getW s.core w.val).micro.iw = e.2) ∧
    (∃ (s : State) (w : Fin 64), emitting s.core w.val = true ∧ (getW s.core w.val).micro.phase = .dispatched ∧ nanoMode s.core w.val = false ∧ 0xE0 ≤ iwOpcode (getW s.core w.val).micro.iw) ∧
    (∃ (s : State) (w : Fin 64) (e : _), emitting s.core w.val = true ∧ (getW s.core w.val).micro.phase = .dispatched ∧ nanoMode s.core w.val = true ∧ e ∈ [(Instr.hstep w, 0), (.hfin w, 1), (.hgo w, 2), (.hrpt w, 3), (.hlpa w, 4), (.hlpb w, 5), (.hsub w, 6), (.hback w, 7), (.hseek w, 8), (.hfail w, 9), (.hpass w, 10), (.hrst w, 11), (.hlvl w, 12), (.htag w, 13)] ∧ hwHop (getW s.core w.val).micro.iw = e.2) :=
  ⟨⟨block (microCore (dispatchedWeaver 15)), 0, (.trig 0, 15), by decide +kernel⟩,
   ⟨block (microCore (dispatchedWeaver 0xE0)), 0, by decide +kernel⟩,
   ⟨block { coreAt 5 [(wk 0 1, 2), (wk 0 0xC, 1)] with weavers := [(0, dispatchedWeaver 13)] }, 0, (.htag 0, 13), by decide +kernel⟩⟩

theorem witness_FlowOfSimpleInstructions :
    (∃ (s : State) (w : Fin 64) (d : SegDesc), (let x := getW s.core w.val; (let bank := vendorBank 0 false; (∀ a < 0x1800, csWord s.core w.val a = mget 0 bank.words a) ∧ emitting s.core w.val = true ∧ x.desc = some d ∧ x.micro.phase = .dispatched ∧ x.micro.upc = bits (mget 0x8000 bank.dispatch (iwOpcode x.micro.iw)) 0 14 ∧ x.micro.handler = none ∧ x.micro.upset = none ∧ x.micro.stalled = false ∧ nanoMode s.core w.val = false ∧ x.micro.cycles + 4 ≤ windowCycles x ∧ x.micro.nxt < d.imageGranules ∧ iwOpcode x.micro.iw = 0))) ∧
    (∃ (s : State) (w : Fin 64) (d : SegDesc), (let x := getW s.core w.val; (let bank := vendorBank 0 false; (∀ a < 0x1800, csWord s.core w.val a = mget 0 bank.words a) ∧ emitting s.core w.val = true ∧ x.desc = some d ∧ x.micro.phase = .dispatched ∧ x.micro.upc = bits (mget 0x8000 bank.dispatch (iwOpcode x.micro.iw)) 0 14 ∧ x.micro.handler = none ∧ x.micro.upset = none ∧ x.micro.stalled = false ∧ nanoMode s.core w.val = false ∧ x.micro.cycles + 4 ≤ windowCycles x ∧ x.micro.nxt < d.imageGranules ∧ iwOpcode x.micro.iw = 2 ∧ iwTarget x.micro.iw < d.imageGranules))) ∧
    (∃ (s : State) (w : Fin 64) (d : SegDesc), (let x := getW s.core w.val; (let bank := vendorBank 0 false; (∀ a < 0x1800, csWord s.core w.val a = mget 0 bank.words a) ∧ emitting s.core w.val = true ∧ x.desc = some d ∧ x.micro.phase = .dispatched ∧ x.micro.upc = bits (mget 0x8000 bank.dispatch (iwOpcode x.micro.iw)) 0 14 ∧ x.micro.handler = none ∧ x.micro.upset = none ∧ x.micro.stalled = false ∧ nanoMode s.core w.val = false ∧ x.micro.cycles + 4 ≤ windowCycles x ∧ x.micro.nxt < d.imageGranules ∧ iwOpcode x.micro.iw = 0xF))) :=
  ⟨⟨block (microCore (dispatchedWeaver 0)), 0, { imageGranules := 16, period := 4096 }, fun a _ => rfl, by decide +kernel⟩,
   ⟨block (microCore (dispatchedWeaver (2 + 15 * 2 ^ 20))), 0, { imageGranules := 16, period := 4096 }, fun a _ => rfl, by decide +kernel⟩,
   ⟨block (microCore (dispatchedWeaver 0xF)), 0, { imageGranules := 16, period := 4096 }, fun a _ => rfl, by decide +kernel⟩⟩

theorem witness_MicrowordArithmetic :
    (∃ (s : State) (w : Fin 64) (m : MicroArgs), WordRuns s.core w.val (wordOf 0x04 m)) ∧
    (∃ (s : State) (w : Fin 64) (m : MicroArgs), WordRuns s.core w.val (wordOf 0x05 m)) ∧
    (∃ (s : State) (w : Fin 64) (m : MicroArgs), WordRuns s.core w.val (wordOf 0x06 m)) ∧
    (∃ (s : State) (w : Fin 64) (m : MicroArgs), WordRuns s.core w.val (wordOf 0x07 m)) ∧
    (∃ (s : State) (w : Fin 64) (m : MicroArgs), WordRuns s.core w.val (wordOf 0x08 m)) ∧
    (∃ (s : State) (w : Fin 64) (m : MicroArgs), WordRuns s.core w.val (wordOf 0x09 m)) ∧
    (∃ (s : State) (w : Fin 64) (m : MicroArgs), WordRuns s.core w.val (wordOf 0x0A m)) ∧
    (∃ (s : State) (w : Fin 64) (m : MicroArgs), WordRuns s.core w.val (wordOf 0x0B m)) ∧
    (∃ (s : State) (w : Fin 64) (m : MicroArgs), WordRuns s.core w.val (wordOf 0x0C m)) ∧
    (∃ (s : State) (w : Fin 64) (m : MicroArgs), WordRuns s.core w.val (wordOf 0x0D m)) ∧
    (∃ (s : State) (w : Fin 64) (m : MicroArgs), WordRuns s.core w.val (wordOf 0x0E m)) ∧
    (∃ (s : State) (w : Fin 64) (m : MicroArgs), WordRuns s.core w.val (wordOf 0x0F m)) :=
  ⟨⟨block (microCore runningWeaver), 0, microArgs, by unfold WordRuns; decide +kernel⟩,
   ⟨block (microCore { runningWeaver with micro := { phase := .running, prog := true, t := true } }), 0, microArgs, by unfold WordRuns; decide +kernel⟩,
   ⟨block (microCore runningWeaver), 0, microArgs, by unfold WordRuns; decide +kernel⟩,
   ⟨block (microCore runningWeaver), 0, microArgs, by unfold WordRuns; decide +kernel⟩,
   ⟨block (microCore runningWeaver), 0, microArgs, by unfold WordRuns; decide +kernel⟩,
   ⟨block (microCore runningWeaver), 0, microArgs, by unfold WordRuns; decide +kernel⟩,
   ⟨block (microCore runningWeaver), 0, microArgs, by unfold WordRuns; decide +kernel⟩,
   ⟨block (microCore runningWeaver), 0, microArgs, by unfold WordRuns; decide +kernel⟩,
   ⟨block (microCore runningWeaver), 0, microArgs, by unfold WordRuns; decide +kernel⟩,
   ⟨block (microCore runningWeaver), 0, microArgs, by unfold WordRuns; decide +kernel⟩,
   ⟨block (microCore runningWeaver), 0, microArgs, by unfold WordRuns; decide +kernel⟩,
   ⟨block (microCore runningWeaver), 0, microArgs, by unfold WordRuns; decide +kernel⟩⟩

theorem witness_MicrowordTestsAndFlow :
    (∃ (s : State) (w : Fin 64) (m : MicroArgs), WordRuns s.core w.val (wordOf 0x00 m)) ∧
    (∃ (s : State) (w : Fin 64) (m : MicroArgs), WordRuns s.core w.val (wordOf 0x10 m)) ∧
    (∃ (s : State) (w : Fin 64) (m : MicroArgs), WordRuns s.core w.val (wordOf 0x11 m)) ∧
    (∃ (s : State) (w : Fin 64) (m : MicroArgs), WordRuns s.core w.val (wordOf 0x12 m)) ∧
    (∃ (s : State) (w : Fin 64) (m : MicroArgs), WordRuns s.core w.val (wordOf 0x13 m) ∧ m.a.toNat ≠ 8) ∧
    (∃ (s : State) (w : Fin 64) (m : MicroArgs), WordRuns s.core w.val (wordOf 0x13 m) ∧ m.a.toNat = 8) ∧
    (∃ (s : State) (w : Fin 64) (m : MicroArgs), (let c := atWord s.core w.val; WordRuns s.core w.val (wordOf 0x14 m) ∧ condHolds c w.val m.a.toNat = false)) ∧
    (∃ (s : State) (w : Fin 64) (m : MicroArgs), (let c := atWord s.core w.val; WordRuns s.core w.val (wordOf 0x14 m) ∧ condHolds c w.val m.a.toNat = true)) ∧
    (∃ (s : State) (w : Fin 64) (m : MicroArgs), (let c := atWord s.core w.val; WordRuns s.core w.val (wordOf 0x15 m) ∧ (csRegion (nanoMode s.core w.val) (getW s.core w.val).micro.upc).1 ≤ regRead c w.val m.b.toNat % 2 ^ 13 ∧ regRead c w.val m.b.toNat % 2 ^ 13 ≤ (csRegion (nanoMode s.core w.val) (getW s.core w.val).micro.upc).2)) ∧
    (∃ (s : State) (w : Fin 64) (m : MicroArgs), (let c := atWord s.core w.val; WordRuns s.core w.val (wordOf 0x16 m) ∧ (ctrOf c w.val m.a.toNat).active = false)) ∧
    (∃ (s : State) (w : Fin 64) (m : MicroArgs), (let c := atWord s.core w.val; WordRuns s.core w.val (wordOf 0x16 m) ∧ (ctrOf c w.val m.a.toNat).active = true ∧ (ctrOf c w.val m.a.toNat).owner = (getW c w.val).k ∧ 1 < (ctrOf c w.val m.a.toNat).value)) ∧
    (∃ (s : State) (w : Fin 64) (m : MicroArgs), (let c := atWord s.core w.val; WordRuns s.core w.val (wordOf 0x16 m) ∧ (ctrOf c w.val m.a.toNat).active = true ∧ (ctrOf c w.val m.a.toNat).owner = (getW c w.val).k ∧ (ctrOf c w.val m.a.toNat).value ≤ 1)) ∧
    (∃ (s : State) (w : Fin 64) (m : MicroArgs), WordRuns s.core w.val (wordOf 0x17 m)) ∧
    (∃ (s : State) (w : Fin 64) (m : MicroArgs), (let c := atWord s.core w.val; WordRuns s.core w.val (wordOf 0x18 m) ∧ (getW c w.val).stack.length < 16)) ∧
    (∃ (s : State) (w : Fin 64) (m : MicroArgs) (l : List Nat) (v : Nat), (let c := atWord s.core w.val; WordRuns s.core w.val (wordOf 0x19 m) ∧ (getW c w.val).stack = l ++ [v])) ∧
    (∃ (s : State) (w : Fin 64) (m : MicroArgs), WordRuns s.core w.val (wordOf 0x01 m)) ∧
    (∃ (s : State) (w : Fin 64) (m : MicroArgs) (n : _), emitting s.core w.val = true ∧ (getW s.core w.val).micro.phase = .running ∧ (getW s.core w.val).micro.handler = some n ∧ m.wait = 0 ∧ (getW s.core w.val).micro.stalled = false ∧ (getW s.core w.val).micro.cycles + m.cyc.toNat + 1 ≤ windowCycles (getW s.core w.val)) ∧
    (∃ (s : State) (w : Fin 64) (m : MicroArgs), emitting s.core w.val = true ∧ (getW s.core w.val).micro.phase = .running ∧ (getW s.core w.val).micro.prog = true ∧ (getW s.core w.val).micro.stalled = false) :=
  ⟨⟨block (microCore runningWeaver), 0, { microArgs with a := 7 }, by unfold WordRuns; decide +kernel⟩,
   ⟨block (microCore runningWeaver), 0, { microArgs with a := 7 }, by unfold WordRuns; decide +kernel⟩,
   ⟨block (microCore runningWeaver), 0, { microArgs with a := 7 }, by unfold WordRuns; decide +kernel⟩,
   ⟨block (microCore runningWeaver), 0, { microArgs with a := 7 }, by unfold WordRuns; decide +kernel⟩,
   ⟨block (microCore runningWeaver), 0, { microArgs with a := 7 }, by unfold WordRuns; decide +kernel, by decide +kernel⟩,
   ⟨block (microCore runningWeaver), 0, { microArgs with a := 8 }, by unfold WordRuns; decide +kernel, by decide +kernel⟩,
   ⟨block (microCore runningWeaver), 0, { microArgs with a := 1 }, by unfold WordRuns; decide +kernel, by decide +kernel⟩,
   ⟨block (microCore runningWeaver), 0, { microArgs with a := 0 }, by unfold WordRuns; decide +kernel, by decide +kernel⟩,
   ⟨block (microCore runningWeaver), 0, microArgs, by unfold WordRuns; decide +kernel, by decide +kernel⟩,
   ⟨block (microCore runningWeaver), 0, { microArgs with a := 0 }, by unfold WordRuns; decide +kernel, by decide +kernel⟩,
   ⟨block (microCore { runningWeaver with rc := { value := 2, active := true } }), 0, { microArgs with a := 0 }, by unfold WordRuns; decide +kernel, by decide +kernel⟩,
   ⟨block (microCore { runningWeaver with rc := { value := 1, active := true } }), 0, { microArgs with a := 0 }, by unfold WordRuns; decide +kernel, by decide +kernel⟩,
   ⟨block (microCore runningWeaver), 0, { microArgs with a := 15 }, by unfold WordRuns; decide +kernel⟩,
   ⟨block (microCore { runningWeaver with stack := List.replicate 15 1 }), 0, microArgs, by unfold WordRuns; decide +kernel, by decide +kernel⟩,
   ⟨block (microCore { runningWeaver with stack := [3, 4] }), 0, microArgs, [3], 4, by unfold WordRuns; decide +kernel, by decide +kernel⟩,
   ⟨block (microCore runningWeaver), 0, { microArgs with a := 7 }, by unfold WordRuns; decide +kernel⟩,
   ⟨block (microCore { runningWeaver with micro := { phase := .running, handler := some 2 } }), 0, microArgs, 2, by decide +kernel⟩,
   ⟨block (microCore runningWeaver), 0, microArgs, by decide +kernel⟩⟩

theorem witness_MicrowordSegmentEffects :
    (∃ (s : State) (w : Fin 64) (m : MicroArgs), (let c := atWord s.core w.val; (let x := getW c w.val; WordRuns s.core w.val (wordOf 0x1A m) ∧ x.inHold = false ∧ x.tailed = false ∧ 12 < x.e))) ∧
    (∃ (s : State) (w : Fin 64) (m : MicroArgs), (let c := atWord s.core w.val; (let x := getW c w.val; WordRuns s.core w.val (wordOf 0x1A m) ∧ x.inHold = false ∧ x.tailed = false ∧ x.e ≤ 12))) ∧
    (∃ (s : State) (w : Fin 64) (m : MicroArgs), (let c := atWord s.core w.val; (let x := getW c w.val; WordRuns s.core w.val (wordOf 0x1A m) ∧ (x.inHold = true ∨ x.tailed = true)))) ∧
    (∃ (s : State) (w : Fin 64) (m : MicroArgs), WordRuns s.core w.val (wordOf 0x1B m)) ∧
    (∃ (s : State) (w : Fin 64) (m : MicroArgs), WordRuns s.core w.val (wordOf 0x1C m)) ∧
    (∃ (s : State) (w : Fin 64) (m : MicroArgs), WordRuns s.core w.val (wordOf 0x1D m)) ∧
    (∃ (s : State) (w : Fin 64) (m : MicroArgs), WordRuns s.core w.val (wordOf 0x1E m)) ∧
    (∃ (s : State) (w : Fin 64) (m : MicroArgs), (let c := atWord s.core w.val; WordRuns s.core w.val (wordOf 0x1F m) ∧ (getW s.core w.val).lists.length < 16 ∧ regRead c w.val m.b.toNat % 2 ^ 16 ≠ 0)) ∧
    (∃ (s : State) (w : Fin 64) (m : MicroArgs), (let c := atWord s.core w.val; (let x := getW c w.val; WordRuns s.core w.val (wordOf 0x20 m) ∧ (getW s.core w.val).recq.length < 8 ∧ x.inHold = false))) ∧
    (∃ (s : State) (w : Fin 64) (m : MicroArgs), (let c := atWord s.core w.val; (let x := getW c w.val; WordRuns s.core w.val (wordOf 0x20 m) ∧ (getW s.core w.val).recq.length < 8 ∧ x.inHold = true))) ∧
    (∃ (s : State) (w : Fin 64) (m : MicroArgs), WordRuns s.core w.val (wordOf 0x21 m)) ∧
    (∃ (s : State) (w : Fin 64) (m : MicroArgs), WordRuns s.core w.val (wordOf 0x22 m)) ∧
    (∃ (s : State) (w : Fin 64) (m : MicroArgs), WordRuns s.core w.val (wordOf 0x23 m)) ∧
    (∃ (s : State) (w : Fin 64) (m : MicroArgs), WordRuns s.core w.val (wordOf 0x24 m)) :=
  ⟨⟨block (microCore { runningWeaver with e := 13 }), 0, microArgs, by unfold WordRuns; decide +kernel, by decide +kernel⟩,
   ⟨block (microCore runningWeaver), 0, microArgs, by unfold WordRuns; decide +kernel, by decide +kernel⟩,
   ⟨block (microCore { runningWeaver with inHold := true }), 0, microArgs, by unfold WordRuns; decide +kernel, by decide +kernel⟩,
   ⟨block (microCore runningWeaver), 0, microArgs, by unfold WordRuns; decide +kernel⟩,
   ⟨block (microCore runningWeaver), 0, microArgs, by unfold WordRuns; decide +kernel⟩,
   ⟨block (microCore runningWeaver), 0, microArgs, by unfold WordRuns; decide +kernel⟩,
   ⟨block (microCore runningWeaver), 0, microArgs, by unfold WordRuns; decide +kernel⟩,
   ⟨block (microCore { runningWeaver with micro := { phase := .running, prog := true, g := [(0, 5)] } }), 0, microArgs, by unfold WordRuns; decide +kernel, by decide +kernel⟩,
   ⟨block (microCore runningWeaver), 0, { microArgs with a := 1 }, by unfold WordRuns; decide +kernel, by decide +kernel⟩,
   ⟨block (microCore { runningWeaver with inHold := true }), 0, { microArgs with a := 1 }, by unfold WordRuns; decide +kernel, by decide +kernel⟩,
   ⟨block (microCore runningWeaver), 0, microArgs, by unfold WordRuns; decide +kernel⟩,
   ⟨block (microCore runningWeaver), 0, { microArgs with a := 15 }, by unfold WordRuns; decide +kernel⟩,
   ⟨block (microCore runningWeaver), 0, { microArgs with a := 15 }, by unfold WordRuns; decide +kernel⟩,
   ⟨block (microCore runningWeaver), 0, { microArgs with a := 15 }, by unfold WordRuns; decide +kernel⟩⟩

theorem witness_ControlStoreObjects :
    (∃ (s : State) (w : Fin 64) (n : Fin 8), emitting s.core w.val = true ∧ mget 0 (getW s.core w.val).micro.mt n.val ≠ 0 ∧ clockBit s.core 4 = true) ∧
    (∃ (s : State) (w : Fin 64) (v : Byte), Open s.core ∧ InModes s.core [.standby, .warm] ∧ v.toNat ≤ 1) ∧
    (∃ (s : State) (w : Fin 64) (data : List Byte), Open s.core ∧ userPartOk data = true ∧ rd s.core (wk w.val 0xE) = 1 ∧ rd s.core (wk w.val 0x12) ≠ 1 ∧ nanoMode s.core w.val = false) ∧
    (∃ (s : State) (w : Fin 64), Open s.core ∧ rd s.core (wk w.val 0xE) = 1 ∧ (wState s.core w.val = 0 ∨ wState s.core w.val = 4)) ∧
    (∃ (s : State) (w : Fin 64), Open s.core ∧ rd s.core (wk w.val 0xE) = 1 ∧ wState s.core w.val ≠ 0 ∧ wState s.core w.val ≠ 4) :=
  ⟨⟨block { coreAt 5 [(wk 0 1, 2), (clockKey, 16)] with weavers := [(0, { micro := { mt := [(7, 100)] } })] }, 0, 7, by decide +kernel⟩,
   ⟨block (coreAt 3 []), 63, 1, by unfold Open; decide +kernel, ⟨.warm, by simp, by decide +kernel⟩, by decide +kernel⟩,
   ⟨block (coreAt 3 [(wk 0 0xE, 1), (wk 0 0x12, 0), (wk 0 0xC, 0)]), 0, List.replicate 128 0, by unfold Open; decide +kernel, by decide +kernel⟩,
   ⟨block (coreAt 3 [(wk 0 0xE, 1), (wk 0 1, 4)]), 0, by unfold Open; decide +kernel, by decide +kernel⟩,
   ⟨block (coreAt 3 [(wk 0 0xE, 1), (wk 0 1, 2)]), 0, by unfold Open; decide +kernel, by decide +kernel⟩⟩

theorem witness_ComparatorsAndPinObjects :
    (∃ (s : State) (p : Fin 256) (lv : Bool) (t : BitVec 64), rd s.core (pk p.val 9) = 0) ∧
    (∃ (s : State) (p : Fin 256) (line : CmpLine) (lv : Bool) (t : BitVec 64), (let x := getPin s.core p.val; (let new := polarLevel s.core p.val line lv; rd s.core (pk p.val 9) ≠ 0 ∧ candOf x line = none ∧ lastAccepted x line ≠ new))) ∧
    (∃ (s : State) (p : Fin 256) (line : CmpLine) (t : Nat) (lv : Bool), candOf (getPin s.core p.val) line = some (t, lv)) ∧
    (∃ (s : State) (p : Fin 256) (e : Nat), holdoffEndOf s.core p.val = some e) ∧
    (∃ (s : State) (p : Fin 256) (data : List Byte), Open s.core ∧ data.length = 4096 ∧ badTset data 64 = none ∧ rd s.core (tk p.val 4) ≠ 1) ∧
    (∃ (s : State) (p : Fin 256) (data : List Byte) (n : Nat) (st : Status), Open s.core ∧ data.length = 4096 ∧ badTset data 64 = some (n, st)) ∧
    (∃ (s : State) (p : Fin 256), (let w := quadWeaver s.core (p.val / 4); Open s.core ∧ rd s.core (tk p.val 5) ≤ 1 ∧ (64 ≤ w ∨ wState s.core w = 0 ∨ wState s.core w = 4))) ∧
    (∃ (s : State) (p : Fin 256), (let w := quadWeaver s.core (p.val / 4); Open s.core ∧ rd s.core (tk p.val 5) ≤ 1 ∧ w < 64 ∧ wState s.core w ≠ 0 ∧ wState s.core w ≠ 4)) ∧
    (∃ (s : State) (p : Fin 256) (mask : BitVec 32), Open s.core) :=
  ⟨⟨block (coreAt 5 [(pk 255 9, 0)]), 255, true, 0, by decide +kernel⟩,
   ⟨block (coreAt 5 [(pk 0 9, 1)]), 0, .high, true, 4096, by decide +kernel⟩,
   ⟨block { coreAt 5 [] with pins := [(0, { candH := some (4096, true) })] }, 0, .high, 4096, true, by decide +kernel⟩,
   ⟨block { coreAt 5 [(pk 0 4, 4), (pk 0 9, 1)] with pins := [(0, { trans := [⟨4096, true, true⟩], force := { holdoff := 4 } })] }, 0, 8192, by decide +kernel⟩,
   ⟨block (coreAt 5 [(tk 0 4, 0)]), 0, List.replicate 4096 0, by unfold Open; decide +kernel, by decide +kernel⟩,
   ⟨block (coreAt 5 []), 0, List.replicate 4096 0xFF, 0, stOutOfRange, by unfold Open; decide +kernel, by decide +kernel⟩,
   ⟨block (coreAt 5 [(tk 4 5, 1), (mkKey 0x20C1 1, 3), (wk 3 1, 4)]), 4, by unfold Open; decide +kernel, by decide +kernel⟩,
   ⟨block (coreAt 5 [(tk 4 5, 1), (mkKey 0x20C1 1, 3), (wk 3 1, 2)]), 4, by unfold Open; decide +kernel, by decide +kernel⟩,
   ⟨block {}, 255, 0xFFFFFFFF, by unfold Open; decide +kernel⟩⟩

theorem witness_ControlPorts :
    (∃ (s : State) (k : Fin 16) (data : List Byte), Open s.core ∧ 8 ≤ data.length ∧ data.length ≤ 65536 ∧ leAt data 0 4 ≤ 4096 ∧ leAt data 4 4 = 0 ∧ 8 + 8 * leAt data 0 4 ≤ data.length ∧ firstBadEntry data (leAt data 0 4) = none) ∧
    (∃ (s : State) (k : Fin 16) (data : List Byte) (i : _), Open s.core ∧ 8 ≤ data.length ∧ data.length ≤ 65536 ∧ leAt data 0 4 ≤ 4096 ∧ leAt data 4 4 = 0 ∧ 8 + 8 * leAt data 0 4 ≤ data.length ∧ firstBadEntry data (leAt data 0 4) = some i) ∧
    (∃ (s : State) (k : Fin 16) (n : BitVec 16), (let p := getPec s.core k.val; Open s.core ∧ InModes s.core [.standby, .warm, .calibrate, .run, .service] ∧ n ≠ 0 ∧ p.queue.length < 64)) ∧
    (∃ (s : State) (k : Fin 16) (n : BitVec 16), (let p := getPec s.core k.val; Open s.core ∧ InModes s.core [.standby, .warm, .calibrate, .run, .service] ∧ n ≠ 0 ∧ 64 ≤ p.queue.length)) ∧
    (∃ (s : State) (w : Fin 64) (n : Nat) (rest : List Nat), (let x := getW s.core w.val; x.lists = n :: rest ∧ x.micro.stalled = false ∧ (∀ k ∈ portsOf s.core w.val n, (getPec s.core k).queue.length < 64))) ∧
    (∃ (s : State) (w : Fin 64) (n : Nat) (rest : List Nat), (let x := getW s.core w.val; x.lists = n :: rest ∧ x.micro.stalled = false ∧ (∃ k ∈ portsOf s.core w.val n, 64 ≤ (getPec s.core k).queue.length))) ∧
    (∃ (s : State) (k : Fin 16) (e : PortList) (rest : List PortList) (off : _) (frames : _), (let p := getPec s.core k.val; p.active = none ∧ p.queue = e :: rest ∧ findList (listStore s.core k.val) e.list = some (off, frames))) ∧
    (∃ (s : State) (k : Fin 16) (e : PortList) (rest : List PortList), (let p := getPec s.core k.val; p.active = none ∧ p.queue = e :: rest ∧ findList (listStore s.core k.val) e.list = none)) ∧
    (∃ (s : State) (k : Fin 16) (store : List Byte) (off : Nat) (left : Nat) (sdi : List Bool), (let p := getPec s.core k.val; p.active = some (store, off, left))) :=
  ⟨⟨block (coreAt 5 []), 0, leBytes 16 (1 + 5 * 2 ^ 64 + 1 * 2 ^ 80 + 16 * 2 ^ 96) ++ leBytes 8 8, by unfold Open; decide +kernel, by decide +kernel⟩,
   ⟨block (coreAt 5 []), 0, leBytes 16 1, 0, by unfold Open; decide +kernel, by decide +kernel⟩,
   ⟨block (coreAt 6 []), 15, 1, by unfold Open; decide +kernel, ⟨.service, by simp, by decide +kernel⟩, by decide +kernel⟩,
   ⟨block { coreAt 6 [] with pecs := [(15, { queue := List.replicate 64 ⟨1, .host, 0⟩ })] }, 15, 1, by unfold Open; decide +kernel, ⟨.service, by simp, by decide +kernel⟩, by decide +kernel⟩,
   ⟨block { coreAt 5 [] with weavers := [(0, { lists := [5] })] }, 0, 5, [], by decide +kernel⟩,
   ⟨block { coreAt 5 [(mkKey 0x20C0 1, 0)] with weavers := [(0, { lists := [5] })], doms := [(ck 0 5, leBytes 16 (1 + 5 * 2 ^ 64 + 1 * 2 ^ 80 + 16 * 2 ^ 96) ++ leBytes 8 8)], pecs := [(0, { queue := List.replicate 64 ⟨1, .host, 0⟩ })] }, 0, 5, [], by decide +kernel⟩,
   ⟨block { coreAt 5 [] with doms := [(ck 0 5, leBytes 16 (1 + 5 * 2 ^ 64 + 1 * 2 ^ 80 + 16 * 2 ^ 96) ++ leBytes 8 8)], pecs := [(0, { queue := [⟨5, .host, 0⟩] })] }, 0, ⟨5, .host, 0⟩, [], 16, 1, by decide +kernel⟩,
   ⟨block { coreAt 5 [] with pecs := [(0, { queue := [⟨5, .host, 0⟩] })] }, 0, ⟨5, .host, 0⟩, [], by decide +kernel⟩,
   ⟨block { coreAt 5 [] with pecs := [(0, { active := some (leBytes 16 (1 + 5 * 2 ^ 64 + 1 * 2 ^ 80 + 16 * 2 ^ 96) ++ leBytes 8 8, 16, 1) })] }, 0, leBytes 16 (1 + 5 * 2 ^ 64 + 1 * 2 ^ 80 + 16 * 2 ^ 96) ++ leBytes 8 8, 16, 1, [], by decide +kernel⟩⟩

theorem witness_CalibrationCommands :
    (∃ (s : State), rd s.core (gk 1) ≠ 1) ∧
    (∃ (s : State), rd s.core (gk 1) = 1) ∧
    (∃ (s : State), s.core.cal.rebuilding.isSome = true ∧ s.core.cal.rebuildAgain = false) ∧
    (∃ (s : State) (w : Fin 64), bit (rd s.core (gk 4)) w.val = true ∧ (getW s.core w.val).swapRaised = false) ∧
    (∃ (s : State) (e : BitVec 64), Open s.core ∧ (e = 0 ∨ epochNow s.core + 2 ≤ e.toNat ∧ e.toNat ≤ epochNow s.core + 2 ^ 32 ∧ noDeviceId s.core = false)) ∧
    (∃ (s : State) (e : BitVec 64), Open s.core ∧ e ≠ 0 ∧ e.toNat < epochNow s.core + 2) ∧
    (∃ (s : State) (e : BitVec 64), Open s.core ∧ epochNow s.core + 2 ^ 32 < e.toNat) ∧
    (∃ (s : State), Open s.core ∧ InModes s.core [.calibrate]) ∧
    (∃ (s : State) (rs : List CalResult), s.core.cal.fgRunning = true) ∧
    (∃ (s : State), Open s.core ∧ InModes s.core [.calibrate] ∧ s.core.cal.fgDone = true) ∧
    (∃ (s : State), Open s.core ∧ InModes s.core [.calibrate] ∧ s.core.cal.fgDone = false) ∧
    (∃ (s : State) (p : Fin 256) (v : BitVec 64), Open s.core ∧ bit v.toNat 39 = false ∧ bits v.toNat 40 5 ≤ 19 ∧ bits v.toNat 45 19 = 0) :=
  ⟨⟨block (coreAt 5 [(gk 1, 0)]), by decide +kernel⟩,
   ⟨block (coreAt 5 [(gk 1, 1)]), by decide +kernel⟩,
   ⟨block { cal := { rebuilding := some 1 } }, by decide +kernel⟩,
   ⟨block (coreAt 5 [(gk 4, 2 ^ 63)]), 63, by decide +kernel⟩,
   ⟨block (coreAt 5 [(mkKey 0x1300 1, 0), (mkKey 0x6020 0, 1)]), 2, by unfold Open; decide +kernel, by decide +kernel⟩,
   ⟨block (coreAt 5 [(mkKey 0x1300 1, 0)]), 1, by unfold Open; decide +kernel, by decide +kernel⟩,
   ⟨block (coreAt 5 [(mkKey 0x1300 1, 0)]), 4294967297, by unfold Open; decide +kernel, by decide +kernel⟩,
   ⟨block (coreAt 4 []), by unfold Open; decide +kernel, ⟨.calibrate, by simp, by decide +kernel⟩⟩,
   ⟨block { cal := { fgRunning := true } }, [], by decide +kernel⟩,
   ⟨block { coreAt 4 [] with cal := { fgDone := true } }, by unfold Open; decide +kernel, ⟨.calibrate, by simp, by decide +kernel⟩, by decide +kernel⟩,
   ⟨block (coreAt 4 []), by unfold Open; decide +kernel, ⟨.calibrate, by simp, by decide +kernel⟩, by decide +kernel⟩,
   ⟨block (coreAt 4 []), 255, BitVec.ofNat 64 (19 * 2 ^ 40), by unfold Open; decide +kernel, by decide +kernel⟩⟩

theorem witness_RecordsReachTheirPlace :
    (∃ (s : State) (n : BitVec 16), nextStaged s.core n.toNat = none) ∧
    (∃ (s : State) (n : BitVec 16) (x : Staged), nextStaged s.core n.toNat = some x ∧ crcOk x.bytes = true ∧ goesToRing x.dest x.bytes = true ∧ ringTakes s.core n.toNat (unitsOf x.bytes) = false) ∧
    (∃ (s : State) (n : BitVec 16) (x : Staged) (a : Nat), nextStaged s.core n.toNat = some x ∧ (let e := streamEntry s.core n.toNat; (let bytes := (checkedRecord s.core x).1; (let c := (checkedRecord s.core x).2; (let st := getStream c n.toNat; goesToRing x.dest bytes = true ∧ (bytes.length = 32 ∨ bytes.length = 64) ∧ goesToBoom x.dest bytes = false ∧ ringTakes s.core n.toNat (unitsOf bytes) = true ∧ (∀ k < unitsOf bytes, a < ringAddr e (st.ringPos + k) ∨ ringAddr e (st.ringPos + k) + 32 ≤ a)))))) ∧
    (∃ (s : State) (x : Staged), crcOk x.bytes = true) ∧
    (∃ (s : State) (x : Staged), crcOk x.bytes = false) ∧
    (∃ (s : State) (n : BitVec 16) (x : Staged), nextStaged s.core n.toNat = some x ∧ crcOk x.bytes = true ∧ x.dest = 0 ∧ recKind x.bytes < 8) ∧
    (∃ (s : State) (data : List Byte), Open s.core ∧ data.length ≤ 2097152 ∧ 0 < data.length ∧ data.length % 32 = 0 ∧ streamTableStatus data = none ∧ (∀ n ∈ usedStreams s.core, slice (dom s.core (mkKey 0x5C01 0)) (32 * n) 32 = slice data (32 * n) 32)) ∧
    (∃ (s : State) (data : List Byte), Open s.core ∧ data.length ≤ 2097152 ∧ 0 < data.length ∧ data.length % 32 = 0 ∧ streamTableStatus data = none ∧ (∃ n ∈ usedStreams s.core, slice (dom s.core (mkKey 0x5C01 0)) (32 * n) 32 ≠ slice data (32 * n) 32)) ∧
    (∃ (s : State) (data : List Byte) (st : Status), Open s.core ∧ data.length ≤ 2097152 ∧ 0 < data.length ∧ data.length % 32 = 0 ∧ streamTableStatus data = some st) :=
  ⟨⟨block {}, 0, by decide +kernel⟩,
   ⟨block { stagedCore (stagedA (unitRecord 0) 1) [] with doms := [] }, 0, stagedA (unitRecord 0) 1, by decide +kernel⟩,
   ⟨block (stagedCore (stagedA (unitRecord 0) 1) []), 0, stagedA (unitRecord 0) 1, 32, by decide +kernel, rfl, by decide +kernel⟩,
   ⟨block {}, stagedA (unitRecord 0) 1, by decide +kernel⟩,
   ⟨block {}, stagedA [] 1, by decide +kernel⟩,
   ⟨block (stagedCore (stagedA (unitRecord 0) 0) []), 0, stagedA (unitRecord 0) 0, by decide +kernel⟩,
   ⟨block (coreAt 3 []), streamTable, by unfold Open; decide +kernel, by decide +kernel⟩,
   ⟨block { coreAt 3 [(wk 0 1, 1), (mkKey 0x20C0 1, 0), (mkKey 0x20C0 2, 0)] with weavers := [(0, runningWeaver)] }, streamTable, by unfold Open; decide +kernel, by decide +kernel⟩,
   ⟨block (coreAt 3 []), List.replicate 32 0xFF, stOutOfRange, by unfold Open; decide +kernel, by decide +kernel⟩⟩

theorem witness_JournalRecords :
    (∃ (s : State) (a : EmramWrite), (s.core.journal.closed = true ∨ s.core.journal.waiting = [])) ∧
    (∃ (s : State), s.core.journal.closed = false ∧ s.core.journal.waiting ≠ []) ∧
    (∃ (s : State) (j : Journal), (let carry := carried j.slots j.head; (let taken := takeGroups s.core j.waiting (14 - carry.length) []; (let entries := (carry.filter (fun e => !taken.any (fun t => t.kind == e.kind && t.id == e.id)) ++ taken).take 14; s.core.journal = j ∧ j.closed = false ∧ j.waiting ≠ [] ∧ entries ≠ [])))) :=
  ⟨⟨block {}, .good, by decide +kernel⟩,
   ⟨block { journal := { waiting := [⟨7, 0, 0, false, 0, 0, []⟩] } }, by decide +kernel⟩,
   ⟨block { journal := { waiting := [⟨7, 0, 0, false, 0, 0, []⟩] } }, { waiting := [⟨7, 0, 0, false, 0, 0, []⟩] }, by decide +kernel⟩⟩

theorem witness_StreamTransportFrames :
    (∃ (s : State) (n : BitVec 16) (host : HostAddr) (p : Nat) (h : Held), (let st := getStream s.core n.toNat; (let top := min st.journal (st.lastAck + st.window); (let again := decide (heldSeq h ≤ st.everSent); (let r := gather 256 s.mem s.core n.toNat st.sent top (frameUnits s.core p) again; r.1 ≠ [] ∧ st.bound = some host ∧ streamPort s.core (streamEntry s.core n.toNat).port st.eth = some p ∧ stStopped s.core = false ∧ (pairState s.core = 5 → (streamEntry s.core n.toNat).mirror = false) ∧ pairState s.core ≠ 4 ∧ (s.core.hbm.training = false ∨ st.ring = []) ∧ nextHeld s.core n.toNat st.sent top = some h))))) ∧
    (∃ (s : State) (f : StFrame) (key : Option (List Byte)), stAccept s.core stTypeOpen f = .ok key ∧ (pairState s.core ≠ 4 ∧ forOwn s.core f = true ∧ (authRequired s.core = true → key.isSome = true)) ∧ (let st := getStream s.core f.stream.toNat; st.acked + 1 ≤ f.seq.toNat ∧ f.seq.toNat ≤ st.next)) ∧
    (∃ (s : State) (f : StFrame) (key : Option (List Byte)), stAccept s.core stTypeOpen f = .ok key ∧ (pairState s.core ≠ 4 ∧ forOwn s.core f = true ∧ (authRequired s.core = true → key.isSome = true)) ∧ (let st := getStream s.core f.stream.toNat; f.seq.toNat < st.acked + 1)) ∧
    (∃ (s : State) (f : StFrame) (key : Option (List Byte)), stAccept s.core stTypeAck f = .ok key ∧ (pairState s.core ≠ 4 ∧ forOwn s.core f = true ∧ (authRequired s.core = true → key.isSome = true)) ∧ (let st := getStream s.core f.stream.toNat; st.bound = some f.src ∧ f.seq.toNat < st.lastAck)) ∧
    (∃ (s : State) (f : StFrame) (key : Option (List Byte)), stAccept s.core stTypeAck f = .ok key ∧ (pairState s.core ≠ 4 ∧ forOwn s.core f = true ∧ (authRequired s.core = true → key.isSome = true)) ∧ (let st := getStream s.core f.stream.toNat; st.bound = some f.src ∧ st.lastAck ≤ f.seq.toNat ∧ st.everSent < f.seq.toNat)) ∧
    (∃ (s : State) (f : StFrame) (key : Option (List Byte)), stAccept s.core stTypeAck f = .ok key ∧ (pairState s.core ≠ 4 ∧ forOwn s.core f = true ∧ (authRequired s.core = true → key.isSome = true)) ∧ (let st := getStream s.core f.stream.toNat; st.bound = some f.src ∧ st.lastAck ≤ f.seq.toNat ∧ f.seq.toNat ≤ st.everSent)) ∧
    (∃ (m : Mem) (c : Core) (n : Nat) (seq : Nat), c.booms = [] ∧ (getStream c n).acked < seq) ∧
    (∃ (s : State) (f : StFrame) (key : Option (List Byte)), stAccept s.core stTypeNak f = .ok key ∧ (pairState s.core ≠ 4 ∧ forOwn s.core f = true ∧ (authRequired s.core = true → key.isSome = true)) ∧ (let st := getStream s.core f.stream.toNat; st.bound = some f.src ∧ f.seq.toNat ≤ st.everSent)) ∧
    (∃ (s : State) (f : StFrame) (key : Option (List Byte)), stAccept s.core stTypeNak f = .ok key ∧ (pairState s.core ≠ 4 ∧ forOwn s.core f = true ∧ (authRequired s.core = true → key.isSome = true)) ∧ (let st := getStream s.core f.stream.toNat; st.bound = some f.src ∧ st.everSent < f.seq.toNat)) ∧
    (∃ (s : State) (f : StFrame) (key : Option (List Byte)), stAccept s.core stTypeClose f = .ok key ∧ (pairState s.core ≠ 4 ∧ forOwn s.core f = true ∧ (authRequired s.core = true → key.isSome = true)) ∧ (let st := getStream s.core f.stream.toNat; st.bound = some f.src)) ∧
    (∃ (s : State) (n : BitVec 16), (let st := getStream s.core n.toNat; st.bound.isSome = true ∧ st.acked < st.sent)) :=
  ⟨⟨{ block { coreAt 5 [(ek 0 8, 2), (ek 0 2, 1), (mkKey 0x6020 0, 1)] with streams := [(0, { boundStream with ring := [⟨5, 0, 1⟩] })], doms := [(mkKey 0x5C01 0, streamTable)] } with mem := store {} 0 (unitRecord 0) }, 0, hostA, 0, .ring ⟨5, 0, 1⟩, by rw [show (256 : Nat) = 254 + 2 from rfl, gather_one 254 _ _ _ _ _ _ _ _ (.ring ⟨5, 0, 1⟩) _ (by decide +kernel) rfl (egress_ring _ _ _ _ (by decide +kernel) (by decide +kernel)) (by decide +kernel) (by decide +kernel)]; exact List.cons_ne_nil _ _, by decide +kernel⟩,
   ⟨block (boundCore boundStream), stSealed stTypeOpen (stFrame 3), none, st_accepted _ _ _ (by decide +kernel) (by decide +kernel) (by decide +kernel) (by decide +kernel) (by decide +kernel) (by decide +kernel), by decide +kernel, by decide +kernel⟩,
   ⟨block (boundCore boundStream), stSealed stTypeOpen (stFrame 2), none, st_accepted _ _ _ (by decide +kernel) (by decide +kernel) (by decide +kernel) (by decide +kernel) (by decide +kernel) (by decide +kernel), by decide +kernel, by decide +kernel⟩,
   ⟨block (boundCore boundStream), stSealed stTypeAck (stFrame 1), none, st_accepted _ _ _ (by decide +kernel) (by decide +kernel) (by decide +kernel) (by decide +kernel) (by decide +kernel) (by decide +kernel), by decide +kernel, by decide +kernel⟩,
   ⟨block (boundCore boundStream), stSealed stTypeAck (stFrame 6), none, st_accepted _ _ _ (by decide +kernel) (by decide +kernel) (by decide +kernel) (by decide +kernel) (by decide +kernel) (by decide +kernel), by decide +kernel, by decide +kernel⟩,
   ⟨block (boundCore boundStream), stSealed stTypeAck (stFrame 5), none, st_accepted _ _ _ (by decide +kernel) (by decide +kernel) (by decide +kernel) (by decide +kernel) (by decide +kernel) (by decide +kernel), by decide +kernel, by decide +kernel⟩,
   ⟨{}, {}, 0, 1, by decide +kernel⟩,
   ⟨block (boundCore boundStream), stSealed stTypeNak (stFrame 4), none, st_accepted _ _ _ (by decide +kernel) (by decide +kernel) (by decide +kernel) (by decide +kernel) (by decide +kernel) (by decide +kernel), by decide +kernel, by decide +kernel⟩,
   ⟨block (boundCore boundStream), stSealed stTypeNak (stFrame 6), none, st_accepted _ _ _ (by decide +kernel) (by decide +kernel) (by decide +kernel) (by decide +kernel) (by decide +kernel) (by decide +kernel), by decide +kernel, by decide +kernel⟩,
   ⟨block (boundCore boundStream), stSealed stTypeClose (stFrame 4), none, st_accepted _ _ _ (by decide +kernel) (by decide +kernel) (by decide +kernel) (by decide +kernel) (by decide +kernel) (by decide +kernel), by decide +kernel, by decide +kernel⟩,
   ⟨block (boundCore boundStream), 0, by decide +kernel⟩⟩

theorem witness_TimeToDigitalConverters :
    (∃ (s : State) (ch : Fin 264), Open s.core ∧ InModes s.core [.warm, .calibrate, .run] ∧ gateOk s.core ch.val = true ∧ measuring s.core ch.val = false) ∧
    (∃ (s : State) (ch : Fin 264), Open s.core ∧ InModes s.core [.warm, .calibrate, .run] ∧ gateOk s.core ch.val = true ∧ measuring s.core ch.val = true) ∧
    (∃ (s : State) (ch : Fin 264), Open s.core ∧ InModes s.core [.warm, .calibrate, .run] ∧ (let x := getTdc s.core ch.val; tdcDue s.core ch.val s.core.stamp = s.core ∧ live s.core ch.val = true ∧ (x.cfg.ringEntries = 0 ∨ x.fifo.length < 256))) ∧
    (∃ (s : State) (ch : Fin 264), Open s.core ∧ InModes s.core [.warm, .calibrate, .run] ∧ (let x := getTdc s.core ch.val; tdcDue s.core ch.val s.core.stamp = s.core ∧ live s.core ch.val = true ∧ x.cfg.ringEntries ≠ 0 ∧ 256 ≤ x.fifo.length)) ∧
    (∃ (s : State) (ch : Fin 264), Open s.core ∧ InModes s.core [.warm, .calibrate, .run] ∧ live s.core ch.val = false) ∧
    (∃ (s : State) (e : TdcEdge), stampsRun s.core = false) ∧
    (∃ (s : State) (e : TdcEdge), (let x := getTdc s.core e.ch.val; (let ns := nearInstant (s.core.stamp / 4096) (2 ^ 52) e.ns.toNat; (let t := stampOf e.ch.val x.armTable 0 ns e.raw.toNat; (let c := elapseTo s.core (ns * 4096); tdcDue c e.ch.val t = c ∧ stampsRun s.core = true ∧ live s.core e.ch.val = true ∧ x.cfg.mode = 1 ∧ x.cfg.divide = 1 ∧ x.cfg.start = e.source.toNat ∧ e.source ≠ 0 ∧ x.holdStart = none ∧ x.busyA = none ∧ x.results + 1 ≠ x.cfg.count ∧ x.fifo.length < 255 ∧ bit x.cfg.edge (if e.rising then 0 else 1) = true ∧ x.arm ≤ t))))) ∧
    (∃ (s : State) (ch : Fin 264) (g : Nat), (let x := getTdc s.core ch.val; (∀ l, timeoutAt x = some l → g ≤ l) ∧ live s.core ch.val = true ∧ gateAt x = some g ∧ (x.cfg.ringEntries = 0 ∨ x.fifo.length < 256) ∧ x.cfg.mode ≠ 5)) ∧
    (∃ (s : State) (ch : Fin 264) (g : Nat), (let x := getTdc s.core ch.val; (∀ l, timeoutAt x = some l → g ≤ l) ∧ live s.core ch.val = true ∧ gateAt x = some g ∧ (x.cfg.ringEntries = 0 ∨ x.fifo.length < 256) ∧ x.cfg.mode = 5)) ∧
    (∃ (s : State) (ch : Fin 264) (l : Nat), (let x := getTdc s.core ch.val; (∀ g, gateAt x = some g → l < g) ∧ live s.core ch.val = true ∧ timeoutAt x = some l ∧ (x.cfg.ringEntries = 0 ∨ x.fifo.length < 256))) ∧
    (∃ (s : State) (ch : Fin 264) (e : List Byte) (es : List (List Byte)), (let x := getTdc s.core ch.val; (let a := x.cfg.ringBase + 32 * (rd s.core (tdk ch.val 0xE) % max 1 x.cfg.ringEntries); x.fifo = e :: es ∧ e.length = 32 ∧ s.core.hbm.training = false ∧ x.cfg.ringEntries ≠ 0 ∧ rd s.core (tdk ch.val 0xE) - rd s.core (tdk ch.val 0xF) < x.cfg.ringEntries ∧ localMapped s.core a 32 = true ∧ x.ending = none))) ∧
    (∃ (s : State) (ch : Fin 264) (e : List Byte) (es : List (List Byte)) (last : _), (let x := getTdc s.core ch.val; (let a := x.cfg.ringBase + 32 * (rd s.core (tdk ch.val 0xE) % max 1 x.cfg.ringEntries); x.fifo = e :: es ∧ e.length = 32 ∧ s.core.hbm.training = false ∧ x.cfg.ringEntries ≠ 0 ∧ rd s.core (tdk ch.val 0xE) - rd s.core (tdk ch.val 0xF) < x.cfg.ringEntries ∧ localMapped s.core a 32 = true ∧ x.ending = some last))) ∧
    (∃ (s : State) (ch : Fin 264) (e : List Byte) (es : List (List Byte)), (let x := getTdc s.core ch.val; x.fifo = e :: es ∧ e.length = 32 ∧ s.core.hbm.training = false ∧ (x.cfg.ringEntries = 0 ∨ x.cfg.ringEntries ≤ rd s.core (tdk ch.val 0xE) - rd s.core (tdk ch.val 0xF)))) ∧
    (∃ (s : State), Open s.core ∧ InModes s.core [.warm, .calibrate, .run] ∧ s.core.cd.running = false) ∧
    (∃ (s : State), Open s.core ∧ InModes s.core [.warm, .calibrate, .run] ∧ s.core.cd.running = true) ∧
    (∃ (s : State), InModes s.core [.warm, .calibrate, .run] ∧ rd s.core (tgk 4) ≠ 0 ∧ s.core.cd.running = false) ∧
    (∃ (s : State), rd s.core (tgk 4) = 0) ∧
    (∃ (s : State) (ch : Fin 264) (a : List Nat) (b : List Nat), (let x := getTdc s.core ch.val; x.cdRunning = true ∧ measuring s.core ch.val = false ∧ s.core.cd.restart = false ∧ stampsRun s.core = true ∧ (hitsOk a && hitsOk b) = true)) ∧
    (∃ (s : State) (ch : Fin 264) (a : List Nat) (b : List Nat), (let x := getTdc s.core ch.val; x.cdRunning = true ∧ measuring s.core ch.val = false ∧ s.core.cd.restart = false ∧ stampsRun s.core = true ∧ (hitsOk a && hitsOk b) = false)) :=
  ⟨⟨block { coreAt 5 [(tdk 263 0x12, 0)] with tdcs := [(263, {})] }, 263, by unfold Open; decide +kernel, ⟨.run, by simp, by decide +kernel⟩, by decide +kernel⟩,
   ⟨block { coreAt 5 [(tdk 263 0x12, 1)] with tdcs := [(263, {})] }, 263, by unfold Open; decide +kernel, ⟨.run, by simp, by decide +kernel⟩, by decide +kernel⟩,
   ⟨block { coreAt 5 [(tdk 263 0x12, 1)] with tdcs := [(263, {})] }, 263, by unfold Open; decide +kernel, ⟨.run, by simp, by decide +kernel⟩, rfl, by decide +kernel⟩,
   ⟨block { coreAt 5 [(tdk 263 0x12, 1)] with tdcs := [(263, { cfg := { ringEntries := 64 }, fifo := List.replicate 256 [] })] }, 263, by unfold Open; decide +kernel, ⟨.run, by simp, by decide +kernel⟩, rfl, by decide +kernel⟩,
   ⟨block { coreAt 5 [(tdk 263 0x12, 0)] with tdcs := [(263, {})] }, 263, by unfold Open; decide +kernel, ⟨.run, by simp, by decide +kernel⟩, by decide +kernel⟩,
   ⟨block (coreAt 5 [(clockKey, 2)]), { ch := 0, source := 1, rising := true, ns := 0, raw := 0 }, by decide +kernel⟩,
   ⟨block { coreAt 5 [(tdk 263 0x12, 1), (clockKey, 0x22)] with tdcs := [(263, { cfg := { mode := 1, start := 9, edge := 1, timeout := 1000 }, armTable := [0] })] }, { ch := 263, source := 9, rising := true, ns := 100, raw := 0 }, rfl, by decide +kernel⟩,
   ⟨block { coreAt 5 [(tdk 263 0x12, 1)] with tdcs := [(263, { cfg := { mode := 1, gate := 100, timeout := 100 } })] }, 263, 409600, fun g h => by cases h; decide +kernel, by decide +kernel⟩,
   ⟨block { coreAt 5 [(tdk 263 0x12, 1)] with tdcs := [(263, { cfg := { mode := 5, gate := 1000 } })] }, 263, 4096000, fun l (h : none = some l) => (nomatch h), by decide +kernel⟩,
   ⟨block { coreAt 5 [(tdk 263 0x12, 1)] with tdcs := [(263, { cfg := { mode := 1, gate := 101, timeout := 100 } })] }, 263, 409600, fun g h => by cases h; decide +kernel, by decide +kernel⟩,
   ⟨block { coreAt 5 [(tdk 263 0xE, 63), (tdk 263 0xF, 0)] with tdcs := [(263, { cfg := { ringBase := 0x4000000000, ringEntries := 64 }, fifo := [List.replicate 32 0] })] }, 263, List.replicate 32 0, [], by decide +kernel⟩,
   ⟨block { coreAt 5 [(tdk 263 0xE, 63), (tdk 263 0xF, 0)] with tdcs := [(263, { cfg := { ringBase := 0x4000000000, ringEntries := 64 }, fifo := [List.replicate 32 0], ending := some [] })] }, 263, List.replicate 32 0, [], [], by decide +kernel⟩,
   ⟨block { coreAt 5 [(tdk 263 0xE, 64), (tdk 263 0xF, 0)] with tdcs := [(263, { cfg := { ringBase := 0x4000000000, ringEntries := 64 }, fifo := [List.replicate 32 0] })] }, 263, List.replicate 32 0, [], by decide +kernel⟩,
   ⟨block (coreAt 5 []), by unfold Open; decide +kernel, ⟨.run, by simp, by decide +kernel⟩, by decide +kernel⟩,
   ⟨block { coreAt 5 [] with cd := { running := true } }, by unfold Open; decide +kernel, ⟨.run, by simp, by decide +kernel⟩, by decide +kernel⟩,
   ⟨block (coreAt 5 [(tgk 4, 1)]), ⟨.run, by simp, by decide +kernel⟩, by decide +kernel⟩,
   ⟨block (coreAt 5 [(tgk 4, 0)]), by decide +kernel⟩,
   ⟨block { coreAt 5 [(clockKey, 0x22), (tdk 263 0x12, 0)] with tdcs := [(263, { cdRunning := true })] }, 263, List.replicate 4096 512, List.replicate 4096 512, by decide +kernel⟩,
   ⟨block { coreAt 5 [(clockKey, 0x22), (tdk 263 0x12, 0)] with tdcs := [(263, { cdRunning := true })] }, 263, [], [], by decide +kernel⟩⟩

theorem witness_SenseScanAndChains :
    (∃ (s : State) (v0 : Int) (v1 : Int) (v2 : Int) (v3 : Int), (¬InModes s.core [.warm, .calibrate, .run] ∨ clockBit s.core 5 = false)) ∧
    (∃ (s : State) (v0 : Int) (v1 : Int) (v2 : Int) (v3 : Int), InModes s.core [.warm, .calibrate, .run] ∧ clockBit s.core 5 = true) ∧
    (∃ (c : Core) (a : Nat) (m : Nat) (n : Nat) (v : Int), a < 4 ∧ (enabledInputs c a)[m % max 1 (enabledInputs c a).length]? = some n ∧ (∀ k < 8, rd c (fk k 1) ≠ n) ∧ (∀ u < 8, rd c (qk u 1) ≠ n) ∧ -131072 ≤ v ∧ v ≤ 131071) ∧
    (∃ (c : Core) (a : Nat) (m : Nat) (n : Nat) (v : Int), a < 4 ∧ (enabledInputs c a)[m % max 1 (enabledInputs c a).length]? = some n ∧ (∀ k < 8, rd c (fk k 1) ≠ n) ∧ (∀ u < 8, rd c (qk u 1) ≠ n) ∧ 131071 < v ∧ rd c (nk n 6) = 1) ∧
    (∃ (c : Core) (a : Nat) (m : Nat) (n : Nat) (v : Int), a < 4 ∧ (enabledInputs c a)[m % max 1 (enabledInputs c a).length]? = some n ∧ (∀ k < 8, rd c (fk k 1) ≠ n) ∧ (∀ u < 8, rd c (qk u 1) ≠ n) ∧ 131071 < v ∧ rd c (nk n 6) = 0) ∧
    (∃ (s : State) (n : Fin 8), blockFull s.core n.val = true) ∧
    (∃ (s : State) (n : Fin 8), blockFull s.core n.val = false) ∧
    (∃ (s : State) (n : Fin 32), Open s.core) ∧
    (∃ (s : State) (n : Fin 8), Open s.core ∧ InModes s.core [.warm, .calibrate, .run] ∧ (let src := rd s.core (fk n.val 1); src ≠ 0xFFFF ∧ (0x20 ≤ src ∨ rd s.core (nk src 1) = 1) ∧ rd s.core (fk n.val 8) = 1)) ∧
    (∃ (s : State) (n : Fin 8), Open s.core ∧ InModes s.core [.warm, .calibrate, .run] ∧ (let src := rd s.core (fk n.val 1); src ≠ 0xFFFF ∧ (0x20 ≤ src ∨ rd s.core (nk src 1) = 1) ∧ rd s.core (fk n.val 8) ≠ 1)) ∧
    (∃ (s : State) (n : Fin 8), Open s.core ∧ InModes s.core [.warm, .calibrate, .run] ∧ (let src := rd s.core (fk n.val 1); (src = 0xFFFF ∨ src < 0x20 ∧ rd s.core (nk src 1) ≠ 1))) ∧
    (∃ (s : State) (n : Fin 8), Open s.core ∧ InModes s.core [.warm, .calibrate, .run] ∧ rd s.core (fk n.val 8) = 0) ∧
    (∃ (s : State) (n : Fin 8), Open s.core ∧ InModes s.core [.warm, .calibrate, .run] ∧ rd s.core (fk n.val 8) ≠ 0) ∧
    (∃ (s : State) (n : Fin 8) (data : List Byte), Open s.core ∧ data.length = 512 ∧ (∀ j < 128, -8388608 ≤ toSigned 32 (leAt data (4 * j) 4) ∧ toSigned 32 (leAt data (4 * j) 4) ≤ 8388607) ∧ rd s.core (fk n.val 8) = 0 ∧ rd s.core (fk n.val 2) = 3) ∧
    (∃ (s : State) (n : Fin 8) (data : List Byte), Open s.core ∧ data.length = 512 ∧ (∀ j < 128, -8388608 ≤ toSigned 32 (leAt data (4 * j) 4) ∧ toSigned 32 (leAt data (4 * j) 4) ≤ 8388607) ∧ (rd s.core (fk n.val 8) ≠ 0 ∨ rd s.core (fk n.val 2) ≠ 3)) :=
  ⟨⟨block (coreAt 5 [(clockKey, 2)]), 0, 0, 0, 0, .inr (by decide +kernel)⟩,
   ⟨block (coreAt 5 [(clockKey, 32)]), 0, 0, 0, 0, ⟨.run, by simp, by decide +kernel⟩, by decide +kernel⟩,
   ⟨coreAt 5 [(nk 24 1, 1)], 3, 0, 24, 131071, by decide +kernel⟩,
   ⟨coreAt 5 [(nk 24 1, 1), (nk 24 6, 1)], 3, 0, 24, 131072, by decide +kernel⟩,
   ⟨coreAt 5 [(nk 24 1, 1), (nk 24 6, 0)], 3, 0, 24, 131072, by decide +kernel⟩,
   ⟨block { coreAt 5 [(fk 7 0xF, 4)] with chains := [(7, { blockN := 4 })] }, 7, by decide +kernel⟩,
   ⟨block { coreAt 5 [(fk 7 0xF, 4)] with chains := [(7, { blockN := 3 })] }, 7, by decide +kernel⟩,
   ⟨block {}, 31, by unfold Open; decide +kernel⟩,
   ⟨block (coreAt 5 [(fk 7 1, 0), (nk 0 1, 1), (fk 7 8, 1)]), 7, by unfold Open; decide +kernel, ⟨.run, by simp, by decide +kernel⟩, by decide +kernel⟩,
   ⟨block (coreAt 5 [(fk 7 1, 0x20), (fk 7 8, 0)]), 7, by unfold Open; decide +kernel, ⟨.run, by simp, by decide +kernel⟩, by decide +kernel⟩,
   ⟨block (coreAt 5 [(fk 7 1, 0x1F), (nk 0x1F 1, 0)]), 7, by unfold Open; decide +kernel, ⟨.run, by simp, by decide +kernel⟩, by decide +kernel⟩,
   ⟨block (coreAt 5 [(fk 7 8, 0)]), 7, by unfold Open; decide +kernel, ⟨.run, by simp, by decide +kernel⟩, by decide +kernel⟩,
   ⟨block (coreAt 5 [(fk 7 8, 2)]), 7, by unfold Open; decide +kernel, ⟨.run, by simp, by decide +kernel⟩, by decide +kernel⟩,
   ⟨block (coreAt 5 [(fk 7 8, 0), (fk 7 2, 3)]), 7, List.replicate 508 0 ++ leBytes 4 0xFF800000, by unfold Open; decide +kernel, by decide +kernel⟩,
   ⟨block (coreAt 5 [(fk 7 8, 1), (fk 7 2, 3)]), 7, List.replicate 508 0 ++ leBytes 4 8388607, by unfold Open; decide +kernel, by decide +kernel⟩⟩

theorem witness_AcquisitionUnits :
    (∃ (s : State) (u : Fin 8), Open s.core ∧ InModes s.core [.warm, .calibrate, .run] ∧ acqState s.core u.val = 0 ∧ acqStreamFree s.core u.val = true) ∧
    (∃ (s : State) (u : Fin 8), Open s.core ∧ InModes s.core [.warm, .calibrate, .run] ∧ (acqState s.core u.val ≠ 0 ∨ acqStreamFree s.core u.val = false)) ∧
    (∃ (s : State) (u : Fin 8), Open s.core ∧ InModes s.core [.warm, .calibrate, .run] ∧ acqState s.core u.val = 0) ∧
    (∃ (s : State) (u : Fin 8), Open s.core ∧ InModes s.core [.warm, .calibrate, .run] ∧ acqState s.core u.val ≠ 0) ∧
    (∃ (s : State) (u : Fin 8), Open s.core ∧ acqState s.core u.val = 0) ∧
    (∃ (s : State) (u : Fin 8), Open s.core ∧ acqState s.core u.val ≠ 0) ∧
    (∃ (s : State) (u : Fin 8) (epoch : BitVec 48), Open s.core ∧ (let e := epoch.toNat; (let g := rd s.core (qk u.val 0xC); epoch ≠ 0 ∧ epochNow s.core + 2 ≤ e ∧ e ≤ epochNow s.core + 2 ^ 32 ∧ s.core.rwe.length < 1024 ∧ rd s.core (qk u.val 0xD) = 1 ∧ g ≠ 0 ∧ noDeviceId s.core = false))) ∧
    (∃ (s : State) (u : Fin 8), acqState s.core u.val = 0) ∧
    (∃ (s : State) (u : Fin 8) (h : AcqSample) (rest : List AcqSample), (let x := getAcq s.core u.val; acqState s.core u.val ≠ 0 ∧ x.held = h :: rest ∧ h.stamp ≤ s.core.stamp - heldTicks s.core u.val)) ∧
    (∃ (s : State) (u : Fin 8) (h : AcqSample) (rest : List AcqSample), (let x := getAcq s.core u.val; acqState s.core u.val ≠ 0 ∧ x.held = h :: rest ∧ s.core.stamp - heldTicks s.core u.val < h.stamp)) ∧
    (∃ (c : Core) (u : Fin 8) (h : AcqSample), (let x := getAcq c u.val; acqState c u.val = 1 ∧ spanFull c u.val = false ∧ x.postLeft = none ∧ metMask c u.val x h (!(firesAt x h.stamp).isEmpty) = 0)) ∧
    (∃ (s : State) (u : Fin 8) (p : AcqSpan), (let x := getAcq s.core u.val; acqState s.core u.val ≠ 0 ∧ x.span = some p ∧ rd s.core (qk u.val 2) ≤ p.count ∧ x.waiting = [] ∧ x.fifo.length < 64)) ∧
    (∃ (s : State) (u : Fin 8), acqState s.core u.val ≠ 0 ∧ (getAcq s.core u.val).postLeft = some 0) ∧
    (∃ (s : State) (u : Fin 8) (r : AcqRec) (rs : List AcqRec) (a : _), (let x := getAcq s.core u.val; (let e := streamEntry s.core r.stream; (let st := getStream s.core r.stream; x.fifo = r :: rs ∧ ringTakes s.core r.stream 2 = true ∧ rd s.core (jo 8) ≠ 1 ∧ noDeviceId s.core = false ∧ s.core.hbm.training = false ∧ (∀ k < 2, a < ringAddr e (st.ringPos + k) ∨ ringAddr e (st.ringPos + k) + 32 ≤ a))))) ∧
    (∃ (s : State) (u : Fin 8), (getAcq s.core u.val).fifo = []) ∧
    (∃ (s : State) (u : Fin 8) (data : List Byte), Open s.core ∧ maskOk data = true ∧ acqState s.core u.val = 0) ∧
    (∃ (s : State) (u : Fin 8) (data : List Byte), Open s.core ∧ maskOk data = true ∧ acqState s.core u.val ≠ 0) ∧
    (∃ (s : State) (u : Fin 8) (data : List Byte), Open s.core ∧ data.length = 64 ∧ (∀ n < 4, condStatus (leAt data (16 * n) 16) = none) ∧ acqState s.core u.val = 0) ∧
    (∃ (s : State) (u : Fin 8) (data : List Byte), Open s.core ∧ data.length = 64 ∧ (∀ n < 4, condStatus (leAt data (16 * n) 16) = none) ∧ acqState s.core u.val ≠ 0) :=
  ⟨⟨block { coreAt 5 [(qk 7 0xA, 0), (qk 7 1, 0), (qk 7 3, 0), (mkKey 0x6020 0, 1)] with doms := [(mkKey 0x5C01 0, streamTable)] }, 7, by unfold Open; decide +kernel, ⟨.run, by simp, by decide +kernel⟩, by decide +kernel⟩,
   ⟨block { coreAt 5 [(qk 7 0xA, 2)] with acqs := [(7, {})] }, 7, by unfold Open; decide +kernel, ⟨.run, by simp, by decide +kernel⟩, by decide +kernel⟩,
   ⟨block { coreAt 5 [(qk 7 0xA, 0)] with acqs := [(7, {})] }, 7, by unfold Open; decide +kernel, ⟨.run, by simp, by decide +kernel⟩, by decide +kernel⟩,
   ⟨block { coreAt 5 [(qk 7 0xA, 2)] with acqs := [(7, {})] }, 7, by unfold Open; decide +kernel, ⟨.run, by simp, by decide +kernel⟩, by decide +kernel⟩,
   ⟨block { coreAt 5 [(qk 7 0xA, 0)] with acqs := [(7, {})] }, 7, by unfold Open; decide +kernel, by decide +kernel⟩,
   ⟨block { coreAt 5 [(qk 7 0xA, 1)] with acqs := [(7, {})] }, 7, by unfold Open; decide +kernel, by decide +kernel⟩,
   ⟨block { coreAt 5 [(qk 7 0xC, 3), (qk 7 0xD, 1), (mkKey 0x6020 0, 1), (mkKey 0x1300 1, 0)] with acqs := [(7, {})] }, 7, 4294967296, by unfold Open; decide +kernel, by decide +kernel⟩,
   ⟨block { coreAt 5 [(qk 7 0xA, 0)] with acqs := [(7, {})] }, 7, by decide +kernel⟩,
   ⟨block { coreAt 5 [(qk 7 0xA, 1), (qk 7 0xC, 0)] with acqs := [(7, { held := [⟨10, 0, 0⟩] })] }, 7, ⟨10, 0, 0⟩, [], by decide +kernel⟩,
   ⟨block { coreAt 5 [(qk 7 0xA, 1), (qk 7 0xC, 0)] with acqs := [(7, { held := [⟨10, 1, 0⟩] })] }, 7, ⟨10, 1, 0⟩, [], by decide +kernel⟩,
   ⟨coreAt 5 [(qk 7 0xA, 1)], 7, ⟨10, 1, 0⟩, by decide +kernel⟩,
   ⟨block { coreAt 5 [(qk 7 0xA, 1), (qk 7 2, 4)] with acqs := [(7, { span := some ⟨0, 0, 0, 0, 0, 4, 0, 0⟩, fifo := List.replicate 63 ⟨0, 0xA, 0, 0, []⟩ })] }, 7, ⟨0, 0, 0, 0, 0, 4, 0, 0⟩, by decide +kernel⟩,
   ⟨block { coreAt 5 [(qk 7 0xA, 2)] with acqs := [(7, { postLeft := some 0 })] }, 7, by decide +kernel⟩,
   ⟨block { coreAt 5 [(jo 8, 0), (mkKey 0x6020 0, 1)] with acqs := [(7, { fifo := [⟨0, 0xA, 0, 0, []⟩] })], doms := [(mkKey 0x5C01 0, streamTable)] }, 7, ⟨0, 0xA, 0, 0, []⟩, [], 64, by decide +kernel⟩,
   ⟨block {}, 7, by decide +kernel⟩,
   ⟨block { coreAt 5 [(qk 7 0xA, 0)] with acqs := [(7, {})] }, 7, leBytes 24 1, by unfold Open; decide +kernel, by decide +kernel⟩,
   ⟨block { coreAt 5 [(qk 7 0xA, 1)] with acqs := [(7, {})] }, 7, leBytes 24 1, by unfold Open; decide +kernel, by decide +kernel⟩,
   ⟨block { coreAt 5 [(qk 7 0xA, 0)] with acqs := [(7, {})] }, 7, List.replicate 64 0, by unfold Open; decide +kernel, by decide +kernel⟩,
   ⟨block { coreAt 5 [(qk 7 0xA, 1)] with acqs := [(7, {})] }, 7, List.replicate 64 0, by unfold Open; decide +kernel, by decide +kernel⟩⟩

theorem witness_RasterGroups :
    (∃ (s : State) (g : Fin 2), Open s.core ∧ rasterBinds s.core g.val = true) ∧
    (∃ (s : State) (g : Fin 2), Open s.core ∧ rasterBinds s.core g.val = false) ∧
    (∃ (s : State) (g : Fin 2), Open s.core ∧ (let st := wState s.core (rd s.core (rk g.val 2)); (rd s.core (rk g.val 1) ≠ 1 ∨ st ≠ 1 ∧ st ≠ 2 ∧ st ≠ 3))) ∧
    (∃ (s : State) (g : Fin 2), Open s.core ∧ (let st := wState s.core (rd s.core (rk g.val 2)); rd s.core (rk g.val 1) = 1 ∧ (st = 1 ∨ st = 2 ∨ st = 3))) ∧
    (∃ (s : State) (g : Fin 2) (n : Byte), Open s.core ∧ slotExists s.core g.val n.toNat = true ∧ rd s.core (rk g.val 1) = 1) ∧
    (∃ (s : State) (g : Fin 2) (n : Byte), Open s.core ∧ slotExists s.core g.val n.toNat = false) ∧
    (∃ (s : State) (g : Fin 2) (n : Byte), Open s.core ∧ slotExists s.core g.val n.toNat = true ∧ rd s.core (rk g.val 1) ≠ 1) ∧
    (∃ (s : State) (g : Fin 2) (data : List Byte), Open s.core ∧ timingValid s.core g.val data = true) ∧
    (∃ (s : State) (g : Fin 2) (data : List Byte), Open s.core ∧ timingValid s.core g.val data = false) ∧
    (∃ (s : State) (g : Fin 2) (data : List Byte), Open s.core ∧ rectsValid data = true) ∧
    (∃ (s : State) (g : Fin 2) (data : List Byte), Open s.core ∧ rectsValid data = false) ∧
    (∃ (s : State) (g : Fin 2), Open s.core) ∧
    (∃ (c : Core) (g : Nat) (sub : Nat) (v : Nat) (t : Nat), (let from_ := (getW c (rd c (rk g 2))).gStart; from_ ≤ t ∧ t ≤ c.stamp)) ∧
    (∃ (c : Core) (g : Nat) (sub : Nat) (v : Nat) (t : Nat), (∀ e ∈ (getR c g).writes, e.1 ≤ c.stamp) ∧ c.stamp < t) ∧
    (∃ (s : State) (g : Fin 2) (m : BitVec 32), Open s.core) ∧
    (∃ (s : State) (g : Fin 2), ((getR s.core g.val).deciding = false ∨ rd s.core (rk g.val 1) ≠ 1)) ∧
    (∃ (s : State) (g : Fin 2), (let r := getR s.core g.val; (let t := (getW s.core (rd s.core (rk g.val 2))).gStart; r.deciding = true ∧ rd s.core (rk g.val 1) = 1 ∧ liveAt s.core g.val 0x13 t = 1 ∧ r.porch = (frameLimits s.core g.val).1))) ∧
    (∃ (s : State) (g : Fin 2), (let r := getR s.core g.val; (let t := (getW s.core (rd s.core (rk g.val 2))).gStart; r.deciding = true ∧ rd s.core (rk g.val 1) = 1 ∧ (liveAt s.core g.val 0x13 t ≠ 1 ∨ r.porch ≠ (frameLimits s.core g.val).1) ∧ (timingOf s.core g.val).blank = 0))) ∧
    (∃ (s : State) (g : Fin 2), (let r := getR s.core g.val; (let t := (getW s.core (rd s.core (rk g.val 2))).gStart; r.deciding = true ∧ rd s.core (rk g.val 1) = 1 ∧ (liveAt s.core g.val 0x13 t ≠ 1 ∨ r.porch ≠ (frameLimits s.core g.val).1) ∧ (timingOf s.core g.val).blank = 1 ∧ presentCounted s.core g.val t = none ∧ r.porch < (frameLimits s.core g.val).2))) ∧
    (∃ (s : State) (g : Fin 2) (back : Bool), (getR s.core g.val).dues.find? (fun d => d.returned == back) = none) ∧
    (∃ (s : State) (g : Fin 2) (d : RectDue) (i : Nat) (crc : Nat) (expect : Option Nat), (getR s.core g.val).dues.find? (fun x => x.returned == d.returned) = some d ∧ d.crcs = [(i, crc, expect)] ∧ i < 16 ∧ crc < 2 ^ 32 ∧ (dom s.core (rk g.val 0x1E)).length = 128) :=
  ⟨⟨block { coreAt 5 [(mkKey 0x20C0 1, 0), (mkKey 0x20C0 2, 0), (mkKey 0x20C0 3, 0), (rk 1 2, 0), (rk 1 3, 0), (rk 1 5, 16), (rk 1 6, 1), (rk 1 7, 4), (rk 1 0xA, 90), (rk 1 0xB, 1), (rk 1 0xC, 1)] with doms := [(rk 1 4, [0, 1, 2, 3] ++ List.replicate 108 0xFF), (rk 1 0xD, rasterTiming)] }, 1, by unfold Open; decide +kernel, by decide +kernel⟩,
   ⟨block (coreAt 5 [(rk 1 2, 0xFF)]), 1, by unfold Open; decide +kernel, by decide +kernel⟩,
   ⟨block (coreAt 5 [(rk 1 1, 1), (rk 1 2, 5), (wk 5 1, 4)]), 1, by unfold Open; decide +kernel, by decide +kernel⟩,
   ⟨block (coreAt 5 [(rk 1 1, 1), (rk 1 2, 5), (wk 5 1, 3)]), 1, by unfold Open; decide +kernel, by decide +kernel⟩,
   ⟨block (coreAt 5 [(rk 1 1, 1), (rk 1 0xB, 32), (rk 1 0xC, 8)]), 1, 3, by unfold Open; decide +kernel, by decide +kernel⟩,
   ⟨block (coreAt 5 [(rk 1 1, 1), (rk 1 0xB, 32), (rk 1 0xC, 8)]), 1, 4, by unfold Open; decide +kernel, by decide +kernel⟩,
   ⟨block (coreAt 5 [(rk 1 1, 0), (rk 1 0xB, 32), (rk 1 0xC, 8)]), 1, 3, by unfold Open; decide +kernel, by decide +kernel⟩,
   ⟨block (coreAt 5 [(rk 1 6, 1), (rk 1 5, 8), (rk 1 0xC, 1), (rk 1 9, 0)]), 1, rasterTiming, by unfold Open; decide +kernel, by decide +kernel⟩,
   ⟨block (coreAt 5 []), 1, [], by unfold Open; decide +kernel, by decide +kernel⟩,
   ⟨block {}, 1, List.replicate 384 0, by unfold Open; decide +kernel, by decide +kernel⟩,
   ⟨block {}, 1, [], by unfold Open; decide +kernel, by decide +kernel⟩,
   ⟨block {}, 1, by unfold Open; decide +kernel⟩,
   ⟨{}, 1, 0x13, 1, 0, by decide +kernel⟩,
   ⟨{}, 1, 0x13, 1, 1, by decide +kernel⟩,
   ⟨block {}, 1, 0xFFFFFFFF, by unfold Open; decide +kernel⟩,
   ⟨block { coreAt 5 [(rk 1 1, 1)] with rasters := [(1, {})] }, 1, by decide +kernel⟩,
   ⟨block { coreAt 5 [(rk 1 1, 1), (rk 1 0x13, 1)] with rasters := [(1, { deciding := true })] }, 1, by decide +kernel⟩,
   ⟨block { coreAt 5 [(rk 1 1, 1), (rk 1 0x13, 0)] with rasters := [(1, { deciding := true })] }, 1, by decide +kernel⟩,
   ⟨block { coreAt 5 [(rk 1 1, 1), (rk 1 0x13, 0), (rk 1 0x11, 0xFF)] with rasters := [(1, { deciding := true, porch := 9 })], doms := [(rk 1 0xD, leBytes 20 (1 * 2 ^ 112 + 10 * 2 ^ 128 + 1 * 2 ^ 144))] }, 1, by decide +kernel⟩,
   ⟨block {}, 1, true, by decide +kernel⟩,
   ⟨block { coreAt 5 [] with rasters := [(1, { dues := [⟨true, 3, [(15, 4294967295, none)]⟩] })], doms := [(rk 1 0x1E, List.replicate 128 0)] }, 1, ⟨true, 3, [(15, 4294967295, none)]⟩, 15, 4294967295, none, by decide +kernel⟩⟩

theorem witness_MemoryInitialisationAndTests :
    (∃ (s : State) (l : List StackTraining), rd s.core (hk 0x16) ≠ 1) ∧
    (∃ (s : State) (l : List StackTraining) (a : Nat), rd s.core (hk 0x16) = 1 ∧ hbmTop ≤ a) ∧
    (∃ (s : State) (l : List StackTraining), (let r := initComplete s.mem s.core l; rd s.core (hk 0x16) = 1 ∧ (List.range 4).filter (degraded r.2) = [])) ∧
    (∃ (s : State) (l : List StackTraining) (x : Nat), (let r := initComplete s.mem s.core l; rd s.core (hk 0x16) = 1 ∧ (List.range 4).filter (degraded r.2) = [x])) ∧
    (∃ (s : State) (l : List StackTraining), (let r := initComplete s.mem s.core l; rd s.core (hk 0x16) = 1 ∧ 2 ≤ ((List.range 4).filter (degraded r.2)).length)) ∧
    (∃ (s : State) (l : List StackTraining), (let r := initComplete s.mem s.core l; rd s.core (hk 0x16) = 1 ∧ ((List.range 4).filter (degraded r.2)).length < 2)) ∧
    (∃ (s : State) (l : List StackTraining) (x : Nat) (t : StackTraining), rd s.core (hk 0x16) = 1 ∧ s.core.hbm.trained = false ∧ l.length = 4 ∧ l[x]? = some t) ∧
    (∃ (s : State), Open s.core ∧ InModes s.core [.warm, .calibrate, .service] ∧ rd s.core (hk 0x16) ≠ 1 ∧ rd s.core (hk 0x15) ≠ 1) ∧
    (∃ (s : State), Open s.core ∧ InModes s.core [.warm, .calibrate, .service] ∧ (rd s.core (hk 0x16) = 1 ∨ rd s.core (hk 0x15) = 1)) ∧
    (∃ (s : State), Open s.core ∧ InModes s.core [.calibrate]) ∧
    (∃ (s : State) (l : List StackTraining), s.core.hbm.training = false) ∧
    (∃ (s : State) (l : List StackTraining), s.core.hbm.training = true ∧ l.length = 4) ∧
    (∃ (s : State) (a : Nat), Open s.core ∧ InModes s.core [.service] ∧ rd s.core (hk 0x15) ≠ 1 ∧ rd s.core (hk 0x16) = 2 ∧ hbmTop ≤ a) ∧
    (∃ (s : State), Open s.core ∧ InModes s.core [.service] ∧ (rd s.core (hk 0x15) = 1 ∨ rd s.core (hk 0x16) ≠ 2)) ∧
    (∃ (s : State) (l : List (BitVec 32)), rd s.core (hk 0x15) ≠ 1) ∧
    (∃ (s : State) (l : List (BitVec 32)), rd s.core (hk 0x15) = 1 ∧ l.length = 4) :=
  ⟨⟨block (coreAt 5 [(hk 0x16, 0)]), [], by decide +kernel⟩,
   ⟨block { coreAt 5 [(hk 0x16, 1)] with hbm := {} }, [⟨0, 0⟩, ⟨0, 0⟩, ⟨0, 0⟩, ⟨0, 0⟩], hbmTop, by decide +kernel⟩,
   ⟨block { coreAt 5 [(hk 0x16, 1)] with hbm := {} }, [⟨0, 0⟩, ⟨0, 0⟩, ⟨0, 0⟩, ⟨0, 0⟩], by decide +kernel⟩,
   ⟨block { coreAt 5 [(hk 0x16, 1)] with hbm := {} }, [⟨0, 0⟩, ⟨1, 0⟩, ⟨0, 0⟩, ⟨0, 0⟩], 1, by decide +kernel⟩,
   ⟨block { coreAt 5 [(hk 0x16, 1)] with hbm := {} }, [⟨1, 0⟩, ⟨1, 0⟩, ⟨0, 0⟩, ⟨0, 0⟩], by decide +kernel⟩,
   ⟨block { coreAt 5 [(hk 0x16, 1)] with hbm := {} }, [⟨0, 0⟩, ⟨1, 0⟩, ⟨0, 0⟩, ⟨0, 0⟩], by decide +kernel⟩,
   ⟨block { coreAt 5 [(hk 0x16, 1)] with hbm := {} }, [⟨0, 0⟩, ⟨1, 0⟩, ⟨0, 0⟩, ⟨0, 0⟩], 3, ⟨0, 0⟩, by decide +kernel⟩,
   ⟨block (coreAt 6 [(hk 0x16, 0), (hk 0x15, 0)]), by unfold Open; decide +kernel, ⟨.service, by simp, by decide +kernel⟩, by decide +kernel⟩,
   ⟨block (coreAt 6 [(hk 0x16, 2), (hk 0x15, 1)]), by unfold Open; decide +kernel, ⟨.service, by simp, by decide +kernel⟩, by decide +kernel⟩,
   ⟨block (coreAt 4 []), by unfold Open; decide +kernel, ⟨.calibrate, by simp, by decide +kernel⟩⟩,
   ⟨block {}, [], by decide +kernel⟩,
   ⟨block { hbm := { training := true } }, [⟨0, 0⟩, ⟨0, 0⟩, ⟨0, 0⟩, ⟨0, 0⟩], by decide +kernel⟩,
   ⟨block (coreAt 6 [(hk 0x15, 0), (hk 0x16, 2)]), hbmTop, by unfold Open; decide +kernel, ⟨.service, by simp, by decide +kernel⟩, by decide +kernel⟩,
   ⟨block (coreAt 6 [(hk 0x15, 0), (hk 0x16, 1)]), by unfold Open; decide +kernel, ⟨.service, by simp, by decide +kernel⟩, by decide +kernel⟩,
   ⟨block (coreAt 6 [(hk 0x15, 0)]), [], by decide +kernel⟩,
   ⟨block (coreAt 6 [(hk 0x15, 1)]), [0, 0, 0, 0xFFFFFFFF], by decide +kernel⟩⟩

theorem witness_MemoryPowerRefreshAndScrub :
    (∃ (s : State) (p : Fin 128), hbmActive s.core = true ∧ rd s.core (hk 0xA) ≠ 0 ∧ rd s.core (stk (p.val / 32) 3) = 0) ∧
    (∃ (s : State) (p : Fin 128), (hbmActive s.core = false ∨ rd s.core (hk 0xA) = 0 ∨ rd s.core (stk (p.val / 32) 3) ≠ 0)) ∧
    (∃ (s : State) (x : Fin 4), hbmActive s.core = true ∧ rd s.core (hk 0xB) ≠ 0 ∧ (∀ w < 64, wState s.core w = 0 ∨ wState s.core w = 4)) ∧
    (∃ (s : State) (x : Fin 4), (hbmActive s.core = false ∨ rd s.core (hk 0xB) = 0 ∨ ∃ w < 64, wState s.core w = 1 ∨ wState s.core w = 2 ∨ wState s.core w = 3)) ∧
    (∃ (s : State) (f : ScrubFound), s.core.hbm.training = true) ∧
    (∃ (s : State) (f : ScrubFound), s.core.hbm.training = false ∧ (rd s.core (hk 0xD) = 0 ∨ hbmActive s.core = false ∨ hbmReady s.core = false)) ∧
    (∃ (s : State) (f : ScrubFound), (let u := s.core.hbm.scrub; rd s.core (hk 0xD) ≠ 0 ∧ hbmActive s.core = true ∧ hbmReady s.core = true ∧ s.core.hbm.training = false ∧ u ∈ s.mem.bad)) ∧
    (∃ (s : State) (f : ScrubFound), (let u := s.core.hbm.scrub; (let w := (f.errors.map (fun e => (e.1.val, e.2.toNat))).foldl addError (unitWord s.mem u); rd s.core (hk 0xD) ≠ 0 ∧ hbmActive s.core = true ∧ hbmReady s.core = true ∧ s.core.hbm.training = false ∧ u ∉ s.mem.bad ∧ decodeWord w = .clean))) ∧
    (∃ (s : State) (f : ScrubFound) (i : _) (e : _), (let u := s.core.hbm.scrub; (let w := (f.errors.map (fun e => (e.1.val, e.2.toNat))).foldl addError (unitWord s.mem u); rd s.core (hk 0xD) ≠ 0 ∧ hbmActive s.core = true ∧ hbmReady s.core = true ∧ s.core.hbm.training = false ∧ u ∉ s.mem.bad ∧ decodeWord w = .one i e))) ∧
    (∃ (s : State) (f : ScrubFound), (let u := s.core.hbm.scrub; (let w := (f.errors.map (fun e => (e.1.val, e.2.toNat))).foldl addError (unitWord s.mem u); rd s.core (hk 0xD) ≠ 0 ∧ hbmActive s.core = true ∧ hbmReady s.core = true ∧ s.core.hbm.training = false ∧ u ∉ s.mem.bad ∧ decodeWord w = .detected))) ∧
    (∃ (l : List Nat) (i : Nat) (e : Nat), l.length = 72 ∧ (∀ x ∈ l, x < 256) ∧ (∀ k < 4, syndrome k l = 0) ∧ i < 72 ∧ 0 < e ∧ e < 256) ∧
    (∃ (c : Core) (a : Nat) (n : Nat) (hint : PageHint), a < hbmTop) ∧
    (∃ (c : Core) (r : BestEffort), c.hbm.training = false ∧ beHead c c.hbm.turn = some r ∧ r.bytes ≤ mget 0 c.hbm.deficits c.hbm.turn) ∧
    (∃ (c : Core) (r : BestEffort), c.hbm.training = false ∧ c.hbm.waiting = [r] ∧ 0 < beQuantum c r.cls.field) :=
  ⟨⟨block (coreAt 5 [(hk 0xA, 1), (stk 3 3, 0)]), 127, by decide +kernel⟩,
   ⟨block (coreAt 5 [(hk 0xA, 1), (stk 3 3, 1)]), 127, by decide +kernel⟩,
   ⟨block (coreAt 3 [(hk 0xB, 1)]), 3, by decide +kernel⟩,
   ⟨block (coreAt 5 [(hk 0xB, 1), (wk 63 1, 3)]), 3, by decide +kernel⟩,
   ⟨block { hbm := { training := true } }, ⟨false, []⟩, by decide +kernel⟩,
   ⟨block (coreAt 5 [(hk 0xD, 0)]), ⟨false, []⟩, by decide +kernel⟩,
   ⟨{ block (coreAt 5 [(hk 0xD, 1), (hk 0x16, 2), (hk 2, 0), (hk 0x15, 0)]) with mem := { bad := [0] } }, ⟨false, []⟩, by decide +kernel⟩,
   ⟨block (coreAt 5 [(hk 0xD, 1), (hk 0x16, 2), (hk 2, 0), (hk 0x15, 0)]), ⟨true, []⟩, by decide +kernel⟩,
   ⟨block (coreAt 5 [(hk 0xD, 1), (hk 0x16, 2), (hk 2, 0), (hk 0x15, 0)]), ⟨false, [(71, 1)]⟩, 71, 1, by decide +kernel⟩,
   ⟨block (coreAt 5 [(hk 0xD, 1), (hk 0x16, 2), (hk 2, 0), (hk 0x15, 0)]), ⟨false, [(0, 1), (1, 1)]⟩, by decide +kernel⟩,
   ⟨List.replicate 72 0, 71, 255, by decide +kernel⟩,
   ⟨{}, 0, 64, .auto, by decide +kernel⟩,
   ⟨{ hbm := { waiting := [⟨.host, 64, none, .refclkPresent⟩], turn := 2, deficits := [(2, 64)] } }, ⟨.host, 64, none, .refclkPresent⟩, by decide +kernel⟩,
   ⟨{ regs := [(hk 0xC, 2 ^ 40 - 1)], hbm := { waiting := [⟨.maint, 4096, none, .refclkPresent⟩] } }, ⟨.maint, 4096, none, .refclkPresent⟩, by decide +kernel⟩⟩

theorem witness_XsawInstructionsOnRegisters :
    (∃ (s : State) (n : Fin 1024) (x : RType) (e : _), e ∈ [(Instr.bqEnq n x, [], some 0), (.bqWait n x, [x.rs2], some 0), (.bqPoll n x, [x.rs2], some 0), (.bqRes n x, [], some 0), (.bqDone n x, [], some 0), (.bqAbort n x, [], some 0), (.bqStat n x, [x.rs2], some 0), (.tallyAdd n x, [x.rd], some 1), (.tallyRd n x, [x.rs2], none), (.crc32cB n x, [], none), (.crc32cW n x, [], none), (.crc32cD n x, [], none), (.crc32cRec n x, [x.rs2], none)] ∧ ¬HartRuns s.core n.val) ∧
    (∃ (s : State) (n : Fin 1024) (x : RType) (e : _), e ∈ [(Instr.bqEnq n x, [], some 0), (.bqWait n x, [x.rs2], some 0), (.bqPoll n x, [x.rs2], some 0), (.bqRes n x, [], some 0), (.bqDone n x, [], some 0), (.bqAbort n x, [], some 0), (.bqStat n x, [x.rs2], some 0), (.tallyAdd n x, [x.rd], some 1), (.tallyRd n x, [x.rs2], none), (.crc32cB n x, [], none), (.crc32cW n x, [], none), (.crc32cD n x, [], none), (.crc32cRec n x, [x.rs2], none)] ∧ HartRuns s.core n.val ∧ s.core.hbm.training = false ∧ xsawIllegal (getHart s.core n.val) x e.2.1 e.2.2 = true) ∧
    (∃ (c : Core) (n : Nat) (x : RType) (v : Nat) (r : Nat), r ≠ x.rd.toNat) ∧
    (∃ (c : Core) (n : Nat) (x : RType) (v : Nat) (k : Nat), k ≠ n) ∧
    (∃ (s : State) (n : Fin 1024) (x : RType), Executes s.core n.val x [] none) ∧
    (∃ (s : State) (n : Fin 1024) (x : RType) (a : Nat), Executes s.core n.val x [x.rs2] none ∧ (let h := getHart s.core n.val; (let va := getX h x.rs1.toNat; (let c := walkMet s.mem s.core n.val h va .load; (let kind := readNat s.mem a 1 % 16; bufferAt s.mem c n.val h va 32 32 .load = .ok a ∧ (kind = 0 ∨ kind = 7)))))) ∧
    (∃ (s : State) (n : Fin 1024) (x : RType) (a : Nat), Executes s.core n.val x [x.rs2] none ∧ (let h := getHart s.core n.val; (let va := getX h x.rs1.toNat; (let c := walkMet s.mem s.core n.val h va .load; (let kind := readNat s.mem a 1 % 16; bufferAt s.mem c n.val h va 32 32 .load = .ok a ∧ 1 ≤ kind ∧ kind ≤ 6))))) ∧
    (∃ (s : State) (n : Fin 1024) (x : RType) (a : Nat) (b : _), Executes s.core n.val x [x.rs2] none ∧ (let h := getHart s.core n.val; (let va := getX h x.rs1.toNat; (let c := walkMet s.mem s.core n.val h va .load; (let kind := readNat s.mem a 1 % 16; bufferAt s.mem c n.val h va 32 32 .load = .ok a ∧ 8 ≤ kind ∧ bufferAt s.mem c n.val h va 64 32 .load = .ok b))))) ∧
    (∃ (s : State) (n : Fin 1024) (x : RType), Executes s.core n.val x [x.rs2] (some 0)) ∧
    (∃ (s : State) (n : Fin 1024) (x : RType), Executes s.core n.val x [x.rd] (some 1)) ∧
    (∃ (s : State) (n : Fin 1024) (x : RType), Executes s.core n.val x [x.rs2] none) :=
  ⟨⟨block (coreAt 5 []), 5, rtypeA, (.bqEnq 5 rtypeA, [], some 0), by simp, fun h => absurd h.1 (by decide +kernel)⟩,
   ⟨block (hartCore hartA []), 5, { rtypeA with funct7 := 1 }, (.bqEnq 5 { rtypeA with funct7 := 1 }, [], some 0), by simp, by unfold HartRuns; decide +kernel, by decide +kernel⟩,
   ⟨hartCore hartA [], 5, rtypeA, 9, 1, by decide +kernel⟩,
   ⟨hartCore hartA [], 5, rtypeA, 9, 6, by decide +kernel⟩,
   ⟨block (hartCore hartA []), 5, rtypeA, by unfold Executes HartRuns; decide +kernel⟩,
   ⟨block (hartCore hartA []), 5, rtypeB, scratchBase 5, by unfold Executes HartRuns; decide +kernel, by decide +kernel⟩,
   ⟨{ block (hartCore hartA []) with mem := store {} (scratchBase 5) [6] }, 5, rtypeB, scratchBase 5, by unfold Executes HartRuns; decide +kernel, by decide +kernel⟩,
   ⟨{ block (hartCore hartA []) with mem := store {} (scratchBase 5) [8] }, 5, rtypeB, scratchBase 5, scratchBase 5, by unfold Executes HartRuns; decide +kernel, by decide +kernel⟩,
   ⟨block (hartCore hartA []), 5, rtypeB, by unfold Executes HartRuns; decide +kernel⟩,
   ⟨block (hartCore hartA []), 5, { rtypeA with rd := 0 }, by unfold Executes HartRuns; decide +kernel⟩,
   ⟨block (hartCore hartA []), 5, rtypeB, by unfold Executes HartRuns; decide +kernel⟩⟩

theorem witness_XsawTasksAndJobs :
    (∃ (s : State) (n : Fin 1024) (x : RType) (e : Nat), s.core.hbm.training = false ∧ (let h := getHart s.core n.val; (let va := getX h x.rs1.toNat; (let c := walkMet s.mem s.core n.val h va .load; Executes s.core n.val x [] (some 0) ∧ bufferAt s.mem c n.val h va 64 64 .load = .error e ∧ va ≠ 0)))) ∧
    (∃ (s : State) (n : Fin 1024) (x : RType) (e : Nat), s.core.hbm.training = false ∧ (let h := getHart s.core n.val; (let va := getX h x.rs1.toNat; (let d := walkMet s.mem s.core n.val h va .store; Executes s.core n.val x [x.rs2] (some 0) ∧ bufferAt s.mem d n.val h va 1088 64 .store = .error e)))) ∧
    (∃ (s : State) (n : Fin 1024) (x : RType) (a : Nat), Executes s.core n.val x [] (some 0) ∧ s.core.hbm.training = false ∧ (let h := getHart s.core n.val; (let va := getX h x.rs1.toNat; (let c := walkMet s.mem s.core n.val h va .load; (let q := getX h x.rs2.toNat % 2 ^ 16; (let b := getBoom c q; bufferAt s.mem c n.val h va 64 64 .load = .ok a ∧ (bdEnabled b.desc = false ∨ bdSource b.desc ≠ 0))))))) ∧
    (∃ (s : State) (n : Fin 1024) (x : RType) (a : Nat), Executes s.core n.val x [] (some 0) ∧ s.core.hbm.training = false ∧ (let h := getHart s.core n.val; (let va := getX h x.rs1.toNat; (let c := walkMet s.mem s.core n.val h va .load; (let q := getX h x.rs2.toNat % 2 ^ 16; (let b := getBoom c q; bufferAt s.mem c n.val h va 64 64 .load = .ok a ∧ bdEnabled b.desc = true ∧ bdSource b.desc = 0 ∧ boomFree c q = 0)))))) ∧
    (∃ (s : State) (n : Fin 1024) (x : RType) (a : Nat), Executes s.core n.val x [] (some 0) ∧ s.core.hbm.training = false ∧ (let h := getHart s.core n.val; (let va := getX h x.rs1.toNat; (let c := walkMet s.mem s.core n.val h va .load; (let q := getX h x.rs2.toNat % 2 ^ 16; (let b := getBoom c q; bufferAt s.mem c n.val h va 64 64 .load = .ok a ∧ bdEnabled b.desc = true ∧ bdSource b.desc = 0 ∧ boomFree c q ≠ 0 ∧ bdStreamOut b.desc = false)))))) ∧
    (∃ (s : State) (n : Fin 1024) (x : RType) (a : Nat), Executes s.core n.val x [x.rs2] (some 0) ∧ s.core.hbm.training = false ∧ (let h := getHart s.core n.val; (let va := getX h x.rs1.toNat; (let c := walkMet s.mem s.core n.val h va .store; bufferAt s.mem c n.val h va 1088 64 .store = .ok a ∧ 2 ≤ h.held.length)))) ∧
    (∃ (s : State) (n : Fin 1024) (x : RType) (a : Nat), Executes s.core n.val x [x.rs2] (some 0) ∧ s.core.hbm.training = false ∧ (let h := getHart s.core n.val; (let va := getX h x.rs1.toNat; (let c := walkMet s.mem s.core n.val h va .store; bufferAt s.mem c n.val h va 1088 64 .store = .ok a ∧ h.held.length < 2 ∧ h.delivered = none ∧ pushes c (partitionOf c n.val) = true)))) ∧
    (∃ (s : State) (n : Fin 1024) (x : RType) (a : Nat) (q : _) (f : _) (d : _), Executes s.core n.val x [x.rs2] (some 0) ∧ s.core.hbm.training = false ∧ (let h := getHart s.core n.val; (let va := getX h x.rs1.toNat; (let c := walkMet s.mem s.core n.val h va .store; deliverTurn s.mem c (partitionOf c n.val) n.val = (some (q, f), d) ∧ bufferAt s.mem c n.val h va 1088 64 .store = .ok a ∧ h.held.length < 2 ∧ h.delivered = none ∧ pushes c (partitionOf c n.val) = false)))) ∧
    (∃ (s : State) (n : Fin 1024) (x : RType) (a : Nat) (q : _) (f : _), Executes s.core n.val x [x.rs2] (some 0) ∧ s.core.hbm.training = false ∧ (let h := getHart s.core n.val; (let va := getX h x.rs1.toNat; (let c := walkMet s.mem s.core n.val h va .store; bufferAt s.mem c n.val h va 1088 64 .store = .ok a ∧ h.held.length < 2 ∧ h.delivered = some (q, f))))) ∧
    (∃ (m : Mem) (c : Core) (n : Nat) (rd : Nat) (a : Nat) (q : Nat) (f : Nat) (k : Nat), k ≠ n) ∧
    (∃ (s : State) (n : Fin 1024) (x : RType) (a : Nat) (q : Nat) (f : Nat) (t : Task), Executes s.core n.val x [] (some 0) ∧ s.core.hbm.training = false ∧ (let h := getHart s.core n.val; (let va := getX h x.rs1.toNat; (let c := walkMet s.mem s.core n.val h va .load; (let b := getBoom c q; heldTask h (getX h x.rs2.toNat) = some (q, f) ∧ bufferAt s.mem c n.val h va 64 64 .load = .ok a ∧ taskOf b f = some t ∧ bdResEn b.desc = false))))) ∧
    (∃ (s : State) (n : Fin 1024) (x : RType) (a : Nat) (q : Nat) (f : Nat) (t : Task), Executes s.core n.val x [] (some 0) ∧ s.core.hbm.training = false ∧ (let h := getHart s.core n.val; (let va := getX h x.rs1.toNat; (let c := walkMet s.mem s.core n.val h va .load; (let b := getBoom c q; heldTask h (getX h x.rs2.toNat) = some (q, f) ∧ bufferAt s.mem c n.val h va 64 64 .load = .ok a ∧ taskOf b f = some t ∧ bdResEn b.desc = true ∧ bdResMax b.desc ≤ t.staged.length))))) ∧
    (∃ (s : State) (n : Fin 1024) (x : RType) (a : Nat) (q : Nat) (f : Nat) (t : Task), Executes s.core n.val x [] (some 0) ∧ s.core.hbm.training = false ∧ (let h := getHart s.core n.val; (let va := getX h x.rs1.toNat; (let c := walkMet s.mem s.core n.val h va .load; (let b := getBoom c q; heldTask h (getX h x.rs2.toNat) = some (q, f) ∧ bufferAt s.mem c n.val h va 64 64 .load = .ok a ∧ taskOf b f = some t ∧ bdResEn b.desc = true ∧ t.staged.length < bdResMax b.desc))))) ∧
    (∃ (s : State) (n : Fin 1024) (x : RType) (a : Nat) (q : Nat) (f : Nat) (t : Task), Executes s.core n.val x [] (some 0) ∧ s.core.hbm.training = false ∧ (let h := getHart s.core n.val; (let va := getX h x.rs1.toNat; heldTask h (getX h x.rs2.toNat) = some (q, f) ∧ va = 0))) ∧
    (∃ (s : State) (n : Fin 1024) (x : RType) (a : Nat) (q : Nat) (f : Nat) (t : Task), Executes s.core n.val x [] (some 0) ∧ s.core.hbm.training = false ∧ (let h := getHart s.core n.val; (let va := getX h x.rs1.toNat; (let c := walkMet s.mem s.core n.val h va .load; heldTask h (getX h x.rs2.toNat) = some (q, f) ∧ bufferAt s.mem c n.val h va 64 64 .load = .ok a ∧ va ≠ 0)))) ∧
    (∃ (s : State) (n : Fin 1024) (x : RType) (a : Nat) (q : Nat) (f : Nat) (t : Task), Executes s.core n.val x [] (some 0) ∧ s.core.hbm.training = false ∧ (let h := getHart s.core n.val; (let va := getX h x.rs1.toNat; heldTask h (getX h x.rs2.toNat) = some (q, f) ∧ va % 256 < 0x80))) ∧
    (∃ (s : State) (n : Fin 1024) (x : RType) (a : Nat), Executes s.core n.val x [] (some 0) ∧ s.core.hbm.training = false ∧ (let h := getHart s.core n.val; (let va := getX h x.rs1.toNat; heldTask h (getX h x.rs2.toNat) = none ∧ va = 0))) ∧
    (∃ (s : State) (n : Fin 1024) (x : RType) (a : Nat), Executes s.core n.val x [] (some 0) ∧ s.core.hbm.training = false ∧ (let h := getHart s.core n.val; (let va := getX h x.rs1.toNat; (let c := walkMet s.mem s.core n.val h va .load; heldTask h (getX h x.rs2.toNat) = none ∧ bufferAt s.mem c n.val h va 64 64 .load = .ok a ∧ va ≠ 0)))) :=
  ⟨⟨block (hartCore { hartA with x := [(1, 1)] } []), 5, rtypeA, alignCause .load, by decide +kernel, by unfold Executes HartRuns; decide +kernel, by decide +kernel⟩,
   ⟨block (hartCore { hartA with x := [(1, 1)] } []), 5, rtypeB, alignCause .store, by decide +kernel, by unfold Executes HartRuns; decide +kernel, by decide +kernel⟩,
   ⟨block { hartCore hartA [] with booms := [(7, { desc := 0 })] }, 5, rtypeA, scratchBase 5, by unfold Executes HartRuns; decide +kernel, by decide +kernel, by decide +kernel⟩,
   ⟨block { hartCore hartA [] with booms := [(7, { desc := boomBits, tail := 64 })] }, 5, rtypeA, scratchBase 5, by unfold Executes HartRuns; decide +kernel, by decide +kernel, by decide +kernel⟩,
   ⟨block { hartCore hartA [] with booms := [(7, { desc := boomBits, tail := 63 })] }, 5, rtypeA, scratchBase 5, by unfold Executes HartRuns; decide +kernel, by decide +kernel, by decide +kernel⟩,
   ⟨block (hartCore { hartA with held := [(7, 1), (8, 1)] } []), 5, rtypeB, scratchBase 5, by unfold Executes HartRuns; decide +kernel, by decide +kernel, by decide +kernel⟩,
   ⟨block (hartCore { hartA with held := [(7, 1)] } [(mkKey 0x5410 1, 0xFF)]), 5, rtypeB, scratchBase 5, by unfold Executes HartRuns; decide +kernel, by decide +kernel, by decide +kernel⟩,
   ⟨block { hartCore hartA [(mkKey 0x5410 1, 0x1FF)] with booms := [(7, { desc := boomBits, dispatch := 1, tail := 1, again := [1], tasks := [{ taskA with core := none }] })], sched := { active := [(0, [0])], ready := [(0, [7])] } }, 5, rtypeB, scratchBase 5, 7, 1, _, by unfold Executes HartRuns; decide +kernel, by decide +kernel, Prod.ext (by decide +kernel) rfl, by decide +kernel⟩,
   ⟨block (hartCore { hartA with held := [(7, 1)], delivered := some (8, 1) } []), 5, rtypeB, scratchBase 5, 8, 1, by unfold Executes HartRuns; decide +kernel, by decide +kernel, by decide +kernel⟩,
   ⟨{}, hartCore hartA [], 5, 3, 0, 7, 1, 6, by decide +kernel⟩,
   ⟨block { hartCore { hartA with x := [(1, 0x8000000000), (2, handleOf 7 1)], held := [(7, 1)] } [] with booms := [(7, { desc := boomBits, tasks := [taskA] })] }, 5, rtypeA, scratchBase 5, 7, 1, taskA, by unfold Executes HartRuns; decide +kernel, by decide +kernel, by decide +kernel⟩,
   ⟨block { hartCore { hartA with x := [(1, 0x8000000000), (2, handleOf 7 1)], held := [(7, 1)] } [] with booms := [(7, { desc := boomBits + 2 ^ 55, tasks := [{ taskA with staged := [[]] }] })] }, 5, rtypeA, scratchBase 5, 7, 1, { taskA with staged := [[]] }, by unfold Executes HartRuns; decide +kernel, by decide +kernel, by decide +kernel⟩,
   ⟨block { hartCore { hartA with x := [(1, 0x8000000000), (2, handleOf 7 1)], held := [(7, 1)] } [] with booms := [(7, { desc := boomBits + 2 ^ 55, tasks := [taskA] })] }, 5, rtypeA, scratchBase 5, 7, 1, taskA, by unfold Executes HartRuns; decide +kernel, by decide +kernel, by decide +kernel⟩,
   ⟨block { hartCore { hartA with x := [(1, 0), (2, handleOf 7 1)], held := [(7, 1)] } [] with booms := [(7, { desc := boomBits, tasks := [taskA] })] }, 5, rtypeA, 0, 7, 1, taskA, by unfold Executes HartRuns; decide +kernel, by decide +kernel, by decide +kernel⟩,
   ⟨block { hartCore { hartA with x := [(1, 0x8000000000), (2, handleOf 7 1)], held := [(7, 1)] } [] with booms := [(7, { desc := boomBits, tasks := [taskA] })] }, 5, rtypeA, scratchBase 5, 7, 1, taskA, by unfold Executes HartRuns; decide +kernel, by decide +kernel, by decide +kernel⟩,
   ⟨block { hartCore { hartA with x := [(1, 0x7F), (2, handleOf 7 1)], held := [(7, 1)] } [] with booms := [(7, { desc := boomBits, tasks := [taskA] })] }, 5, rtypeA, 0, 7, 1, taskA, by unfold Executes HartRuns; decide +kernel, by decide +kernel, by decide +kernel⟩,
   ⟨block { hartCore { hartA with x := [(2, 7)] } [] with booms := [(7, { desc := boomBits })] }, 5, rtypeA, 0, by unfold Executes HartRuns; decide +kernel, by decide +kernel, by decide +kernel⟩,
   ⟨block { hartCore hartA [] with booms := [(7, { desc := boomBits })] }, 5, rtypeA, scratchBase 5, by unfold Executes HartRuns; decide +kernel, by decide +kernel, by decide +kernel⟩⟩

theorem witness_CoreLoadsStoresAndTimer :
    (∃ (s : State) (n : Fin 1024) (x : MemAccess) (a : Nat) (sg : _), ReachesMemory s n.val x a ∧ s.core.hbm.training = false ∧ (let len := 2 ^ x.size.toNat; x.op = .load sg ∧ badUnits s.mem a len = [])) ∧
    (∃ (s : State) (n : Fin 1024) (x : MemAccess) (a : Nat) (sg : _), ReachesMemory s n.val x a ∧ s.core.hbm.training = false ∧ (let len := 2 ^ x.size.toNat; x.op = .load sg ∧ badUnits s.mem a len ≠ [])) ∧
    (∃ (s : State) (n : Fin 1024) (x : MemAccess) (a : Nat), ReachesMemory s n.val x a ∧ s.core.hbm.training = false ∧ (let len := 2 ^ x.size.toNat; x.op = .lr ∧ badUnits s.mem a len = [])) ∧
    (∃ (s : State) (n : Fin 1024) (x : MemAccess) (a : Nat), ReachesMemory s n.val x a ∧ s.core.hbm.training = false ∧ (let len := 2 ^ x.size.toNat; (let c := walkMet s.mem s.core n.val (getHart s.core n.val) x.vaddr.toNat (kindOf x.op); x.op = .store ∧ protectedYard c a len = false))) ∧
    (∃ (s : State) (n : Fin 1024) (x : MemAccess) (a : Nat), ReachesMemory s n.val x a ∧ s.core.hbm.training = false ∧ (let len := 2 ^ x.size.toNat; (let c := walkMet s.mem s.core n.val (getHart s.core n.val) x.vaddr.toNat (kindOf x.op); x.op = .sc ∧ protectedYard c a len = false ∧ (getHart c n.val).reserved ≠ some (a, len)))) ∧
    (∃ (s : State) (n : Fin 1024) (x : MemAccess) (a : Nat), ReachesMemory s n.val x a ∧ s.core.hbm.training = false ∧ (let len := 2 ^ x.size.toNat; (let c := walkMet s.mem s.core n.val (getHart s.core n.val) x.vaddr.toNat (kindOf x.op); x.op = .sc ∧ protectedYard c a len = false ∧ (getHart c n.val).reserved = some (a, len)))) ∧
    (∃ (s : State) (n : Fin 1024) (x : MemAccess) (a : Nat), ReachesMemory s n.val x a ∧ s.core.hbm.training = false ∧ (let len := 2 ^ x.size.toNat; (let c := walkMet s.mem s.core n.val (getHart s.core n.val) x.vaddr.toNat (kindOf x.op); atomic x.op = true ∧ x.op ≠ .lr ∧ x.op ≠ .sc ∧ protectedYard c a len = false ∧ badUnits s.mem a len = []))) ∧
    (∃ (s : State) (n : Fin 1024) (x : MemAccess) (a : Nat), ReachesMemory s n.val x a ∧ s.core.hbm.training = false ∧ (let len := 2 ^ x.size.toNat; x.op = .fetch ∧ badUnits s.mem a len = [])) ∧
    (∃ (s : State) (n : Fin 1024) (x : MemAccess) (a : Nat), ReachesMemory s n.val x a ∧ s.core.hbm.training = false ∧ (let len := 2 ^ x.size.toNat; (let c := walkMet s.mem s.core n.val (getHart s.core n.val) x.vaddr.toNat (kindOf x.op); kindOf x.op = .store ∧ protectedYard c a len = true))) ∧
    (∃ (s : State) (n : Fin 1024) (x : MemAccess), HartRuns s.core n.val ∧ s.core.hbm.training = false ∧ (let k := kindOf x.op; (let len := 2 ^ x.size.toNat; (atomic x.op = true → 4 ≤ len) ∧ x.vaddr.toNat % (if k = .fetch then 2 else len) ≠ 0))) ∧
    (∃ (s : State) (n : Fin 1024) (x : MemAccess) (e : _), HartRuns s.core n.val ∧ s.core.hbm.training = false ∧ (let k := kindOf x.op; (let len := 2 ^ x.size.toNat; (atomic x.op = true → 4 ≤ len) ∧ x.vaddr.toNat % (if k = .fetch then 2 else len) = 0 ∧ translate s.mem s.core n.val (getHart s.core n.val) x.vaddr.toNat len k = .error e))) ∧
    (∃ (s : State) (n : Fin 1024) (x : MemAccess) (p : _), HartRuns s.core n.val ∧ s.core.hbm.training = false ∧ (let k := kindOf x.op; (let len := 2 ^ x.size.toNat; (let c := walkMet s.mem s.core n.val (getHart s.core n.val) x.vaddr.toNat k; (atomic x.op = true → 4 ≤ len) ∧ x.vaddr.toNat % (if k = .fetch then 2 else len) = 0 ∧ translate s.mem s.core n.val (getHart s.core n.val) x.vaddr.toNat len k = .ok p ∧ regionOf c n.val p len = .unmapped)))) ∧
    (∃ (c : Core) (n : Nat) (op : MemOp) (rd : Nat) (v : Nat) (r : Nat), op ≠ .fetch ∧ rd < 32 ∧ r ≠ rd) ∧
    (∃ (h : Hart) (irq : Bool) (cause : Nat) (tval : Nat), h.mode ≤ 3 ∧ (h.mode = 3 ∨ bit (csrGet h (if irq then csrMideleg else csrMedeleg)) cause = false)) ∧
    (∃ (s : State) (n : Fin 1024), (let h := getHart s.core n.val; (let g := timerPending s.core h; h.running = true ∧ h.mtimecmp ≤ mtime s.core ∧ h.waits = none ∧ pendingInts g = 2 ^ 7 ∧ bit (csrGet g csrMideleg) 7 = false ∧ (h.mode < 3 ∨ bit (csrGet g csrMstatus) 3 = true)))) ∧
    (∃ (s : State) (n : Fin 1024), (let h := getHart s.core n.val; (h.running = false ∨ mtime s.core < h.mtimecmp))) :=
  ⟨⟨block (hartCore hartA []), 5, accessA (.load true), 0x4000000000, true, ⟨⟨by decide +kernel, by decide +kernel⟩, by decide +kernel, by decide +kernel, 0x4000000000, by decide +kernel, by decide +kernel⟩, by decide +kernel, by decide +kernel⟩,
   ⟨{ block (hartCore hartA []) with mem := { bad := [4294967296] } }, 5, accessA (.load true), 0x4000000000, true, ⟨⟨by decide +kernel, by decide +kernel⟩, by decide +kernel, by decide +kernel, 0x4000000000, by decide +kernel, by decide +kernel⟩, by decide +kernel, by decide +kernel⟩,
   ⟨block (hartCore hartA []), 5, accessA .lr, 0x4000000000, ⟨⟨by decide +kernel, by decide +kernel⟩, by decide +kernel, by decide +kernel, 0x4000000000, by decide +kernel, by decide +kernel⟩, by decide +kernel, by decide +kernel⟩,
   ⟨block (hartCore hartA [(mkKey 0x5C00 1, 90), (mkKey 0x5C00 2, 1), (mkKey 0x5400 1, 50)]), 5, accessA .store, 0x4000000000, ⟨⟨by decide +kernel, by decide +kernel⟩, by decide +kernel, by decide +kernel, 0x4000000000, by decide +kernel, by decide +kernel⟩, by decide +kernel, by decide +kernel⟩,
   ⟨block (hartCore hartA [(mkKey 0x5C00 1, 90), (mkKey 0x5C00 2, 1), (mkKey 0x5400 1, 50)]), 5, accessA .sc, 0x4000000000, ⟨⟨by decide +kernel, by decide +kernel⟩, by decide +kernel, by decide +kernel, 0x4000000000, by decide +kernel, by decide +kernel⟩, by decide +kernel, by decide +kernel⟩,
   ⟨block (hartCore { hartA with reserved := some (0x4000000000, 8) } [(mkKey 0x5C00 1, 90), (mkKey 0x5C00 2, 1), (mkKey 0x5400 1, 50)]), 5, accessA .sc, 0x4000000000, ⟨⟨by decide +kernel, by decide +kernel⟩, by decide +kernel, by decide +kernel, 0x4000000000, by decide +kernel, by decide +kernel⟩, by decide +kernel, by decide +kernel⟩,
   ⟨block (hartCore hartA [(mkKey 0x5C00 1, 90), (mkKey 0x5C00 2, 1), (mkKey 0x5400 1, 50)]), 5, accessA .amoAdd, 0x4000000000, ⟨⟨by decide +kernel, by decide +kernel⟩, by decide +kernel, by decide +kernel, 0x4000000000, by decide +kernel, by decide +kernel⟩, by decide +kernel, by decide +kernel⟩,
   ⟨block (hartCore hartA []), 5, accessA .fetch, 0x4000000000, ⟨⟨by decide +kernel, by decide +kernel⟩, by decide +kernel, by decide +kernel, 0x4000000000, by decide +kernel, by decide +kernel⟩, by decide +kernel, by decide +kernel⟩,
   ⟨block (hartCore hartA [(mkKey 0x5C00 1, 0), (mkKey 0x5C00 2, 1), (mkKey 0x5400 1, 50)]), 5, accessA .store, 0x4000000000, ⟨⟨by decide +kernel, by decide +kernel⟩, by decide +kernel, by decide +kernel, 0x4000000000, by decide +kernel, by decide +kernel⟩, by decide +kernel, by decide +kernel⟩,
   ⟨block (hartCore hartA []), 5, { accessA .store with vaddr := 0x4000000001 }, by unfold HartRuns; decide +kernel, by decide +kernel, by decide +kernel⟩,
   ⟨block (hartCore hartA []), 5, { accessA .store with vaddr := 0xFFFFFFFFFFFFFFF8 }, accessCause .store, by unfold HartRuns; decide +kernel, by decide +kernel, by decide +kernel⟩,
   ⟨block (hartCore hartA []), 5, { accessA .store with vaddr := 0xA000000000 }, 0xA000000000, by unfold HartRuns; decide +kernel, by decide +kernel, by decide +kernel⟩,
   ⟨hartCore hartA [], 5, .store, 31, 0, 30, by decide +kernel⟩,
   ⟨hartA, true, 7, 0, by decide +kernel⟩,
   ⟨block { hartCore { hartA with mode := 0, mtimecmp := 1, csr := [(csrMie, 128)] } [] with stamp := 4096 }, 5, by decide +kernel⟩,
   ⟨block (hartCore { hartA with mtimecmp := 1 } []), 5, by decide +kernel⟩⟩

theorem witness_BoomsPartitionsAndTheWindow :
    (∃ (s : State) (q : BitVec 16) (data : List Byte), Open s.core ∧ data.length = 32 ∧ (let b := getBoom s.core q.toNat; (let d := putField (ofLe data) 128 16 (bdPlacement b.desc); bdEnabled b.desc = false ∧ bdEnabled (ofLe data) = false ∧ bdEnabled d = false ∧ (bits d 59 5 ≠ 0 ∨ bits d 111 17 ≠ 0 ∨ bits d 144 112 ≠ 0)))) ∧
    (∃ (s : State) (q : BitVec 16) (data : List Byte), Open s.core ∧ data.length = 32 ∧ (let b := getBoom s.core q.toNat; (let d := putField (ofLe data) 128 16 (bdPlacement b.desc); bdEnabled b.desc = false ∧ bdEnabled (ofLe data) = false ∧ bdEnabled d = false ∧ bits d 59 5 = 0 ∧ bits d 111 17 = 0 ∧ bits d 144 112 = 0))) ∧
    (∃ (s : State) (q : BitVec 16) (data : List Byte), Open s.core ∧ data.length = 32 ∧ (let b := getBoom s.core q.toNat; (let d := putField (ofLe data) 128 16 (bdPlacement b.desc); bdEnabled b.desc = false ∧ bdEnabled (ofLe data) = true ∧ boomDescStatus d = none ∧ boomDescConflict s.core q.toNat d = false))) ∧
    (∃ (s : State) (q : BitVec 16) (data : List Byte), Open s.core ∧ data.length = 32 ∧ (let b := getBoom s.core q.toNat; bdEnabled b.desc = true ∧ ofLe data ≠ clearBit b.desc 53)) ∧
    (∃ (s : State) (q : BitVec 16), Open s.core ∧ (let b := getBoom s.core q.toNat; bdEnabled b.desc = true ∧ b.desc < 2 ^ 256 ∧ inFlight b ≠ 0)) ∧
    (∃ (s : State) (q : BitVec 16), Open s.core ∧ (let b := getBoom s.core q.toNat; bdEnabled b.desc = true ∧ b.desc < 2 ^ 256 ∧ inFlight b = 0 ∧ b.draining = none ∧ b.again = [])) ∧
    (∃ (s : State) (q : BitVec 16) (g : BitVec 6), Open s.core ∧ (let b := getBoom s.core q.toNat; bdEnabled b.desc = true ∧ b.draining = none)) ∧
    (∃ (s : State) (q : BitVec 16) (g : BitVec 6), Open s.core ∧ (let b := getBoom s.core q.toNat; (bdEnabled b.desc = false ∨ b.draining.isSome = true))) ∧
    (∃ (s : State) (q : BitVec 16), (getBoom s.core q.toNat).draining.isSome = true) ∧
    (∃ (s : State) (q : BitVec 16), (getBoom s.core q.toNat).draining = none) ∧
    (∃ (s : State) (k : Fin 8), s.core.hbm.training = false ∧ (let p := settleBooms s.mem s.core; rd p.2 (mkKey (0x5410 + k.val) 4) = 0)) ∧
    (∃ (s : State) (k : Fin 8) (n : _) (q : _) (f : _) (c : _), s.core.hbm.training = false ∧ (let p := settleBooms s.mem s.core; deliverTurn p.1 p.2 k.val n = (some (q, f), c) ∧ rd p.2 (mkKey (0x5410 + k.val) 4) ≠ 0 ∧ takerOf p.2 k.val = some (n, false))) ∧
    (∃ (m : Mem) (c : Core) (n : Nat) (q : Nat) (f : Nat), (getHart c n).waits = none) ∧
    (∃ (s : State) (q : BitVec 16) (f : BitVec 48) (t : Task), taskOf (getBoom s.core q.toNat) f.toNat = some t ∧ t.closed = none ∧ t.core.isSome = true ∧ rd s.core (mkKey (0x5420 + t.group) 4) ≠ 0) ∧
    (∃ (s : State) (q : BitVec 16) (f : BitVec 48) (t : Task), taskOf (getBoom s.core q.toNat) f.toNat = some t ∧ (t.closed.isSome = true ∨ t.core = none ∨ rd s.core (mkKey (0x5420 + t.group) 4) = 0)) ∧
    (∃ (s : State) (k : Fin 8), Open s.core ∧ InModes s.core [.warm, .calibrate, .run, .service] ∧ rd s.core (mkKey (0x5410 + k.val) 4) = 1) ∧
    (∃ (s : State) (k : Fin 8), Open s.core ∧ InModes s.core [.warm, .calibrate, .run, .service] ∧ rd s.core (mkKey (0x5410 + k.val) 4) ≠ 1) ∧
    (∃ (s : State) (k : Fin 8), Open s.core ∧ InModes s.core [.warm, .calibrate, .run, .service] ∧ rd s.core (mkKey (0x5410 + k.val) 4) = 0) ∧
    (∃ (s : State) (k : Fin 8), Open s.core ∧ InModes s.core [.warm, .calibrate, .run, .service] ∧ rd s.core (mkKey (0x5410 + k.val) 4) ≠ 0 ∧ (∀ n ∈ coresOf s.core k.val, (getHart s.core n).held = [] ∧ (getHart s.core n).delivered = none)) ∧
    (∃ (s : State) (data : List Byte), Open s.core ∧ (let q := rd s.core (mkKey 0x5800 1); (let b := getBoom s.core q; (let l := cutEntries data; data.length % 64 = 0 ∧ data.length ≤ 65536 ∧ winStatus s.core q l = none ∧ (∀ e ∈ l, winNext s.core q ≤ recSeq e) ∧ noDeviceId s.core = false ∧ rd s.core (mkKey 0x7800 8) ≠ 1 ∧ pairState s.core ≤ 1 ∧ bdEnabled b.desc = true ∧ bdSource b.desc = 2 ∧ l.length ≤ boomFree s.core q)))) ∧
    (∃ (s : State) (data : List Byte), Open s.core ∧ (let q := rd s.core (mkKey 0x5800 1); (let b := getBoom s.core q; (let l := cutEntries data; data.length % 64 = 0 ∧ data.length ≤ 65536 ∧ winStatus s.core q l = none ∧ (∀ e ∈ l, winNext s.core q ≤ recSeq e) ∧ noDeviceId s.core = false ∧ rd s.core (mkKey 0x7800 8) ≠ 1 ∧ pairState s.core ≤ 1 ∧ bdEnabled b.desc = true ∧ bdSource b.desc = 2 ∧ boomFree s.core q < l.length)))) :=
  ⟨⟨block { coreAt 5 [] with booms := [(7, { desc := 0 })] }, 7, List.replicate 31 0 ++ [1], by unfold Open; decide +kernel, by decide +kernel, by decide +kernel⟩,
   ⟨block { coreAt 5 [] with booms := [(7, { desc := 0 })] }, 7, List.replicate 32 0, by unfold Open; decide +kernel, by decide +kernel, by decide +kernel⟩,
   ⟨block { coreAt 5 [(mkKey 0x6020 0, 1)] with booms := [(7, { desc := 0 })] }, 7, leBytes 32 boomBits, by unfold Open; decide +kernel, by decide +kernel, by decide +kernel⟩,
   ⟨block { coreAt 5 [] with booms := [(7, { desc := boomBits })] }, 7, List.replicate 32 0xFF, by unfold Open; decide +kernel, by decide +kernel, by decide +kernel⟩,
   ⟨block { coreAt 5 [] with booms := [(7, { desc := boomBits, tasks := [taskA] })] }, 7, by unfold Open; decide +kernel, by decide +kernel⟩,
   ⟨block { coreAt 5 [] with booms := [(7, { desc := boomBits })] }, 7, by unfold Open; decide +kernel, by decide +kernel⟩,
   ⟨block { coreAt 5 [] with booms := [(7, { desc := boomBits })] }, 7, 63, by unfold Open; decide +kernel, by decide +kernel⟩,
   ⟨block (coreAt 5 []), 7, 63, by unfold Open; decide +kernel, by decide +kernel⟩,
   ⟨block { coreAt 5 [] with booms := [(7, { desc := boomBits, draining := some 3 })] }, 7, by decide +kernel⟩,
   ⟨block { coreAt 5 [] with booms := [(7, { desc := boomBits })] }, 7, by decide +kernel⟩,
   ⟨block (coreAt 5 [(mkKey 0x5417 4, 0)]), 7, by decide +kernel, by decide +kernel⟩,
   ⟨block { hartCore hartA [(mkKey 0x5410 1, 1), (mkKey 0x5410 4, 1)] with booms := [(7, { desc := boomBits, dispatch := 1, tail := 1, again := [1], tasks := [{ taskA with core := none }] })], sched := { active := [(0, [0])], ready := [(0, [7])] } }, 0, 5, 7, 1, _, by decide +kernel, Prod.ext (by decide +kernel) rfl, by decide +kernel⟩,
   ⟨{}, hartCore hartA [], 5, 7, 1, by decide +kernel⟩,
   ⟨block { coreAt 5 [(mkKey 0x5420 4, 100)] with booms := [(7, { desc := boomBits, tasks := [taskA] })] }, 7, 1, taskA, by decide +kernel⟩,
   ⟨block { coreAt 5 [(mkKey 0x5420 4, 0)] with booms := [(7, { desc := boomBits, tasks := [taskA] })] }, 7, 1, taskA, by decide +kernel⟩,
   ⟨block (coreAt 6 [(mkKey 0x5417 4, 1)]), 7, by unfold Open; decide +kernel, ⟨.service, by simp, by decide +kernel⟩, by decide +kernel⟩,
   ⟨block (coreAt 6 [(mkKey 0x5417 4, 0)]), 7, by unfold Open; decide +kernel, ⟨.service, by simp, by decide +kernel⟩, by decide +kernel⟩,
   ⟨block (coreAt 6 [(mkKey 0x5417 4, 0)]), 7, by unfold Open; decide +kernel, ⟨.service, by simp, by decide +kernel⟩, by decide +kernel⟩,
   ⟨block (coreAt 6 [(mkKey 0x5417 4, 1)]), 7, by unfold Open; decide +kernel, ⟨.service, by simp, by decide +kernel⟩, by decide +kernel⟩,
   ⟨block { coreAt 5 [(mkKey 0x5800 1, 7), (mkKey 0x6020 0, 1), (mkKey 0x7800 8, 0), (bk 7, 0)] with booms := [(7, { desc := boomBits + 2 ^ 52 })] }, (jobEntry (coreAt 5 [(mkKey 0x6020 0, 1)]) 7 1 0 0 {}), by unfold Open; decide +kernel, by decide +kernel⟩,
   ⟨block { coreAt 5 [(mkKey 0x5800 1, 7), (mkKey 0x6020 0, 1), (mkKey 0x7800 8, 0), (bk 7, 0)] with booms := [(7, { desc := boomBits + 2 ^ 52, lent := 64 })] }, (jobEntry (coreAt 5 [(mkKey 0x6020 0, 1)]) 7 1 0 0 {}), by unfold Open; decide +kernel, by decide +kernel⟩⟩

theorem witness_WithyLinksAndFlits :
    (∃ (s : State) (l : Fin 8) (p : BitVec 16) (lv : BitVec 16) (k : Fin 8), (rd s.core (lk l.val 1) ≠ 1 ∨ linksRun s.core = false ∨ linkUp s.core l.val = true)) ∧
    (∃ (s : State) (l : Fin 8) (p : BitVec 16) (lv : BitVec 16) (k : Fin 8), rd s.core (lk l.val 1) = 1 ∧ linksRun s.core = true ∧ linkUp s.core l.val = false) ∧
    (∃ (s : State) (l : Fin 8), linkUp s.core l.val = false) ∧
    (∃ (s : State) (l : Fin 8), (let d := linkClockLost (linkFell s.core l.val) l.val; linkUp s.core l.val = true ∧ lostTokens (getLink s.core l.val) = [] ∧ (∀ r ∈ d.remote.reqs, r.link ≠ l.val) ∧ mirrorLink s.core ≠ some l.val)) ∧
    (∃ (c : Core) (l : Nat) (f : Flit), (let x := getLink c l; x.waiting = [])) ∧
    (∃ (s : State) (l : Fin 8) (f : Flit), linkUp s.core l.val = false) ∧
    (∃ (s : State) (l : Fin 8) (f : Flit), linkUp s.core l.val = true ∧ (let c := if flitGood 0 f then heardFlit s.core l.val f else s.core; (let x := getLink c l.val; flitGood 0 f = true ∧ f.fseq.toNat = x.expect))) ∧
    (∃ (s : State) (l : Fin 8) (f : Flit), linkUp s.core l.val = true ∧ (let c := if flitGood 0 f then heardFlit s.core l.val f else s.core; (let x := getLink c l.val; (flitGood 0 f = false ∨ f.fseq.toNat ≠ x.expect) ∧ x.nakSent = true))) ∧
    (∃ (s : State) (l : Fin 8) (f : Flit), linkUp s.core l.val = true ∧ (let c := if flitGood 0 f then heardFlit s.core l.val f else s.core; (let x := getLink c l.val; (flitGood 0 f = false ∨ f.fseq.toNat ≠ x.expect) ∧ x.nakSent = false))) ∧
    (∃ (s : State) (l : Fin 8) (f : Flit), linkUp s.core l.val = true ∧ flitGood 1 f = true) ∧
    (∃ (s : State) (l : Fin 8) (f : Flit), linkUp s.core l.val = true ∧ flitGood 1 f = false) ∧
    (∃ (s : State) (l : Fin 8) (f : Flit), linkUp s.core l.val = true ∧ flitGood 2 f = false) ∧
    (∃ (s : State) (l : Fin 8) (f : Flit), (linkUp s.core l.val = true ∧ flitGood 2 f = true) ∧ (let c := heardFlit s.core l.val f; (let x := getLink c l.val; x.replay = []))) ∧
    (∃ (s : State) (l : Fin 8) (f : Flit), (linkUp s.core l.val = true ∧ flitGood 2 f = true) ∧ (let c := heardFlit s.core l.val f; (let x := getLink c l.val; x.replay ≠ [] ∧ (∀ e ∈ x.replay, e.replays < 15)))) ∧
    (∃ (s : State) (l : Fin 8) (f : Flit), (linkUp s.core l.val = true ∧ flitGood 2 f = true) ∧ (let c := heardFlit s.core l.val f; (let x := getLink c l.val; x.replay ≠ [] ∧ (∃ e ∈ x.replay, e.replays = 15) ∧ (∀ e ∈ x.replay, e.replays ≤ 15)))) ∧
    (∃ (s : State) (l : Fin 8), linkUp s.core l.val = true ∧ (let x := getLink s.core l.val; x.replay = [])) ∧
    (∃ (s : State) (l : Fin 8), linkUp s.core l.val = true ∧ (let x := getLink s.core l.val; x.replay ≠ [] ∧ (∀ e ∈ x.replay, e.replays < 15))) :=
  ⟨⟨block (coreAt 5 [(lk 0 1, 0)]), 0, 3, 1, 2, by decide +kernel⟩,
   ⟨block (coreAt 5 [(lk 0 1, 1), (lk 0 2, 1)]), 0, 3, 1, 2, by decide +kernel⟩,
   ⟨block (coreAt 5 []), 7, by decide +kernel⟩,
   ⟨block (coreAt 5 [(lk 7 2, 2)]), 7, by decide +kernel⟩,
   ⟨linkCore {}, 0, flitA, by decide +kernel⟩,
   ⟨block (coreAt 5 []), 7, flitA, by decide +kernel⟩,
   ⟨block (linkCore {}), 0, flitSealed 0 flitA, by decide +kernel, by decide +kernel⟩,
   ⟨block (linkCore { nakSent := true }), 0, flitSealed 0 { flitA with fseq := 1 }, by decide +kernel, by decide +kernel⟩,
   ⟨block (linkCore {}), 0, { flitA with crc := crc32c (receivedBytes 0 flitA) + 1 }, by decide +kernel, by decide +kernel⟩,
   ⟨block (linkCore {}), 0, flitSealed 1 flitA, by decide +kernel⟩,
   ⟨block (linkCore {}), 0, { flitA with crc := crc32c (receivedBytes 1 flitA) + 1 }, by decide +kernel⟩,
   ⟨block (linkCore {}), 0, flitSealed 1 flitA, by decide +kernel⟩,
   ⟨block (linkCore { replay := [⟨0, [], 3⟩] }), 0, flitSealed 2 { flitA with ack := 0 }, by decide +kernel, by decide +kernel⟩,
   ⟨block (linkCore { replay := [⟨0, [], 14⟩] }), 0, flitSealed 2 flitA, by decide +kernel, by decide +kernel⟩,
   ⟨block (linkCore { replay := [⟨0, [], 15⟩] }), 0, flitSealed 2 flitA, by decide +kernel, by decide +kernel⟩,
   ⟨block (linkCore {}), 0, by decide +kernel, by decide +kernel⟩,
   ⟨block (linkCore { replay := [⟨0, [], 14⟩] }), 0, by decide +kernel, by decide +kernel⟩⟩

theorem witness_RemoteAccessAndBlockLoads :
    (∃ (s : State) (l : Fin 8) (m : Msg), forMe s.core m = false) ∧
    (∃ (s : State) (l : Fin 8) (m : Msg) (st : _), (let c := takeSlots s.core l.val 1 (1 + msgSlots m); (let g := m.addr.toNat / 64 * 64; (let n := 64 * (m.size.toNat % 16 + 1); forMe s.core m = true ∧ noDeviceId s.core = false ∧ s.core.hbm.training = false ∧ apertureOf c g n false = .error st)))) ∧
    (∃ (s : State) (l : Fin 8) (m : Msg) (a : _), (let c := takeSlots s.core l.val 1 (1 + msgSlots m); (let g := m.addr.toNat / 64 * 64; (let n := 64 * (m.size.toNat % 16 + 1); forMe s.core m = true ∧ noDeviceId s.core = false ∧ s.core.hbm.training = false ∧ apertureOf c g n false = .ok a ∧ badUnits s.mem a n = [] ∧ m.block = false)))) ∧
    (∃ (s : State) (l : Fin 8) (m : Msg) (a : _) (t : _), (let c := takeSlots s.core l.val 1 (1 + msgSlots m); (let g := m.addr.toNat / 64 * 64; (let n := 64 * (m.size.toNat % 16 + 1); forMe s.core m = true ∧ noDeviceId s.core = false ∧ s.core.hbm.training = false ∧ apertureOf c g n false = .ok a ∧ badUnits s.mem a n = [] ∧ m.block = true ∧ mfind s.mem.tags (a / 4096) = some t)))) ∧
    (∃ (s : State) (l : Fin 8) (m : Msg) (st : _), (let c := takeSlots s.core l.val 1 (1 + msgSlots m); (let g := m.addr.toNat / 64 * 64; forMe s.core m = true ∧ noDeviceId s.core = false ∧ s.core.hbm.training = false ∧ apertureOf c g m.body.length true = .error st))) ∧
    (∃ (s : State) (l : Fin 8) (m : Msg) (a : _), (let c := takeSlots s.core l.val 1 (1 + msgSlots m); (let g := m.addr.toNat / 64 * 64; forMe s.core m = true ∧ noDeviceId s.core = false ∧ s.core.hbm.training = false ∧ apertureOf c g m.body.length true = .ok a))) ∧
    (∃ (s : State) (l : Fin 8) (m : Msg), forMe s.core m = false) ∧
    (∃ (s : State) (l : Fin 8) (m : Msg), forMe s.core m = true ∧ s.core.hbm.training = false ∧ (∀ r ∈ s.core.remote.reqs, r.tag ≠ m.tag.toNat)) ∧
    (∃ (s : State) (l : Fin 8) (m : Msg) (r : _) (n : _), forMe s.core m = true ∧ s.core.hbm.training = false ∧ s.core.remote.reqs.find? (fun r => r.tag == m.tag.toNat && r.dst == m.src.toNat) = some r ∧ r.core = some n) ∧
    (∃ (s : State) (l : Fin 8) (m : Msg) (r : _), forMe s.core m = true ∧ s.core.hbm.training = false ∧ s.core.remote.reqs.find? (fun r => r.tag == m.tag.toNat && r.dst == m.src.toNat) = some r ∧ r.core = none) ∧
    (∃ (s : State) (tag : BitVec 16) (r : RemoteReq), s.core.remote.reqs.find? (fun r => r.tag == tag.toNat) = some r) ∧
    (∃ (s : State) (tag : BitVec 16), s.core.remote.reqs.find? (fun r => r.tag == tag.toNat) = none) ∧
    (∃ (c : Core) (n : Nat) (tag : Nat) (g : Nat) (x : MemAccess) (w : Bool) (st : Nat) (data : List Byte), (getHart c n).waits = some (.remote tag x g w) ∧ st ≠ 0) ∧
    (∃ (c : Core) (n : Nat) (tag : Nat) (g : Nat) (x : MemAccess) (w : Bool) (st : Nat) (data : List Byte) (sg : _), (getHart c n).waits = some (.remote tag x g w) ∧ x.op = .load sg) ∧
    (∃ (s : State) (data : List Byte), Open s.core ∧ InModes s.core [.warm, .calibrate, .run, .service] ∧ data.length = 24 ∧ (let src := leAt data 0 8; (let dst := leAt data 8 8; (let len := leAt data 16 4; leAt data 20 4 = 0 ∧ src % 4096 = 0 ∧ src < 2 ^ 48 ∧ dst % 4096 = 0 ∧ len % 4096 = 0 ∧ 4096 ≤ len ∧ len ≤ 2 ^ 30 ∧ dst + len ≤ capacity s.core ∧ rd s.core (wo 7) = 1)))) ∧
    (∃ (s : State) (data : List Byte), Open s.core ∧ InModes s.core [.warm, .calibrate, .run, .service] ∧ data.length = 24 ∧ (let src := leAt data 0 8; (let dst := leAt data 8 8; (let len := leAt data 16 4; leAt data 20 4 = 0 ∧ src % 4096 = 0 ∧ src < 2 ^ 48 ∧ dst % 4096 = 0 ∧ len % 4096 = 0 ∧ 4096 ≤ len ∧ len ≤ 2 ^ 30 ∧ dst + len ≤ capacity s.core ∧ rd s.core (wo 7) ≠ 1 ∧ (∃ b ∈ blocksOf dst len, blockInUse s.core b = true))))) ∧
    (∃ (s : State) (data : List Byte), Open s.core ∧ InModes s.core [.warm, .calibrate, .run, .service] ∧ data.length = 24 ∧ (let src := leAt data 0 8; (let dst := leAt data 8 8; (let len := leAt data 16 4; leAt data 20 4 = 0 ∧ src % 4096 = 0 ∧ src < 2 ^ 48 ∧ dst % 4096 = 0 ∧ len % 4096 = 0 ∧ 4096 ≤ len ∧ len ≤ 2 ^ 30 ∧ dst + len ≤ capacity s.core ∧ rd s.core (wo 7) ≠ 1 ∧ (∀ b ∈ blocksOf dst len, blockInUse s.core b = false))))) ∧
    (∃ (m : Mem) (c : Core) (x : Load) (part : Nat) (crc : Nat) (data : List Byte) (st : _), c.remote.load = some x ∧ st ≠ 0) ∧
    (∃ (m : Mem) (c : Core) (x : Load) (part : Nat) (crc : Nat) (data : List Byte), c.remote.load = some x ∧ (let parts := minsert (merase x.parts part) part data; parts.length < 4)) ∧
    (∃ (m : Mem) (c : Core) (x : Load) (part : Nat) (crc : Nat) (data : List Byte), c.remote.load = some x ∧ (let b := loadDest x; (let parts := minsert (merase x.parts part) part data; (let w := store m (4096 * b) (padTo 4096 (parts.flatMap Prod.snd)); mfind w.tags b ≠ some crc ∧ 4 ≤ parts.length)))) ∧
    (∃ (m : Mem) (c : Core) (x : Load) (part : Nat) (crc : Nat) (data : List Byte), c.remote.load = some x ∧ (let b := loadDest x; (let parts := minsert (merase x.parts part) part data; (let w := store m (4096 * b) (padTo 4096 (parts.flatMap Prod.snd)); mfind w.tags b = some crc ∧ 4 ≤ parts.length ∧ x.length ≤ 4096 * (x.block + 1))))) ∧
    (∃ (m : Mem) (c : Core) (x : Load) (part : Nat) (crc : Nat) (data : List Byte), c.remote.load = some x ∧ (let b := loadDest x; (let parts := minsert (merase x.parts part) part data; (let w := store m (4096 * b) (padTo 4096 (parts.flatMap Prod.snd)); mfind w.tags b = some crc ∧ 4 ≤ parts.length ∧ 4096 * (x.block + 1) < x.length)))) ∧
    (∃ (s : State) (l : Fin 8) (op : Byte) (f : DapFrame), dapIntact op.toNat f = false) ∧
    (∃ (s : State) (l : Fin 8) (op : Byte) (f : DapFrame), (let b := hasFlag f flagReply || op.toNat == opNotify; dapIntact op.toNat f = true ∧ b = true)) ∧
    (∃ (s : State) (l : Fin 8) (op : Byte) (f : DapFrame), (let b := hasFlag f flagReply || op.toNat == opNotify; dapIntact op.toNat f = true ∧ b = false ∧ forOther s.core f = true)) ∧
    (∃ (s : State) (l : Fin 8) (op : Byte) (f : DapFrame), (let b := hasFlag f flagReply || op.toNat == opNotify; dapIntact op.toNat f = true ∧ b = false ∧ forOther s.core f = false)) :=
  ⟨⟨block (coreAt 5 [(mkKey 0x6020 0, 1)]), 0, { msgA with dst := 2 }, by decide +kernel⟩,
   ⟨block (coreAt 5 [(mkKey 0x6020 0, 1), (mkKey 0x6021 1, 0)]), 0, msgA, 1, by decide +kernel⟩,
   ⟨block (coreAt 5 [(mkKey 0x6020 0, 1), (mkKey 0x6021 1, 2 ^ 63 + 2 ^ 62 + 256), (mkKey 0x5C00 1, 0), (mkKey 0x5C00 2, 64), (mkKey 0x5400 1, 64)]), 0, msgA, 0x4000000000, by decide +kernel⟩,
   ⟨{ block (coreAt 5 [(mkKey 0x6020 0, 1), (mkKey 0x6021 1, 2 ^ 63 + 2 ^ 62 + 256), (mkKey 0x5C00 1, 0), (mkKey 0x5C00 2, 64), (mkKey 0x5400 1, 64)]) with mem := { tags := [(67108864, 77)] } }, 0, { msgA with block := true }, 0x4000000000, 77, by decide +kernel⟩,
   ⟨block (coreAt 5 [(mkKey 0x6020 0, 1), (mkKey 0x6021 1, 0)]), 0, msgA, 1, by decide +kernel⟩,
   ⟨block (coreAt 5 [(mkKey 0x6020 0, 1), (mkKey 0x6021 1, 2 ^ 63 + 2 ^ 62 + 256), (mkKey 0x5C00 1, 0), (mkKey 0x5C00 2, 64), (mkKey 0x5400 1, 64)]), 0, { msgA with addr := 96 * 2 ^ 20 - 64 }, 0x4005FFFFC0, by decide +kernel⟩,
   ⟨block (coreAt 5 [(mkKey 0x6020 0, 1)]), 0, { msgA with dst := 2 }, by decide +kernel⟩,
   ⟨block (coreAt 5 [(mkKey 0x6020 0, 1)]), 0, msgA, by decide +kernel⟩,
   ⟨block { coreAt 5 [(mkKey 0x6020 0, 1)] with remote := { reqs := [reqA] } }, 0, msgA, reqA, 5, by decide +kernel⟩,
   ⟨block { coreAt 5 [(mkKey 0x6020 0, 1)] with remote := { reqs := [{ reqA with core := none }] } }, 0, msgA, { reqA with core := none }, by decide +kernel⟩,
   ⟨block { coreAt 5 [(mkKey 0x6020 0, 1)] with remote := { reqs := [reqA] } }, 9, reqA, by decide +kernel⟩,
   ⟨block (coreAt 5 [(mkKey 0x6020 0, 1)]), 9, by decide +kernel⟩,
   ⟨hartCore { hartA with waits := some (.remote 9 (accessA (.load true)) 0 false) } [], 5, 9, 0, accessA (.load true), false, 8, [], by decide +kernel⟩,
   ⟨hartCore { hartA with waits := some (.remote 9 (accessA (.load true)) 0 false) } [], 5, 9, 0, accessA (.load true), false, 0, [], true, by decide +kernel⟩,
   ⟨block (coreAt 6 [(wo 7, 1), (hk 5, 8192)]), leBytes 24 (4096 * 2 ^ 64 + 4096 * 2 ^ 128), by unfold Open; decide +kernel, ⟨.service, by simp, by decide +kernel⟩, by decide +kernel, by decide +kernel⟩,
   ⟨block { coreAt 6 [(wo 7, 0), (hk 5, 8192), (wk 0 1, 2)] with weavers := [(0, { desc := some { imageGranules := 16, period := 4096, instrBase := 4096, dataBase := 4096 } })] }, leBytes 24 (4096 * 2 ^ 64 + 4096 * 2 ^ 128), by unfold Open; decide +kernel, ⟨.service, by simp, by decide +kernel⟩, by decide +kernel, by decide +kernel⟩,
   ⟨block (coreAt 6 [(wo 7, 0), (hk 5, 8192)]), leBytes 24 (4096 * 2 ^ 64 + 4096 * 2 ^ 128), by unfold Open; decide +kernel, ⟨.service, by simp, by decide +kernel⟩, by decide +kernel, by decide +kernel⟩,
   ⟨{}, { remote := { load := some { source := 0, dest := 4096, length := 4096, block := 0, parts := [] } } }, { source := 0, dest := 4096, length := 4096, block := 0, parts := [] }, 0, 0, [], 5, by decide +kernel⟩,
   ⟨{}, { remote := { load := some { source := 0, dest := 4096, length := 4096, block := 0, parts := [] } } }, { source := 0, dest := 4096, length := 4096, block := 0, parts := [] }, 0, 0, [], by decide +kernel, by decide +kernel⟩,
   ⟨{}, { remote := { load := some { source := 0, dest := 4096, length := 4096, block := 0, parts := [(0, []), (1, []), (2, [])] } } }, { source := 0, dest := 4096, length := 4096, block := 0, parts := [(0, []), (1, []), (2, [])] }, 3, loadedTag + 1, [], by decide +kernel, loaded_ne, by decide +kernel⟩,
   ⟨{}, { remote := { load := some { source := 0, dest := 4096, length := 4096, block := 0, parts := [(0, []), (1, []), (2, [])] } } }, { source := 0, dest := 4096, length := 4096, block := 0, parts := [(0, []), (1, []), (2, [])] }, 3, loadedTag, [], by decide +kernel, loaded_tag, by decide +kernel⟩,
   ⟨{}, { remote := { load := some { source := 0, dest := 4096, length := 8192, block := 0, parts := [(0, []), (1, []), (2, [])] } } }, { source := 0, dest := 4096, length := 8192, block := 0, parts := [(0, []), (1, []), (2, [])] }, 3, loadedTag, [], by decide +kernel, loaded_tag, by decide +kernel⟩,
   ⟨block (coreAt 5 [(mkKey 0x6020 0, 1)]), 0, 1, dapFrame [], by decide +kernel⟩,
   ⟨block (coreAt 5 [(mkKey 0x6020 0, 1)]), 0, 1, dapSealed opRead { dapFrame [] with flags := 1 }, by decide +kernel⟩,
   ⟨block (coreAt 5 [(mkKey 0x6020 0, 1)]), 0, 1, dapSealed opRead { dapFrame [] with target := 2 }, by decide +kernel⟩,
   ⟨block (coreAt 5 [(mkKey 0x6020 0, 1)]), 0, 1, dapSealed opRead { dapFrame [] with target := 1 }, by decide +kernel⟩⟩

theorem witness_TheBuddyPair :
    (∃ (s : State) (l : Fin 8) (m : MirrorMsg), m.dst.toNat ≠ deviceId s.core) ∧
    (∃ (s : State) (l : Fin 8) (m : MirrorMsg), s.core.hbm.training = false ∧ m.dst.toNat = deviceId s.core ∧ m.owner.toNat ≠ rd s.core (bk 1)) ∧
    (∃ (s : State) (l : Fin 8) (m : MirrorMsg), s.core.hbm.training = false ∧ m.dst.toNat = deviceId s.core ∧ m.owner.toNat = rd s.core (bk 1) ∧ noDeviceId s.core = false ∧ itemGood m.item = false) ∧
    (∃ (s : State) (l : Fin 8) (m : MirrorMsg), (s.core.hbm.training = false ∧ m.dst.toNat = deviceId s.core) ∧ (let c := freeHeld s.core m.item m.acked.toNat; (let same := fun (x : MirrorItem) => x.kind == m.item.kind && x.id == m.item.id && x.sequence == m.item.sequence; m.owner.toNat = rd s.core (bk 1) ∧ noDeviceId s.core = false ∧ itemGood m.item = true ∧ c.buddy.held.any same = false ∧ rd s.core (bk 4) < mirrorUsed c + unitsOf m.item.bytes))) ∧
    (∃ (s : State) (l : Fin 8) (m : MirrorMsg), (s.core.hbm.training = false ∧ m.dst.toNat = deviceId s.core) ∧ (let c := freeHeld s.core m.item m.acked.toNat; (let same := fun (x : MirrorItem) => x.kind == m.item.kind && x.id == m.item.id && x.sequence == m.item.sequence; m.owner.toNat = rd s.core (bk 1) ∧ noDeviceId s.core = false ∧ itemGood m.item = true ∧ c.buddy.held.any same = false ∧ mirrorUsed c + unitsOf m.item.bytes ≤ rd s.core (bk 4)))) ∧
    (∃ (s : State) (l : Fin 8) (f : ConfirmMsg), f.device.toNat ≠ deviceId s.core) ∧
    (∃ (s : State) (l : Fin 8) (f : ConfirmMsg), f.device.toNat = deviceId s.core ∧ f.fence.toNat ≤ rd s.core (bk 9) ∧ firstWaiting s.core f.kind f.id = none) ∧
    (∃ (s : State) (l : Fin 8) (f : ConfirmMsg) (it : _), f.device.toNat = deviceId s.core ∧ f.fence.toNat ≤ rd s.core (bk 9) ∧ firstWaiting s.core f.kind f.id = some it ∧ it.sequence ≠ f.sequence) ∧
    (∃ (s : State) (l : Fin 8) (f : ConfirmMsg) (it : _), f.device.toNat = deviceId s.core ∧ f.fence.toNat ≤ rd s.core (bk 9) ∧ firstWaiting s.core f.kind f.id = some it ∧ it.sequence = f.sequence ∧ f.status = 0) ∧
    (∃ (s : State) (l : Fin 8) (f : ConfirmMsg) (it : _), f.device.toNat = deviceId s.core ∧ f.fence.toNat ≤ rd s.core (bk 9) ∧ firstWaiting s.core f.kind f.id = some it ∧ it.sequence = f.sequence ∧ f.status ≠ 0 ∧ itemGood it = true) ∧
    (∃ (c : Core) (it : MirrorItem), it.kind = .record) ∧
    (∃ (c : Core) (it : MirrorItem), it.kind = .job) ∧
    (∃ (s : State), s.core.buddy.probing = none) ∧
    (∃ (s : State), s.core.buddy.probing.isSome = true ∧ (pairState s.core = 1 ∨ pairState s.core = 2)) ∧
    (∃ (s : State), (pairState s.core ≠ 1 ∨ s.core.buddy.waiting = [])) ∧
    (∃ (s : State), pairState s.core = 1 ∧ s.core.buddy.waiting ≠ [] ∧ s.core.buddy.probing = none) ∧
    (∃ (c : Core) (st : Nat), st ≠ 1 ∧ st < 6) ∧
    (∃ (s : State) (f : DapFrame), (let c := { s.core with buddy := { s.core.buddy with probing := none } }; dapIntact opProbe f = true ∧ leAt f.payload 4 8 = Config.deviceNumber s.core.buddy.nonce % 2 ^ 64 ∧ portUp s.core f.eth.val = true ∧ ipTaken s.core f.eth.val f.ip = true ∧ authRequired s.core = false ∧ hasFlag f flagReply = true ∧ f.payload.length = 16 ∧ s.core.buddy.probing.isSome = true ∧ leAt f.payload 0 2 = rd s.core (bk 1) ∧ pairState s.core = 1 ∧ leAt f.payload 2 2 = rd s.core (mkKey 0x1008 0) ∧ rd (leaveMirrored c 2) (mkKey 0x1008 0) = rd s.core (mkKey 0x1008 0))) ∧
    (∃ (s : State) (fence : BitVec 64), Open s.core ∧ pairState s.core = 3 ∧ rd s.core (bk 9) < fence.toNat) ∧
    (∃ (s : State) (fence : BitVec 64), Open s.core ∧ (pairState s.core ≠ 3 ∨ fence.toNat ≤ rd s.core (bk 9))) ∧
    (∃ (s : State) (l : List MirrorItem) (fence : BitVec 64), (canRecover s.core = false ∨ rd s.core (bk 1) = 0xFFFF)) ∧
    (∃ (s : State) (l : List MirrorItem) (fence : BitVec 64), (canRecover s.core = true ∧ rd s.core (bk 1) ≠ 0xFFFF) ∧ (let c := recover s.mem s.core l; rd c (bk 9) < fence.toNat)) ∧
    (∃ (s : State) (l : List MirrorItem) (fence : BitVec 64), (canRecover s.core = true ∧ rd s.core (bk 1) ≠ 0xFFFF) ∧ (let c := recover s.mem s.core l; fence.toNat ≤ rd c (bk 9))) :=
  ⟨⟨block (buddyCore [] {}), 0, { mirrorA with dst := 2 }, by decide +kernel⟩,
   ⟨block (buddyCore [] {}), 0, { mirrorA with owner := 4 }, by decide +kernel⟩,
   ⟨block (buddyCore [] {}), 0, { mirrorA with item := { itemA with bytes := [] } }, by decide +kernel⟩,
   ⟨block (buddyCore [(bk 4, 0)] {}), 0, mirrorA, by decide +kernel, by decide +kernel⟩,
   ⟨block (buddyCore [(bk 4, 1)] {}), 0, mirrorA, by decide +kernel, by decide +kernel⟩,
   ⟨block (buddyCore [] {}), 0, { src := 3, device := 2, kind := .record, id := 0, sequence := 1, status := 0, fence := 0 }, by decide +kernel⟩,
   ⟨block (buddyCore [] {}), 0, { src := 3, device := 1, kind := .record, id := 0, sequence := 1, status := 0, fence := 0 }, by decide +kernel⟩,
   ⟨block (buddyCore [] { waiting := [itemA] }), 0, { src := 3, device := 1, kind := .record, id := 0, sequence := 2, status := 0, fence := 0 }, itemA, by decide +kernel⟩,
   ⟨block (buddyCore [] { waiting := [itemA] }), 0, { src := 3, device := 1, kind := .record, id := 0, sequence := 1, status := 0, fence := 0 }, itemA, by decide +kernel⟩,
   ⟨block (buddyCore [] { waiting := [itemA] }), 0, { src := 3, device := 1, kind := .record, id := 0, sequence := 1, status := 5, fence := 0 }, itemA, by decide +kernel⟩,
   ⟨{}, itemA, by decide +kernel⟩,
   ⟨{}, { itemA with kind := .job }, by decide +kernel⟩,
   ⟨block (buddyCore [] {}), by decide +kernel⟩,
   ⟨block (buddyCore [(bk 7, 1)] { probing := some 0 }), by decide +kernel⟩,
   ⟨block (buddyCore [(bk 7, 1)] {}), by decide +kernel⟩,
   ⟨block (buddyCore [(bk 7, 1)] { waiting := [itemA] }), by decide +kernel⟩,
   ⟨{}, 5, by decide +kernel⟩,
   ⟨block (buddyCore [(bk 7, 1), (mkKey 0x1008 0, 7), (ek 0 8, 2), (ek 0 2, 1)] { probing := some 0 }), probeReplyA, dap_intact_sealed _ _ rfl, probe_number, by decide +kernel⟩,
   ⟨block (buddyCore [(bk 7, 3), (bk 9, 4)] {}), 5, by unfold Open; decide +kernel, by decide +kernel⟩,
   ⟨block (buddyCore [(bk 7, 3), (bk 9, 4)] {}), 4, by unfold Open; decide +kernel, by decide +kernel⟩,
   ⟨block (coreAt 5 [(bk 1, 0xFFFF)]), [], 0, by decide +kernel⟩,
   ⟨block (coreAt 3 [(jo 8, 1), (hk 0x16, 2), (bk 1, 3), (mkKey 0x6020 0, 1)]), [], 1, by decide +kernel, by decide +kernel⟩,
   ⟨block (coreAt 3 [(jo 8, 1), (hk 0x16, 2), (bk 1, 3), (mkKey 0x6020 0, 1)]), [], 0, by decide +kernel, by decide +kernel⟩⟩

theorem witness_TimeBasesAndTheTimePulse :
    (∃ (s : State) (t : Fin 4) (v : BitVec 96), Open s.core ∧ bits v.toNat 16 32 < 1000000000 ∧ underMgmt s.core t.val = true) ∧
    (∃ (s : State) (t : Fin 4) (v : BitVec 96), Open s.core ∧ bits v.toNat 16 32 < 1000000000 ∧ underMgmt s.core t.val = false ∧ tbState s.core t.val = 0) ∧
    (∃ (s : State) (t : Fin 4) (v : BitVec 96), Open s.core ∧ bits v.toNat 16 32 < 1000000000 ∧ underMgmt s.core t.val = false ∧ tbState s.core t.val ≠ 0) ∧
    (∃ (s : State) (t : Fin 4) (a : BitVec 64), Open s.core ∧ underMgmt s.core t.val = true) ∧
    (∃ (s : State) (t : Fin 4) (a : BitVec 64), Open s.core ∧ underMgmt s.core t.val = false) ∧
    (∃ (c : Core) (t : Fin 4) (d : Int), -(2 ^ 63) ≤ d ∧ d < 2 ^ 63 ∧ d.natAbs ≤ rd c (tbk t.val 9) * 65536) ∧
    (∃ (c : Core) (t : Fin 4) (d : Int), -(2 ^ 63) ≤ d ∧ d < 2 ^ 63 ∧ rd c (tbk t.val 9) * 65536 < d.natAbs) ∧
    (∃ (s : State) (t : Fin 4), Open s.core ∧ rd s.core (tbk t.val 0xA) ≠ 0 ∧ (t = 3 ∨ tbState s.core t.val ≠ 4)) ∧
    (∃ (s : State) (t : Fin 4), Open s.core ∧ (rd s.core (tbk t.val 0xA) = 0 ∨ (t ≠ 3 ∧ tbState s.core t.val = 4))) ∧
    (∃ (s : State), (let x := getTb s.core 3; x.setDue = none ∧ x.forceDue = false)) ∧
    (∃ (s : State) (v : _), (let x := getTb s.core 3; x.setDue = some v ∧ x.forceDue = false)) ∧
    (∃ (s : State), (let x := getTb s.core 3; x.setDue = none ∧ x.forceDue = true)) ∧
    (∃ (s : State) (t : Fin 4) (v : BitVec 64), Open s.core ∧ s.core.stamp < 2 ^ 64 ∧ s.core.stamp < v.toNat) ∧
    (∃ (s : State) (t : Fin 4) (v : BitVec 64) (e : _) (b : _) (l : _) (rest : _) (L : _), Open s.core ∧ s.core.stamp < 2 ^ 64 ∧ v.toNat ≤ s.core.stamp ∧ s.core.clk.latches = (e, b, l) :: rest ∧ b ≤ v.toNat ∧ l[t.val]? = some (some L)) ∧
    (∃ (s : State) (t : Fin 4), (tbState s.core t.val ≠ 1 ∧ tbState s.core t.val ≠ 2 ∨ tbSource s.core t.val = 0)) ∧
    (∃ (s : State) (t : Fin 4), (tbState s.core t.val = 1 ∨ tbState s.core t.val = 2) ∧ tbSource s.core t.val ≠ 0) ∧
    (∃ (s : State) (t : Fin 4), (getTb s.core t.val).slew = 0) ∧
    (∃ (s : State) (t : Fin 4), (getTb s.core t.val).slew ≠ 0) ∧
    (∃ (c : Core) (t : Fin 4), tbState c t.val ≠ 1 ∧ tbState c t.val ≠ 2) ∧
    (∃ (c : Core) (t : Fin 4), (tbState c t.val = 1 ∨ tbState c t.val = 2) ∧ tbSource c t.val ≠ 0 ∧ (getTb c t.val).measAt.isSome = true ∧ (getTb c t.val).slew = 0 ∧ rd c (tbk t.val 0xA) = 0 ∧ (rdI64 c (tbk t.val 0xF)).natAbs ≤ 6553600) ∧
    (∃ (c : Core) (t : Fin 4), (tbState c t.val = 1 ∨ tbState c t.val = 2) ∧ (tbSource c t.val = 0 ∨ (getTb c t.val).measAt.isSome = false ∨ (getTb c t.val).slew ≠ 0 ∨ rd c (tbk t.val 0xA) ≠ 0 ∨ 6553600 < (rdI64 c (tbk t.val 0xF)).natAbs)) ∧
    (∃ (s : State) (d : Nat) (r : Nat), (getTb s.core 3).val = time96Val (rd s.core (tbk 3 0x15)) + d * (86400000000000 * 2 ^ 32) + r ∧ r < 86400000000000 * 2 ^ 32) ∧
    (∃ (s : State) (ppb : BitVec 32), clockBit s.core 1 = true) ∧
    (∃ (s : State) (ppb : BitVec 32), clockBit s.core 1 = false) ∧
    (∃ (c : Core) (t : Fin 4) (off : Int), -(2 ^ 63) ≤ off ∧ off < 2 ^ 63 ∧ (tbState c t.val = 0 ∨ tbState c t.val = 4)) ∧
    (∃ (c : Core) (t : Fin 4) (off : Int), -(2 ^ 63) ≤ off ∧ off < 2 ^ 63 ∧ (tbState c t.val = 1 ∨ tbState c t.val = 2 ∨ tbState c t.val = 3) ∧ underMgmt c t.val = false) ∧
    (∃ (c : Core) (t : Fin 4) (off : Int), -(2 ^ 63) ≤ off ∧ off < 2 ^ 63 ∧ (tbState c t.val = 1 ∨ tbState c t.val = 2 ∨ tbState c t.val = 3) ∧ underMgmt c t.val = true ∧ off.natAbs ≤ rd c (tbk t.val 9) * 65536) ∧
    (∃ (s : State) (l : Fin 8) (m : TimeMsg), (linkUp s.core l.val = false ∨ clockBit s.core 5 = false)) ∧
    (∃ (s : State) (l : Fin 8) (m : TimeMsg), linkUp s.core l.val = true ∧ clockBit s.core 5 = true) ∧
    (∃ (s : State), clockBit s.core 5 = false) ∧
    (∃ (s : State), clockBit s.core 5 = true) ∧
    (∃ (x : Tpulse) (last : Nat), 0 < x.period) ∧
    (∃ (s : State), pulseSource s.core = none) ∧
    (∃ (s : State) (t : _), pulseSource s.core = some t ∧ (let b := nextPulse s.core.tpulse (s.core.tpulse.last.getD (tbNs s.core t)); (s.core.tpulse.high = true ∨ tbNs s.core t < b))) ∧
    (∃ (s : State) (t : _), pulseSource s.core = some t ∧ (let b := nextPulse s.core.tpulse (s.core.tpulse.last.getD (tbNs s.core t)); s.core.tpulse.high = false ∧ b ≤ tbNs s.core t)) ∧
    (∃ (s : State), s.core.tpulse.high = true) ∧
    (∃ (s : State), s.core.tpulse.high = false) :=
  ⟨⟨block (coreAt 5 [(tbk 3 2, 1)]), 3, 999999999 * 65536, by unfold Open; decide +kernel, by decide +kernel⟩,
   ⟨block (coreAt 5 [(tbk 0 2, 0), (tbk 0 3, 0)]), 0, 999999999 * 65536, by unfold Open; decide +kernel, by decide +kernel⟩,
   ⟨block (coreAt 5 [(tbk 0 2, 0), (tbk 0 3, 4)]), 0, 0, by unfold Open; decide +kernel, by decide +kernel⟩,
   ⟨block (coreAt 5 [(tbk 3 2, 1)]), 3, 0, by unfold Open; decide +kernel, by decide +kernel⟩,
   ⟨block (coreAt 5 [(tbk 3 2, 0)]), 3, 0, by unfold Open; decide +kernel, by decide +kernel⟩,
   ⟨coreAt 5 [(tbk 3 9, 1)], 3, -65536, by decide +kernel⟩,
   ⟨coreAt 5 [(tbk 3 9, 1)], 3, -65537, by decide +kernel⟩,
   ⟨block (coreAt 5 [(tbk 3 0xA, 1), (tbk 3 3, 4)]), 3, by unfold Open; decide +kernel, by decide +kernel⟩,
   ⟨block (coreAt 5 [(tbk 2 0xA, 1), (tbk 2 3, 4)]), 2, by unfold Open; decide +kernel, by decide +kernel⟩,
   ⟨block {}, by decide +kernel⟩,
   ⟨block { tbs := [(3, { setDue := some 7 })] }, 7, by decide +kernel⟩,
   ⟨block { tbs := [(3, { forceDue := true })] }, by decide +kernel⟩,
   ⟨block { coreAt 5 [] with stamp := 2 ^ 64 - 2 }, 3, 0xFFFFFFFFFFFFFFFF, by unfold Open; decide +kernel, by decide +kernel⟩,
   ⟨block { coreAt 5 [] with stamp := 8192, clk := { latches := [(1, 4096, [none, none, none, some 5])] } }, 3, 8192, 1, 4096, [none, none, none, some 5], [], 5, by unfold Open; decide +kernel, by decide +kernel⟩,
   ⟨block (coreAt 5 [(tbk 3 3, 3)]), 3, by decide +kernel⟩,
   ⟨block (coreAt 5 [(tbk 2 3, 2), (tbk 2 1, 0x17)]), 2, by decide +kernel⟩,
   ⟨block {}, 3, by decide +kernel⟩,
   ⟨block { tbs := [(3, { slew := -1 })] }, 3, by decide +kernel⟩,
   ⟨coreAt 5 [(tbk 3 3, 4)], 3, by decide +kernel⟩,
   ⟨{ coreAt 5 [(tbk 2 3, 1), (tbk 2 1, 1), (tbk 2 0xA, 0), (tbk 2 0xF, 6553600)] with tbs := [(2, { measAt := some 0 })] }, 2, by decide +kernel⟩,
   ⟨{ coreAt 5 [(tbk 2 3, 1), (tbk 2 1, 1), (tbk 2 0xA, 0), (tbk 2 0xF, 6553601)] with tbs := [(2, { measAt := some 0 })] }, 2, by decide +kernel⟩,
   ⟨block { coreAt 5 [(tbk 3 0x15, 0)] with tbs := [(3, { val := 2 * (86400000000000 * 2 ^ 32) - 1 })] }, 1, 86400000000000 * 2 ^ 32 - 1, by decide +kernel⟩,
   ⟨block (coreAt 5 [(clockKey, 2)]), 0, by decide +kernel⟩,
   ⟨block (coreAt 5 [(clockKey, 0)]), 0, by decide +kernel⟩,
   ⟨coreAt 5 [(tbk 2 3, 4)], 2, 5, by decide +kernel⟩,
   ⟨coreAt 5 [(tbk 2 3, 3), (tbk 2 2, 0)], 2, -(2 ^ 63), by decide +kernel⟩,
   ⟨coreAt 5 [(tbk 2 3, 1), (tbk 2 2, 1), (tbk 2 9, 1)], 2, -65536, by decide +kernel⟩,
   ⟨block (coreAt 5 [(clockKey, 0)]), 7, timeA, by decide +kernel⟩,
   ⟨block (linkedCore [(clockKey, 32)]), 0, timeA, by decide +kernel⟩,
   ⟨block (coreAt 5 [(clockKey, 0)]), by decide +kernel⟩,
   ⟨block (coreAt 5 [(clockKey, 32)]), by decide +kernel⟩,
   ⟨{ period := 1 }, 5, by decide +kernel⟩,
   ⟨block {}, by decide +kernel⟩,
   ⟨block { coreAt 5 [(tbk 3 3, 1)] with tpulse := { src := 3, period := 1000, last := some 0 }, tbs := [(3, { val := 999 * 2 ^ 32 })] }, 3, by decide +kernel, by decide +kernel⟩,
   ⟨block { coreAt 5 [(tbk 3 3, 1)] with tpulse := { src := 3, period := 1000, last := some 0 }, tbs := [(3, { val := 1000 * 2 ^ 32 })] }, 3, by decide +kernel, by decide +kernel⟩,
   ⟨block { tpulse := { high := true } }, by decide +kernel⟩,
   ⟨block {}, by decide +kernel⟩⟩

theorem witness_PrecisionTimeProtocolPorts :
    (∃ (s : State) (m : PtpMsg), ptpTakes s.core m = false) ∧
    (∃ (s : State) (p : Fin 2) (k : PtpTimer) (m : PtpMsg), (rd s.core (pk' p.val 1) = 0 ∨ clockBit s.core 5 = false ∨ portUp s.core p.val = false) ∧ m.port = p) ∧
    (∃ (s : State) (m : PtpMsg), ptpTakes s.core m = true ∧ fromParent s.core m = false) ∧
    (∃ (s : State) (m : PtpMsg), ptpTakes s.core m = true ∧ fromParent s.core m = true ∧ m.twoStep = true) ∧
    (∃ (s : State) (m : PtpMsg), ptpTakes s.core m = true ∧ fromParent s.core m = true ∧ m.twoStep = false) ∧
    (∃ (s : State) (m : PtpMsg), ptpTakes s.core m = true ∧ fromParent s.core m = true ∧ (getPtp s.core m.port.val).sync = none) ∧
    (∃ (s : State) (m : PtpMsg) (q : _) (st : _) (k : _) (f : _), ptpTakes s.core m = true ∧ fromParent s.core m = true ∧ (getPtp s.core m.port.val).sync = some (q, st, k, f) ∧ q ≠ m.sequence.toNat) ∧
    (∃ (s : State) (m : PtpMsg) (q : _) (st : _) (k : _) (f : _), ptpTakes s.core m = true ∧ fromParent s.core m = true ∧ (getPtp s.core m.port.val).sync = some (q, st, k, f) ∧ q = m.sequence.toNat) ∧
    (∃ (c : Core) (p : Fin 2) (t1 : Int) (st : Nat), -(2 ^ 127) ≤ t1 ∧ t1 < 2 ^ 127 ∧ (getPtp c p.val).measured = none) ∧
    (∃ (c : Core) (p : Fin 2) (t1 : Int) (st : Nat) (w : _) (t2 : _), -(2 ^ 127) ≤ t1 ∧ t1 < 2 ^ 127 ∧ (getPtp c p.val).measured = some w ∧ ptpTime c p.val st = some t2) ∧
    (∃ (s : State) (m : PtpMsg), ptpTakes s.core m = true ∧ (rd s.core (pk' m.port.val 0xF) ≠ 6 ∨ rd s.core (pk' m.port.val 4) ≠ 0)) ∧
    (∃ (s : State) (m : PtpMsg) (t4 : _), ptpTakes s.core m = true ∧ rd s.core (pk' m.port.val 0xF) = 6 ∧ rd s.core (pk' m.port.val 4) = 0 ∧ ptpTime s.core m.port.val m.stamp.toNat = some t4) ∧
    (∃ (s : State) (m : PtpMsg), ptpTakes s.core m = true ∧ (let x := getPtp s.core m.port.val; (m.reqClockId ≠ Config.clockIdentity m.port ∨ fromParent s.core m = false ∨ rd s.core (pk' m.port.val 4) ≠ 0 ∨ x.delayReq = none))) ∧
    (∃ (s : State) (m : PtpMsg) (q : _) (s3 : _) (t1 : _) (s2 : _) (t2 : _) (t3 : _), ptpTakes s.core m = true ∧ (let x := getPtp s.core m.port.val; m.reqClockId = Config.clockIdentity m.port ∧ fromParent s.core m = true ∧ rd s.core (pk' m.port.val 4) = 0 ∧ x.delayReq = some (q, s3) ∧ x.syncPair = some (t1, s2) ∧ q = m.sequence.toNat ∧ ptpTime s.core m.port.val s2 = some t2 ∧ ptpTime s.core m.port.val s3 = some t3)) ∧
    (∃ (c : Core) (p : Fin 2) (d : Int), -(2 ^ 63) ≤ d ∧ d < 2 ^ 63 ∧ (getPtp c p.val).measured.isSome = true) ∧
    (∃ (s : State) (m : PtpMsg), ptpTakes s.core m = true ∧ rd s.core (pk' m.port.val 4) ≠ 1) ∧
    (∃ (s : State) (m : PtpMsg) (t2 : _) (t3 : _), ptpTakes s.core m = true ∧ rd s.core (pk' m.port.val 4) = 1 ∧ ptpTime s.core m.port.val m.stamp.toNat = some t2 ∧ ptpTime s.core m.port.val (s.core.stamp % 2 ^ 64) = some t3 ∧ rd s.core (pk' m.port.val 6) = 1) ∧
    (∃ (s : State) (m : PtpMsg) (t2 : _) (t3 : _), ptpTakes s.core m = true ∧ rd s.core (pk' m.port.val 4) = 1 ∧ ptpTime s.core m.port.val m.stamp.toNat = some t2 ∧ ptpTime s.core m.port.val (s.core.stamp % 2 ^ 64) = some t3 ∧ rd s.core (pk' m.port.val 6) ≠ 1) ∧
    (∃ (s : State) (m : PtpMsg), ptpTakes s.core m = true ∧ (let x := getPtp s.core m.port.val; (m.reqClockId ≠ Config.clockIdentity m.port ∨ rd s.core (pk' m.port.val 4) ≠ 1 ∨ x.pdelayReq = none))) ∧
    (∃ (s : State) (m : PtpMsg) (q : _) (s1 : _), ptpTakes s.core m = true ∧ (let x := getPtp s.core m.port.val; m.reqClockId = Config.clockIdentity m.port ∧ rd s.core (pk' m.port.val 4) = 1 ∧ x.pdelayReq = some (q, s1) ∧ q = m.sequence.toNat ∧ m.twoStep = true)) ∧
    (∃ (s : State) (m : PtpMsg) (q : _) (s1 : _), ptpTakes s.core m = true ∧ (let x := getPtp s.core m.port.val; m.reqClockId = Config.clockIdentity m.port ∧ rd s.core (pk' m.port.val 4) = 1 ∧ x.pdelayReq = some (q, s1) ∧ q = m.sequence.toNat ∧ m.twoStep = false)) ∧
    (∃ (s : State) (m : PtpMsg) (q : _) (s1 : _), ptpTakes s.core m = true ∧ (let x := getPtp s.core m.port.val; m.reqClockId = Config.clockIdentity m.port ∧ rd s.core (pk' m.port.val 4) = 1 ∧ x.pdelayReq = some (q, s1) ∧ q = m.sequence.toNat ∧ x.pdelayResp = none)) ∧
    (∃ (s : State) (m : PtpMsg) (q : _) (s1 : _) (t2 : _) (s4 : _) (k : _), ptpTakes s.core m = true ∧ (let x := getPtp s.core m.port.val; m.reqClockId = Config.clockIdentity m.port ∧ rd s.core (pk' m.port.val 4) = 1 ∧ x.pdelayReq = some (q, s1) ∧ q = m.sequence.toNat ∧ x.pdelayResp = some (q, t2, s4, k))) ∧
    (∃ (c : Core) (p : Fin 2) (s1 : Nat) (s4 : Nat) (turn : Int) (t1 : Int) (t4 : Int), ptpTime c p.val s1 = some t1 ∧ ptpTime c p.val s4 = some t4) ∧
    (∃ (s : State) (m : PtpMsg), ptpTakes s.core m = true) ∧
    (∃ (c : Core) (p : Fin 2), foreignBest c p.val = none) ∧
    (∃ (c : Core) (p : Fin 2) (f : _), foreignBest c p.val = some f ∧ (rd c (pk' p.val 7) = 1 ∨ (betterData (ownData c p.val) f.data = false ∧ (ownClass = 0 ∨ 127 < ownClass))) ∧ (getPtp c p.val).parent ≠ some f.who) ∧
    (∃ (c : Core) (p : Fin 2) (f : _), foreignBest c p.val = some f ∧ betterData (ownData c p.val) f.data = true ∧ rd c (pk' p.val 7) ≠ 1 ∧ rd c (pk' p.val 0xF) ≠ 6) ∧
    (∃ (s : State) (p : Fin 2), ptpRuns s.core p.val = true ∧ rd s.core (pk' p.val 0xF) ≠ 6) ∧
    (∃ (s : State) (p : Fin 2) (t1 : _), ptpRuns s.core p.val = true ∧ rd s.core (pk' p.val 0xF) = 6 ∧ ptpTime s.core p.val (s.core.stamp % 2 ^ 64) = some t1 ∧ rd s.core (pk' p.val 6) = 1) ∧
    (∃ (s : State) (p : Fin 2) (t1 : _), ptpRuns s.core p.val = true ∧ rd s.core (pk' p.val 0xF) = 6 ∧ ptpTime s.core p.val (s.core.stamp % 2 ^ 64) = some t1 ∧ rd s.core (pk' p.val 6) ≠ 1) ∧
    (∃ (s : State) (p : Fin 2), ptpRuns s.core p.val = true ∧ rd s.core (pk' p.val 0xF) = 6) ∧
    (∃ (s : State) (p : Fin 2), ptpRuns s.core p.val = true ∧ (rd s.core (pk' p.val 0xF) = 8 ∨ rd s.core (pk' p.val 0xF) = 9) ∧ rd s.core (pk' p.val 4) = 0) ∧
    (∃ (s : State) (p : Fin 2), ptpRuns s.core p.val = true ∧ rd s.core (pk' p.val 4) = 1) ∧
    (∃ (s : State) (p : Fin 2), ptpRuns s.core p.val = true ∧ rd s.core (pk' p.val 0xF) = 6) ∧
    (∃ (s : State) (p : Fin 2), ptpRuns s.core p.val = true ∧ rd s.core (pk' p.val 0xF) ≠ 6) :=
  ⟨⟨block {}, ptpA, by decide +kernel⟩,
   ⟨block {}, 0, .sync, ptpA, by decide +kernel⟩,
   ⟨block (ptpCore [(pk' 0 0xF, 4)] {}), ptpA, ptp_takes _ _ (by decide +kernel) (by decide +kernel) (by decide +kernel) rfl, by decide +kernel⟩,
   ⟨block (ptpCore [(pk' 0 0xF, 9)] (followsA {})), ptpA, ptp_takes _ _ (by decide +kernel) (by decide +kernel) (by decide +kernel) rfl, from_parent _ _ (by decide +kernel) rfl, by decide +kernel⟩,
   ⟨block (ptpCore [(pk' 0 0xF, 9)] (followsA {})), ptpOne, ptp_takes _ _ (by decide +kernel) (by decide +kernel) (by decide +kernel) rfl, from_parent _ _ (by decide +kernel) rfl, by decide +kernel⟩,
   ⟨block (ptpCore [(pk' 0 0xF, 9)] (followsA {})), ptpA, ptp_takes _ _ (by decide +kernel) (by decide +kernel) (by decide +kernel) rfl, from_parent _ _ (by decide +kernel) rfl, by decide +kernel⟩,
   ⟨block (ptpCore [(pk' 0 0xF, 9)] (followsA { sync := some (6, 8192, 0, true) })), ptpA, 6, 8192, 0, true, ptp_takes _ _ (by decide +kernel) (by decide +kernel) (by decide +kernel) rfl, from_parent _ _ (by decide +kernel) rfl, by decide +kernel⟩,
   ⟨block (ptpCore [(pk' 0 0xF, 9)] (followsA { sync := some (7, 8192, 0, true) })), ptpA, 7, 8192, 0, true, ptp_takes _ _ (by decide +kernel) (by decide +kernel) (by decide +kernel) rfl, from_parent _ _ (by decide +kernel) rfl, by decide +kernel⟩,
   ⟨ptpCore [] {}, 0, 2 ^ 127 - 1, 8192, by decide +kernel⟩,
   ⟨ptpCore [] { measured := some 3 }, 0, -(2 ^ 127), 8192, 3, 0, by decide +kernel⟩,
   ⟨block (ptpCore [(pk' 0 0xF, 9)] {}), ptpA, ptp_takes _ _ (by decide +kernel) (by decide +kernel) (by decide +kernel) rfl, by decide +kernel⟩,
   ⟨block (ptpCore [(pk' 0 0xF, 6)] {}), ptpA, 0, ptp_takes _ _ (by decide +kernel) (by decide +kernel) (by decide +kernel) rfl, by decide +kernel⟩,
   ⟨block (ptpCore [(pk' 0 0xF, 9)] {}), ptpA, ptp_takes _ _ (by decide +kernel) (by decide +kernel) (by decide +kernel) rfl, Or.inr (Or.inl (by decide +kernel))⟩,
   ⟨block (ptpCore [(pk' 0 0xF, 9)] (followsA { delayReq := some (7, 8192), syncPair := some (5, 8192) })), ptpA, 7, 8192, 5, 8192, 0, 0, ptp_takes _ _ (by decide +kernel) (by decide +kernel) (by decide +kernel) rfl, rfl, from_parent _ _ (by decide +kernel) rfl, by decide +kernel⟩,
   ⟨ptpCore [] { measured := some 3 }, 0, -(2 ^ 63), by decide +kernel⟩,
   ⟨block (ptpCore [(pk' 0 0xF, 9)] {}), ptpA, ptp_takes _ _ (by decide +kernel) (by decide +kernel) (by decide +kernel) rfl, by decide +kernel⟩,
   ⟨block (ptpCore [(pk' 0 0xF, 9), (pk' 0 4, 1)] {}), ptpA, 0, 0, ptp_takes _ _ (by decide +kernel) (by decide +kernel) (by decide +kernel) rfl, by decide +kernel⟩,
   ⟨block (ptpCore [(pk' 0 0xF, 9), (pk' 0 4, 1), (pk' 0 6, 0)] {}), ptpA, 0, 0, ptp_takes _ _ (by decide +kernel) (by decide +kernel) (by decide +kernel) rfl, by decide +kernel⟩,
   ⟨block (ptpCore [(pk' 0 0xF, 9)] {}), ptpA, ptp_takes _ _ (by decide +kernel) (by decide +kernel) (by decide +kernel) rfl, Or.inr (Or.inl (by decide +kernel))⟩,
   ⟨block (ptpCore [(pk' 0 0xF, 9), (pk' 0 4, 1)] { pdelayReq := some (7, 4096) }), ptpA, 7, 4096, ptp_takes _ _ (by decide +kernel) (by decide +kernel) (by decide +kernel) rfl, rfl, by decide +kernel⟩,
   ⟨block (ptpCore [(pk' 0 0xF, 9), (pk' 0 4, 1)] { pdelayReq := some (7, 4096) }), ptpOne, 7, 4096, ptp_takes _ _ (by decide +kernel) (by decide +kernel) (by decide +kernel) rfl, rfl, by decide +kernel⟩,
   ⟨block (ptpCore [(pk' 0 0xF, 9), (pk' 0 4, 1)] { pdelayReq := some (7, 4096) }), ptpA, 7, 4096, ptp_takes _ _ (by decide +kernel) (by decide +kernel) (by decide +kernel) rfl, rfl, by decide +kernel⟩,
   ⟨block (ptpCore [(pk' 0 0xF, 9), (pk' 0 4, 1)] { pdelayReq := some (7, 4096), pdelayResp := some (7, 0, 8192, 0) }), ptpA, 7, 4096, 0, 8192, 0, ptp_takes _ _ (by decide +kernel) (by decide +kernel) (by decide +kernel) rfl, rfl, by decide +kernel⟩,
   ⟨ptpCore [] {}, 0, 8192, 8192, 0, 0, 0, by decide +kernel⟩,
   ⟨block (ptpCore [(pk' 0 0xF, 4)] {}), ptpA, ptp_takes _ _ (by decide +kernel) (by decide +kernel) (by decide +kernel) rfl⟩,
   ⟨ptpCore [] {}, 0, by decide +kernel⟩,
   ⟨ptpCore [(pk' 0 7, 1)] { foreign := [⟨(1, 1), [0, 0, 0, 1, (Config.clockIdentity 0).toNat, 0], [0, 0]⟩] }, 0, ⟨(1, 1), [0, 0, 0, 1, (Config.clockIdentity 0).toNat, 0], [0, 0]⟩, rfl, Or.inl (by decide +kernel), fun h => (nomatch h)⟩,
   ⟨ptpCore [] { foreign := [⟨(1, 1), [0, 0, 0, 1, (Config.clockIdentity 0).toNat, 0], [0, 0]⟩] }, 0, ⟨(1, 1), [0, 0, 0, 1, (Config.clockIdentity 0).toNat, 0], [0, 0]⟩, rfl, better_of_steps _ _ rfl (by decide +kernel), by decide +kernel⟩,
   ⟨block (ptpCore [(pk' 0 0xF, 9)] {}), 0, by decide +kernel⟩,
   ⟨block (ptpCore [(pk' 0 0xF, 6)] {}), 0, 0, by decide +kernel⟩,
   ⟨block (ptpCore [(pk' 0 0xF, 6), (pk' 0 6, 0)] {}), 0, 0, by decide +kernel⟩,
   ⟨block (ptpCore [(pk' 0 0xF, 6)] {}), 0, by decide +kernel⟩,
   ⟨block (ptpCore [(pk' 0 0xF, 8)] {}), 0, by decide +kernel⟩,
   ⟨block (ptpCore [(pk' 0 0xF, 9), (pk' 0 4, 1)] {}), 0, by decide +kernel⟩,
   ⟨block (ptpCore [(pk' 0 0xF, 6)] {}), 0, by decide +kernel⟩,
   ⟨block (ptpCore [(pk' 0 0xF, 9)] {}), 0, by decide +kernel⟩⟩

/-- The hypotheses of the install of a valid image, for any valid image: which keys are fused and revoked is the factory's
(`Config`), so no one image can be evaluated. -/
theorem witness_valid_image_installed (c : Core) (l : List Byte) (h : imageValid c .firmware l = true) (n : Nat) :
    ∃ s : State, mget 0 s.core.mode.installing (slotKey .firmware 0) = n + 1 ∧
      imageValid s.core .firmware (dom s.core (imk .firmware 1)) = true := by
  refine ⟨block { c with mode := { c.mode with installing := [(0, n + 1)] }, doms := [(imk .firmware 1, l)] }, ?_, ?_⟩
  · rfl
  · exact h

/-- The hypotheses of a boot with firmware and without microcode, for any valid firmware image. -/
theorem witness_boot_with_firmware (l : List Byte) (h : imageValid (coreAt 0 [(imk .firmware 6, 0), (imk .firmware 7, 0), (imk .microcode 6, 0)]) .firmware l = true) :
    ∃ s : State, modeNow s.core = 0 ∧ bootSlot s.core .firmware = some 0 ∧ bootSlot s.core .microcode = none := by
  refine ⟨block { coreAt 0 [(imk .firmware 6, 0), (imk .firmware 7, 0), (imk .microcode 6, 0)] with
    mode := { slots := [(0, l), (1, []), (2, []), (3, [])] } }, rfl, ?_, rfl⟩
  show (if imageValid (coreAt 0 [(imk .firmware 6, 0), (imk .firmware 7, 0), (imk .microcode 6, 0)]) .firmware l = true then some 0 else _) = some 0
  rw [if_pos h]

/-! ## Well-formedness: each check refuses a term -/

theorem test_ill_formed_is_refused :
    Instr.wellFormed (.read { dapFrame [] with tag := [1] }) = false ∧
    Instr.wellFormed (.dapFrameRelay 0 { dapFrame [] with flags := 4 }) = false ∧
    Instr.wellFormed (.stAck { stFrame 1 with tag := [1] }) = false ∧
    Instr.wellFormed (.tokenDatagram { ip := plainIp, src := hostA, header := 0, body := 0, crc := 0, tag := [1] }) = false ∧
    Instr.wellFormed (.flitNak 0 { flitA with slots := [] }) = false ∧
    Instr.wellFormed (.rdReq 0 msgA) = false ∧
    Instr.wellFormed (.wrReq 0 { msgA with body := [] }) = false ∧
    Instr.wellFormed (.rdResp 0 { msgA with body := [0] }) = false ∧
    Instr.wellFormed (.foregroundCalComplete [{ pin := 0, tempMc := 0, offsets := [], coarse := [], eye := 0, source := [] }]) = false ∧
    Instr.wellFormed (.trainComplete []) = false ∧
    Instr.wellFormed (.modeTransitionComplete [{ failed := 0, lanes := 0 }]) = false ∧
    Instr.wellFormed (.cdTableComplete 0 [] []) = false ∧
    Instr.wellFormed (.memTestComplete []) = false ∧
    Instr.wellFormed (.sawyerLoadStore 5 { accessA .amoSwap with size := 1 }) = false := by decide

theorem test_well_formed_is_taken :
    Instr.wellFormed (.read (dapFrame [])) = true ∧ Instr.wellFormed (.flitNak 0 flitA) = true ∧ Instr.wellFormed (.wrReq 0 msgA) = true ∧
    Instr.wellFormed (.sawyerLoadStore 5 (accessA .store)) = true := by decide

/-! ## Worked examples of the spec -/

theorem test_reset_queue : State.reset.pending = [] := by decide

/-- EN and TIME of one edge register; a timing set from its registers, FORMAT and STROBE_MODE (Table 5-5). -/
def edgeOn (t : Nat) : Nat := t + 2 ^ 47
def timingSetOf (l : List Nat) (format : Nat) (window : Bool) : Nat :=
  packFields (l.map (fun t => (48, t)) ++ [(3, format), (1, 0), (1, ofBool window), (3, 0), (16, 0), (16, 0)])

def runOf (m period ts : Nat) : PinRun := { period := period, m := m, start := 0, vector0 := 0, ts := ts, duty := none, raster := none }

/-- Tick, pair (true: enable) and level of the transitions that a vector programs, the driver being on or off. -/
def edgesOf (r : PinRun) (x : Pin) (codes : List Nat) : List (Nat × Bool × Bool) :=
  (vectorSlots r 0 codes 0 x.en x [] 0).2.1.map (fun e => (e.t, e.enable, e.level))

/-- Table 5-7: D1 with T0 1,024 and T1 3,072 under NRZ, RZ, R1 and SBC. -/
theorem test_formats_of_table_5_7 :
    [0, 1, 2, 3].map (fun f => edgesOf (runOf 1 4096 (timingSetOf [edgeOn 1024, edgeOn 3072, 0, 0, 0, 0, 0, 0] f false)) { en := true } [1])
      = [[(1024, false, true)], [(1024, false, true), (3072, false, false)], [(1024, false, true), (3072, false, true)],
         [(0, false, false), (1024, false, true), (3072, false, false)]] := by decide +kernel

/-- Table 5-8: the driver turns on at T2 with D1 and off at T3 with CL. -/
theorem test_turn_round_of_table_5_8 :
    (let r := runOf 1 4096 (timingSetOf [edgeOn 1024, 0, edgeOn 512, edgeOn 256, edgeOn 2048, edgeOn 2560, 0, 0] 0 true)
     [edgesOf r {} [8], edgesOf r {} [1], edgesOf r { en := true } [0], edgesOf r { en := true } [4]])
      = [[], [(512, true, true), (1024, false, true)], [(1024, false, false)], [(256, true, false)]] := by decide +kernel

/-- Table 5-9: vector 0 at ×4 under SBURST, with BURST_WORD 0b0110. -/
theorem test_sburst_of_table_5_9 :
    edgesOf (runOf 4 1024 (timingSetOf [edgeOn 64, edgeOn 320, edgeOn 576, edgeOn 832, edgeOn 192, edgeOn 448, edgeOn 704, edgeOn 960] 4 false))
      { force := { burstLen := 4, burstWord := 6 } } [1, 0xB, 0xB, 5]
      = [(64, true, true), (64, false, true), (320, false, false), (576, false, true), (832, true, false)] := by decide +kernel

/-- One vector of Table 5-11: whether it passes and whether it is a boundary case. -/
def windowCase (before high : Bool) (t : Nat) : Bool × Bool :=
  let x : Pin := { accH := before, accL := !before, history := [⟨t, .high, high⟩, ⟨t, .low, !high⟩], force := { boundary := true } }
  let r := evalStrobe x (stateChanges x) { vector := 0, slot := 0, ab := 0, code := 5, opens := 2048, closes := 2560, window := true }
  (r.pass, r.boundary)

theorem test_windows_of_table_5_11 :
    [windowCase false true 2048, windowCase true false 2560, windowCase true false 2559, windowCase false true 2051]
      = [(true, true), (true, true), (false, true), (false, false)] := by decide +kernel

/-- CH173 at 47.3 °C (example after Table 6-8's objects): 1,212 and 1,247 give 1,229; 388 and 396 give 392; 453 and 462 give 457. -/
theorem test_interpolation_at_47_3 :
    interpAt 47300 (fun i => if i = 1 then 1212 else 1247) = 1229 ∧ interpAt 47300 (fun i => if i = 1 then 388 else 396) = 392 ∧
    interpAt 47300 (fun i => if i = 1 then 453 else 462) = 457 := by decide +kernel

/-- TAPQUERY of t_prog 1,024 on path 0 and generator 0 reads back 0x0000_000F_030C. -/
theorem test_tap_word : ∃ c, exec (.tapQuery 173 1024)
    (block { pins := [(173, { corrA := { ofs := [-1644], coarse := [[0, 64, 128, 192, 256, 320, 392, 457]] } })] }) = .next (block c) ∧
    rd c (mkKey (0x3300 + 173) 6) = 0xF030C := by
  exact ⟨_, rfl, by decide +kernel⟩

/-- Quads 0 to n - 1 assigned to WV00, site 0. -/
def quadsA (n : Nat) : SMap Nat := (List.range n).flatMap (fun q => [(mkKey (0x20C0 + q) 1, 0), (mkKey (0x20C0 + q) 2, 0)])

/-- FETCH_RES 35, 69, 1,089 and 545 (example of chapter 11) and CREDIT 40,004 (example of chapter 7). -/
theorem test_reservations :
    fetchRes { regs := quadsA 10 } 0 { period := 2560, rateMul := 1 } = 35 ∧ fetchRes { regs := quadsA 4 } 0 { period := 1024, rateMul := 2 } = 69 ∧
    fetchRes { regs := quadsA 64 } 0 { period := 1024, rateMul := 2 } = 1089 ∧
    fetchRes { regs := quadsA 64 } 0 { period := 1024, rateMul := 2, dense := true } = 545 ∧ creditOf { units := 40000 } 1 = 40004 := by decide +kernel

/-- The fit of the example of R248: T 102,400.2048 ticks, residual 6.144 ticks, N 4,000. -/
theorem test_frequency_fit :
    freqFit { n := 4000, sn := 0, snn := 5333333000, snt := 546134391466598, st := 0, stt := 546134391466598 ^ 2 / 5333333000 + 150919 }
      = some (107374397148, 88, 39999920000160, 32863) := by decide +kernel

/-- A write to 0x048C_8002_0000 lands at 0x0A_0002_0000 under APERTURE_2 0xC000_0000_0000_0028 (example of R38). -/
theorem test_aperture :
    apertureOf (coreAt 5 [(mkKey 0x6021 3, 0xC000000000000028), (hk 5, 96 * 2 ^ 30), (hk 0x16, 2), (hk 2, 0)]) 0x048C80020000 64 true
      = .ok 0x0A00020000 := by decide +kernel

/-- Table 9-3: SPAN and TAINT_LEN of NORMAL: R 8, H 2, D 2. -/
theorem test_normal_preset : chainSpan { regs := [(fk 2 2, 1)] } 2 = 4621 ∧ taintLen { regs := [(fk 2 2, 1)] } 2 = 73 := by decide +kernel

/-- Table 3-6: a jump taken at the commit point stands in FAR; the successor before it is NEAR's. -/
theorem test_jump_at_the_commit_point :
    (writeJump {} { coreAt 5 [(wk 5 1, 2), (jk 5 3, 9)] with weavers := [(5, { desc := some {}, committed := true })] } 5 0x100).toOption.map
      (fun c => (rd c (jk 5 3), rd c (jk 5 4))) = some (9, 0x100) := by decide +kernel

/-- Whether an outcome is a next state of which `p` holds. -/
def nextHolds (o : Host.Outcome State Fault Refusal) (p : State → Bool) : Bool :=
  match o with
  | .next t => p t
  | _ => false

/-- The example of chapter 2: an ATOMIC WRITE of SEQUENCE 1,207 remaps apertures 3 and 4. -/
def remapA : DapFrame :=
  dapSealed opWrite { dapFrame ([(0x6021, 4, 0xC000000000000029), (0x6021, 5, 0x8000000000000100)].flatMap (fun e =>
    leBytes 24 (packFields [(16, e.1), (8, e.2.1), (8, 5), (32, 8), (64, 0), (64, e.2.2)]))) with flags := 2, target := 0x123, sequence := 1207, hops := 8 }

theorem test_remap_of_two_apertures :
    nextHolds (exec (.write remapA) (block { coreAt 5 [(mkKey 0x6020 0, 0x123), (ek 0 8, 2), (ek 0 2, 1)] with dap := { sessions := [{ sessA with done := 1206 }] } }))
      (fun t => rd t.core (mkKey 0x6021 4) == 0xC000000000000029 && rd t.core (mkKey 0x6021 5) == 0x8000000000000100 &&
        t.core.dap.sessions.map Session.done == [1207]) = true := by decide +kernel

end Sys2Proof.Machine
end

section
/-!
The writes of scalar objects by no session: a command whose checks fail, one that passes them, and the objects
SESSION_IDLE_TIMEOUT and DEVICE_ID (R10, R38, R46, R474; log 74).
-/
namespace Sys2Proof.Machine

/-! ## A write command of any scalar object -/

/-- A write command that fails a check of R474 answers its status alone. -/
theorem makes_refused {i : Instr} {s : State} {k : Key} {v e : Nat} {eff : Effect} {st : Status}
    (he : exec i s = wrote s k v e eff) (hw : writeFail s.core false k v e 0 = some st) :
    Makes i s { s.core with status := st } := by
  simp only [Makes, Gives, he, wrote, writeObj, hw, did, settledM]

/-- A write command that passes the checks of R474 has its object's effect, as far as the block takes one. -/
theorem gives_guarded {i : Instr} {s : State} {k : Key} {v e : Nat} {eff : Effect}
    (he : exec i s = wrote s k v e eff) (hw : writeFail s.core false k v e 0 = none) :
    Gives i s (guarded k eff s.mem s.core).2.1
      { (guarded k eff s.mem s.core).2.2 with status := (guarded k eff s.mem s.core).1 } := by
  simp only [Gives, he, wrote, writeObj, hw, did, settledM]

/-- REGISTER_WRITE is a write of the object that its fields name. -/
theorem exec_registerWrite (o : ObjWrite) (s : State) :
    exec (.registerWrite o) s = wrote s (mkKey o.index.toNat o.sub.toNat) o.value.toNat o.epoch.toNat
      (effectOf (mkKey o.index.toNat o.sub.toNat) o.value.toNat (boundaryOf s.core o.epoch.toNat)) := rfl

/-! ## SESSION_IDLE_TIMEOUT (Table 2-10) -/

/-- SESSION_IDLE_TIMEOUT has no behaviour of its own. -/
theorem effectOf_sessionIdleTimeout (v e : Nat) : effectOf (dk 5) v e = effPut (dk 5) v := rfl

/-- A SESSION_IDLE_TIMEOUT within its range passes the checks of an open block. -/
theorem writeFail_sessionIdleTimeout {c : Core} {v : Nat} (hc : Open c) (hlo : 100 ≤ v) (hhi : v ≤ 600000) :
    writeFail c false (dk 5) v 0 0 = none := by
  have hobj : objIs (dk 5) .u32 .rw (.nat 100 600000) = true := by decide +kernel
  have hwidth : ¬ 2 ^ (8 * ObjTy.u32.width) ≤ v := by simp only [ObjTy.width]; omega
  have hrange : rangeFail .u32 (.nat 100 600000) v = none := by simp [rangeFail, hlo, hhi]
  exact writeFail_none hobj hc (by simp [hwidth]) rfl (by decide) rfl rfl rfl hrange

/-! ## DEVICE_ID (R38) -/

/-- DEVICE_ID is written as the object at 0x6020. -/
theorem exec_deviceId (v : BitVec 16) (s : State) :
    exec (.deviceId v) s = wrote s (mkKey 0x6020 0) v.toNat 0 (putDeviceId v.toNat) := rfl

/-- The search of the UP links for a partner with an ID fails exactly when no UP link has one. -/
theorem upLinks_any_partner (c : Core) (v : Nat) :
    (upLinks c).any (fun l => rd c (lk l 3) == v) = false ↔ ∀ l < 8, linkUp c l = true → rd c (lk l 3) ≠ v := by
  simp [upLinks]

/-- An ID that no partner of an UP link has is taken while no stream and no boom is enabled. -/
theorem putDeviceId_free {c : Core} {v : Nat} (m : Mem) (hs : anyStream c = false) (hb : anyBoom c = false)
    (hp : v = 0xFFFF ∨ ∀ l < 8, linkUp c l = true → rd c (lk l 3) ≠ v) :
    putDeviceId v m c = (stOk, (m, tryRecover m (pairRefresh (wr (renumber c v) (mkKey 0x6020 0) v)))) := by
  have hfree : (v == 0xFFFF || !(upLinks c).any (fun l => rd c (lk l 3) == v)) = true := by
    rw [← upLinks_any_partner] at hp
    rcases hp with rfl | hp
    · rfl
    · simp [hp]
  simp only [putDeviceId, effIf, hs, hb, hfree, Bool.not_false, Bool.and_self, if_true]

/-- An ID of Table 1-8 passes the checks of an open block in STANDBY or WARM. -/
theorem writeFail_deviceId {c : Core} (v : BitVec 16) (hc : Open c) (hm : InModes c [.standby, .warm])
    (hv : v.toNat ≤ 16383 ∨ v = 0xFFFF) : writeFail c false (mkKey 0x6020 0) v.toNat 0 0 = none := by
  have hobj : objIs (mkKey 0x6020 0) .u16 (.rwm [.standby, .warm]) (.natOr 0 16383 0xFFFF) = true := by decide +kernel
  have hwidth : ¬ 2 ^ (8 * ObjTy.u16.width) ≤ v.toNat := by simp only [ObjTy.width]; omega
  have hrange : rangeFail .u16 (.natOr 0 16383 0xFFFF) v.toNat = none := by
    rcases hv with hv | rfl
    · simp [rangeFail, hv]
    · rfl
  exact writeFail_none hobj hc (by simp [hwidth]) rfl (by decide) rfl (modeAccepts_rwm hm) rfl hrange

/-! ## The statement -/

/-- Settles O31: the checks and the effect are those of any write command; the two objects pass the checks of an open block. -/
theorem registerWrites : Obligations.RegisterWrites := by
  unfold Obligations.RegisterWrites
  refine ⟨?refused, ?effect, ?idleTimeout, ?deviceId⟩
  case refused =>
    intro s o st hfail
    exact makes_refused (exec_registerWrite o s) hfail
  case effect =>
    intro s o hpass
    exact gives_guarded (exec_registerWrite o s) hpass
  case idleTimeout =>
    intro s o hopen hix hsub hlo hhi he
    have hexec : exec (.registerWrite o) s = wrote s (dk 5) o.value.toNat 0 (effPut (dk 5) o.value.toNat) := by
      have hkey : mkKey o.index.toNat o.sub.toNat = dk 5 := by rw [hix, hsub]; rfl
      have hepoch : o.epoch.toNat = 0 := by rw [he]; rfl
      rw [exec_registerWrite, hkey, hepoch, effectOf_sessionIdleTimeout]
    exact accepts_scalar hexec (writeFail_sessionIdleTimeout hopen hlo hhi) (closedTo_open hopen (by decide)) rfl
  case deviceId =>
    intro s v hopen hmode hv hs hb hp
    have hfree : v.toNat = 0xFFFF ∨ ∀ l < 8, linkUp s.core l = true → rd s.core (lk l 3) ≠ v.toNat :=
      hp.imp_left (fun h => by rw [h]; rfl)
    exact accepts_scalar (exec_deviceId v s) (writeFail_deviceId v hopen hmode hv) (closedTo_open hopen (by decide))
      (putDeviceId_free s.mem hs hb hfree)

end Sys2Proof.Machine
end

section
/-!
The canonical form of the memory (R36, R317, R320): every operation that takes the memory hands it back in canonical form, so
that every command of the table, and with it every step, keeps it.
-/
namespace Sys2Proof.Machine

section
variable {m : Mem} {c : Core}

/-! ## Branches and folds -/

theorem Mem.wf_ite {p : Prop} [Decidable p] {a b : Mem × Core} (ha : a.1.wf = true) (hb : b.1.wf = true) :
    (if p then a else b).1.wf = true := by split <;> assumption

theorem Mem.wf_ite' {p : Prop} [Decidable p] {a b : Mem} (ha : a.wf = true) (hb : b.wf = true) :
    (if p then a else b).wf = true := by split <;> assumption

theorem Mem.wf_ite_answer {p : Prop} [Decidable p] {a b : Status × (Mem × Core)} (ha : a.2.1.wf = true) (hb : b.2.1.wf = true) :
    (if p then a else b).2.1.wf = true := by split <;> assumption

/-- A fold over results keeps the canonical form when each of its steps does. -/
theorem Mem.wf_foldl {α : Type} {g : Mem × Core → α → Mem × Core} (hg : ∀ p x, p.1.wf = true → (g p x).1.wf = true)
    (l : List α) {p : Mem × Core} (hp : p.1.wf = true) : (l.foldl g p).1.wf = true :=
  List.foldlRecOn l g hp (fun p hp x _ => hg p x hp)

/-! ## The controller -/

@[simp] theorem pokeBytes_tags (l : List Byte) (m : Mem) (a : Nat) : (pokeBytes m a l).tags = m.tags := by
  induction l generalizing m a with
  | nil => rfl
  | cons b l ih => exact ih (pokeByte m a b) (a + 1)

theorem Mem.wf_put_tag (b v : Nat) (h : m.wf = true) :
    Mem.wf { m with tags := minsert (merase m.tags b) b v } = true := by
  rw [Mem.wf_iff] at h ⊢
  exact ⟨h.1, mwf_mput m.tags b v h.2.1, h.2.2⟩

@[simp] theorem Mem.wf_putWord (u : Nat) (l : List Nat) (h : m.wf = true) : (putWord m u l).wf = true := by
  have hp : (pokeBytes m (64 * u) ((l.map (BitVec.ofNat 8)).take 64)).wf = true := Mem.wf_pokeBytes _ m _ h
  simp only [putWord, ← pokeBytes_tags ((l.map (BitVec.ofNat 8)).take 64) m (64 * u)]
  split
  · exact hp
  · split
    · split
      · exact Mem.wf_put_tag _ _ hp
      · exact hp
    · split
      · exact hp
      · exact Mem.wf_erase_tag _ _ hp

@[simp] theorem Mem.wf_checkedStore (a : Nat) (l : List Byte) (hint : PageHint) (h : m.wf = true) :
    (checkedStore m c a l hint).1.wf = true := Mem.wf_store m a l h

@[simp] theorem Mem.wf_readUnit (u : Nat) (errors : List (Nat × Nat)) (h : m.wf = true) :
    (readUnit m c u errors).1.wf = true := by
  simp only [readUnit]
  split
  · exact Mem.wf_putWord _ _ h
  · exact Mem.wf_putWord _ _ h
  · exact Mem.wf_put_bad m u h

@[simp] theorem Mem.wf_scrubNext (found : ScrubFound) (h : m.wf = true) : (scrubNext m c found).1.wf = true := by
  simp only [scrubNext]
  split
  · exact h
  · split
    · exact h
    · exact Mem.wf_readUnit _ _ h

@[simp] theorem Mem.wf_clearHbm (h : m.wf = true) : (clearHbm m).wf = true := by
  rw [Mem.wf_iff] at h ⊢
  exact ⟨mcanon_filter 0 _ m.cells h.1, rfl, rfl⟩

@[simp] theorem Mem.wf_initComplete (t : List StackTraining) (h : m.wf = true) : (initComplete m c t).1.wf = true := by
  unfold initComplete
  split
  · exact h
  · exact Mem.wf_ite' h (Mem.wf_clearHbm h)

@[simp] theorem Mem.wf_writeMemTest (h : m.wf = true) : (writeMemTest m c).2.1.wf = true := by
  simp only [writeMemTest]
  split
  · exact h
  · exact Mem.wf_clearHbm h

@[simp] theorem Mem.wf_memTestComplete (e : List (BitVec 32)) (h : m.wf = true) : (memTestComplete m c e).1.wf = true := by
  simp only [memTestComplete]
  split
  · exact h
  · exact Mem.wf_clearHbm h

/-! ## Rings, booms and records -/

@[simp] theorem Mem.wf_storeUnits (e : StreamEntry) (pos : Nat) (hint : PageHint) (k : Nat) (l : List Byte) (h : m.wf = true) :
    (storeUnits m c e pos hint k l).1.wf = true := by
  induction k generalizing m c pos l with
  | zero => exact h
  | succ k ih => simp only [storeUnits, ih, Mem.wf_checkedStore, h]

@[simp] theorem Mem.wf_ringWrite (n seq : Nat) (bytes : List Byte) (h : m.wf = true) :
    (ringWrite m c n seq bytes).1.wf = true := by simp only [ringWrite, Mem.wf_storeUnits, h]

@[simp] theorem Mem.wf_appendEntry (q : Nat) (job : Bool) (build : Nat → List Byte) (h : m.wf = true) :
    (appendEntry m c q job build).1.wf = true := by
  simp only [appendEntry]
  split <;> simp only [Mem.wf_ringWrite, Mem.wf_checkedStore, h]

@[simp] theorem Mem.wf_appendBodies (r cal run : Nat) (l : List EntryBody) (h : m.wf = true) :
    (appendBodies m c r cal run l).1.wf = true := by
  induction l generalizing m c with
  | nil => exact h
  | cons e l ih => simp only [appendBodies, ih, Mem.wf_appendEntry, h]

theorem Mem.wf_commitOne {q : Nat} {r : Mem × Core} (h : m.wf = true) (hr : commitOne m c q = some r) : r.1.wf = true := by
  simp only [commitOne] at hr
  split at hr
  · cases hr
  · split at hr
    · cases hr
    · rw [Option.ite_none_left_eq_some] at hr
      obtain ⟨-, hr⟩ := hr
      cases hr
      exact Mem.wf_appendBodies _ _ _ _ h

@[simp] theorem Mem.wf_commitAll (n q : Nat) (h : m.wf = true) : (commitAll n m c q).1.wf = true := by
  induction n generalizing m c with
  | zero => exact h
  | succ n ih =>
    simp only [commitAll]
    split
    case h_1 m1 c1 hr => exact ih (Mem.wf_commitOne h hr)
    case h_2 => exact h

@[simp] theorem Mem.wf_migrated (q : Nat) (h : m.wf = true) : (migrated m c q).1.wf = true := by
  unfold migrated
  dsimp only
  split
  · exact h
  · exact Mem.wf_ite h (Mem.wf_ite (Mem.wf_appendEntry _ _ _ h) h)

@[simp] theorem Mem.wf_settleBooms (h : m.wf = true) : (settleBooms m c).1.wf = true :=
  Mem.wf_foldl (fun _ _ hp => Mem.wf_migrated _ (Mem.wf_commitAll _ _ hp)) _ h

@[simp] theorem Mem.wf_timeoutTask (q first : Nat) (h : m.wf = true) : (timeoutTask m c q first).1.wf = true := by
  simp only [timeoutTask]
  split
  · split
    · exact Mem.wf_settleBooms h
    · exact h
  · exact h

@[simp] theorem Mem.wf_drainBoom (q : Nat) (h : m.wf = true) : (drainBoom m c q).1.wf = true := Mem.wf_settleBooms h

@[simp] theorem Mem.wf_drainTimedOut (q : Nat) (h : m.wf = true) : (drainTimedOut m c q).1.wf = true := by
  unfold drainTimedOut
  split
  · exact Mem.wf_drainBoom q h
  · exact h

@[simp] theorem Mem.wf_disableBoom (q d : Nat) (h : m.wf = true) : (disableBoom m c q d).2.1.wf = true := by
  simp only [disableBoom]
  split
  · exact h
  · exact Mem.wf_settleBooms h

@[simp] theorem Mem.wf_writeBoomObject (q : Nat) (l : List Byte) (h : m.wf = true) : (writeBoomObject m c q l).2.1.wf = true := by
  simp only [writeBoomObject]
  split
  · exact Mem.wf_disableBoom _ _ h
  · split <;> exact h

@[simp] theorem Mem.wf_writeMigrate (q v : Nat) (h : m.wf = true) : (writeMigrate m c q v).2.1.wf = true := by
  simp only [writeMigrate]
  split
  · exact h
  · split
    · exact h
    · split
      · exact Mem.wf_drainBoom q h
      · exact Mem.wf_settleBooms h

@[simp] theorem Mem.wf_enterJobs (q : Nat) (l : List (List Byte)) (h : m.wf = true) : (enterJobs m c q l).1.wf = true := by
  induction l generalizing m c with
  | nil => exact h
  | cons e l ih => simp only [enterJobs, ih, Mem.wf_appendEntry, h]

@[simp] theorem Mem.wf_writeWinSubmit (q : Nat) (l : List Byte) (h : m.wf = true) : (writeWinSubmit m c q l).2.1.wf = true := by
  simp only [writeWinSubmit]
  split
  · exact h
  · split
    · exact h
    · split
      · exact h
      · exact Mem.wf_enterJobs _ _ h

@[simp] theorem Mem.wf_placeRecord (n : Nat) (h : m.wf = true) : (placeRecord m c n).1.wf = true := by
  simp only [placeRecord]
  split
  · exact h
  · split
    · exact h
    · split <;> split <;> simp only [Mem.wf_appendEntry, Mem.wf_ringWrite, h]

@[simp] theorem Mem.wf_ackStream (n seq : Nat) (h : m.wf = true) : (ackStream m c n seq).1.wf = true := by
  simp only [ackStream]
  split
  · exact h
  · exact Mem.wf_settleBooms h

@[simp] theorem Mem.wf_egress (n : Nat) (x : Held) (h : m.wf = true) : (egress m c n x).2.1.wf = true := by
  cases x with
  | ring r =>
    simp only [egress]
    split
    · exact h
    · split <;> exact Mem.wf_storeUnits _ _ _ _ _ h
  | landing s =>
    simp only [egress]
    split <;> exact h
  | lost seq => exact h

@[simp] theorem Mem.wf_gather (k n after top units : Nat) (again : Bool) (h : m.wf = true) :
    (gather k m c n after top units again).2.2.1.wf = true := by
  induction k generalizing m c after units with
  | zero => exact h
  | succ k ih =>
    simp only [gather]
    split
    · exact h
    · split
      · exact h
      · split
        · exact h
        · exact ih _ _ (Mem.wf_egress _ _ h)

@[simp] theorem Mem.wf_sendOwn (n : Nat) (h : m.wf = true) : (sendOwn m c n).1.wf = true := by
  simp only [sendOwn]
  split
  · split
    · exact h
    · split
      · exact h
      · split
        · exact h
        · exact Mem.wf_gather _ _ _ _ _ _ h
  · exact h

@[simp] theorem Mem.wf_sendStream (n : Nat) (h : m.wf = true) : (sendStream m c n).1.wf = true := by
  simp only [sendStream]
  split <;> exact Mem.wf_sendOwn n h

@[simp] theorem Mem.wf_stOpenFrame (f : StFrame) (h : m.wf = true) : (stOpenFrame m c f).1.wf = true := by
  unfold stOpenFrame
  split
  · exact h
  · exact Mem.wf_ite (Mem.wf_ite h (Mem.wf_ite h h))
      (Mem.wf_ite (Mem.wf_ite h (Mem.wf_ite h (Mem.wf_ackStream _ _ h))) h)

@[simp] theorem Mem.wf_stAckFrame (f : StFrame) (h : m.wf = true) : (stAckFrame m c f).1.wf = true := by
  simp only [stAckFrame]
  split
  · exact h
  · split
    · split
      · exact h
      · split
        · exact h
        · split <;> exact h
    · split
      · exact h
      · split
        · exact h
        · split
          · exact h
          · split
            · exact h
            · exact Mem.wf_ackStream _ _ h

@[simp] theorem Mem.wf_writeAcqRecord (u : Nat) (h : m.wf = true) : (writeAcqRecord m c u).1.wf = true := by
  simp only [writeAcqRecord]
  split
  · exact h
  · split
    · exact h
    · simp only [Mem.wf_ringWrite, h]

@[simp] theorem Mem.wf_writeResult (ch : Nat) (h : m.wf = true) : (writeResult m c ch).1.wf = true := by
  simp only [writeResult]
  split
  · exact h
  · split
    · exact h
    · split <;> simp only [Mem.wf_checkedStore, h]

/-! ## Sawyer harts and partitions -/

@[simp] theorem Mem.wf_serveWrite (g : Nat) (l : List Byte) (h : m.wf = true) : (serveWrite m c g l).2.1.wf = true := by
  simp only [serveWrite]
  split
  · exact h
  · simp only [Mem.wf_checkedStore, h]

@[simp] theorem Mem.wf_resumeBoom (q : Nat) (h : m.wf = true) : (resumeBoom m c q).1.wf = true := by
  unfold resumeBoom
  dsimp only
  split
  · exact h
  · refine Mem.wf_ite ?_ (Mem.wf_settleBooms ?_) <;> refine Mem.wf_foldl (p := (m, c)) (fun p it hp => ?_) _ h <;>
      exact Mem.wf_ite hp (Mem.wf_checkedStore _ _ _ hp)

@[simp] theorem Mem.wf_accessMemory (n a : Nat) (x : MemAccess) (h : m.wf = true) : (accessMemory m c n a x).1.wf = true := by
  have hw : ∀ (writes : Prop) [Decidable writes] (c1 : Core) (l : List Byte),
      (if writes then checkedStore m c1 a l .close else (m, c1)).1.wf = true :=
    fun _ _ _ _ => Mem.wf_ite (Mem.wf_checkedStore _ _ _ h) h
  unfold accessMemory
  refine Mem.wf_ite h (Mem.wf_ite h ?_)
  cases x.op <;> exact hw _ _ _

end

section
variable {m : Mem} {c : Core}

@[simp] theorem Mem.wf_accessGlobal (n g : Nat) (x : MemAccess) (h : m.wf = true) : (accessGlobal m c n g x).1.wf = true := by
  unfold accessGlobal
  dsimp only
  split
  · exact h
  · split
    · split
      · exact Mem.wf_ite (Mem.wf_serveWrite _ _ h) (Mem.wf_serveWrite _ _ h)
      · exact Mem.wf_ite h (Mem.wf_ite h h)
    · split <;> exact h

@[simp] theorem Mem.wf_loadStore (n : Nat) (x : MemAccess) (h : m.wf = true) : (loadStore m c n x).1.wf = true := by
  unfold loadStore
  refine Mem.wf_ite h (Mem.wf_ite h (Mem.wf_ite h ?_))
  dsimp only
  split
  · exact h
  · split
    · exact Mem.wf_accessMemory _ _ _ h
    · exact h
    · exact h
    · exact Mem.wf_accessGlobal _ _ _ h
    · exact h

/-- An Xsaw instruction keeps the canonical form when what it runs does. -/
theorem Mem.wf_xsaw {n : Nat} {x : RType} {unused : List (BitVec 5)} {gate : Option Nat} {run : Hart → Mem × Core}
    (h : m.wf = true) (hr : ∀ y, (run y).1.wf = true) : (xsaw m c n x unused gate run).1.wf = true :=
  Mem.wf_ite h (Mem.wf_ite h (hr _))

@[simp] theorem Mem.wf_bqEnqueue (n : Nat) (x : RType) (h : m.wf = true) : (bqEnqueue m c n x).1.wf = true := by
  refine Mem.wf_xsaw h (fun y => ?_)
  dsimp only
  split
  · exact h
  · refine Mem.wf_ite h (Mem.wf_ite h ?_)
    simp only [Mem.wf_appendEntry, h]

@[simp] theorem Mem.wf_collect (n rd a q first : Nat) (h : m.wf = true) : (collect m c n rd a q first).1.wf = true :=
  Mem.wf_pokeBytes _ m a h

@[simp] theorem Mem.wf_bqCollect (n : Nat) (x : RType) (block : Bool) (h : m.wf = true) : (bqCollect m c n x block).1.wf = true := by
  refine Mem.wf_xsaw h (fun y => ?_)
  dsimp only
  split
  · exact h
  · refine Mem.wf_ite h ?_
    split
    · simp only [Mem.wf_collect, h]
    · refine Mem.wf_ite h (Mem.wf_ite h ?_)
      split
      · exact Mem.wf_collect _ _ _ _ _ h
      · exact Mem.wf_settleBooms h

@[simp] theorem Mem.wf_bqResult (n : Nat) (x : RType) (h : m.wf = true) : (bqResult m c n x).1.wf = true := by
  refine Mem.wf_xsaw h (fun y => ?_)
  dsimp only
  split
  · exact h
  · split
    · exact h
    · exact Mem.wf_ite h (Mem.wf_ite h h)

@[simp] theorem Mem.wf_bqComplete (n : Nat) (x : RType) (h : m.wf = true) : (bqComplete m c n x).1.wf = true := by
  refine Mem.wf_xsaw h (fun y => ?_)
  dsimp only
  split
  · exact h
  · split
    · exact h
    · exact Mem.wf_settleBooms h

@[simp] theorem Mem.wf_bqAbortTask (n : Nat) (x : RType) (h : m.wf = true) : (bqAbortTask m c n x).1.wf = true := by
  refine Mem.wf_xsaw h (fun y => ?_)
  dsimp only
  split
  · exact h
  · exact Mem.wf_settleBooms h

@[simp] theorem Mem.wf_bqStatus (n : Nat) (x : RType) (h : m.wf = true) : (bqStatus m c n x).1.wf = true :=
  Mem.wf_xsaw h (fun _ => h)

@[simp] theorem Mem.wf_tallyAddTo (n : Nat) (x : RType) (h : m.wf = true) : (tallyAddTo m c n x).1.wf = true :=
  Mem.wf_xsaw h (fun _ => h)

@[simp] theorem Mem.wf_tallyRead (n : Nat) (x : RType) (h : m.wf = true) : (tallyRead m c n x).1.wf = true :=
  Mem.wf_xsaw h (fun _ => h)

@[simp] theorem Mem.wf_crcStep (n : Nat) (x : RType) (k : Nat) (h : m.wf = true) : (crcStep m c n x k).1.wf = true :=
  Mem.wf_xsaw h (fun _ => h)

@[simp] theorem Mem.wf_crcRecord (n : Nat) (x : RType) (h : m.wf = true) : (crcRecord m c n x).1.wf = true := by
  refine Mem.wf_xsaw h (fun y => ?_)
  dsimp only
  split
  · exact h
  · refine Mem.wf_ite h (Mem.wf_ite h ?_)
    split <;> exact h

@[simp] theorem Mem.wf_reachCore (n q first : Nat) (h : m.wf = true) : (reachCore m c n q first).1.wf = true := by
  unfold reachCore
  split
  · simp only [Mem.wf_collect, h]
  · exact h

@[simp] theorem Mem.wf_deliverTask (k : Nat) (h : m.wf = true) : (deliverTask m c k).1.wf = true := by
  have h0 : (settleBooms m c).1.wf = true := Mem.wf_settleBooms h
  simp only [deliverTask]
  refine Mem.wf_ite h0 ?_
  split
  · exact h0
  · split
    · exact Mem.wf_settleBooms h0
    · exact Mem.wf_reachCore _ _ _ h0

@[simp] theorem Mem.wf_haltPartition (k : Nat) (h : m.wf = true) : (haltPartition m c k).1.wf = true :=
  Mem.wf_ite h (Mem.wf_settleBooms h)

@[simp] theorem Mem.wf_writeRun (k v : Nat) (h : m.wf = true) : (writeRun m c k v).1.wf = true :=
  Mem.wf_ite h (Mem.wf_haltPartition k h)

@[simp] theorem Mem.wf_haltAll (h : m.wf = true) : (haltAll m c).1.wf = true :=
  Mem.wf_foldl (fun _ k hp => Mem.wf_haltPartition k hp) _ h

/-! ## Links, remote access and the buddy pair -/

@[simp] theorem Mem.wf_confirmFailed (it : MirrorItem) (h : m.wf = true) : (confirmFailed m c it).1.wf = true := by
  unfold confirmFailed
  refine Mem.wf_ite h ?_
  split
  · dsimp only
    split
    · exact Mem.wf_storeUnits _ _ _ _ _ h
    · exact h
  · exact h

@[simp] theorem Mem.wf_confirmArrived (l : Nat) (f : ConfirmMsg) (h : m.wf = true) : (confirmArrived m c l f).1.wf = true := by
  unfold confirmArrived
  refine Mem.wf_ite h ?_
  dsimp only
  split
  · exact Mem.wf_ite h (Mem.wf_ite h (Mem.wf_confirmFailed _ h))
  · exact h

@[simp] theorem Mem.wf_writeRequest (l : Nat) (x : Msg) (h : m.wf = true) : (writeRequest m c l x).1.wf = true :=
  Mem.wf_ite h (Mem.wf_ite h (Mem.wf_serveWrite _ _ h))

@[simp] theorem Mem.wf_takeBlock (status crc : Nat) (data : List Byte) (h : m.wf = true) :
    (takeBlock m c status crc data).1.1.wf = true := by
  unfold takeBlock
  split
  · exact h
  · dsimp only
    split
    · exact Mem.wf_erase_tag _ _ h
    · split
      · exact Mem.wf_erase_tag _ _ (Mem.wf_store _ _ _ h)
      · split <;> exact Mem.wf_store _ _ _ h

@[simp] theorem Mem.wf_askBlock (n : Nat) (h : m.wf = true) : (askBlock n m c).1.wf = true := by
  induction n generalizing m c with
  | zero => exact h
  | succ n ih =>
    unfold askBlock
    split
    · exact h
    · refine Mem.wf_ite (Mem.wf_ite (ih (Mem.wf_takeBlock _ _ _ h)) (Mem.wf_takeBlock _ _ _ h)) ?_
      split <;> exact h

@[simp] theorem Mem.wf_loadPart (part status crc : Nat) (data : List Byte) (h : m.wf = true) :
    (loadPart m c part status crc data).1.wf = true := by
  unfold loadPart
  split
  · exact h
  · exact Mem.wf_ite h (Mem.wf_ite (Mem.wf_askBlock _ (Mem.wf_takeBlock _ _ _ h)) (Mem.wf_takeBlock _ _ _ h))

@[simp] theorem Mem.wf_writeBlockLoad (data : List Byte) (h : m.wf = true) : (writeBlockLoad m c data).2.1.wf = true := by
  unfold writeBlockLoad
  split
  · exact Mem.wf_askBlock _ h
  · exact h

@[simp] theorem Mem.wf_endRequest (r : RemoteReq) (status crc : Nat) (data : List Byte) (h : m.wf = true) :
    (endRequest m c r status crc data).1.wf = true := by
  unfold endRequest
  split
  · exact h
  · exact Mem.wf_loadPart _ _ _ _ h

@[simp] theorem Mem.wf_response (l ty : Nat) (x : Msg) (h : m.wf = true) : (response m c l ty x).1.wf = true := by
  unfold response
  refine Mem.wf_ite h ?_
  split
  · exact Mem.wf_endRequest _ _ _ _ h
  · exact h

@[simp] theorem Mem.wf_requestTimedOut (tag : Nat) (h : m.wf = true) : (requestTimedOut m c tag).1.wf = true := by
  unfold requestTimedOut
  split
  · exact Mem.wf_endRequest _ _ _ _ h
  · exact h

@[simp] theorem Mem.wf_linkDown (l : Nat) (h : m.wf = true) : (linkDown m c l).1.wf = true := by
  have hend : ∀ (reqs : List RemoteReq) (c : Core),
      (reqs.foldl (fun (p : Mem × Core) r => endRequest p.1 p.2 r 6 0 []) (m, c)).1.wf = true :=
    fun _ _ => Mem.wf_foldl (fun _ _ hp => Mem.wf_endRequest _ _ _ _ hp) _ h
  exact Mem.wf_ite h (Mem.wf_ite (hend _ _) (Mem.wf_ite (hend _ _) (hend _ _)))

@[simp] theorem Mem.wf_replayOrFall (l : Nat) (h : m.wf = true) : (replayOrFall m c l).1.wf = true :=
  Mem.wf_ite h (Mem.wf_ite (Mem.wf_linkDown l h) (Mem.wf_ite (Mem.wf_linkDown l h) h))

@[simp] theorem Mem.wf_nakFlit (l : Nat) (f : Flit) (h : m.wf = true) : (nakFlit m c l f).1.wf = true :=
  Mem.wf_ite (Mem.wf_replayOrFall l h) h

@[simp] theorem Mem.wf_replayTimeout (l : Nat) (h : m.wf = true) : (replayTimeout m c l).1.wf = true :=
  Mem.wf_ite (Mem.wf_replayOrFall l h) h

/-! ## Modes, resets and the epoch boundary -/

@[simp] theorem Mem.wf_endLostRequests (h : m.wf = true) : (endLostRequests m c).1.wf = true :=
  Mem.wf_foldl (fun _ _ hp => Mem.wf_endRequest _ _ _ _ hp) _ h

@[simp] theorem Mem.wf_leaveFast (h : m.wf = true) : (leaveFast m c).1.wf = true := Mem.wf_haltAll h

@[simp] theorem Mem.wf_enterDormant (h : m.wf = true) : (enterDormant m c).1.wf = true :=
  Mem.wf_ite' h (Mem.wf_filter_cells m _ h)

@[simp] theorem Mem.wf_enterMode (t : Nat) (retrain : List StackTraining) (h : m.wf = true) : (enterMode m c t retrain).1.wf = true := by
  unfold enterMode
  dsimp only
  refine Mem.wf_endLostRequests (Mem.wf_ite (Mem.wf_enterDormant ?_) ?_) <;> exact Mem.wf_ite (Mem.wf_leaveFast h) h

@[simp] theorem Mem.wf_transitionDone (retrain : List StackTraining) (h : m.wf = true) : (transitionDone m c retrain).1.wf = true := by
  unfold transitionDone
  split
  · simp only [Mem.wf_enterMode, h]
  · exact h

@[simp] theorem Mem.wf_localAtBoundary (h : m.wf = true) : (localAtBoundary m c).1.wf = true := by
  unfold localAtBoundary
  split
  · exact Mem.wf_enterMode _ _ h
  · exact h

@[simp] theorem Mem.wf_preparedAtBoundary (h : m.wf = true) : (preparedAtBoundary m c).1.wf = true := by
  unfold preparedAtBoundary
  split
  · refine Mem.wf_ite h (Mem.wf_ite h (Mem.wf_ite h (Mem.wf_ite h ?_)))
    split
    · simp only [Mem.wf_enterMode, h]
    · exact h
    · exact h
  · exact h

@[simp] theorem Mem.wf_modeAtBoundary (h : m.wf = true) : (modeAtBoundary m c).1.wf = true :=
  Mem.wf_preparedAtBoundary (Mem.wf_localAtBoundary h)

@[simp] theorem Mem.wf_epochBoundary (h : m.wf = true) : (epochBoundary m c).1.wf = true := by
  unfold epochBoundary
  split
  · exact h
  · simp only [Mem.wf_modeAtBoundary, h]

@[simp] theorem Mem.wf_faultSafe (h : m.wf = true) : (faultSafe m c).1.wf = true := Mem.wf_ite (Mem.wf_enterMode _ _ h) h

@[simp] theorem Mem.wf_warmCore (cause : Nat) (h : m.wf = true) : (warmCore m c cause).1.wf = true := Mem.wf_filter_cells m _ h

@[simp] theorem Mem.wf_warmReset (h : m.wf = true) : (warmReset m c).1.wf = true :=
  Mem.wf_ite h (Mem.wf_ite (Mem.wf_ite (Mem.wf_warmCore _ h) h) (Mem.wf_warmCore _ h))

@[simp] theorem Mem.wf_bootComplete (h : m.wf = true) : (bootComplete m c).1.wf = true := by
  unfold bootComplete
  refine Mem.wf_ite h ?_
  split <;> exact Mem.wf_enterMode _ _ h

end

/-! ## The effects of writes -/

/-- An effect keeps the canonical form of the memory. -/
def KeepsWf (e : Effect) : Prop := ∀ (m : Mem) (c : Core), m.wf = true → (e m c).2.1.wf = true

@[simp] theorem keepsWf_effA (f : Core → Answer) : KeepsWf (effA f) := fun _ _ h => h
@[simp] theorem keepsWf_effW (f : Core → Written) : KeepsWf (effW f) := fun _ _ h => h
@[simp] theorem keepsWf_effC (f : Core → Core) : KeepsWf (effC f) := fun _ _ h => h
@[simp] theorem keepsWf_effNo (s : Status) : KeepsWf (effNo s) := fun _ _ h => h
@[simp] theorem keepsWf_effPut (k : Key) (v : Nat) : KeepsWf (effPut k v) := fun _ _ h => h
@[simp] theorem keepsWf_effDom (k : Key) (l : List Byte) : KeepsWf (effDom k l) := fun _ _ h => h

@[simp] theorem keepsWf_effIf (b : Core → Bool) (s : Status) {e : Effect} (he : KeepsWf e) : KeepsWf (effIf b s e) := by
  intro m c h
  unfold effIf
  split
  · exact he m c h
  · exact h

@[simp] theorem keepsWf_guarded (k : Key) {e : Effect} (he : KeepsWf e) : KeepsWf (guarded k e) := by
  intro m c h
  simp only [guarded, barredBy]
  split
  · exact he m c h
  · split
    · exact he m c h
    · exact h

@[simp] theorem keepsWf_ite {p : Prop} [Decidable p] {a b : Effect} (ha : KeepsWf a) (hb : KeepsWf b) :
    KeepsWf (if p then a else b) := by split <;> assumption

@[simp] theorem keepsWf_putLanding (base size : Nat) (k : Key) (v : Nat) : KeepsWf (putLanding base size k v) := by simp [putLanding]

@[simp] theorem keepsWf_putBoomRegion (v : Nat) : KeepsWf (putBoomRegion v) := by simp [putBoomRegion]

@[simp] theorem keepsWf_putDeviceId (v : Nat) : KeepsWf (putDeviceId v) :=
  keepsWf_effIf _ _ (keepsWf_effIf _ _ (fun _ _ h => h))

@[simp] theorem keepsWf_putQuad (q sub v : Nat) : KeepsWf (putQuad q sub v) := by simp [putQuad]

@[simp] theorem keepsWf_putLinkEnable (l v : Nat) : KeepsWf (putLinkEnable l v) := by
  intro m c h
  unfold putLinkEnable
  dsimp only
  split
  · exact h
  · exact Mem.wf_linkDown l h

@[simp] theorem keepsWf_putShadowSlot (w v : Nat) : KeepsWf (putShadowSlot w v) := keepsWf_effW _

@[simp] theorem keepsWf_putPartition (g v : Nat) : KeepsWf (putPartition g v) := by simp [putPartition]

@[simp] theorem keepsWf_putClusters (k v : Nat) : KeepsWf (putClusters k v) := by simp [putClusters]

@[simp] theorem keepsWf_putSized (k : Key) (n : Nat) (l : List Byte) : KeepsWf (putSized k n l) := by simp [putSized]

@[simp] theorem keepsWf_putShadowDuty (v : Nat) : KeepsWf (putShadowDuty v) := keepsWf_effC _

@[simp] theorem keepsWf_effSystem (ix sub v : Nat) : KeepsWf (effSystem ix sub v) := by
  unfold effSystem
  dsimp only
  split <;> simp

@[simp] theorem keepsWf_effWeaver (w sub v : Nat) : KeepsWf (effWeaver w sub v) := by
  unfold effWeaver
  split <;> simp

@[simp] theorem keepsWf_effLaunch (w v e : Nat) : KeepsWf (effLaunch w v e) := keepsWf_effW _

@[simp] theorem keepsWf_effJump (w v : Nat) : KeepsWf (effJump w v) := fun _ _ h => h

@[simp] theorem keepsWf_effFlow (w sub v e : Nat) : KeepsWf (effFlow w sub v e) := by
  unfold effFlow
  split <;> simp

@[simp] theorem keepsWf_effPin (p sub v : Nat) : KeepsWf (effPin p sub v) := by
  unfold effPin
  split <;> simp

@[simp] theorem keepsWf_effCal (sub v : Nat) : KeepsWf (effCal sub v) := by
  unfold effCal
  split <;> simp

@[simp] theorem keepsWf_effPort (k sub v : Nat) : KeepsWf (effPort k sub v) := by
  unfold effPort
  split <;> simp

@[simp] theorem keepsWf_effTdc (ch sub v e : Nat) : KeepsWf (effTdc ch sub v e) := by
  refine keepsWf_ite (keepsWf_effNo _) (keepsWf_ite (keepsWf_effIf _ _ (keepsWf_effPut _ _)) ?_)
  split <;> simp [effTdcArmAt]

@[simp] theorem keepsWf_effTdcs (sub v : Nat) : KeepsWf (effTdcs sub v) := by
  unfold effTdcs
  split <;> simp

@[simp] theorem keepsWf_effSense (n sub v : Nat) : KeepsWf (effSense n sub v) := by
  unfold effSense
  split <;> simp

@[simp] theorem keepsWf_effChain (n sub v : Nat) : KeepsWf (effChain n sub v) := by
  unfold effChain
  dsimp only
  split <;> simp

@[simp] theorem keepsWf_effGroupArm (u v e : Nat) : KeepsWf (effGroupArm u v e) := keepsWf_effW _

@[simp] theorem keepsWf_effAcq (u sub v e : Nat) : KeepsWf (effAcq u sub v e) := by
  unfold effAcq
  split <;> simp [effAcqArmAt]

@[simp] theorem keepsWf_effRaster (g sub v : Nat) : KeepsWf (effRaster g sub v) := by
  unfold effRaster
  split <;> simp

@[simp] theorem keepsWf_writeMemTest : KeepsWf writeMemTest := fun _ _ h => Mem.wf_writeMemTest h

@[simp] theorem keepsWf_effHbm (sub v : Nat) : KeepsWf (effHbm sub v) := by
  unfold effHbm
  split <;> simp

@[simp] theorem keepsWf_effSched (ix sub v : Nat) : KeepsWf (effSched ix sub v) := by
  have hmigrate : KeepsWf (fun m c => writeMigrate m c (rd c (mkKey 0x5402 1)) v) := fun _ _ h => Mem.wf_writeMigrate _ _ h
  have hrun : KeepsWf (fun m c => (stOk, writeRun m c (ix - 0x5410) v)) := fun _ _ h => Mem.wf_writeRun _ _ h
  unfold effSched
  split_ifs <;> simp [hmigrate, hrun]

@[simp] theorem keepsWf_effLanding (ix sub v : Nat) : KeepsWf (effLanding ix sub v) := by
  unfold effLanding
  split
  · exact fun m c h => keepsWf_putLanding _ _ _ _ m c h
  · exact fun m c h => keepsWf_putLanding _ _ _ _ m c h
  · exact keepsWf_effPut _ _

@[simp] theorem keepsWf_effWithy (ix sub v : Nat) : KeepsWf (effWithy ix sub v) := by
  refine keepsWf_ite (keepsWf_putLinkEnable _ _) (keepsWf_ite (keepsWf_putDeviceId v) ?_)
  split <;> exact fun _ _ h => h

@[simp] theorem keepsWf_effTb (t sub v : Nat) : KeepsWf (effTb t sub v) := by
  refine keepsWf_ite (keepsWf_effA _) ?_
  split <;> simp

@[simp] theorem keepsWf_effPtp (p sub v : Nat) : KeepsWf (effPtp p sub v) := by
  unfold effPtp
  split <;> simp

@[simp] theorem keepsWf_effFaults (ix sub v : Nat) : KeepsWf (effFaults ix sub v) := by
  unfold effFaults
  split_ifs <;> simp

@[simp] theorem keepsWf_effImage (k : ImageKind) (sub v : Nat) : KeepsWf (effImage k sub v) := by
  unfold effImage
  split <;> simp

/-- Every write of a scalar object keeps the canonical form. -/
@[simp] theorem keepsWf_effectOf (k : Key) (v e : Nat) : KeepsWf (effectOf k v e) := by
  unfold effectOf
  dsimp only
  repeat' with_reducible apply keepsWf_ite
  all_goals simp

@[simp] theorem keepsWf_putBoomDesc (q : Nat) (l : List Byte) : KeepsWf (putBoomDesc q l) := by
  intro m c h
  unfold putBoomDesc
  dsimp only
  split
  · exact Mem.wf_resumeBoom q (Mem.wf_writeBoomObject q l h)
  · exact Mem.wf_writeBoomObject q l h

@[simp] theorem keepsWf_domSingle (ix sub : Nat) (l : List Byte) : KeepsWf (domSingle ix sub l) := by
  unfold domSingle
  split
  case h_8 => exact fun m c h => keepsWf_putBoomDesc _ l m c h
  case h_9 => exact fun _ _ h => Mem.wf_writeWinSubmit _ l h
  case h_14 => exact fun _ _ h => Mem.wf_writeBlockLoad l h
  all_goals simp [putRoute, putFaultAck]

/-- Every write of a DOMAIN object keeps the canonical form. -/
@[simp] theorem keepsWf_domEffect (k : Key) (l : List Byte) : KeepsWf (domEffect k l) := by
  unfold domEffect
  dsimp only
  iterate 6 refine keepsWf_ite (by simp) ?_
  refine keepsWf_ite ?_ (keepsWf_domSingle _ _ _)
  split <;> simp [putPinMap]

section
variable {m : Mem} {c : Core}

/-! ## DAP requests -/

theorem Mem.wf_writeObj (auth : Bool) (k : Key) (v e : Nat) {eff : Effect} (he : KeepsWf eff) (h : m.wf = true) :
    (writeObj m c auth k v e eff).2.1.wf = true := by
  unfold writeObj
  split
  · exact h
  · exact keepsWf_guarded k he m c h

theorem Mem.wf_writeDomain (auth : Bool) (k : Key) (l : List Byte) {eff : Effect} (he : KeepsWf eff) (h : m.wf = true) :
    (writeDomain m c auth k l eff).2.1.wf = true := by
  unfold writeDomain
  split
  · exact h
  · split
    · exact h
    · exact keepsWf_guarded k he m c h

@[simp] theorem Mem.wf_writeEntry (auth : Bool) (e : Entry) (h : m.wf = true) : (writeEntry m c auth e).2.1.wf = true := by
  unfold writeEntry
  split
  · exact h
  · exact keepsWf_guarded _ (keepsWf_effectOf _ _ _) m c h

@[simp] theorem Mem.wf_writeInOrder (auth : Bool) (l : List Entry) (h : m.wf = true) : (writeInOrder auth m c l).2.1.wf = true := by
  induction l generalizing m c with
  | nil => exact h
  | cons e l ih => exact ih (Mem.wf_writeEntry auth e h)

@[simp] theorem Mem.wf_writeLocal (b : Block) (l data : List Byte) (h : m.wf = true) : (writeLocal m c b l data).2.1.wf = true := by
  unfold writeLocal
  split
  · exact h
  · split
    · exact h
    · split
      · exact h
      · exact Mem.wf_store _ _ _ h

@[simp] theorem Mem.wf_writeDomainFrame (s : Session) (b : Block) (data : List Byte) (odd last : Bool) (h : m.wf = true) :
    (writeDomainFrame m c s b data odd last).2.1.wf = true := by
  unfold writeDomainFrame
  split
  · exact h
  · exact Mem.wf_ite_answer (Mem.wf_ite_answer h h)
      (Mem.wf_ite_answer h (Mem.wf_writeDomain _ _ _ (keepsWf_domEffect _ _) h))

@[simp] theorem Mem.wf_runRead (f : DapFrame) (h : m.wf = true) : (runRead m c f).mem.wf = true := by
  unfold runRead
  split <;> exact h

@[simp] theorem Mem.wf_runWrite (auth : Bool) (f : DapFrame) (h : m.wf = true) : (runWrite m c auth f).mem.wf = true := by
  simp only [runWrite]
  split
  · exact h
  · split
    · exact Mem.wf_writeInOrder auth _ h
    · split
      · exact h
      · split
        · exact h
        · exact Mem.wf_writeInOrder auth _ h

@[simp] theorem Mem.wf_runReadBlock (port : Nat) (f : DapFrame) (h : m.wf = true) : (runReadBlock m c port f).mem.wf = true := by
  simp only [runReadBlock]
  split
  · exact h
  · split
    · unfold readLocal
      split
      · exact h
      · dsimp only
        split <;> exact h
    · exact h

@[simp] theorem Mem.wf_runWriteBlock (s : Session) (port : Nat) (f : DapFrame) (h : m.wf = true) :
    (runWriteBlock m c s port f).mem.wf = true := by
  simp only [runWriteBlock]
  split
  · exact h
  · dsimp only
    split
    · exact Mem.wf_writeLocal _ _ _ h
    · exact Mem.wf_writeDomainFrame _ _ _ _ _ h

@[simp] theorem Mem.wf_runSubscribe (sid : Nat) (f : DapFrame) (h : m.wf = true) : (runSubscribe m c sid f).mem.wf = true := by
  unfold runSubscribe
  split
  · exact h
  · split <;> exact h

@[simp] theorem Mem.wf_runUnsubscribe (sid : Nat) (f : DapFrame) (h : m.wf = true) : (runUnsubscribe m c sid f).mem.wf = true := by
  unfold runUnsubscribe
  split
  · exact h
  · split <;> exact h

/-- The operation of a request keeps the canonical form. -/
@[simp] theorem Mem.wf_runOp (s : Session) (op : Nat) (f : DapFrame) (h : m.wf = true) : (runOp m c s op f).mem.wf = true := by
  simp only [runOp]
  split
  · split
    · exact h
    · exact Mem.wf_runRead f h
  · split
    · exact h
    · exact Mem.wf_runWrite _ f h
  · exact Mem.wf_runReadBlock _ f h
  · split
    · exact h
    · exact Mem.wf_runWriteBlock _ _ f h
  · exact Mem.wf_runSubscribe _ f h
  · split
    · exact h
    · exact Mem.wf_runUnsubscribe _ f h
  · exact h

@[simp] theorem Mem.wf_execute (sid op : Nat) (f : DapFrame) (h : m.wf = true) : (execute m c sid op f).1.wf = true := by
  unfold execute
  dsimp only
  split
  · exact h
  · exact Mem.wf_ite (Mem.wf_runOp _ _ _ h) (Mem.wf_ite (Mem.wf_runOp _ _ _ h) (Mem.wf_runOp _ _ _ h))

@[simp] theorem Mem.wf_windowed (s : Session) (op : Nat) (f : DapFrame) (h : m.wf = true) : (windowed m c s op f).1.wf = true := by
  refine Mem.wf_ite h (Mem.wf_ite (Mem.wf_ite h (Mem.wf_ite (Mem.wf_execute _ _ _ h) h)) (Mem.wf_ite h ?_))
  split <;> exact h

@[simp] theorem Mem.wf_heldExecute (sid : Nat) (h : m.wf = true) : (heldExecute m c sid).1.wf = true := by
  unfold heldExecute
  split
  · split
    · exact Mem.wf_execute _ _ _ h
    · exact h
  · exact h

@[simp] theorem Mem.wf_inSession (port op : Nat) (f : DapFrame) (h : m.wf = true) : (inSession m c port op f).1.wf = true := by
  unfold inSession
  dsimp only
  split
  · exact h
  · exact Mem.wf_ite h (Mem.wf_ite h (Mem.wf_ite h (Mem.wf_ite h (Mem.wf_windowed _ _ _ h))))

@[simp] theorem Mem.wf_dapHere (port op : Nat) (f : DapFrame) (h : m.wf = true) : (dapHere m c port op f).1.wf = true :=
  Mem.wf_ite h (Mem.wf_ite h (Mem.wf_ite (Mem.wf_inSession _ _ _ h) h))

@[simp] theorem Mem.wf_dapIn (op : Nat) (f : DapFrame) (h : m.wf = true) : (dapIn m c op f).1.wf = true :=
  Mem.wf_ite h (Mem.wf_ite h (Mem.wf_ite h (Mem.wf_dapHere _ _ _ h)))

@[simp] theorem Mem.wf_dapForOther (op : Nat) (f : DapFrame) (h : m.wf = true) : (dapForOther m c op f).1.wf = true :=
  Mem.wf_ite (Mem.wf_dapIn _ _ h) h

@[simp] theorem Mem.wf_dapRelayed (l op : Nat) (f : DapFrame) (h : m.wf = true) : (dapRelayed m c l op f).1.wf = true :=
  Mem.wf_ite h (Mem.wf_ite h (Mem.wf_ite h (Mem.wf_dapHere _ _ _ h)))

end

/-! ## Commands and steps -/

/-- What an outcome answers has its memory in canonical form. -/
def EndsWf (o : Host.Outcome State Fault Refusal) : Prop := ∀ t, o = .next t → t.mem.wf = true

theorem endsWf_did {s : State} {r : Mem × Core} (h : r.1.wf = true) : EndsWf (did s r) := by
  intro t ht
  cases ht
  exact h

theorem endsWf_didC {s : State} (c : Core) (h : s.mem.wf = true) : EndsWf (didC s c) := endsWf_did h

theorem endsWf_wrote {s : State} {k : Key} {v e : Nat} {eff : Effect} (h : s.mem.wf = true) (he : KeepsWf eff) :
    EndsWf (wrote s k v e eff) := endsWf_did (Mem.wf_writeObj _ _ _ _ he h)

theorem endsWf_wroteDomain {s : State} {k : Key} {l : List Byte} {eff : Effect} (h : s.mem.wf = true) (he : KeepsWf eff) :
    EndsWf (wroteDomain s k l eff) := endsWf_did (Mem.wf_writeDomain _ _ _ he h)

/-- A command that may wait for a retrain keeps the canonical form when its run does. -/
theorem endsWf_bestEffort {s : State} {waits : Bool} {r : BestEffort} {run : Host.Outcome State Fault Refusal}
    (h : s.mem.wf = true) (hr : EndsWf run) : EndsWf (bestEffort s waits r run) := by
  unfold bestEffort
  split
  · intro t ht
    cases ht
    exact h
  · exact hr

/-- Every command keeps the canonical form of the memory: it leaves the memory, writes an object whose effect keeps the form, or
makes a change of the memory that does. -/
theorem endsWf_exec (i : Instr) {s : State} (h : s.mem.wf = true) : EndsWf (exec i s) := by
  cases i with
  -- writes of scalar objects whose effect leaves the memory
  | abort | stopAck | nanoMode | shadowSlot | exchange | issue | groupEpoch | fieldCommit | tdcArm | cdStart | fcStart | acqArm
  | rasterEnable | rasterDisable | present | reinit | trainStart | takeover | tsetCommit | stickyClr | calStart | tapQuery | tdcDisarm
  | ovrClr | fcStop | acqDisarm | hostFire | selfRefreshRequest | selfRefreshExit | mismatchClr | syncPeriod | syncComp | changeCommit
  | changeAbort | swapSend | firstClr | tallyClear | reset | wakeClr | set | adjust | force | convStamp | install | floor | launch | jump
  | groupArm => exact endsWf_wrote h (fun _ _ h => h)
  -- writes of DOMAIN objects whose effect leaves the memory
  | segTable | tsetShadow | listStore | epochAlign | prepare | modeRequest | stage | userUcode | streamTable | coeffs | mask
  | conditions | timing | rects => exact endsWf_wroteDomain h (fun _ _ h => h)
  -- other writes
  | registerWrite => exact endsWf_wrote h (keepsWf_effectOf _ _ _)
  | deviceId => exact endsWf_wrote h (keepsWf_putDeviceId _)
  | memTest => exact endsWf_wrote h keepsWf_writeMemTest
  | migrateFinish | migrateAbort => exact endsWf_wrote h (fun _ _ h => Mem.wf_writeMigrate _ _ h)
  | partitionRun | partitionStop => exact endsWf_wrote h (fun _ _ h => Mem.wf_writeRun _ _ h)
  | boomDesc | boomDisable => exact endsWf_wroteDomain h (keepsWf_putBoomDesc _ _)
  | winSubmit => exact endsWf_wroteDomain h (fun _ _ h => Mem.wf_writeWinSubmit _ _ h)
  | blockLoad => exact endsWf_wroteDomain h (fun _ _ h => Mem.wf_writeBlockLoad _ h)
  | faultAck => exact endsWf_wroteDomain h (keepsWf_ite (keepsWf_effC _) (keepsWf_effNo _))
  -- DAP frames
  | read | write | subscribe | unsubscribe | notifyAck | sessionOpen | sessionClose | partnerProbe => exact endsWf_did (Mem.wf_dapIn _ _ h)
  | readBlock | writeBlock => exact endsWf_bestEffort h (endsWf_did (Mem.wf_dapIn _ _ h))
  | heldRequestExecute => exact endsWf_bestEffort h (endsWf_did (Mem.wf_heldExecute _ h))
  | dapFrameRelay => exact endsWf_did (Mem.wf_dapForOther _ _ h)
  | dapRelay => exact endsWf_did (Mem.wf_dapRelayed _ _ _ h)
  -- records and streams
  | recordPlacement => exact endsWf_did (Mem.wf_placeRecord _ h)
  | stData => exact endsWf_bestEffort h (endsWf_did (Mem.wf_sendStream _ h))
  | stOpen => exact endsWf_did (Mem.wf_stOpenFrame _ h)
  | stAck => exact endsWf_did (Mem.wf_stAckFrame _ h)
  | tdcResultWrite => exact endsWf_bestEffort h (endsWf_did (Mem.wf_writeResult _ h))
  | acqRecordWrite => exact endsWf_bestEffort h (endsWf_did (Mem.wf_writeAcqRecord _ h))
  -- the memory controller
  | hbmInitComplete => exact endsWf_did (Mem.wf_initComplete _ h)
  | memTestComplete => exact endsWf_did (Mem.wf_memTestComplete _ h)
  | scrubRead => exact endsWf_bestEffort h (endsWf_did (Mem.wf_scrubNext _ h))
  -- harts, tasks and booms
  | bqEnq => exact endsWf_bestEffort h (endsWf_did (Mem.wf_bqEnqueue _ _ h))
  | bqWait | bqPoll => exact endsWf_bestEffort h (endsWf_did (Mem.wf_bqCollect _ _ _ h))
  | bqRes => exact endsWf_did (Mem.wf_bqResult _ _ h)
  | bqDone => exact endsWf_bestEffort h (endsWf_did (Mem.wf_bqComplete _ _ h))
  | bqAbort => exact endsWf_bestEffort h (endsWf_did (Mem.wf_bqAbortTask _ _ h))
  | bqStat => exact endsWf_did (Mem.wf_bqStatus _ _ h)
  | tallyAdd => exact endsWf_did (Mem.wf_tallyAddTo _ _ h)
  | tallyRd => exact endsWf_did (Mem.wf_tallyRead _ _ h)
  | crc32cB | crc32cW | crc32cD => exact endsWf_did (Mem.wf_crcStep _ _ _ h)
  | crc32cRec => exact endsWf_did (Mem.wf_crcRecord _ _ h)
  | taskDelivery => exact endsWf_bestEffort h (endsWf_did (Mem.wf_deliverTask _ h))
  | taskTimeout => exact endsWf_did (Mem.wf_timeoutTask _ _ h)
  | drainTimeout => exact endsWf_did (Mem.wf_drainTimedOut _ h)
  | sawyerLoadStore => exact endsWf_bestEffort h (endsWf_did (Mem.wf_loadStore _ _ h))
  -- links, remote access and the buddy pair
  | withyLinkDown => exact endsWf_did (Mem.wf_linkDown _ h)
  | flitNak => exact endsWf_did (Mem.wf_nakFlit _ _ h)
  | flitReplayTimeout => exact endsWf_did (Mem.wf_replayTimeout _ h)
  | rdReq | mirror => exact endsWf_bestEffort h (endsWf_didC _ h)
  | wrReq => exact endsWf_bestEffort h (endsWf_did (Mem.wf_writeRequest _ _ h))
  | rdResp => exact endsWf_bestEffort h (endsWf_did (Mem.wf_response _ _ _ h))
  | wrResp => exact endsWf_did (Mem.wf_response _ _ _ h)
  | confirm => exact endsWf_did (Mem.wf_confirmArrived _ _ h)
  | remoteTimeout => exact endsWf_did (Mem.wf_requestTimedOut _ h)
  -- resets, modes and the epoch boundary
  | powerOnReset => exact endsWf_did Mem.wf_reset
  | warmReset => exact endsWf_did (Mem.wf_warmReset h)
  | bootComplete => exact endsWf_did (Mem.wf_bootComplete h)
  | epochBoundary =>
    intro t ht
    cases ht
    exact Mem.wf_epochBoundary h
  | deviceFaultSafeEntry => exact endsWf_did (Mem.wf_faultSafe h)
  | modeTransitionComplete => exact endsWf_did (Mem.wf_transitionDone _ h)
  -- every other command leaves the memory
  | _ => exact endsWf_didC _ h

/-- Settles O5: a step is a command, which keeps the canonical form, or an idle nanosecond, which leaves the memory. -/
theorem memoryStaysCanonical : Obligations.MemoryStaysCanonical := by
  unfold Obligations.MemoryStaysCanonical
  intro s t hs ht
  unfold step at ht
  split at ht
  · split at ht
    case h_1 i c _ => exact endsWf_exec i (s := { s with core := c }) hs t ht
    case h_2 =>
      cases ht
      exact hs
  case h_2 i rest _ => exact endsWf_exec i (s := { s with pending := rest }) hs t ht

/-- Settles O6: nothing is listed at reset, and an unlisted byte reads 0. -/
theorem resetMemoryIsCanonical : Obligations.ResetMemoryIsCanonical := ⟨Mem.wf_reset, fun _ => rfl⟩

end Sys2Proof.Machine
end

section
/-!
The reference clock, the clock domains and SYNC (R30 to R32, R251, R374, R442): what the bits of REF_STATUS and CLOCK_LOCKED
read after a change of them, and what the time that passes leaves.
-/
namespace Sys2Proof.Machine

/-! ## Commands that leave the memory -/

/-- A command whose meaning is a change of the core alone makes that change. -/
theorem makes_didC {i : Instr} {s : State} {c d : Core} (he : exec i s = didC s c) (h : c = d) : Makes i s d := by
  subst h
  exact he

/-- A fold keeps what each of its steps keeps. -/
theorem foldl_keeps {α β : Type} {g : Core → α → Core} (f : Core → β) (h : ∀ c x, f (g c x) = f c) (l : List α) (c : Core) :
    f (l.foldl g c) = f c := by
  induction l generalizing c with
  | nil => rfl
  | cons x l ih => exact (ih _).trans (h c x)

/-! ## REF_STATUS and CLOCK_LOCKED -/

theorem clockKey_ne_refKey : clockKey ≠ refKey := by decide

theorem rd_setRef_ne (c : Core) (i : Nat) (b : Bool) {k : Key} (h : k ≠ refKey) : rd (setRef c i b) k = rd c k := rd_wr_ne c _ h

@[simp] theorem bit_setRef_same (c : Core) (i : Nat) (b : Bool) : bit (rd (setRef c i b) refKey) i = b := by simp [setRef]

theorem bit_setRef_ne (c : Core) {i j : Nat} (b : Bool) (h : i ≠ j) : bit (rd (setRef c i b) refKey) j = bit (rd c refKey) j := by
  simp [setRef, bit_putBit_ne _ b h]

@[simp] theorem clockBit_setRef (c : Core) (i : Nat) (b : Bool) (d : Nat) : clockBit (setRef c i b) d = clockBit c d := by
  simp only [clockBit, rd_setRef_ne c i b clockKey_ne_refKey]

theorem rd_setClock_ne (c : Core) (d : Nat) (b : Bool) {k : Key} (h : k ≠ clockKey) : rd (setClock c d b) k = rd c k := rd_wr_ne c _ h

@[simp] theorem rd_setClock_refKey (c : Core) (d : Nat) (b : Bool) : rd (setClock c d b) refKey = rd c refKey :=
  rd_setClock_ne c d b clockKey_ne_refKey.symm

@[simp] theorem clockBit_setClock_same (c : Core) (d : Nat) (b : Bool) : clockBit (setClock c d b) d = b := by simp [clockBit, setClock]

theorem clockBit_setClock_ne (c : Core) {d e : Nat} (b : Bool) (h : d ≠ e) : clockBit (setClock c d b) e = clockBit c e := by
  simp [clockBit, setClock, bit_putBit_ne _ b h]

/-! ## CLOCK_LOCKED in line with the mode -/

theorem rk_ne_clockKey (g sub : Nat) : rk g sub ≠ clockKey := Nat.ne_of_gt (by simp only [rk, clockKey, mkKey]; omega)

/-- Whether the mode lets a domain run does not depend on the other bits of CLOCK_LOCKED. -/
theorem clockWant_setClock_ne (c : Core) {d e : Nat} (b : Bool) (h : e ≠ d) : clockWant (setClock c e b) d = clockWant c d := by
  have hmode : modeNow (setClock c e b) = modeNow c := rd_setClock_ne c e b (by decide)
  have hlocked : refLocked (setClock c e b) = refLocked c := congrArg (bit · 1) (rd_setClock_refKey c e b)
  have hraster : rdb (setClock c e b) (rk (d - 44) 1) = rdb c (rk (d - 44) 1) := by
    have hk : rk (d - 44) 1 ≠ clockKey := rk_ne_clockKey _ _
    simp only [rdb, rd_setClock_ne c e b hk]
  have hmodes : pllModes (setClock c e b) = pllModes c := by
    have hin : inMode (setClock c e b) = inMode c := funext fun m => by simp only [inMode, hmode]
    simp only [pllModes, inModes, hin]
  have hrest : getR (setClock c e b) (d - 44) = getR c (d - 44) := rfl
  simp only [clockWant, hmodes, hmode, hlocked, hraster, hrest, rd_setClock_refKey, clockBit_setClock_ne c b h]

/-- One domain of CLOCK_LOCKED in line with the mode. -/
def applyClock (c : Core) (d : Nat) : Core := if 6 ≤ d ∧ d ≤ 21 then c else setClock c d (clockWant c d)

@[simp] theorem rd_stamp (c : Core) (t : Nat) (k : Key) : rd { c with stamp := t } k = rd c k := rfl

theorem applyClocks_eq (c : Core) : applyClocks c = { (List.range 48).foldl applyClock c with stamp := scaleNow c } := rfl

theorem rd_applyClock_ne (c : Core) (d : Nat) {k : Key} (h : k ≠ clockKey) : rd (applyClock c d) k = rd c k := by
  unfold applyClock
  split
  · rfl
  · exact rd_setClock_ne c d _ h

theorem clockBit_applyClock_ne (c : Core) {d e : Nat} (h : e ≠ d) : clockBit (applyClock c e) d = clockBit c d := by
  unfold applyClock
  split
  · rfl
  · exact clockBit_setClock_ne c _ h

theorem clockWant_applyClock_ne (c : Core) {d e : Nat} (h : e ≠ d) : clockWant (applyClock c e) d = clockWant c d := by
  unfold applyClock
  split
  · rfl
  · exact clockWant_setClock_ne c _ h

theorem clockBit_foldl_applyClock {d : Nat} (hd : ¬(6 ≤ d ∧ d ≤ 21)) (l : List Nat) (hl : l.Nodup) (hm : d ∈ l) (c : Core) :
    clockBit (l.foldl applyClock c) d = clockWant c d := by
  induction l generalizing c with
  | nil => cases hm
  | cons e l ih =>
    obtain ⟨he, hl⟩ := List.nodup_cons.mp hl
    by_cases h : e = d
    · subst h
      have hrest : ∀ (l : List Nat), e ∉ l → ∀ c, clockBit (l.foldl applyClock c) e = clockBit c e := by
        intro l
        induction l with
        | nil => exact fun _ _ => rfl
        | cons a l ih =>
          intro ha c
          have hne : a ≠ e := fun hae => ha (hae ▸ List.mem_cons_self)
          exact (ih (fun hm => ha (List.mem_cons_of_mem _ hm)) _).trans (clockBit_applyClock_ne c hne)
      rw [List.foldl_cons, hrest l he]
      simp [applyClock, hd]
    · rw [List.foldl_cons, ih hl (List.mem_of_ne_of_mem (Ne.symm h) hm), clockWant_applyClock_ne c h]

theorem clockBit_applyClocks (c : Core) {d : Nat} (h48 : d < 48) (hd : ¬(6 ≤ d ∧ d ≤ 21)) :
    clockBit (applyClocks c) d = clockWant c d := by
  rw [clockBit, applyClocks_eq, rd_stamp]
  exact clockBit_foldl_applyClock hd _ List.nodup_range (List.mem_range.mpr h48) c

theorem rd_applyClocks_ne (c : Core) {k : Key} (h : k ≠ clockKey) : rd (applyClocks c) k = rd c k := by
  rw [applyClocks_eq, rd_stamp]
  exact foldl_keeps (rd · k) (fun c d => rd_applyClock_ne c d h) _ c

/-! ## REFCLK appears and locks -/

@[simp] theorem resumeRun_regs (c : Core) : (resumeRun c).regs = c.regs := by
  unfold resumeRun
  split <;> rfl

theorem sameRegsBut_setRef (c : Core) (i : Nat) (b : Bool) : SameRegsBut [refKey] c (setRef c i b) :=
  fun _ hk => rd_setRef_ne c i b (by simpa using hk)

/-- Outside DORMANT the appearance of REFCLK sets REF_PRESENT and the REF bit. -/
theorem refPresent_eq {c : Core} (h : modeNow c ≠ modeCode .dormant) : refPresent c = setClock (setRef c 0 true) 1 true := by
  have hm : inMode (setRef c 0 true) .dormant = false := by
    simpa [inMode, modeNow, rd_setRef_ne c 0 true (k := mkKey 0x1200 1) (by decide)] using h
  simp [refPresent, hm]

/-- The block as REFCLK locks while the scale counts: REF_LOCKED is set, and the lock is timed. -/
def lockNoted (c : Core) : Core :=
  let c1 := setRef c 1 true
  { c1 with clk := { c1.clk with lockedSince := if refLocked c then c1.clk.lockedSince else some c1.time } }

/-- The PLLs of the pin groups as REFCLK has locked: they run where the mode wants them. -/
def lockPlls (c : Core) : Core :=
  if pllModes c then (List.range 16).foldl (fun c g => if pgWanted c g then setClock (pgSettled c g) (6 + g) true else c) c else c

/-- The crystals leave HOLD once the stamp clock runs. -/
def leaveHolds (c : Core) : Core := if clockBit c 5 then [0, 1, 2].foldl leaveHoldXtal c else c

theorem refLock_counting {c : Core} (hm : inMode c .dormant = false) (hp : bit (rd c refKey) 0 = true) (hc : c.clk.counting = true) :
    refLock c = resumeRun (leaveHolds (lockPlls (applyClocks (lockNoted c)))) := by
  unfold refLock
  rw [if_neg (by simp [hp, hm])]
  simp only [hc, if_true]
  rfl

/-- The lock of REFCLK in STANDBY, where no PLL runs and no crystal leaves HOLD. -/
theorem refLock_standby {c : Core} (hm : modeNow c = modeCode .standby) (hp : bit (rd c refKey) 0 = true)
    (hc : c.clk.counting = true) : refLock c = resumeRun (applyClocks (lockNoted c)) := by
  have hpll : ∀ d : Core, modeNow d = 2 → pllModes d = false := fun d h => by simp [pllModes, inModes, inMode, h, modeCode]
  have hnoted : modeNow (lockNoted c) = 2 := (rd_setRef_ne c 1 true (by decide)).trans hm
  have happlied : modeNow (applyClocks (lockNoted c)) = 2 := (rd_applyClocks_ne _ (by decide)).trans hnoted
  have h5 : clockBit (applyClocks (lockNoted c)) 5 = false := by
    rw [clockBit_applyClocks _ (by decide) (by decide)]
    simp [clockWant, hpll _ hnoted]
  have hplls : lockPlls (applyClocks (lockNoted c)) = applyClocks (lockNoted c) := if_neg (by rw [hpll _ happlied]; decide)
  have hholds : leaveHolds (applyClocks (lockNoted c)) = applyClocks (lockNoted c) := if_neg (by rw [h5]; decide)
  rw [refLock_counting (by simp [inMode, hm, modeCode]) hp hc, hplls, hholds]

/-- REFWARM taken into bit 4 of REF_STATUS, with the low level noted by what measures. -/
def coldNoted (c : Core) (level : Bool) : Core :=
  let c1 := setRef c 4 level
  { c1 with cal := { c1.cal with coldNow := true, fgCold := c1.cal.fgCold || c1.cal.fgRunning } }

theorem refwarmChange_eq (c : Core) (level : Bool) :
    refwarmChange c level = if level && bit (rd c refKey) 4 then setRef c 4 level else coldMeasures (coldNoted c level) := rfl

@[simp] theorem rd_coldNoted (c : Core) (level : Bool) (k : Key) : rd (coldNoted c level) k = rd (setRef c 4 level) k := rfl

@[simp] theorem rd_resumeRun (c : Core) (k : Key) : rd (resumeRun c) k = rd c k := rd_congr (resumeRun_regs c) k

@[simp] theorem clockBit_resumeRun (c : Core) (d : Nat) : clockBit (resumeRun c) d = clockBit c d := by simp [clockBit]

@[simp] theorem rd_lockNoted (c : Core) (k : Key) : rd (lockNoted c) k = rd (setRef c 1 true) k := rfl

/-- The bits of the STANDBY domains after the lock. -/
theorem clockBits_refLocked_standby {c : Core} (hm : modeNow c = modeCode .standby) :
    clockBit (applyClocks (lockNoted c)) 38 = true ∧ clockBit (applyClocks (lockNoted c)) 4 = false := by
  have hmode : modeNow (lockNoted c) = 2 := (rd_setRef_ne c 1 true (by decide)).trans hm
  have hlocked : refLocked (lockNoted c) = true := bit_setRef_same c 1 true
  have hpll : pllModes (lockNoted c) = false := by simp [pllModes, inModes, inMode, hmode, modeCode]
  rw [clockBit_applyClocks _ (by decide) (by decide), clockBit_applyClocks _ (by decide) (by decide)]
  simp [clockWant, hmode, hlocked, hpll]

/-- Settles O13: the appearance and the lock of REFCLK by what they do to each bit, REFWARM by its branches. -/
theorem referenceClockReturnsAndLocks : Obligations.ReferenceClockReturnsAndLocks := by
  have hne : refKey ≠ clockKey := clockKey_ne_refKey.symm
  refine ⟨fun s hm => ?_, fun s hm hp hc => ?_, fun s hw => ?_, fun s hw => ?_, fun s => ?_⟩
  · refine ⟨_, makes_didC rfl (refPresent_eq hm), by simp, by simp, fun k hk => ?_⟩
    have hk : k ≠ refKey ∧ k ≠ clockKey := by simpa using hk
    rw [rd_setClock_ne _ _ _ hk.2, rd_setRef_ne _ _ _ hk.1]
  · obtain ⟨h38, h4⟩ := clockBits_refLocked_standby hm
    refine ⟨_, makes_didC rfl (refLock_standby hm hp hc), ?_, ?_, by rwa [clockBit_resumeRun], by rwa [clockBit_resumeRun], fun k hk => ?_⟩
    · rw [refLocked, rd_resumeRun, ← refKey, rd_applyClocks_ne _ hne, rd_lockNoted, bit_setRef_same]
    · rw [rd_resumeRun, rd_applyClocks_ne _ hne, rd_lockNoted, bit_setRef_ne _ _ (by decide), hp]
    · have hk : k ≠ refKey ∧ k ≠ clockKey := by simpa using hk
      rw [rd_resumeRun, rd_applyClocks_ne _ hk.2, rd_lockNoted, rd_setRef_ne _ _ _ hk.1]
  · exact ⟨setRef s.core 4 true, makes_didC rfl (by simp [refwarmChange_eq, hw]), by simp, sameRegsBut_setRef _ _ _⟩
  · exact ⟨coldNoted s.core true, makes_didC rfl (by simp [refwarmChange_eq, hw]), by simp, rfl, sameRegsBut_setRef _ _ _⟩
  · exact ⟨coldNoted s.core false, makes_didC rfl (by simp [refwarmChange_eq]), by simp, rfl, sameRegsBut_setRef _ _ _⟩

end Sys2Proof.Machine
end

section
/-!
The loss of REFCLK, of another clock domain and of SYNC (R32, R374, R442).
-/
namespace Sys2Proof.Machine

/-! ## The loss of REFCLK -/

/-- The block with everything that needs REFCLK ended. -/
def workEnded (c : Core) : Core :=
  breakRun (endAcqs (endMeasures ((List.range 64).foldl (fun c w => stopAtVector c 7 w) c) 5) 3)

/-- The domains that stop with REFCLK. -/
def refDomains : List Nat := [1, 4, 5, 38, 42, 43, 44, 45] ++ (List.range 16).map (· + 6)

/-- REF_STATUS with the loss noted, and the domains of REFCLK stopped. -/
def domainsOff (c : Core) : Core :=
  refDomains.foldl (fun c d => setClock c d false) (wr c refKey (setBit (clearBits (rd c refKey) 7) 5))

/-- The block as REFCLK is gone, before the raise. -/
def refclkOff (c : Core) : Core :=
  let c4 := domainsOff c
  { c4 with
      stamp := scaleNow c
      clk := { c4.clk with phased := false, lockedSince := none, counting := false }
      mode := { c4.mode with
        pgStart := []
        transition := c4.mode.transition.map (fun t => if t.target = 7 then { t with boundary := none } else t) } }

theorem refLoss_eq {c : Core} (h : bit (rd c refKey) 0 = true) :
    refLoss c = raise ([0, 1, 2].foldl enterHoldXtal (refclkOff (workEnded c))) 241 2 0 := by
  unfold refLoss
  rw [if_neg (by simp [h])]
  simp only [refclkOff, domainsOff, workEnded, refDomains, clockFault, Nat.reduceAdd]

theorem rd_refclkOff (c : Core) (k : Key) : rd (refclkOff c) k = rd (domainsOff c) k := rfl

theorem foldl_setClock_refKey (l : List Nat) (c : Core) : rd (l.foldl (fun c d => setClock c d false) c) refKey = rd c refKey :=
  foldl_keeps (rd · refKey) (fun c d => rd_setClock_refKey c d false) l c

theorem clockBit_foldl_setClock {d : Nat} (l : List Nat) (c : Core) (h : clockBit c d = false ∨ d ∈ l) :
    clockBit (l.foldl (fun c d => setClock c d false) c) d = false := by
  induction l generalizing c with
  | nil => exact h.resolve_right List.not_mem_nil
  | cons e l ih =>
    refine ih _ ?_
    by_cases he : e = d
    · exact .inl (he ▸ clockBit_setClock_same c e false)
    · rcases h with h | h
      · exact .inl ((clockBit_setClock_ne c false he).trans h)
      · exact .inr (List.mem_of_ne_of_mem (Ne.symm he) h)

/-- REF_STATUS after the loss: REF_PRESENT, REF_LOCKED and the phase bit are clear, and the loss is noted. -/
theorem bit_refclkOff (c : Core) (i : Nat) :
    bit (rd (refclkOff c) refKey) i = ((bit (rd c refKey) i && !bit 7 i) || decide (5 = i)) := by
  rw [rd_refclkOff, domainsOff, foldl_setClock_refKey, rd_wr_same, bit_setBit, bit_clearBits]

theorem clockBit_refclkOff (c : Core) {d : Nat} (h : d ∈ refDomains) : clockBit (refclkOff c) d = false := by
  rw [clockBit, rd_refclkOff]
  exact clockBit_foldl_setClock _ _ (.inr h)

/-! ## The loss of another domain -/

/-- The block with a domain out of lock, before the raise. -/
def clockOff (c : Core) (d : Nat) : Core :=
  let c1 := { setClock c d false with stamp := scaleNow c }
  if 4 ≤ d ∧ d ≤ 21 then
    let c2 := setRef c1 1 false
    { c2 with clk := { c2.clk with lockedSince := none } }
  else c1

theorem clockLoss_eq {c : Core} {d : Nat} (h1 : d ≠ 1) (h47 : d ≠ 47) (h : clockBit c d = true) :
    clockLoss c d = raise (clockOff c d) (240 + d) (clockLevel d) 0 := by
  unfold clockLoss
  rw [if_neg h1, if_neg (by simp [h])]
  simp only [if_neg h47]
  rfl

theorem rd_clockOff_ne (c : Core) (d : Nat) {k : Key} (h : k ≠ refKey) : rd (clockOff c d) k = rd (setClock c d false) k := by
  unfold clockOff
  split
  · exact (rd_setRef_ne _ 1 false h)
  · rfl

theorem refLocked_clockOff (c : Core) {d : Nat} (h : 4 ≤ d ∧ d ≤ 21) : refLocked (clockOff c d) = false := by
  rw [clockOff, if_pos h]
  exact bit_setRef_same _ 1 false

theorem clockBit_clockOff (c : Core) (d e : Nat) : clockBit (clockOff c d) e = clockBit (setClock c d false) e := by
  rw [clockBit, rd_clockOff_ne c d clockKey_ne_refKey, clockBit]

/-- Settles O14: each loss by its bits of REF_STATUS and CLOCK_LOCKED. -/
theorem clocksLost : Obligations.ClocksLost := by
  refine ⟨fun s hp => ?_, fun s d h1 h47 hd => ?_, fun s h => makes_didC rfl (by simp [syncLoss, h])⟩
  · refine ⟨_, makes_didC rfl (refLoss_eq hp), ?_, ?_, ?_, ?_, fun d hd => clockBit_refclkOff _ ?_, rfl, rfl⟩
    · simp [bit_refclkOff, show bit 7 0 = true by decide]
    · simp [bit_refclkOff, show bit 7 1 = true by decide]
    · simp [bit_refclkOff, show bit 7 2 = true by decide]
    · simp [bit_refclkOff]
    · revert d
      decide
  · refine ⟨_, makes_didC rfl (clockLoss_eq h1 h47 hd), ?_, fun e he => ?_, fun h4 h21 => refLocked_clockOff _ ⟨h4, h21⟩, fun k hk => ?_⟩
    · rw [clockBit_clockOff, clockBit_setClock_same]
    · rw [clockBit_clockOff, clockBit_setClock_ne _ _ (Ne.symm he)]
    · have hk : k ≠ refKey ∧ k ≠ clockKey := by simpa using hk
      rw [rd_clockOff_ne _ _ hk.1, rd_setClock_ne _ _ _ hk.2]

end Sys2Proof.Machine
end

section
/-!
The SYNC input and the epoch boundary (R31, R374, R375, R434).
-/
namespace Sys2Proof.Machine

/-! ## What the passing of time leaves -/

@[simp] theorem elapse_regs (c : Core) (n : Nat) : (elapse c n).regs = c.regs := by
  unfold elapse
  split <;> rfl

@[simp] theorem elapse_clk (c : Core) (n : Nat) : (elapse c n).clk = c.clk := by
  unfold elapse
  split <;> rfl

@[simp] theorem elapseTo_regs (c : Core) (t : Nat) : (elapseTo c t).regs = c.regs := by
  unfold elapseTo
  split
  · exact elapse_regs _ _
  · rfl

@[simp] theorem elapseTo_clk (c : Core) (t : Nat) : (elapseTo c t).clk = c.clk := by
  unfold elapseTo
  split
  · exact elapse_clk _ _
  · rfl

@[simp] theorem elapseUntil_regs (c : Core) (t : Nat) : (elapseUntil c t).regs = c.regs := by
  unfold elapseUntil
  split
  · exact elapse_regs _ _
  · rfl

@[simp] theorem elapseUntil_clk (c : Core) (t : Nat) : (elapseUntil c t).clk = c.clk := by
  unfold elapseUntil
  split
  · exact elapse_clk _ _
  · rfl

@[simp] theorem elapseScale_regs (c : Core) (t : Nat) : (elapseScale c t).regs = c.regs := by
  unfold elapseScale
  split
  · exact elapseTo_regs _ _
  · split
    · exact elapseUntil_regs _ _
    · rfl

@[simp] theorem elapseScale_clk (c : Core) (t : Nat) : (elapseScale c t).clk = c.clk := by
  unfold elapseScale
  split
  · exact elapseTo_clk _ _
  · split
    · exact elapseUntil_clk _ _
    · rfl

theorem rdb_elapseScale (c : Core) (t : Nat) (k : Key) : rdb (elapseScale c t) k = rdb c k := by
  simp only [rdb, rd_congr (elapseScale_regs c t)]

/-! ## SYNC -/

/-- A pulse into a counting scale that has its phase, with SYNC_OUT off: in phase, or an error. -/
theorem syncPulse_phased {c : Core} (i : Nat) (h1 : clockBit c 1 = true) (hc : c.clk.counting = true) (hp : c.clk.phased = true)
    (ho : rdb c (mkKey 0x1301 3) = false) :
    let t := nearInstant (scaleNow c) (2 ^ 64) i
    let e := elapseScale c t
    syncPulse c i =
      if (((t + c.clk.comp : Nat) : Int) - e.clk.boundary) % epochTicks e = 0 then setRef e 2 true else raise (setRef e 3 true) 295 1 0 := by
  unfold syncPulse
  simp only [h1, Bool.not_true, Bool.false_eq_true, if_false, rdb_elapseScale, ho, elapseScale_clk, hc, hp]

/-- An epoch boundary of a counting scale, with its steps in their order. -/
theorem epochBoundary_counting {m : Mem} {c : Core} (hc : c.clk.counting = true) :
    epochBoundary m c =
      let a := crossBoundary c
      let b := copyTally (tallyEvent (latchTbs ([0, 1, 2].foldl applyTb a) (epochNow a) a.clk.boundary) 0xD1)
      ((modeAtBoundary m b).1, launchChecks (modeAtBoundary m b).1
        (ageWaits (groupSwap (groupArms (applyPendings (modeAtBoundary m b).2) (epochNow a))))) := by
  unfold epochBoundary
  rw [if_neg (by simp [hc])]

/-- Settles O15: the pulse by its branches, the boundary by its steps. -/
theorem syncPulsesAndEpochs : Obligations.SyncPulsesAndEpochs := by
  refine ⟨fun s i h1 hc hp ho => ?_, fun s i h1 hc hp ho => ?_, fun s hc => ?_⟩
  · exact fun hz => makes_didC rfl ((syncPulse_phased _ h1 hc hp ho).trans (if_pos hz))
  · exact fun hz => makes_didC rfl ((syncPulse_phased _ h1 hc hp ho).trans (if_neg hz))
  · have he : exec .epochBoundary s = execEpochBoundary s := rfl
    rw [Gives, he, execEpochBoundary, epochBoundary_counting hc]
    dsimp only [did]

end Sys2Proof.Machine
end

section
/-!
Mode transitions, SAFE after a fault, the RESET write and the end of boot (R430, R431, R439, R446, R447, R449).
-/
namespace Sys2Proof.Machine

/-- A command that answers a memory and a core. -/
theorem gives_did {i : Instr} {s : State} {r q : Mem × Core} (he : exec i s = did s r) (h : r = q) : Gives i s q.1 q.2 := by
  subst h
  exact he

/-! ## Transitions and SAFE -/

theorem exec_modeTransitionComplete (r : List StackTraining) (s : State) :
    exec (.modeTransitionComplete r) s = did s (transitionDone s.mem s.core r) := rfl

theorem exec_deviceFaultSafeEntry (s : State) : exec .deviceFaultSafeEntry s = did s (faultSafe s.mem s.core) := rfl

/-- A timed transition enters its mode. -/
theorem transitionDone_timed {m : Mem} {c : Core} {r : List StackTraining} {t : Nat} {p : Bool}
    (h : c.mode.transition = some { target := t, boundary := none, prepared := p }) :
    transitionDone m c r = ((enterMode m c t r).1, if p then wr (enterMode m c t r).2 (chg 3) 3 else (enterMode m c t r).2) := by
  unfold transitionDone
  rw [h]

theorem weaversStopped_iff (c : Core) : weaversStopped c = true ↔ ∀ w < 64, wState c w ≠ 2 ∧ wState c w ≠ 3 := by
  simp [weaversStopped]

/-- SAFE is entered after a fault once every Weaver has stopped. -/
theorem faultSafe_due {m : Mem} {c : Core} (hd : c.faults.safeDue = true) (hw : weaversStopped c = true)
    (hb : modeNow c ≠ 0) (hs : modeNow c ≠ 7) :
    faultSafe m c = enterMode m { c with faults := { c.faults with safeDue := false } } 7 [] :=
  if_pos ⟨hd, hw, by simp [inModes, inMode, modeCode, hb, hs]⟩

/-! ## RESET -/

theorem writeFail_reset {c : Core} (hc : Open c) : writeFail c false (mo 5) 1 0 0 = none := by
  have hobj : objIs (mo 5) .bool .wo (.nat 1 1) = true := by decide +kernel
  exact writeFail_none hobj hc (by decide) rfl (by decide) rfl rfl rfl rfl

/-! ## The end of boot -/

theorem exec_bootComplete (s : State) : exec .bootComplete s = did s (bootComplete s.mem s.core) := rfl

theorem slotImage_congr {c d : Core} (h : d.mode = c.mode) (k : ImageKind) (s : Nat) : slotImage d k s = slotImage c k s := by
  simp only [slotImage, h]

theorem bootFirmware_mode (c : Core) (f : Nat) : (bootFirmware c f).mode = c.mode := rfl

theorem modW_mode (c : Core) (w : Nat) (f : Weaver → Weaver) : (modW c w f).mode = c.mode := rfl

theorem bootMicrocode_mode (c : Core) (u : Nat) : (bootMicrocode c u).mode = c.mode :=
  foldl_keeps Core.mode (fun c w => modW_mode c w _) _ _

/-- Boot without a valid firmware image ends in SERVICE, in recovery. -/
theorem bootComplete_recovery {m : Mem} {c : Core} (hb : modeNow c = 0) (hf : bootSlot c .firmware = none) :
    bootComplete m c = enterMode m { c with mode := { c.mode with recovery := true } } 6 [] := by
  unfold bootComplete
  rw [if_neg (by simp [inMode, hb, modeCode]), hf]

/-- Boot with a valid firmware image alone ends in STANDBY, at the level of that image. -/
theorem bootComplete_firmware {m : Mem} {c : Core} {f : Nat} (hb : modeNow c = 0) (hf : bootSlot c .firmware = some f)
    (hu : bootSlot c .microcode = none) :
    bootComplete m c =
      enterMode m (scanJournal (bootBanks (wr (bootFirmware c f) (mkKey 0x1008 0) (imageLevel (slotImage c .firmware f))))) 2 [] := by
  unfold bootComplete
  rw [if_neg (by simp [inMode, hb, modeCode]), hf, hu]
  simp only [bootLevel, slotImage_congr (bootFirmware_mode c f)]

/-- Boot with two valid images ends in STANDBY, at the lower of their levels. -/
theorem bootComplete_both {m : Mem} {c : Core} {f u : Nat} (hb : modeNow c = 0) (hf : bootSlot c .firmware = some f)
    (hu : bootSlot c .microcode = some u) :
    bootComplete m c =
      enterMode m (scanJournal (bootBanks (wr (bootMicrocode (bootFirmware c f) u) (mkKey 0x1008 0)
        (min (imageLevel (slotImage c .firmware f)) (imageLevel (slotImage c .microcode u)))))) 2 [] := by
  unfold bootComplete
  rw [if_neg (by simp [inMode, hb, modeCode]), hf, hu]
  simp only [bootLevel, slotImage_congr ((bootMicrocode_mode _ u).trans (bootFirmware_mode c f))]

/-- Settles O19: each command by the branch that its hypotheses select. -/
theorem modeTransitionsComplete : Obligations.ModeTransitionsComplete := by
  refine ⟨fun s r t h => ?_, fun s r t h => ?_, fun s hd hw hb hs => ?_, fun s ho => ?_, fun s f hb hf hu => ?_, fun s f u hb hf hu => ?_,
    fun s hb hf => ?_⟩
  · exact gives_did (exec_modeTransitionComplete r s) (transitionDone_timed h)
  · have he := gives_did (exec_modeTransitionComplete r s) (transitionDone_timed h)
    rwa [if_pos rfl] at he
  · exact gives_did (exec_deviceFaultSafeEntry s) (faultSafe_due hd ((weaversStopped_iff _).mpr hw) hb hs)
  · exact accepts_scalar rfl (writeFail_reset ho) (closedTo_open ho (by decide)) rfl
  · rw [← bootFirmware]
    exact gives_did (exec_bootComplete s) (bootComplete_firmware hb hf hu)
  · rw [← bootFirmware]
    exact gives_did (exec_bootComplete s) (bootComplete_both hb hf hu)
  · exact gives_did (exec_bootComplete s) (bootComplete_recovery hb hf)

end Sys2Proof.Machine
end

section
/-!
Journal records (R22, R416 to R419, R430): the entries that a record takes, the slot it goes to, and what the messages that follow leave.
-/
namespace Sys2Proof.Machine

/-! ## What mirroring and replies leave -/

/-- The second core has the registers, the journal, the streams and the Landing of the first. -/
def SameRecords (a b : Core) : Prop := b.regs = a.regs ∧ b.journal = a.journal ∧ b.streams = a.streams ∧ b.landing = a.landing

theorem SameRecords.trans {a b c : Core} (h : SameRecords a b) (g : SameRecords b c) : SameRecords a c := by
  obtain ⟨hr, hj, hs, hl⟩ := h
  obtain ⟨gr, gj, gs, gl⟩ := g
  exact ⟨gr.trans hr, gj.trans hj, gs.trans hs, gl.trans hl⟩

theorem OnlySent.sameRecords {a b : Core} (h : OnlySent a b) : SameRecords a b := by
  obtain ⟨d, o, f, l, rfl⟩ := h
  exact ⟨rfl, rfl, rfl, rfl⟩

theorem sendMirror_only (c : Core) (it : MirrorItem) : OnlySent c (sendMirror c it) := by
  unfold sendMirror
  split
  · exact sendSlots_only c _ _ _
  · exact OnlySent.refl c

theorem mirrorStep_sameRecords (c : Core) (jseq : Nat) (l : List Byte) : SameRecords c (mirrorStep c jseq l) := by
  unfold mirrorStep
  split
  · have hwaits : ∀ it, SameRecords c (awaitConfirm c it) := fun it => ⟨rfl, rfl, rfl, rfl⟩
    exact (hwaits _).trans (sendMirror_only _ _).sameRecords
  · exact (OnlySent.refl c).sameRecords

theorem answerSession_only (c : Core) (sid port : Nat) (host : HostAddr) (n : Nat) (frame : List Byte) :
    OnlySent c (answerSession c sid port host n frame) :=
  (sendDap_only c port host frame).trans (modSession_only _ _ _)

theorem releaseReplies_only (c : Core) : OnlySent c (releaseReplies c) :=
  OnlySent.trans ⟨_, c.outbox, c.fresh, c.links, rfl⟩ (OnlySent.foldl _ (fun c _ => answerSession_only c _ _ _ _ _) _ _)

/-! ## Entries whole in eMRAM -/

theorem entryWhole_pointer {c : Core} {e : JEntry} (h : e.kind = 1) :
    entryWhole c e = setStream c e.id { getStream c e.id with journal := max (getStream c e.id).journal e.value } := by
  unfold entryWhole
  rw [h]
  rfl

theorem entryWhole_other {c : Core} {e : JEntry} (h : e.kind ≠ 1) : entryWhole c e = c := by
  unfold entryWhole
  split
  · exact absurd ‹_› h
  · rfl

/-- An entry that is whole changes nothing but its stream. -/
theorem entryWhole_onlyStreams (c : Core) (e : JEntry) : ∃ l, entryWhole c e = { c with streams := l } := by
  by_cases h : e.kind = 1
  · exact ⟨_, entryWhole_pointer h⟩
  · exact ⟨c.streams, entryWhole_other h⟩

theorem foldl_entryWhole_onlyStreams (l : List JEntry) (c : Core) : ∃ m, l.foldl entryWhole c = { c with streams := m } := by
  induction l generalizing c with
  | nil => exact ⟨c.streams, rfl⟩
  | cons e l ih =>
    obtain ⟨m, hm⟩ := entryWhole_onlyStreams c e
    obtain ⟨m', hm'⟩ := ih (entryWhole c e)
    exact ⟨m', by rw [List.foldl_cons, hm', hm]⟩

/-- No entry moves a pointer back. -/
theorem pointer_le_entryWhole (c : Core) (e : JEntry) (n : Nat) : (getStream c n).journal ≤ (getStream (entryWhole c e) n).journal := by
  by_cases h : e.kind = 1
  · rw [entryWhole_pointer h]
    by_cases hn : n = e.id
    · subst hn
      rw [getStream_setStream_same]
      exact Nat.le_max_left _ _
    · rw [getStream_setStream_ne c _ hn]
  · rw [entryWhole_other h]

theorem pointer_le_foldl_entryWhole (l : List JEntry) (c : Core) (n : Nat) :
    (getStream c n).journal ≤ (getStream (l.foldl entryWhole c) n).journal := by
  induction l generalizing c with
  | nil => exact Nat.le_refl _
  | cons e l ih => exact (pointer_le_entryWhole c e n).trans (ih _)

/-- The pointers of the streams reach the values of their entries. -/
theorem value_le_foldl_entryWhole {l : List JEntry} (c : Core) {e : JEntry} (hm : e ∈ l) (hk : e.kind = 1) :
    e.value ≤ (getStream (l.foldl entryWhole c) e.id).journal := by
  induction l generalizing c with
  | nil => cases hm
  | cons x l ih =>
    rcases List.mem_cons.mp hm with rfl | hm
    · refine Nat.le_trans ?_ (pointer_le_foldl_entryWhole l _ _)
      rw [entryWhole_pointer hk, getStream_setStream_same]
      exact Nat.le_max_right _ _
    · exact ih _ hm

/-! ## The record -/

/-- The waiting entries that the next record takes. -/
def takenEntries (c : Core) : List JEntry := takeGroups c c.journal.waiting (14 - (carried c.journal.slots c.journal.head).length) []

/-- The entries of the next record: what it carries and what it takes. -/
def recordEntries (c : Core) : List JEntry :=
  ((carried c.journal.slots c.journal.head).filter (fun e => !(takenEntries c).any (fun t => t.kind == e.kind && t.id == e.id)) ++
    takenEntries c).take 14

/-- JSEQ of the next record. -/
def nextJseq (c : Core) : Nat := (rd c (jo 1) + 1) % 2 ^ 48

/-- The journal with the next record in its slot. -/
def journalAfter (c : Core) : Journal :=
  { c.journal with
    slots := mset [] c.journal.slots c.journal.head (journalRecord (nextJseq c) (recordEntries c))
    head := (c.journal.head + 1) % journalSlots
    waiting := c.journal.waiting.filter (fun e => !(takenEntries c).contains e) }

/-- The block with the next record in the log, before its entries take effect. -/
def recordPut (c : Core) : Core :=
  let c2 := wr { c with journal := journalAfter c } (jo 1) (nextJseq c)
  if (c.journal.head + 1) % journalSlots = 0 then bump c2 (jo 4) else c2

/-- The entries of the record take effect once it is mirrored. -/
def recordTaken (c : Core) : Core :=
  (takenEntries c).foldl entryWhole
    (mirrorStep (tallyEvent (recordPut c) 0xDA) (nextJseq c) (journalRecord (nextJseq c) (recordEntries c)))

theorem writeRecord_eq {c : Core} (h : recordEntries c ≠ []) : writeRecord c = releaseReplies (recordTaken c) := by
  have hsome : ¬(recordEntries c).isEmpty = true := by simpa using h
  exact if_neg hsome

theorem rd_recordPut (c : Core) : rd (recordPut c) (jo 1) = nextJseq c := by
  unfold recordPut
  split
  · exact (rd_wr_ne _ _ (by decide)).trans (rd_wr_same _ _ _)
  · exact rd_wr_same _ _ _

theorem recordPut_journal (c : Core) : (recordPut c).journal = journalAfter c := by
  unfold recordPut
  split <;> rfl

theorem recordPut_landing (c : Core) : (recordPut c).landing = c.landing := by
  unfold recordPut
  split <;> rfl

/-- What a written record leaves: its number, the journal, the pointers of its streams, and the Landing as it was. -/
theorem writeRecord_spec {c : Core} (h : recordEntries c ≠ []) :
    rd (writeRecord c) (jo 1) = nextJseq c ∧ (writeRecord c).journal = journalAfter c ∧
      (∀ e ∈ takenEntries c, e.kind = 1 → e.value ≤ (getStream (writeRecord c) e.id).journal) ∧ (writeRecord c).landing = c.landing := by
  obtain ⟨hr, hj, hs, hl⟩ := (releaseReplies_only (recordTaken c)).sameRecords
  obtain ⟨gr, gj, -, gl⟩ := mirrorStep_sameRecords (tallyEvent (recordPut c) 0xDA) (nextJseq c) (journalRecord (nextJseq c) (recordEntries c))
  obtain ⟨m, hm⟩ : ∃ m, recordTaken c = { mirrorStep _ _ _ with streams := m } := foldl_entryWhole_onlyStreams (takenEntries c) _
  have hregs : (recordTaken c).regs = (recordPut c).regs := by rw [hm]; exact gr
  have hjournal : (recordTaken c).journal = (recordPut c).journal := by rw [hm]; exact gj
  have hlanding : (recordTaken c).landing = (recordPut c).landing := by rw [hm]; exact gl
  rw [writeRecord_eq h]
  refine ⟨?_, ?_, fun e he hk => ?_, ?_⟩
  · rw [rd_congr (hr.trans hregs), rd_recordPut]
  · rw [hj, hjournal, recordPut_journal]
  · rw [getStream, hs]
    exact value_le_foldl_entryWhole _ he hk
  · rw [hl, hlanding, recordPut_landing]

/-- While the journal is open and entries wait, an attempt goes by its outcome. -/
theorem journalAttempt_open {c : Core} (hc : c.journal.closed = false) (hw : c.journal.waiting ≠ []) (a : EmramWrite) :
    journalAttempt c a = match a with
      | .good => writeRecord c
      | .retried => raise (writeRecord c) 302 1 0
      | .failedTwice => raise c 302 3 0 :=
  if_neg (by simp [hc, hw])

theorem journalAttempt_idle {c : Core} (h : c.journal.closed = true ∨ c.journal.waiting = []) (a : EmramWrite) : journalAttempt c a = c :=
  if_pos (by simpa using h)

/-- Settles O44: an attempt by its outcome, and a written record by what it puts and what follows it. -/
theorem journalRecords : Obligations.JournalRecords := by
  refine ⟨fun s a h => makes_didC rfl (journalAttempt_idle h a), fun s hc hw => makes_didC rfl (journalAttempt_open hc hw _), ?_⟩
  rintro s j carry taken entries rfl hc hw hentries
  obtain ⟨hjseq, hjournal, hpointers, hlanding⟩ := writeRecord_spec (c := s.core) hentries
  exact ⟨writeRecord s.core, makes_didC rfl (journalAttempt_open hc hw _), makes_didC rfl (journalAttempt_open hc hw _), hjseq, hjournal,
    hpointers, hlanding⟩

end Sys2Proof.Machine
end

section
/-!
Remote reads and writes, their responses and time-out (R35 to R42, R371, R372).
-/
namespace Sys2Proof.Machine

/-! ## Requests -/

/-- Without a retrain nothing waits for the HBM. -/
theorem beMustWait_idle {c : Core} (h : c.hbm.training = false) (a n : Nat) : beMustWait c a n = false := by simp [beMustWait, h]

theorem requestWaits_idle {c : Core} (h : c.hbm.training = false) (m : Msg) (w : Bool) (n : Nat) : requestWaits c m w n = false := by
  unfold requestWaits
  split
  · simp [beMustWait_idle h]
  · simp

theorem requestWaits_other {c : Core} {m : Msg} (h : forMe c m = false) (w : Bool) (n : Nat) : requestWaits c m w n = false := by
  simp [requestWaits, h]

/-- A request that no retrain keeps waiting runs. -/
theorem bestEffort_run (s : State) {w : Bool} (h : w = false) (r : BestEffort) (run : Host.Outcome State Fault Refusal) :
    bestEffort s w r run = run := by simp [bestEffort, h]

theorem exec_rdReq {s : State} {l : Fin 8} {m : Msg} (h : requestWaits s.core m false (64 * (m.size.toNat % 16 + 1)) = false) :
    exec (.rdReq l m) s = didC s (readRequest s.mem s.core l.val m) := bestEffort_run s h _ _

theorem exec_wrReq {s : State} {l : Fin 8} {m : Msg} (h : requestWaits s.core m true m.body.length = false) :
    exec (.wrReq l m) s = did s (writeRequest s.mem s.core l.val m) := bestEffort_run s h _ _

theorem readRequest_other {mem : Mem} {c : Core} {m : Msg} (l : Nat) (h : forMe c m = false) :
    readRequest mem c l m = forwardMsg (takeSlots c l 1 (1 + msgSlots m)) 1 m := if_pos (by simp [h])

theorem writeRequest_other {mem : Mem} {c : Core} {m : Msg} (l : Nat) (h : forMe c m = false) :
    writeRequest mem c l m = (mem, forwardMsg (takeSlots c l 1 (1 + msgSlots m)) 2 m) := if_pos (by simp [h])

/-- A read request for this device is answered with what the read gives. -/
theorem readRequest_own {mem : Mem} {c : Core} {m : Msg} {st crc : Nat} {data : List Byte} {d : Core} (l : Nat) (h : forMe c m = true)
    (hid : noDeviceId c = false)
    (hs : serveRead mem (takeSlots c l 1 (1 + msgSlots m)) (m.addr.toNat / 64 * 64) (64 * (m.size.toNat % 16 + 1)) m.block = ((st, data, crc), d)) :
    readRequest mem c l m = (sendTo d 3 2 m.src.toNat false m.tag.toNat crc st 0 data).1 := by
  simp only [readRequest, h, hid, hs, Bool.not_true, Bool.false_eq_true, if_false]

/-- A write request for this device is answered with the status of the write. -/
theorem writeRequest_own {mem mem' : Mem} {c : Core} {m : Msg} {st : Nat} {d : Core} (l : Nat) (h : forMe c m = true)
    (hid : noDeviceId c = false)
    (hs : serveWrite mem (takeSlots c l 1 (1 + msgSlots m)) (m.addr.toNat / 64 * 64) m.body = (st, (mem', d))) :
    writeRequest mem c l m = (mem', (sendTo d 4 2 m.src.toNat false m.tag.toNat 0 st 0 []).1) := by
  simp only [writeRequest, h, hid, hs, Bool.not_true, Bool.false_eq_true, if_false]

/-! ## Apertures -/

theorem serveRead_refused {m : Mem} {c : Core} {g n st : Nat} (block : Bool) (h : apertureOf c g n false = .error st) :
    serveRead m c g n block = ((st, [], 0), c) := by simp only [serveRead, h]

theorem checkedRead_good {m : Mem} {a n : Nat} (c : Core) (hint : PageHint) (h : badUnits m a n = []) :
    checkedRead m c a n hint = (true, touchHbm c a n hint) := by simp [checkedRead, h]

/-- A read of good bytes through an open aperture gives them. -/
theorem serveRead_bytes {m : Mem} {c : Core} {g n a : Nat} (h : apertureOf c g n false = .ok a) (hb : badUnits m a n = []) :
    serveRead m c g n false = ((0, readBytes m a n, 0), touchHbm c a n .auto) := by
  simp [serveRead, h, checkedRead_good c _ hb]

/-- A read for a block load of good bytes in a tagged block gives them with the BLOCK_CRC. -/
theorem serveRead_block {m : Mem} {c : Core} {g n a t : Nat} (h : apertureOf c g n false = .ok a) (hb : badUnits m a n = [])
    (ht : mfind m.tags (a / 4096) = some t) : serveRead m c g n true = ((0, readBytes m a n, t), touchHbm c a n .auto) := by
  simp [serveRead, h, checkedRead_good c _ hb, ht]

theorem serveWrite_refused {m : Mem} {c : Core} {g st : Nat} {l : List Byte} (h : apertureOf c g l.length true = .error st) :
    serveWrite m c g l = (st, (m, c)) := by simp only [serveWrite, h]

/-- A write through an open aperture stores its bytes at the local address. -/
theorem serveWrite_ok {m : Mem} {c : Core} {g a : Nat} {l : List Byte} (h : apertureOf c g l.length true = .ok a) :
    serveWrite m c g l = (0, (store m a l, breakReservations (checkedStore m c a l .auto).2 a l.length)) := by
  simp only [serveWrite, h, checkedStore]

theorem sameBytesBut_store (m : Mem) (a : Nat) (l : List Byte) : SameBytesBut a l.length m (store m a l) :=
  fun x hx => readByte_store_outside m a l x hx

/-! ## Responses -/

theorem loadWaits_idle {c : Core} {m : Msg} (h : forMe c m = false ∨ c.hbm.training = false) : loadWaits c m = false := by
  rcases h with h | h <;> simp [loadWaits, h]

theorem exec_rdResp {s : State} {l : Fin 8} {m : Msg} (h : forMe s.core m = false ∨ s.core.hbm.training = false) :
    exec (.rdResp l m) s = did s (response s.mem s.core l.val 3 m) := bestEffort_run s (loadWaits_idle h) _ _

theorem exec_wrResp (s : State) (l : Fin 8) (m : Msg) : exec (.wrResp l m) s = did s (response s.mem s.core l.val 4 m) := rfl

theorem takeSlots_remote (c : Core) (l vc n : Nat) : (takeSlots c l vc n).remote = c.remote := rfl

/-- The block without the requests of a tag. -/
def withoutReq (c : Core) (tag : Nat) : Core :=
  { c with remote := { c.remote with reqs := c.remote.reqs.filter (fun x => x.tag != tag) } }

theorem response_other {mem : Mem} {c : Core} {m : Msg} (l ty : Nat) (h : forMe c m = false) :
    response mem c l ty m = (mem, forwardMsg (takeSlots c l 2 (1 + msgSlots m)) ty m) := if_pos (by simp [h])

/-- A response that answers no request only frees its slots. -/
theorem response_unasked {mem : Mem} {c : Core} {m : Msg} (l ty : Nat) (h : forMe c m = true)
    (hn : ∀ r ∈ c.remote.reqs, r.tag ≠ m.tag.toNat) :
    response mem c l ty m = (mem, takeSlots c l 2 (1 + msgSlots m)) := by
  have hnone : c.remote.reqs.find? (fun r => r.tag == m.tag.toNat && r.dst == m.src.toNat) = none :=
    List.find?_eq_none.mpr fun r hr => by simp [hn r hr]
  simp only [response, h, takeRequest, takeSlots_remote, hnone, Bool.not_true, Bool.false_eq_true, if_false]

/-- A response ends the request that it answers. -/
theorem response_asked {mem : Mem} {c : Core} {m : Msg} {r : RemoteReq} (l ty : Nat) (h : forMe c m = true)
    (hr : c.remote.reqs.find? (fun r => r.tag == m.tag.toNat && r.dst == m.src.toNat) = some r) :
    response mem c l ty m = endRequest mem (withoutReq (takeSlots c l 2 (1 + msgSlots m)) m.tag.toNat) r m.status.toNat (m.addr.toNat % 2 ^ 32) m.body := by
  simp only [response, h, takeRequest, takeSlots_remote, hr, withoutReq, Bool.not_true, Bool.false_eq_true, if_false]

theorem endRequest_core {m : Mem} {c : Core} {r : RemoteReq} {n : Nat} (status crc : Nat) (data : List Byte) (h : r.core = some n) :
    endRequest m c r status crc data = (m, remoteAnswer c n status data) := by simp only [endRequest, h]

theorem endRequest_load {m : Mem} {c : Core} {r : RemoteReq} (status crc : Nat) (data : List Byte) (h : r.core = none) :
    endRequest m c r status crc data = loadPart m c r.part status crc data := by simp only [endRequest, h]

theorem exec_remoteTimeout (s : State) (tag : BitVec 16) : exec (.remoteTimeout tag) s = did s (requestTimedOut s.mem s.core tag.toNat) := rfl

theorem requestTimedOut_asked {m : Mem} {c : Core} {tag : Nat} {r : RemoteReq} (h : c.remote.reqs.find? (fun r => r.tag == tag) = some r) :
    requestTimedOut m c tag = endRequest m (withoutReq c tag) r 8 0 [] := by simp only [requestTimedOut, h, withoutReq]

theorem requestTimedOut_none {m : Mem} {c : Core} {tag : Nat} (h : c.remote.reqs.find? (fun r => r.tag == tag) = none) :
    requestTimedOut m c tag = (m, c) := by simp only [requestTimedOut, h]

/-! ## The answer to a hart -/

/-- An answer with a failure is the access fault of the hart's request. -/
theorem remoteAnswer_failed {c : Core} {n tag g : Nat} {x : MemAccess} {w : Bool} {st : Nat} (data : List Byte)
    (h : (getHart c n).waits = some (.remote tag x g w)) (hst : st ≠ 0) :
    remoteAnswer c n st data = hartTrap (modHart c n (fun h => { h with waits := none })) n (accessCause (kindOf x.op)) x.vaddr.toNat := by
  simp only [remoteAnswer, h, hst, ne_eq, not_false_eq_true, if_true]

/-- The answer to a load gives the hart its register. -/
theorem remoteAnswer_load {c : Core} {n tag g : Nat} {x : MemAccess} {w sg : Bool} (data : List Byte)
    (h : (getHart c n).waits = some (.remote tag x g w)) (hop : x.op = .load sg) :
    remoteAnswer c n 0 data = interruptsOf (retire (modHart c n (fun h => { h with waits := none })) n x.op x.rd.toNat
      (extended sg (8 * 2 ^ x.size.toNat) (leAt data (g % 64) (2 ^ x.size.toNat)))) n := by
  simp [remoteAnswer, h, hop, globalLoaded]

end Sys2Proof.Machine
end

section
/-!
Block loads and relayed DAP frames (R42, R75, R373).
-/
namespace Sys2Proof.Machine

/-! ## BLOCK_LOAD -/

/-- The contents of BLOCK_LOAD that R373 accepts. -/
def LoadFits (c : Core) (data : List Byte) : Prop :=
  data.length = 24 ∧ leAt data 0 8 % 4096 = 0 ∧ leAt data 0 8 < 2 ^ 48 ∧ leAt data 8 8 % 4096 = 0 ∧ 4096 ≤ leAt data 16 4 ∧
    leAt data 16 4 ≤ 2 ^ 30 ∧ leAt data 16 4 % 4096 = 0 ∧ leAt data 8 8 + leAt data 16 4 ≤ capacity c ∧ leAt data 20 4 = 0

/-- The load that BLOCK_LOAD's contents ask for, before its first block. -/
def loadOf (data : List Byte) : Load := { source := leAt data 0 8, dest := leAt data 8 8, length := leAt data 16 4, block := 0, parts := [] }

/-- The block with a load under way, before it asks for its first block. -/
def loadBegun (c : Core) (data : List Byte) : Core :=
  let c1 := wr (wr (wr (setDom c (wo 6) data) (wo 7) 1) (wo 8) 0) (wo 9) 0xFF
  { c1 with remote := { c1.remote with load := some (loadOf data) } }

theorem startLoad_fits {c : Core} {data : List Byte} (h : LoadFits c data) :
    startLoad c data = if rd c (wo 7) = 1 then .error stStateConflict
      else guardSt ((blocksOf (leAt data 8 8) (leAt data 16 4)).all (fun b => !blockInUse c b)) stBlockInUse (.ok (loadBegun c data)) := by
  obtain ⟨h24, hsrc, hsrcTop, hdst, hmin, hmax, hlen, hcap, hres⟩ := h
  unfold startLoad
  refine if_neg ?_
  omega

/-- A load may start where none runs and no block of its destination is in use. -/
theorem startLoad_running {c : Core} {data : List Byte} (h : LoadFits c data) (hrun : rd c (wo 7) = 1) :
    startLoad c data = .error stStateConflict := (startLoad_fits h).trans (if_pos hrun)

theorem startLoad_inUse {c : Core} {data : List Byte} (h : LoadFits c data) (hrun : rd c (wo 7) ≠ 1)
    (hb : ∃ b ∈ blocksOf (leAt data 8 8) (leAt data 16 4), blockInUse c b = true) : startLoad c data = .error stBlockInUse := by
  have hall : (blocksOf (leAt data 8 8) (leAt data 16 4)).all (fun b => !blockInUse c b) = false := by
    rw [List.all_eq_false]
    obtain ⟨b, hm, hu⟩ := hb
    exact ⟨b, hm, by simp [hu]⟩
  rw [startLoad_fits h, if_neg hrun, hall]
  rfl

theorem startLoad_free {c : Core} {data : List Byte} (h : LoadFits c data) (hrun : rd c (wo 7) ≠ 1)
    (hb : ∀ b ∈ blocksOf (leAt data 8 8) (leAt data 16 4), blockInUse c b = false) : startLoad c data = .ok (loadBegun c data) := by
  have hall : (blocksOf (leAt data 8 8) (leAt data 16 4)).all (fun b => !blockInUse c b) = true :=
    List.all_eq_true.mpr fun b hm => by simp [hb b hm]
  rw [startLoad_fits h, if_neg hrun, hall]
  rfl

/-- A write of BLOCK_LOAD of the right size reaches its effect. -/
theorem exec_blockLoad {s : State} {data : List Byte} (ho : Open s.core) (hm : InModes s.core [.warm, .calibrate, .run, .service])
    (hl : data.length = 24) :
    exec (.blockLoad data) s = .next { s with
      mem := (writeBlockLoad s.mem s.core data).2.1
      core := noticed { (writeBlockLoad s.mem s.core data).2.2 with status := (writeBlockLoad s.mem s.core data).1 } } := by
  have hobj : objIs (wo 6) .domain (.rwm [.warm, .calibrate, .run, .service]) .any = true := by decide +kernel
  have hmax : domMax (wo 6) = 24 := by decide +kernel
  have hfail : blockFail s.core false (wo 6) = none := blockFail_none hobj ho rfl (by decide) (modeAccepts_rwm hm)
  exact wroteDomain_eq s (wo 6) data _ hfail (closedTo_open ho (by decide)) (by omega)

/-- A refused BLOCK_LOAD answers its status alone. -/
theorem makes_blockLoad_refused {s : State} {data : List Byte} {st : Status} (ho : Open s.core)
    (hm : InModes s.core [.warm, .calibrate, .run, .service]) (hl : data.length = 24) (h : startLoad s.core data = .error st) :
    Makes (.blockLoad data) s { s.core with status := st } := by
  simp only [Makes, Gives, exec_blockLoad ho hm hl, writeBlockLoad, h]

/-- An accepted BLOCK_LOAD asks for its first block. -/
theorem gives_blockLoad {s : State} {data : List Byte} (ho : Open s.core) (hm : InModes s.core [.warm, .calibrate, .run, .service])
    (hl : data.length = 24) (h : startLoad s.core data = .ok (loadBegun s.core data)) :
    Gives (.blockLoad data) s (askBlock (leAt data 16 4 / 4096) s.mem (loadBegun s.core data)).1
      { (askBlock (leAt data 16 4 / 4096) s.mem (loadBegun s.core data)).2 with status := stOk } := by
  have hleft : blocksLeft (loadBegun s.core data) = leAt data 16 4 / 4096 := rfl
  simp only [Gives, exec_blockLoad ho hm hl, writeBlockLoad, h, hleft]

theorem rd_loadBegun_eq (c : Core) (data : List Byte) (k : Key) :
    rd (loadBegun c data) k = rd (wr (wr (wr c (wo 7) 1) (wo 8) 0) (wo 9) 0xFF) k := rfl

theorem rd_loadBegun_ne (c : Core) (data : List Byte) {k : Key} (h : k ∉ [wo 7, wo 8, wo 9]) : rd (loadBegun c data) k = rd c k := by
  simp only [List.mem_cons, List.not_mem_nil, or_false, not_or] at h
  obtain ⟨h7, h8, h9⟩ := h
  rw [rd_loadBegun_eq, rd_wr_ne _ _ h9, rd_wr_ne _ _ h8, rd_wr_ne _ _ h7]

theorem rd_loadBegun (c : Core) (data : List Byte) :
    rd (loadBegun c data) (wo 7) = 1 ∧ rd (loadBegun c data) (wo 8) = 0 ∧ rd (loadBegun c data) (wo 9) = 0xFF := by
  have h78 : wo 7 ≠ wo 8 := by decide
  have h79 : wo 7 ≠ wo 9 := by decide
  have h89 : wo 8 ≠ wo 9 := by decide
  simp only [rd_loadBegun_eq, rd_wr_same, rd_wr_ne _ _ h78, rd_wr_ne _ _ h79, rd_wr_ne _ _ h89, and_self]

theorem dom_loadBegun (c : Core) (data : List Byte) : dom (loadBegun c data) (wo 6) = data := dom_setDom_same _ _ _

/-! ## The parts of a block -/

theorem padTo_length (n : Nat) (l : List Byte) : (padTo n l).length = n := by
  simp only [padTo, List.length_take, List.length_append, List.length_replicate]
  omega

/-- The bytes of a store read back. -/
theorem readBytes_store (m : Mem) (a : Nat) (l : List Byte) : readBytes (store m a l) a l.length = l := by
  refine List.ext_getElem (by simp [readBytes]) fun i h1 h2 => ?_
  simp only [readBytes, List.getElem_map, List.getElem_range]
  exact readByte_store_inside m a l i h2

theorem stk_ne {k : Key} (h : k % 256 ≠ 3) (s : Nat) : k ≠ stk s 3 := by
  rintro rfl
  exact h (by simp [stk, mkKey])

/-- An access to the HBM wakes its stacks and changes no other register. -/
theorem touchHbm_regs (c : Core) (a n : Nat) (hint : PageHint) {k : Key} (hk : k % 256 ≠ 3) : rd (touchHbm c a n hint) k = rd c k := by
  unfold touchHbm
  split
  · rfl
  · refine foldl_keeps (rd · k) (fun c p => ?_) _ _
    split
    · exact rd_wr_ne _ _ (stk_ne hk _)
    · rfl

theorem touchHbm_remote (c : Core) (a n : Nat) (hint : PageHint) : (touchHbm c a n hint).remote = c.remote := by
  unfold touchHbm
  split
  · rfl
  · refine foldl_keeps Core.remote (fun c p => ?_) _ _
    split <;> rfl

/-- A failed load says so, and why. -/
theorem rd_loadFailed (c : Core) (st : Nat) : rd (loadFailed c st) (wo 7) = 3 ∧ rd (loadFailed c st) (wo 9) = st :=
  ⟨(rd_wr_ne _ _ (by decide)).trans (rd_wr_same _ _ _), rd_wr_same _ _ _⟩

/-- The memory with a whole block of a load stored. -/
def blockStored (m : Mem) (x : Load) (l : List Byte) : Mem := store m (4096 * loadDest x) (padTo 4096 l)

/-- The block with one more block of its load counted. -/
def blockCounted (c : Core) (x : Load) : Core :=
  let c1 := touchHbm c (4096 * loadDest x) 4096 .auto
  wr c1 (wo 8) (rd c1 (wo 8) + 1)

/-- The block after the last block of a load. -/
def loadEnded (c : Core) (x : Load) : Core :=
  let c2 := blockCounted c x
  { wr c2 (wo 7) 2 with remote := { c2.remote with load := none } }

/-- The block after a block of a load that goes on. -/
def loadOn (c : Core) (x : Load) : Core :=
  let c2 := blockCounted c x
  { c2 with remote := { c2.remote with load := some { x with block := x.block + 1, parts := [] } } }

theorem rd_blockCounted (c : Core) (x : Load) : rd (blockCounted c x) (wo 8) = rd c (wo 8) + 1 := by
  rw [blockCounted, rd_wr_same, touchHbm_regs _ _ _ _ (by decide)]

theorem blockCounted_remote (c : Core) (x : Load) : (blockCounted c x).remote = c.remote := touchHbm_remote _ _ _ _

theorem rd_loadEnded (c : Core) (x : Load) : rd (loadEnded c x) (wo 7) = 2 ∧ rd (loadEnded c x) (wo 8) = rd c (wo 8) + 1 := by
  have hrd : ∀ k, rd (loadEnded c x) k = rd (wr (blockCounted c x) (wo 7) 2) k := fun _ => rfl
  have h87 : wo 8 ≠ wo 7 := by decide
  rw [hrd, hrd, rd_wr_same, rd_wr_ne _ _ h87, rd_blockCounted]
  exact ⟨rfl, rfl⟩

theorem rd_loadOn (c : Core) (x : Load) : rd (loadOn c x) (wo 8) = rd c (wo 8) + 1 := rd_blockCounted c x

theorem loadOn_remote (c : Core) (x : Load) :
    (loadOn c x).remote = { c.remote with load := some { x with block := x.block + 1, parts := [] } } := by
  simp only [loadOn, blockCounted_remote]

section
variable {m : Mem} {c : Core} {x : Load} (hx : c.remote.load = some x)
include hx

/-- The source's read ended with a failure. -/
theorem takeBlock_failed {st : Nat} (crc : Nat) (data : List Byte) (h : st ≠ 0) :
    takeBlock m c st crc data = (({ m with tags := merase m.tags (loadDest x) }, loadFailed c st), false) := by
  simp only [takeBlock, hx, if_pos h]

/-- A block that arrives whole is stored; its CRC decides whether the load fails, ends or goes on. -/
theorem takeBlock_stored (crc : Nat) (l : List Byte) :
    takeBlock m c 0 crc l =
      if mfind (blockStored m x l).tags (loadDest x) ≠ some crc then
        (({ blockStored m x l with tags := merase (blockStored m x l).tags (loadDest x) },
          loadFailed (touchHbm c (4096 * loadDest x) 4096 .auto) 5), false)
      else if x.length ≤ 4096 * (x.block + 1) then ((blockStored m x l, loadEnded c x), false)
      else ((blockStored m x l, loadOn c x), true) := by
  simp only [takeBlock, hx, ne_eq, not_true_eq_false, if_false]
  rfl

/-- Fewer than four parts wait. -/
theorem loadPart_waits {part : Nat} (crc : Nat) (data : List Byte) (h : (minsert (merase x.parts part) part data).length < 4) :
    loadPart m c part 0 crc data =
      (m, { c with remote := { c.remote with load := some { x with parts := minsert (merase x.parts part) part data } } }) := by
  simp only [loadPart, hx, true_and, if_pos h]

/-- A part that makes the block, or ends its read, has the block taken. -/
theorem loadPart_takes {part st : Nat} (crc : Nat) (data : List Byte) (h : st ≠ 0 ∨ 4 ≤ (minsert (merase x.parts part) part data).length) :
    loadPart m c part st crc data =
      let t := takeBlock m c st crc ((minsert (merase x.parts part) part data).flatMap Prod.snd)
      if t.2 then askBlock (blocksLeft t.1.2) t.1.1 t.1.2 else t.1 := by
  have hn : ¬(st = 0 ∧ (minsert (merase x.parts part) part data).length < 4) := by omega
  simp only [loadPart, hx, if_neg hn]

theorem loadPart_failed {part st : Nat} (crc : Nat) (data : List Byte) (h : st ≠ 0) :
    loadPart m c part st crc data = ({ m with tags := merase m.tags (loadDest x) }, loadFailed c st) := by
  rw [loadPart_takes hx crc data (.inl h), takeBlock_failed hx crc _ h]
  rfl

section
variable {part crc : Nat} {data : List Byte} (h4 : 4 ≤ (minsert (merase x.parts part) part data).length)
include h4

/-- A block whose CRC is not the source's loses its tag, and the load fails with 5. -/
theorem loadPart_crcWrong {w : Mem} (hs : blockStored m x ((minsert (merase x.parts part) part data).flatMap Prod.snd) = w)
    (hw : mfind w.tags (loadDest x) ≠ some crc) :
    loadPart m c part 0 crc data =
      ({ w with tags := merase w.tags (loadDest x) }, loadFailed (touchHbm c (4096 * loadDest x) 4096 .auto) 5) := by
  rw [loadPart_takes hx crc data (.inr h4), takeBlock_stored hx, hs, if_pos hw]
  rfl

/-- The last block ends the load. -/
theorem loadPart_last {w : Mem} (hs : blockStored m x ((minsert (merase x.parts part) part data).flatMap Prod.snd) = w)
    (hw : mfind w.tags (loadDest x) = some crc) (hl : x.length ≤ 4096 * (x.block + 1)) :
    loadPart m c part 0 crc data = (w, loadEnded c x) := by
  rw [loadPart_takes hx crc data (.inr h4), takeBlock_stored hx, hs, if_neg (not_not.mpr hw), if_pos hl]
  rfl

/-- After any other block the next one is asked for. -/
theorem loadPart_more {w : Mem} (hs : blockStored m x ((minsert (merase x.parts part) part data).flatMap Prod.snd) = w)
    (hw : mfind w.tags (loadDest x) = some crc) (hl : 4096 * (x.block + 1) < x.length) :
    loadPart m c part 0 crc data = askBlock (x.length / 4096 - (x.block + 1)) w (loadOn c x) := by
  rw [loadPart_takes hx crc data (.inr h4), takeBlock_stored hx, hs, if_neg (not_not.mpr hw), if_neg (Nat.not_le.mpr hl)]
  rfl

end

end

/-! ## Relayed DAP frames -/

theorem exec_dapRelay (l : Fin 8) (op : Byte) (f : DapFrame) (s : State) :
    exec (.dapRelay l op f) s = did s (dapRelayed s.mem s.core l.val op.toNat f) := rfl

/-- A relayed frame by its branches. -/
theorem dapRelayed_eq (m : Mem) (c : Core) (l op : Nat) (f : DapFrame) :
    dapRelayed m c l op f =
      let b := hasFlag f flagReply || op == opNotify
      let c1 := takeSlots c l (if b then 2 else 1) (relaySlots op f)
      if dapIntact op f = false then (m, frameDiscarded c1)
      else if b = true then (m, relayBack c1 op f)
      else if forOther c f = true then (m, relayRequest c1 (2 + l) op f)
      else dapHere m c1 (2 + l) op f := by
  simp only [dapRelayed, Bool.not_eq_eq_eq_not, Bool.not_true]

/-! ## The statement -/

/-- Settles O57: a request through its aperture, a response by the request it answers, a load by its checks and its blocks, a
relayed frame by its branches. -/
theorem remoteAccessAndBlockLoads : Obligations.RemoteAccessAndBlockLoads := by
  refine ⟨?requests, ?responses, ?timeout, ?noRequest, ?hart, ?load, ?parts, ?relay⟩
  case requests =>
    intro s l m c g n
    refine ⟨fun hme => ?_, fun hme hid ht => ?_⟩
    · exact ⟨makes_didC (exec_rdReq (requestWaits_other hme _ _)) (readRequest_other _ hme),
        gives_did (exec_wrReq (requestWaits_other hme _ _)) (writeRequest_other _ hme)⟩
    · have hrd := exec_rdReq (l := l) (requestWaits_idle ht m false _)
      have hwr := exec_wrReq (l := l) (requestWaits_idle ht m true _)
      refine ⟨fun st ha => ?_, fun a ha hb hm => ?_, fun a t ha hb hm htag => ?_, fun st ha => ?_, fun a ha => ⟨?_, sameBytesBut_store _ _ _⟩⟩
      · exact makes_didC hrd (readRequest_own _ hme hid (serveRead_refused _ ha))
      · exact makes_didC hrd (readRequest_own _ hme hid (hm ▸ serveRead_bytes ha hb))
      · exact makes_didC hrd (readRequest_own _ hme hid (hm ▸ serveRead_block ha hb htag))
      · exact gives_did hwr (writeRequest_own _ hme hid (serveWrite_refused ha))
      · exact gives_did hwr (writeRequest_own _ hme hid (serveWrite_ok ha))
  case responses =>
    intro s l m c d
    refine ⟨fun hme => ?_, fun hme ht hn => ?_, fun r hme ht hr => ⟨fun n hc => ?_, fun hc => ?_⟩⟩
    · exact ⟨gives_did (exec_rdResp (.inl hme)) (response_other _ _ hme), gives_did (exec_wrResp s l m) (response_other _ _ hme)⟩
    · exact ⟨gives_did (exec_rdResp (.inr ht)) (response_unasked _ _ hme hn), gives_did (exec_wrResp s l m) (response_unasked _ _ hme hn)⟩
    · have he : ∀ ty, response s.mem s.core l.val ty m = _ := fun ty => (response_asked _ ty hme hr).trans (endRequest_core _ _ _ hc)
      exact ⟨gives_did (exec_rdResp (.inr ht)) (he 3), gives_did (exec_wrResp s l m) (he 4)⟩
    · exact gives_did (exec_rdResp (.inr ht)) ((response_asked _ 3 hme hr).trans (endRequest_load _ _ _ hc))
  case timeout =>
    intro s tag r hr d p
    exact gives_did (exec_remoteTimeout s tag) (requestTimedOut_asked hr)
  case noRequest =>
    intro s tag hn
    exact gives_did (exec_remoteTimeout s tag) (requestTimedOut_none hn)
  case hart =>
    intro c n tag g x w st data hw
    exact ⟨remoteAnswer_failed data hw, fun sg hop => remoteAnswer_load data hw hop⟩
  case load =>
    intro s data ho hm hl src dst len hres hsrc hsrcTop hdst hlen hmin hmax hcap
    have hfits : LoadFits s.core data := ⟨hl, hsrc, hsrcTop, hdst, hmin, hmax, hlen, hcap, hres⟩
    refine ⟨fun hrun => ?_, fun hrun hb => ?_, fun hrun hb => ?_⟩
    · exact makes_blockLoad_refused ho hm hl (startLoad_running hfits hrun)
    · exact makes_blockLoad_refused ho hm hl (startLoad_inUse hfits hrun hb)
    · obtain ⟨h7, h8, h9⟩ := rd_loadBegun s.core data
      exact ⟨loadBegun s.core data, gives_blockLoad ho hm hl (startLoad_free hfits hrun hb), h7, h8, h9, dom_loadBegun _ _, rfl,
        fun k hk => rd_loadBegun_ne _ _ hk⟩
  case parts =>
    intro m c x part crc data hx b parts w r
    have hlen : (padTo 4096 (parts.flatMap Prod.snd)).length = 4096 := padTo_length _ _
    have hsame : SameBytesBut (4096 * b) (padTo 4096 (parts.flatMap Prod.snd)).length m w := sameBytesBut_store _ _ _
    have hread : readBytes w (4096 * b) (padTo 4096 (parts.flatMap Prod.snd)).length = padTo 4096 (parts.flatMap Prod.snd) := readBytes_store _ _ _
    rw [hlen] at hsame hread
    refine ⟨fun st hst => ?_, fun hlt => loadPart_waits hx crc data hlt, hsame, hread, fun h4 hw => ?_, fun h4 hw hl => ?_, fun h4 hw hl => ?_⟩
    · obtain ⟨h7, h9⟩ := rd_loadFailed c st
      rw [loadPart_failed hx crc data hst]
      exact ⟨rfl, mfind_merase_same _ _, h7, h9⟩
    · obtain ⟨h7, h9⟩ := rd_loadFailed (touchHbm c (4096 * b) 4096 .auto) 5
      have hr : r = ({ w with tags := merase w.tags b }, loadFailed (touchHbm c (4096 * b) 4096 .auto) 5) := loadPart_crcWrong hx h4 rfl hw
      rw [hr]
      exact ⟨rfl, mfind_merase_same _ _, h7, h9⟩
    · obtain ⟨h7, h8⟩ := rd_loadEnded c x
      have hr : r = (w, loadEnded c x) := loadPart_last hx h4 rfl hw hl
      rw [hr]
      exact ⟨rfl, h7, h8, rfl⟩
    · exact ⟨loadOn c x, loadPart_more hx h4 rfl hw hl, rd_loadOn c x, loadOn_remote c x⟩
  case relay =>
    intro s l op f b c p
    have he := exec_dapRelay l op f s
    have hr := dapRelayed_eq s.mem s.core l.val op.toNat f
    refine ⟨fun hi => ?_, fun hi hb => ?_, fun hi hb ho => ?_, fun hi hb ho => ?_⟩
    · exact gives_did he (hr.trans (if_pos hi))
    · exact gives_did he (hr.trans ((if_neg (by simp [hi])).trans (if_pos hb)))
    · exact gives_did he (hr.trans ((if_neg (by simp [hi])).trans ((if_neg (by simp [b, hb])).trans (if_pos ho))))
    · exact gives_did he (hr.trans ((if_neg (by simp [hi])).trans ((if_neg (by simp [b, hb])).trans (if_neg (by simp [ho])))))

end Sys2Proof.Machine
end

section
/-!
What the subscriptions do after a command, and the block as power is applied (R47, R72, R73, R433, R445, R467).
-/
namespace Sys2Proof.Machine

/-! ## Notifications -/

/-- Settles O3: the subscriptions change the DAP engine, what is sent, the free values and the links alone. -/
theorem notifyTouchesOnlySessions : Obligations.NotifyTouchesOnlySessions := by
  unfold Obligations.NotifyTouchesOnlySessions
  refine ⟨noticed_quiet, fun c => ?_⟩
  obtain ⟨d, o, f, l, h⟩ := noticed_only c
  rw [h]
  exact ⟨rfl, rfl, rfl, rfl, rfl, rfl, rfl, rfl, rfl, rfl, rfl, rfl, rfl, rfl, rfl, rfl⟩

/-! ## Reset -/

/-- Power on lists CLOCK_LOCKED alone: every other object is at its default. -/
theorem rd_reset_ne {k : Key} (h : k ≠ clockKey) : rd Core.reset k = dfltOf k := by
  have hlisted : Core.reset.regs = [(clockKey, bootClocks)] := rfl
  simp [rd, hlisted, mget, mfind, h.symm]

/-- Settles O4: CLOCK_LOCKED is listed, every other object is at its default, and everything else is as it is built. -/
theorem resetHoldsDefaults : Obligations.ResetHoldsDefaults := by
  unfold Obligations.ResetHoldsDefaults
  have hdflt : ∀ {k : Key} {v : Nat}, k ≠ clockKey → dfltOf k = v → rd State.reset.core k = v :=
    fun hk hv => (rd_reset_ne hk).trans hv
  refine ⟨fun k hk => rd_reset_ne hk, rfl, ?mode, ?wake, ?dapPort, ?period, ?deviceId, ?mask, rfl, rfl, rfl, rfl, rfl, rfl, rfl, rfl⟩
  all_goals exact hdflt (by decide) (by decide +kernel)

end Sys2Proof.Machine
end

section
/-!
WRITEs (R61, R66 to R68, R474): entries one by one, all or none, and the objects that ask for authentication.
-/
namespace Sys2Proof.Machine

/-! ## The status of a frame (R66) -/

/-- A frame whose entries are all OK is OK. -/
theorem frameStatus_ok {l : List Status} (h : ∀ st ∈ l, st = stOk) : frameStatus l = stOk :=
  if_pos (List.all_eq_true.mpr fun st hst => beq_iff_eq.mpr (h st hst))

/-- A frame with an entry that is not OK is PARTIAL. -/
theorem frameStatus_partial {l : List Status} (h : ∃ st ∈ l, st ≠ stOk) : frameStatus l = stPartial := by
  obtain ⟨st, hst, hne⟩ := h
  exact if_neg fun hall => hne (beq_iff_eq.mp (List.all_eq_true.mp hall st hst))

/-- The entries' statuses never make a frame ATOMIC_FAILED. -/
theorem frameStatus_ne_atomicFailed (l : List Status) : frameStatus l ≠ stAtomicFailed := by
  unfold frameStatus
  split <;> decide

/-! ## Entries in order -/

/-- An entry that fails a check answers that check's status and changes nothing. -/
theorem writeEntry_refused {c : Core} {auth : Bool} {e : Entry} {st : Status} (m : Mem) (h : entryFail c auth e 0 = some st) :
    writeEntry m c auth e = (st, (m, c)) := by
  simp only [writeEntry, h]

theorem writeInOrder_length (auth : Bool) (m : Mem) (c : Core) (es : List Entry) : (writeInOrder auth m c es).1.length = es.length := by
  induction es generalizing m c with
  | nil => rfl
  | cons e es ih => exact congrArg (· + 1) (ih _ _)

/-- Entries that follow others find what those have left. -/
theorem writeInOrder_append (m : Mem) (c : Core) (auth : Bool) (es fs : List Entry) :
    writeInOrder auth m c (es ++ fs) =
      ((writeInOrder auth m c es).1 ++ (writeInOrder auth (writeInOrder auth m c es).2.1 (writeInOrder auth m c es).2.2 fs).1,
        (writeInOrder auth (writeInOrder auth m c es).2.1 (writeInOrder auth m c es).2.2 fs).2) := by
  induction es generalizing m c with
  | nil => rfl
  | cons e es ih => simp only [List.cons_append, writeInOrder, ih]

/-! ## The two kinds of WRITE -/

/-- A WRITE whose entries are applied in order. -/
def writeDone (m : Mem) (c : Core) (auth : Bool) (es : List Entry) : DapResult :=
  let r := writeInOrder auth m c es
  { st := frameStatus r.1, payload := writePayload c es r.1, mem := r.2.1, core := r.2.2
    waits := (es.zip r.1).flatMap (fun x => entryWaits x.1 x.2) }

/-- A WRITE with ATOMIC at 0 applies its entries in order (R66). -/
theorem runWrite_inOrder {f : DapFrame} {es : List Entry} (m : Mem) (c : Core) (auth : Bool) (hes : entriesOf f.payload = .ok es)
    (ha : hasFlag f flagAtomic = false) : runWrite m c auth f = writeDone m c auth es := by
  simp only [runWrite, hes, ha, Bool.not_false, if_true]
  rfl

/-- An atomic WRITE fails as a whole, or applies its entries in order with a good status each (R67). -/
theorem runWrite_atomic {f : DapFrame} {es : List Entry} (m : Mem) (c : Core) (auth : Bool) (hes : entriesOf f.payload = .ok es)
    (ha : hasFlag f flagAtomic = true) :
    (∃ l, runWrite m c auth f = atomicFailed m c es l) ∨
      ((∀ st ∈ (writeInOrder auth m c es).1, good st = true) ∧ runWrite m c auth f = writeDone m c auth es) := by
  simp only [runWrite, hes, ha, Bool.not_true, Bool.false_eq_true, if_false]
  split
  · exact .inl ⟨_, rfl⟩
  · split
    · exact .inl ⟨_, rfl⟩
    case isFalse hgood =>
      rw [Bool.not_eq_true, Bool.not_eq_false', List.all_eq_true] at hgood
      exact .inr ⟨hgood, rfl⟩

/-- Settles O26: the WRITE is that of its entries in order, and its status that of theirs. -/
theorem nonAtomicWriteRunsEachEntry : Obligations.NonAtomicWriteRunsEachEntry := by
  unfold Obligations.NonAtomicWriteRunsEachEntry
  refine ⟨fun m c auth f es hes ha => ?_, writeInOrder_append, fun m c auth e st h => writeEntry_refused m h⟩
  rw [runWrite_inOrder m c auth hes ha]
  exact ⟨rfl, rfl, rfl, writeInOrder_length auth m c es, frameStatus_ok, frameStatus_partial⟩

/-- Settles O27: a failed WRITE hands back what it was given, and one that is applied is not answered ATOMIC_FAILED. -/
theorem atomicWriteIsAllOrNothing : Obligations.AtomicWriteIsAllOrNothing := by
  unfold Obligations.AtomicWriteIsAllOrNothing
  intro m c auth f es hes ha
  rcases runWrite_atomic m c auth hes ha with ⟨l, hfail⟩ | ⟨hgood, hdone⟩
  · rw [hfail]
    exact ⟨fun _ => ⟨rfl, rfl⟩, fun hst => absurd rfl hst⟩
  · rw [hdone]
    exact ⟨fun hst => absurd hst (frameStatus_ne_atomicFailed _), fun _ => ⟨hgood, rfl, rfl⟩⟩

/-! ## AUTH_REQUIRED and PSK (R61) -/

/-- While AUTH_REQUIRED is 1, an object of the two is barred to a session exactly when it is not authenticated. -/
theorem authBars_required {c : Core} {k : Key} (auth : Bool) (h : authRequired c = true) (hk : k = dk 3 ∨ k = dk 4) :
    authBars c auth k = !auth := by
  have hkey : (k == dk 3 || k == dk 4) = true := by simpa using hk
  simp only [authBars, h, hkey, Bool.true_and, Bool.and_true]

/-- A write of AUTH_REQUIRED comes to the range of its value, unless authentication bars it before. -/
theorem writeFail_authRequired {c : Core} {v : Nat} (auth : Bool) (ho : Open c) (hr : authRequired c = true) (hv : v < 256) :
    writeFail c auth (dk 3) v 0 0 =
      if auth then (typeFail .bool v).orElse fun _ => rangeFail .bool (.nat 0 1) v else some stAuthRequired := by
  have hlook := (lookObj_open (dk 3) ho).trans (objIs_find (by decide +kernel : objIs (dk 3) .bool .rw (.nat 0 1) = true))
  have htype : (ObjTy.bool == .domain || ObjTy.bool == .string || decide (2 ^ (8 * ObjTy.bool.width) ≤ v)) = false := by
    rw [decide_eq_false (by simp only [ObjTy.width]; omega)]
    rfl
  simp only [writeFail, hlook, htype, authBars_required _ hr (.inl rfl)]
  cases auth <;> rfl

/-- A write of PSK passes the checks before its contents, unless authentication bars it. -/
theorem blockFail_psk {c : Core} (auth : Bool) (ho : Open c) (hr : authRequired c = true) :
    blockFail c auth (dk 4) = if auth then none else some stAuthRequired := by
  have hlook := (lookObj_open (dk 4) ho).trans (objIs_find (by decide +kernel : objIs (dk 4) .domain .wo .any = true))
  simp only [blockFail, hlook, authBars_required _ hr (.inr rfl)]
  cases auth <;> rfl

/-- Settles O28: each of the two objects by its checks in their order. -/
theorem authObjectsNeedAuthentication : Obligations.AuthObjectsNeedAuthentication := by
  unfold Obligations.AuthObjectsNeedAuthentication
  intro c ho hr
  refine ⟨fun v hv => writeFail_authRequired false ho hr hv, blockFail_psk false ho hr, fun v hv => ?_, blockFail_psk true ho hr⟩
  rw [writeFail_authRequired true ho hr (by omega)]
  simp [typeFail, rangeFail, hv, Nat.not_lt.mpr hv]

end Sys2Proof.Machine
end

section
/-!
Requests in a session (R52, R54, R55, R59, R60, R62, R65, R68, R72): a heard frame with the session's next number executes, and
its result is sent and kept, or the session closes.
-/
namespace Sys2Proof.Machine

/-! ## Sessions by their IDs -/

theorem sessionOf_id {c : Core} {i : Nat} {x : Session} (h : sessionOf c i = some x) : x.id = i := by
  have hfind : c.dap.sessions.find? (fun s => s.id == i) = some x := h
  simpa using List.find?_some hfind

/-- The open session that a frame names is the one with its own ID. -/
theorem sessionOf_sessionFor {c : Core} {f : DapFrame} {x : Session} (h : sessionFor c f = some x) : sessionOf c x.id = some x := by
  obtain ⟨hx, -⟩ := Option.filter_eq_some_iff.mp h
  rw [sessionOf_id hx, hx]

/-- A change that leaves the IDs of sessions changes the session with the ID. -/
theorem sessionOf_modSession {c : Core} {i : Nat} {x : Session} {g : Session → Session} (h : sessionOf c i = some x)
    (hg : ∀ s, (g s).id = s.id := by intro s; rfl) : sessionOf (modSession c i g) i = some (g x) := by
  have hid : ((fun s : Session => s.id == i) ∘ fun s => if s.id = i then g s else s) = fun s => s.id == i := by
    funext s
    simp only [Function.comp_apply, apply_ite Session.id, hg, ite_self]
  have hfind : c.dap.sessions.find? (fun s => s.id == i) = some x := h
  simp only [sessionOf, modSession, List.find?_map, hid, hfind, Option.map_some, sessionOf_id h, if_true]

theorem HeardBy.isOpen {c : Core} {op : Nat} {f : DapFrame} {x : Session} (h : HeardBy c op f x) : sessionOf c x.id = some x := by
  obtain ⟨-, -, -, -, -, hfor, -⟩ := h
  exact sessionOf_sessionFor hfor

/-! ## Arrival (R50 to R54, R59, R60) -/

/-- A frame that came in intact over an UP port and is for this device is looked at here. -/
theorem dapIn_here {m : Mem} {c : Core} {op : Nat} {f : DapFrame} (hup : portUp c f.eth.val = true) (hip : ipTaken c f.eth.val f.ip = true)
    (hint : dapIntact op f = true) (hrep : hasFlag f flagReply = false) (hme : forOther c f = false) :
    dapIn m c op f = dapHere m c f.eth.val op f := by
  simp [dapIn, hup, hip, hint, hrep, hme]

/-- A numbered operation and NOTIFY_ACK need a session. -/
theorem dapHere_inSession {m : Mem} {c : Core} {port op : Nat} {f : DapFrame} (hop : numbered op = true ∨ op = opNotifyAck) :
    dapHere m c port op f = inSession m c port op f := by
  have hopen : op ≠ opOpen := by rintro rfl; revert hop; decide
  have hprobe : op ≠ opProbe := by rintro rfl; revert hop; decide
  have hneeds : (numbered op || op == opNotifyAck) = true := by simpa using hop
  simp only [dapHere, hopen, hprobe, hneeds, if_false, if_true]

/-- The core once a session has been heard: its port and the instant are noted. -/
def heardOn (c : Core) (x : Session) (f : DapFrame) : Core :=
  modSession c x.id (fun y => { y with lastSeen := c.time, eth := f.eth.val })

/-- The session as it has been heard. -/
def heardSession (c : Core) (x : Session) (f : DapFrame) : Session := { x with lastSeen := c.time, eth := f.eth.val }

theorem dapIn_heard {m : Mem} {c : Core} {op : Nat} {f : DapFrame} {x : Session} (h : HeardBy c op f x)
    (hop : numbered op = true ∨ op = opNotifyAck) :
    dapIn m c op f = if op = opNotifyAck then (m, notifyAcked (heardOn c x f) (heardSession c x f) f.sequence.toNat)
      else windowed m (heardOn c x f) (heardSession c x f) op f := by
  obtain ⟨hup, hip, hint, hrep, hme, hfor, htag, hver, hlen⟩ := h
  rw [dapIn_here hup hip hint hrep hme, dapHere_inSession hop]
  simp only [inSession, hfor, htag, hver, hlen, beq_iff_eq]
  rfl

/-! ## The window (R62) -/

/-- The next request of a session executes at once. -/
theorem windowed_next {m : Mem} {c : Core} {s : Session} {f : DapFrame} (op : Nat) (h : NextOf s f) :
    windowed m c s op f = execute m c s.id op f := by
  obtain ⟨hseq, hwin, hheld⟩ := h
  have hany : s.held.any (fun h => h.2.sequence == f.sequence) = false := by simpa using hheld
  have hroom : ¬ s.done + s.window < s.done + 1 := by omega
  simp [windowed, hseq, hany, hroom]

/-- The request of a session finds the session with its number taken. -/
theorem sessionOf_begun {c : Core} {x : Session} {f : DapFrame} (h : sessionOf c x.id = some x) :
    sessionOf (begun c x f) x.id = some (sessionAt c x f) :=
  sessionOf_modSession (sessionOf_modSession h)

/-- The next request of a heard session executes. -/
theorem dapIn_next {m : Mem} {c : Core} {op : Nat} {f : DapFrame} {x : Session} (h : HeardBy c op f x) (hn : NextOf x f)
    (hop : numbered op = true) : dapIn m c op f = execute m (heardOn c x f) x.id op f := by
  have hack : op ≠ opNotifyAck := by rintro rfl; revert hop; decide
  rw [dapIn_heard h (.inl hop), if_neg hack]
  exact windowed_next op hn

/-- A request whose effect waits for nothing is answered at once, and its reply is kept. -/
theorem dapIn_replied {m : Mem} {c : Core} {op : Nat} {f : DapFrame} {x : Session} {r : DapResult} (h : HeardBy c op f x) (hn : NextOf x f)
    (hop : numbered op = true) (hclose : op ≠ opClose) (hr : runOp m (begun c x f) (sessionAt c x f) op f = r)
    (hw : r.waits.all (accepted r.core) = true) : dapIn m c op f = (r.mem, replied c x op f r) := by
  have hs : sessionOf (modSession (heardOn c x f) x.id _) x.id = _ := sessionOf_begun (f := f) h.isOpen
  subst hr
  rw [dapIn_next h hn hop, execute]
  simp only [hs, hclose, if_false]
  exact if_pos hw

/-! ## The operations of Table 2-7 -/

/-- A READ leaves the block, and its reply waits for nothing. -/
theorem runRead_leaves (m : Mem) (c : Core) (f : DapFrame) :
    (runRead m c f).mem = m ∧ (runRead m c f).core = c ∧ (runRead m c f).waits = [] := by
  unfold runRead
  split <;> exact ⟨rfl, rfl, rfl⟩

/-- A READ runs, unless its reply is too long for its port (R52). -/
theorem runOp_read (m : Mem) (c : Core) (s : Session) (f : DapFrame) :
    runOp m c s opRead f = refusedAll m c stTooLarge ∨ runOp m c s opRead f = runRead m c f := ite_eq_or_eq _ _ _

theorem runOp_read_leaves (m : Mem) (c : Core) (s : Session) (f : DapFrame) :
    (runOp m c s opRead f).mem = m ∧ (runOp m c s opRead f).core = c ∧ (runOp m c s opRead f).waits = [] := by
  rcases runOp_read m c s f with h | h <;> rw [h]
  · exact ⟨rfl, rfl, rfl⟩
  · exact runRead_leaves m c f

/-- The reply to a READ_BLOCK waits for nothing. -/
theorem runReadBlock_waits (m : Mem) (c : Core) (port : Nat) (f : DapFrame) : (runReadBlock m c port f).waits = [] := by
  have hlocal : ∀ b l, (readLocal m c b l).waits = [] := by
    intro b l
    simp only [readLocal]
    split
    · rfl
    · split <;> rfl
  simp only [runReadBlock]
  split
  · rfl
  · split
    · exact hlocal _ _
    · rfl

/-- The reply to a SUBSCRIBE waits for nothing. -/
theorem runSubscribe_waits (m : Mem) (c : Core) (sid : Nat) (f : DapFrame) : (runSubscribe m c sid f).waits = [] := by
  simp only [runSubscribe]
  split
  · rfl
  · split <;> rfl

/-- The reply to an UNSUBSCRIBE waits for nothing. -/
theorem runOp_unsubscribe_waits (m : Mem) (c : Core) (s : Session) (f : DapFrame) : (runOp m c s opUnsubscribe f).waits = [] := by
  simp only [runOp, opUnsubscribe, runUnsubscribe]
  split
  · rfl
  · split
    · rfl
    · split <;> rfl

/-- A WRITE with its reserved bits and fields at 0 runs. -/
theorem runOp_write {f : DapFrame} (m : Mem) (c : Core) (s : Session) (hbits : bits f.flags.toNat 7 9 = 0) (h1 : f.reserved1 = 0)
    (h2 : f.reserved2 = 0) : runOp m c s opWrite f = runWrite m c s.auth f := by
  simp [runOp, opWrite, hbits, h1, h2]

/-- A WRITE_BLOCK with its reserved bits and fields at 0 runs. -/
theorem runOp_writeBlock {f : DapFrame} (m : Mem) (c : Core) (s : Session) (hbits : bits f.flags.toNat 7 9 = 0) (h1 : f.reserved1 = 0)
    (h2 : f.reserved2 = 0) : runOp m c s opWriteBlock f = runWriteBlock m c s s.eth f := by
  simp [runOp, opWriteBlock, hbits, h1, h2]

/-! ## SESSION_CLOSE (R59) -/

/-- A heard SESSION_CLOSE is answered, and then the session closes. -/
theorem dapIn_close {m : Mem} {c : Core} {f : DapFrame} {x : Session} (h : HeardBy c opClose f x) (hn : NextOf x f) :
    dapIn m c opClose f = (m, closeSession (sendDap (begun c x f) f.eth.val x.host
      (dapReply opClose f x.id stOk x.window (keyOf x) [])) x.id) := by
  have hs : sessionOf (modSession (heardOn c x f) x.id _) x.id = _ := sessionOf_begun (f := f) h.isOpen
  rw [dapIn_next h hn (by decide), execute]
  simp only [hs]
  rfl

/-- Nothing of a closed session stays. -/
theorem closeSession_ends (c : Core) (sid : Nat) :
    (∀ y ∈ (closeSession c sid).dap.sessions, y.id ≠ sid) ∧ (∀ y ∈ (closeSession c sid).dap.subs, y.session ≠ sid) ∧
    (∀ d ∈ (closeSession c sid).dap.deferred, d.session ≠ sid) := by
  simp [closeSession]

theorem sendDap_regs (c : Core) (port : Nat) (host : HostAddr) (frame : List Byte) : (sendDap c port host frame).regs = c.regs := by
  obtain ⟨d, o, n, l, h⟩ := sendDap_only c port host frame
  rw [h]

theorem sendDap_doms (c : Core) (port : Nat) (host : HostAddr) (frame : List Byte) : (sendDap c port host frame).doms = c.doms := by
  obtain ⟨d, o, n, l, h⟩ := sendDap_only c port host frame
  rw [h]

/-! ## The statement -/

/-- A READ_BLOCK that no retrain keeps waiting is looked at as it comes in. -/
theorem exec_readBlock {s : State} {f : DapFrame} (h : blockWaits s.core f = false) :
    exec (.readBlock f) s = did s (dapIn s.mem s.core opReadBlock f) := bestEffort_run s h _ _

/-- A WRITE_BLOCK that no retrain keeps waiting is looked at as it comes in. -/
theorem exec_writeBlock {s : State} {f : DapFrame} (h : blockWaits s.core f = false) :
    exec (.writeBlock f) s = did s (dapIn s.mem s.core opWriteBlock f) := bestEffort_run s h _ _

/-- Settles O25: every request is the next of a heard session, and its operation is that of its opcode. -/
theorem sessionRequestsExecute : Obligations.SessionRequestsExecute := by
  unfold Obligations.SessionRequestsExecute
  have hnothing : ∀ {r : DapResult}, r.waits = [] → r.waits.all (accepted r.core) = true := fun h => by rw [h]; rfl
  refine ⟨?read, ?readBlock, ?subscribe, ?unsubscribe, ?write, ?writeBlock, ?close⟩
  case read =>
    intro s f x hh hn r
    obtain ⟨hmem, hcore, hwaits⟩ := runOp_read_leaves s.mem (begun s.core x f) (sessionAt s.core x f) f
    exact ⟨gives_did rfl (dapIn_replied hh hn (by decide) (by decide) rfl (hnothing hwaits)), hmem, hcore⟩
  case readBlock =>
    intro s f x hh hn hw r
    exact gives_did (exec_readBlock hw) (dapIn_replied hh hn (by decide) (by decide) rfl (hnothing (runReadBlock_waits _ _ _ _)))
  case subscribe =>
    intro s f x hh hn r
    exact gives_did rfl (dapIn_replied hh hn (by decide) (by decide) rfl (hnothing (runSubscribe_waits _ _ _ _)))
  case unsubscribe =>
    intro s f x hh hn r
    exact gives_did rfl (dapIn_replied hh hn (by decide) (by decide) rfl (hnothing (runOp_unsubscribe_waits _ _ _ _)))
  case write =>
    intro s f x hh hn hbits h1 h2 r hwaits
    exact gives_did rfl (dapIn_replied hh hn (by decide) (by decide) (runOp_write _ _ _ hbits h1 h2) hwaits)
  case writeBlock =>
    intro s f x hh hn hbits h1 h2 hw r hwaits
    exact gives_did (exec_writeBlock hw) (dapIn_replied hh hn (by decide) (by decide) (runOp_writeBlock _ _ _ hbits h1 h2) hwaits)
  case close =>
    intro s f x hh hn
    obtain ⟨hsessions, hsubs, hdeferred⟩ := closeSession_ends (sendDap (begun s.core x f) f.eth.val x.host _) x.id
    exact ⟨_, gives_did rfl (dapIn_close hh hn), hsessions, hsubs, hdeferred, sendDap_regs _ _ _ _, sendDap_doms _ _ _ _⟩

end Sys2Proof.Machine
end

section
/-!
Sessions beside their requests, notifications, probes and relay (R59, R62, R72 to R75).
-/
namespace Sys2Proof.Machine

/-! ## What sending leaves of the DAP engine -/

theorem sendUdp_dap (c : Core) (p service : Nat) (a : HostAddr) (l : List Byte) : (sendUdp c p service a l).dap = c.dap := by
  unfold sendUdp
  split <;> rfl

theorem sendData_dap (c : Core) (l : Nat) (slots : List Slot) : (sendData c l slots).dap = c.dap := rfl

theorem putMessage_dap (c : Core) (l vc : Nat) (slots : List Slot) : (putMessage c l vc slots).dap = c.dap :=
  (foldl_keeps Core.dap (fun c f => sendData_dap c l f) _ _).trans rfl

theorem sendSlots_dap (c : Core) (l vc : Nat) (slots : List Slot) : (sendSlots c l vc slots).dap = c.dap := by
  unfold sendSlots
  dsimp only
  split
  · rfl
  · exact putMessage_dap c l vc slots

theorem relayOver_dap (c : Core) (l vc : Nat) (host : HostAddr) (frame : List Byte) : (relayOver c l vc host frame).dap = c.dap := by
  unfold relayOver
  dsimp only
  split
  · rfl
  · exact foldl_keeps Core.dap (fun c i => sendSlots_dap c l vc _) _ c

theorem sendDap_dap (c : Core) (port : Nat) (host : HostAddr) (frame : List Byte) : (sendDap c port host frame).dap = c.dap := by
  unfold sendDap
  split
  · split
    · exact sendUdp_dap c _ _ _ _
    · rfl
  · exact relayOver_dap c _ _ _ _

/-! ## SESSION_OPEN and the probe (R59, R74) -/

/-- A frame without AUTH needs no key. -/
theorem pskTag_plain {c : Core} {op : Nat} {f : DapFrame} (h : hasFlag f flagAuth = false) : pskTag c op f = some none := by
  simp [pskTag, h]

/-- A SESSION_OPEN without authentication opens a session where authentication is not asked for and a place is free. -/
theorem openSession_plain {c : Core} {port : Nat} {f : DapFrame} (ha : hasFlag f flagAuth = false) (hv : f.version = 1)
    (hl : tooLong c port opOpen f = false) (hr : authRequired c = false) (hn : c.dap.sessions.length < 32) (hp : f.payload.length = 16) :
    openSession c port f = newSession c port f none := by
  have hroom : ¬ 32 ≤ c.dap.sessions.length := by omega
  simp [openSession, pskTag_plain ha, hv, hl, hr, hroom, hp]

/-- A new session is added after the open ones, bound to its sender, with MAX_WINDOW and nothing done. -/
theorem newSession_adds (c : Core) (port : Nat) (f : DapFrame) (key : Option (List Byte)) :
    ∃ x : Session, (newSession c port f key).dap = { c.dap with sessions := c.dap.sessions ++ [x] } ∧ x.host = f.src ∧
      x.auth = key.isSome ∧ x.done = 0 ∧ x.window = rd c (dk 6) ∧ x.eth = port :=
  ⟨_, sendDap_dap _ _ _ _, rfl, rfl, rfl, rfl, rfl⟩

theorem newSession_regs (c : Core) (port : Nat) (f : DapFrame) (key : Option (List Byte)) : (newSession c port f key).regs = c.regs :=
  sendDap_regs _ _ _ _

/-- A probe without authentication is answered where authentication is not asked for. -/
theorem answerProbe_plain {c : Core} {port : Nat} {f : DapFrame} (ha : hasFlag f flagAuth = false) (hv : f.version = 1)
    (hr : authRequired c = false) (hp : f.payload.length = 16) :
    answerProbe c port f = sendReply c port opProbe f stOk 0 none (leBytes 16 (packFields
      [(16, deviceId c), (16, rd c (mkKey 0x1008 0)), (64, leAt f.payload 4 8), (8, modeNow c), (24, 0)])) := by
  simp [answerProbe, pskTag_plain ha, hv, hr, hp]

/-! ## Held requests (R62) -/

/-- A held request executes once no retrain keeps its bytes waiting. -/
theorem exec_heldRequestExecute {s : State} {sid : BitVec 16} (h : heldWaits s.core sid.toNat = none) :
    exec (.heldRequestExecute sid) s = did s (heldExecute s.mem s.core sid.toNat) :=
  bestEffort_run s (by rw [h]; rfl) _ _

/-- A held request whose predecessors are done executes. -/
theorem heldExecute_next {m : Mem} {c : Core} {sid : Nat} {x : Session} {h : Byte × DapFrame} (hx : sessionOf c sid = some x)
    (hh : x.held.find? (fun h => h.2.sequence.toNat == x.done + 1) = some h) :
    heldExecute m c sid = execute m c sid h.1.toNat h.2 := by
  simp only [heldExecute, hx, hh]

/-! ## Notifications (R72, R73) -/

/-- An EVERY_N subscription whose epochs have passed falls due and counts again. -/
theorem everyNExpired_due {c : Core} {n : Nat} {x : Subscription} (hx : c.dap.subs.find? (fun x => x.number == n) = some x)
    (he : x.every ≠ 0) (hl : x.left = 0) :
    everyNExpired c n = fallDue (modSub c n (fun y => { y with left := y.every })) x (noticeBytes c x.key) := by
  simp [everyNExpired, hx, he, hl]

/-- An unacknowledged NOTIFY is sent again with RETRY at 1. -/
theorem notifyAgain_unacked {c : Core} {sid n : Nat} {x : Session} {u : SentNotify} (hx : sessionOf c sid = some x)
    (hu : x.unacked.find? (fun u => u.number == n) = some u) :
    notifyAgain c sid n = sendDap c x.eth x.host (notifyFrame x u.target n true u.bytes) := by
  simp only [notifyAgain, hx, hu]

/-- Two changes of a session of which the second puts another in its place. -/
theorem modSession_const (c : Core) (i : Nat) {g : Session → Session} (y : Session) (hg : ∀ s, (g s).id = s.id := by intro s; rfl) :
    modSession (modSession c i g) i (fun _ => y) = modSession c i (fun _ => y) := by
  have hboth : ((fun s : Session => if s.id = i then y else s) ∘ fun s => if s.id = i then g s else s) = fun s => if s.id = i then y else s := by
    funext s
    by_cases hs : s.id = i <;> simp [hs, hg]
  simp only [modSession, List.map_map, hboth]

/-- A NOTIFY_ACK of a session without a pending value frees the place of its NOTIFY. -/
theorem notifyAcked_frees {c : Core} {s : Session} {u : SentNotify} {n : Nat} (hu : u ∈ s.unacked) (hn : u.number = n) (hd : s.due = []) :
    notifyAcked c s n = modSession c s.id (fun _ => { s with unacked := s.unacked.filter (fun u => u.number != n) }) := by
  have hknown : s.unacked.all (fun u => u.number != n) = false := List.all_eq_false.mpr ⟨u, hu, by simp [hn]⟩
  simp [notifyAcked, hknown, hd]

/-! ## Relay (R75) -/

/-- A request that may hop on and has a route over an UP link goes on with one hop fewer and RELAYED set. -/
theorem relayRequest_routed {c : Core} {f : DapFrame} {l : Nat} (port op : Nat) (hhops : f.hops ≠ 0)
    (hroute : routeOf c f.target.toNat = some l) (hlink : linkUp c l = true) :
    let g := { f with hops := f.hops - 1, flags := f.flags ||| 0x20 }
    relayRequest c port op f = relayOver (notePath c f.target.toNat f.src port) l 1 f.src
      (dapWhole op { g with crc := crc32c (dapBytes op g) }) := by
  have hway : (routeOf c f.target.toNat).filter (linkUp c) = some l := by simp [hroute, hlink]
  simp only [relayRequest, hhops, hway, if_false]

/-- A frame for another device that comes in intact over an UP port is relayed. -/
theorem dapForOther_intact {m : Mem} {c : Core} {op : Nat} {f : DapFrame} (hup : portUp c f.eth.val = true)
    (hip : ipTaken c f.eth.val f.ip = true) (hint : dapIntact op f = true) (hrep : hasFlag f flagReply = false)
    (hother : forOther c f = true) : dapForOther m c op f = (m, relayRequest c f.eth.val op f) := by
  simp [dapForOther, dapIn, hup, hip, hint, hrep, hother]

/-! ## The statement -/

/-- Settles O29: each command by the branch that its hypotheses select. -/
theorem sessionsAndNotifications : Obligations.SessionsAndNotifications := by
  unfold Obligations.SessionsAndNotifications
  refine ⟨?sessionOpen, fun s sid => makes_didC rfl rfl, ?held, ?everyN, ?resend, ?notifyAck, ?probe, ?relay⟩
  case sessionOpen =>
    intro s f hup hip hint hrep hme ha hv hl hr hn hp
    have hopen : dapIn s.mem s.core opOpen f = (s.mem, newSession s.core f.eth.val f none) := by
      rw [dapIn_here hup hip hint hrep hme, ← openSession_plain ha hv hl hr hn hp]
      rfl
    obtain ⟨x, hdap, hx⟩ := newSession_adds s.core f.eth.val f none
    obtain ⟨hhost, hauth, hdone, hwindow, heth⟩ := hx
    exact ⟨_, x, gives_did rfl hopen, by rw [hdap], hhost, hauth, hdone, hwindow, heth, newSession_regs _ _ _ _, by rw [hdap]⟩
  case held =>
    intro s sid x h hx hh hw
    exact gives_did (exec_heldRequestExecute hw) (heldExecute_next hx hh)
  case everyN =>
    intro s n x hx he hl
    exact makes_didC rfl (everyNExpired_due hx he hl)
  case resend =>
    intro s sid n x u hx hu
    exact makes_didC rfl (notifyAgain_unacked hx hu)
  case notifyAck =>
    intro s f x u hh hu hn hd y
    have hack : dapIn s.mem s.core opNotifyAck f = (s.mem, modSession s.core x.id (fun _ => y)) := by
      rw [dapIn_heard hh (.inr rfl), if_pos rfl, notifyAcked_frees (s := heardSession s.core x f) hu hn hd]
      exact congrArg (s.mem, ·) (modSession_const s.core x.id y)
    exact ⟨_, gives_did rfl hack, rfl, rfl, rfl⟩
  case probe =>
    intro s f hup hip hint hrep hme ha hv hr hp
    have hprobe : dapIn s.mem s.core opProbe f = (s.mem, answerProbe s.core f.eth.val f) := dapIn_here hup hip hint hrep hme
    exact gives_did rfl (hprobe.trans (congrArg (s.mem, ·) (answerProbe_plain ha hv hr hp)))
  case relay =>
    intro s op f l hup hip hint hrep hother hhops hroute hlink g h
    have hon : dapForOther s.mem s.core op.toNat f = (s.mem, relayRequest s.core f.eth.val op.toNat f) :=
      dapForOther_intact hup hip hint hrep hother
    exact gives_did rfl (hon.trans (congrArg (s.mem, ·) (relayRequest_routed f.eth.val op.toNat hhops hroute hlink)))

end Sys2Proof.Machine
end

section
/-!
The Ethernet ports (R50, R51): links that come up and go down, echo and address resolution.
-/
namespace Sys2Proof.Machine

/-! ## The link of a port -/

theorem linkKey_ne_clockKey (p : Fin 2) : ek p.val 8 ≠ clockKey := by revert p; decide

/-- The state of a port's link with its bit of CLOCK_LOCKED. -/
def linkPut (c : Core) (p v : Nat) (b : Bool) : Core := setClock (wr c (ek p 8) v) (39 + p) b

theorem rd_linkPut_state (c : Core) (p : Fin 2) (v : Nat) (b : Bool) : rd (linkPut c p.val v b) (ek p.val 8) = v := by
  rw [linkPut, rd_setClock_ne _ _ _ (linkKey_ne_clockKey p), rd_wr_same]

theorem clockBit_linkPut (c : Core) (p v : Nat) (b : Bool) : clockBit (linkPut c p v b) (39 + p) = b := clockBit_setClock_same _ _ _

theorem sameRegsBut_linkPut (c : Core) (p v : Nat) (b : Bool) : SameRegsBut [ek p 8, clockKey] c (linkPut c p v b) := by
  intro k hk
  obtain ⟨hstate, hclock⟩ : k ≠ ek p 8 ∧ k ≠ clockKey := by simpa using hk
  rw [linkPut, rd_setClock_ne _ _ _ hclock, rd_wr_ne _ _ hstate]

/-- A port that its mode runs comes up. -/
theorem ethUp_runs {c : Core} {p : Nat} (h : portRuns c p = true) : ethUp c p = linkPut c p 2 true := if_pos h

/-- An UP port that loses its link trains again, its streams leave it, and the sources of its clock and its own raise. -/
theorem ethLoss_up {c : Core} {p : Nat} (h : portUp c p = true) :
    ethLoss c p = raise (raise (streamsOffPort (linkPut c p 1 false) p) (clockFault (39 + p)) 1 0) (305 + p) 1 0 := if_pos h

/-! ## Streams leave a port -/

theorem rd_streamsOffPort (c : Core) (p : Nat) (k : Key) : rd (streamsOffPort c p) k = rd c k := rfl

theorem clockBit_streamsOffPort (c : Core) (p d : Nat) : clockBit (streamsOffPort c p) d = clockBit c d := rfl

theorem streamsOffPort_faults (c : Core) (p : Nat) : (streamsOffPort c p).faults = c.faults := rfl

/-! ## Echo and address resolution -/

/-- An echo request for the port's own address is answered on an UP port. -/
theorem echoAnswered_own {c : Core} {e : EchoFrame} (hup : portUp c e.eth.val = true) (hip : ipOk e.ip = true)
    (hown : ownAddress c e.eth.val e.ip.v6 e.dst.toNat = true) :
    echoAnswered c e = emit c (.echoReply e.eth.val (!e.ip.v6) e.src e.payload) := if_pos ⟨hup, hip, hown⟩

/-- An untagged address request for the port's own address is answered on an UP port. -/
theorem neighbourAnswered_own {c : Core} {a : ArpFrame} (hup : portUp c a.eth.val = true) (htag : a.vlanTagged = false)
    (hown : ownAddress c a.eth.val a.v6 a.target.toNat = true) :
    neighbourAnswered c a = emit c (.neighbour a.eth.val a.v6 (Config.macAddr a.eth).toNat a.senderMac.toNat a.target.toNat
      a.senderIp.toNat) := if_pos ⟨hup, by simp [htag], hown⟩

/-! ## The statement -/

/-- Settles O30: each command by the branch that its hypotheses select. -/
theorem ethernetPorts : Obligations.EthernetPorts := by
  unfold Obligations.EthernetPorts
  refine ⟨fun s p hruns => ?up, fun s p hup => ?loss, fun s e hup hip hown => ?echo, fun s a hup htag hown => ?neighbour⟩
  case up =>
    exact ⟨_, makes_didC rfl (ethUp_runs hruns), rd_linkPut_state _ p _ _, clockBit_linkPut _ _ _ _, sameRegsBut_linkPut _ _ _ _⟩
  case loss =>
    refine ⟨streamsOffPort (linkPut s.core p.val 1 false) p.val, makes_didC rfl (ethLoss_up hup), ?_, ?_, fun k hk => ?_, ?_⟩
    · rw [rd_streamsOffPort, rd_linkPut_state]
    · rw [clockBit_streamsOffPort, clockBit_linkPut]
    · rw [rd_streamsOffPort, sameRegsBut_linkPut _ _ _ _ k hk]
    · rw [streamsOffPort_faults]
      rfl
  case echo => exact makes_didC rfl (echoAnswered_own hup hip hown)
  case neighbour => exact makes_didC rfl (neighbourAnswered_own hup htag hown)

end Sys2Proof.Machine
end

section
/-!
The layout of a segment descriptor (R93, Table 3-5): each field of a packed number stands at its own place, so that a
descriptor reads back from its 128 bytes.
-/
namespace Sys2Proof.Machine

/-! ## Packed fields -/

/-- The lowest field of a packed number. -/
theorem bits_packFields_head (w v : Nat) (r : List (Nat × Nat)) : bits (packFields ((w, v) :: r)) 0 w = v % 2 ^ w := by
  simp [bits, packFields]

/-- A place above the lowest field is a place of the number without it. -/
theorem bits_packFields_tail (w v : Nat) (r : List (Nat × Nat)) (lo len : Nat) :
    bits (packFields ((w, v) :: r)) (w + lo) len = bits (packFields r) lo len := by
  have hshift : (v % 2 ^ w + 2 ^ w * packFields r) / 2 ^ w = packFields r := by
    rw [Nat.add_mul_div_left _ _ (Nat.two_pow_pos w), Nat.div_eq_of_lt (Nat.mod_lt _ (Nat.two_pow_pos w)), Nat.zero_add]
  rw [bits, bits, packFields, Nat.pow_add, ← Nat.div_div_eq_div_mul, hshift]

/-- The place of field `i` of a packed number: the fields below it take their widths. -/
def fieldPlace (l : List (Nat × Nat)) (i : Nat) : Nat := ((l.take i).map Prod.fst).sum

/-- Field `i` of a packed number stands at its place. -/
theorem bits_packFields (l : List (Nat × Nat)) (i : Nat) (h : i < l.length) :
    bits (packFields l) (fieldPlace l i) l[i].1 = l[i].2 % 2 ^ l[i].1 := by
  induction l generalizing i with
  | nil => simp at h
  | cons e l ih =>
    obtain ⟨w, v⟩ := e
    cases i with
    | zero => exact bits_packFields_head w v l
    | succ i =>
      have hplace : fieldPlace ((w, v) :: l) (i + 1) = w + fieldPlace l i := by simp [fieldPlace]
      rw [hplace, bits_packFields_tail]
      exact ih i (by simpa using h)

/-- A field that fits its width reads back from its place. -/
theorem bits_packFields_of_lt {l : List (Nat × Nat)} {lo w v : Nat} (i : Nat) (hi : l[i]? = some (w, v)) (hlo : fieldPlace l i = lo)
    (hv : v < 2 ^ w) : bits (packFields l) lo w = v := by
  obtain ⟨hlen, he⟩ := List.getElem?_eq_some_iff.mp hi
  have hfield := bits_packFields l i hlen
  rwa [hlo, he, Nat.mod_eq_of_lt hv] at hfield

/-- A bit is a field of width 1. -/
theorem bit_eq_of_bits {n i : Nat} {b : Bool} (h : bits n i 1 = ofBool b) : bit n i = b := by
  rw [bit, Nat.testBit_eq_decide_div_mod_eq, show n / 2 ^ i % 2 = ofBool b from h]
  cases b <;> rfl

/-! ## Segment descriptors -/

/-- The fields of a segment descriptor in their order, with the reserved ones at 0. -/
def descFields (d : SegDesc) : List (Nat × Nat) :=
  [(40, d.dataBase), (40, d.instrBase), (27, d.imageGranules), (5, 0), (26, d.entryGranule), (6, 0),
    (27, d.maxGranules), (5, 0), (37, d.period), (3, 0), (2, d.rateMul), (1, ofBool d.dense), (1, ofBool d.swapOk),
    (1, ofBool d.noGap), (1, ofBool d.fin), (2, 0), (8, d.next), (8, d.trgMask), (16, d.pecList), (16, d.streamBase),
    (16, 0), (24, d.units), (8, d.rate), (8, d.dest), (24, 0), (32, d.tag), (128, 0), (256, d.dir), (256, 0)]

theorem ofBool_lt (b : Bool) : ofBool b < 2 ^ 1 := by cases b <;> decide

/-- Field `i` of a descriptor reads back from its place. -/
theorem bits_encodeDesc {d : SegDesc} {lo w v : Nat} (i : Nat) (hv : v < 2 ^ w) (hi : (descFields d)[i]? = some (w, v) := by rfl)
    (hlo : fieldPlace (descFields d) i = lo := by simp [fieldPlace, descFields]) : bits (encodeDesc d) lo w = v :=
  bits_packFields_of_lt i hi hlo hv

/-- Flag `i` of a descriptor reads back from its place. -/
theorem bit_encodeDesc {d : SegDesc} {lo : Nat} {b : Bool} (i : Nat) (hi : (descFields d)[i]? = some (1, ofBool b) := by rfl)
    (hlo : fieldPlace (descFields d) i = lo := by simp [fieldPlace, descFields]) : bit (encodeDesc d) lo = b :=
  bit_eq_of_bits (bits_encodeDesc i (ofBool_lt b) hi hlo)

/-- Settles O8: each field of the descriptor reads back from its own place of the packed number. -/
theorem descriptorFieldsRoundTrip : Obligations.DescriptorFieldsRoundTrip := by
  intro d hdata hinstr himage hentry hmax hperiod hmul hnext htrg hpec hstream hunits hrate hdest htag hdir
  rw [parseDesc, bits_encodeDesc 0 hdata, bits_encodeDesc 1 hinstr, bits_encodeDesc 2 himage, bits_encodeDesc 4 hentry,
    bits_encodeDesc 6 hmax, bits_encodeDesc 8 hperiod, bits_encodeDesc 10 hmul, bit_encodeDesc 11, bit_encodeDesc 12, bit_encodeDesc 13,
    bit_encodeDesc 14, bits_encodeDesc 16 hnext, bits_encodeDesc 17 htrg, bits_encodeDesc 18 hpec, bits_encodeDesc 19 hstream,
    bits_encodeDesc 21 hunits, bits_encodeDesc 22 hrate, bits_encodeDesc 23 hdest, bits_encodeDesc 25 htag, bits_encodeDesc 27 hdir]

end Sys2Proof.Machine
end

section
/-!
The words of a microprogram (R86, R125 to R129): what the passing of time leaves of a Weaver, and what a word that runs to its
end leaves.
-/
namespace Sys2Proof.Machine

/-! ## The passing of time -/

/-- The micro-timers of a Weaver, which count with time, and their pending expiries (R133). -/
def timersOf (c : Core) (w : Nat) : SMap Nat × Nat := ((getW c w).micro.mt, (getW c w).micro.pending)

/-- A Weaver with its micro-timers at other values. -/
@[simp] def Weaver.withTimers (x : Weaver) (t : SMap Nat × Nat) : Weaver := { x with micro := { x.micro with mt := t.1, pending := t.2 } }

@[simp] theorem mfind_map {α : Type} (f : Nat × α → α) (m : SMap α) (i : Nat) :
    mfind (m.map (fun e => (e.1, f e))) i = (mfind m i).map (fun v => f (i, v)) := by
  induction m with
  | nil => rfl
  | cons e m ih =>
    obtain ⟨k, v⟩ := e
    by_cases h : k = i
    · subst h; simp [mfind]
    · simp [mfind, h, ih]

/-- Time passes for a Weaver in its micro-timers alone. -/
theorem getW_elapse (c : Core) (n w : Nat) : ∃ t, getW (elapse c n) w = (getW c w).withTimers t := by
  have hw : (elapse c n).weavers = weaversAdvance c n := by unfold elapse; split <;> rfl
  have hstands : ∀ x : Weaver, ∃ t, x = x.withTimers t := fun x => ⟨(x.micro.mt, x.micro.pending), rfl⟩
  rw [getW, hw, weaversAdvance]
  split
  · have hmap : ∀ e : Nat × Weaver, (if wState c e.1 = 2 ∨ wState c e.1 = 3 then (e.1, { e.2 with micro := timersAdvance e.2.micro n }) else e) =
        (e.1, if wState c e.1 = 2 ∨ wState c e.1 = 3 then { e.2 with micro := timersAdvance e.2.micro n } else e.2) := by
      intro e; split <;> rfl
    simp only [hmap, mget, getW, mfind_map]
    cases mfind c.weavers w with
    | none => exact hstands _
    | some x =>
      dsimp only [Option.map_some, Option.getD_some]
      split
      · exact ⟨((timersAdvance x.micro n).mt, (timersAdvance x.micro n).pending), rfl⟩
      · exact hstands _
  · exact hstands _

theorem getW_eq_withTimers {d : Core} {w : Nat} {x : Weaver} (h : ∃ t, getW d w = x.withTimers t) :
    getW d w = x.withTimers (timersOf d w) := by
  obtain ⟨t, ht⟩ := h
  rw [timersOf, ht]
  rfl

@[simp] theorem getW_elapseTo (c : Core) (t w : Nat) :
    getW (elapseTo c t) w = (getW c w).withTimers (timersOf (elapseTo c t) w) := by
  refine getW_eq_withTimers ?_
  unfold elapseTo
  split
  · exact getW_elapse c _ w
  · exact ⟨timersOf c w, rfl⟩

@[simp] theorem getW_modM_same (c : Core) (w : Nat) (f : Micro → Micro) :
    getW (modM c w f) w = { getW c w with micro := f (getW c w).micro } := getW_setW_same _ _ _

@[simp] theorem modM_regs (c : Core) (w : Nat) (f : Micro → Micro) : (modM c w f).regs = c.regs := rfl

/-- Micro-cycles that pass count in the window (R86). -/
@[simp] theorem getW_spend (c : Core) (w n : Nat) :
    getW (spend c w n) w =
      { getW c w with micro := { (getW c w).micro with cycles := (getW c w).micro.cycles + n } }.withTimers (timersOf (spend c w n) w) := by
  refine getW_eq_withTimers ⟨timersOf (spend c w n) w, ?_⟩
  simp only [spend, getW_elapseTo, getW_modM_same]

@[simp] theorem spend_regs (c : Core) (w n : Nat) : (spend c w n).regs = c.regs := by
  simp only [spend, elapseTo_regs, modM_regs]

@[simp] theorem getW_atWord (c : Core) (w : Nat) :
    getW (atWord c w) w = { getW c w with micro := { (getW c w).micro with stalled := false } }.withTimers (timersOf (atWord c w) w) := by
  simp only [atWord, getW_spend, getW_modM_same, Nat.add_zero]

@[simp] theorem atWord_regs (c : Core) (w : Nat) : (atWord c w).regs = c.regs := by simp only [atWord, spend_regs, modM_regs]

@[simp] theorem wordEnd_regs (c : Core) (w n : Nat) : (wordEnd c w n).regs = c.regs := by simp only [wordEnd, modM_regs, spend_regs]

/-! ## One word (R125 to R129) -/

/-- What a word of `n` micro-cycles leaves, by where it leads: `c` is the block when it began to run, `d` when its operation was
done, and `region` bounds where it may branch to (R126, R127, R129). -/
def wordLeads (c d : Core) (w n : Nat) (region : Nat × Nat) : Ctl → Core
  | .next => wordEnd d w n
  | .branch t => if t < region.1 ∨ region.2 < t then illegalWord c w else modM (spend d w n) w (fun y => { y with upc := t })
  | .finish => finishInstr (spend d w n) w
  | .illegal => illegalWord c w

/-- A native microword leads where its operation says (R126). -/
theorem stepCtl_plainStep (c : Core) (w : Nat) (mw : MicroWord) (ctl : Ctl) : stepCtl c w (plainStep mw) ctl = ctl := by
  cases ctl <;> rfl

/-- A native microword has no second operation (R127). -/
theorem applySecond_plainStep (c d : Core) (w : Nat) (mw : MicroWord) : applySecond c d w (plainStep mw).opb = d := rfl

theorem stepIllegal_plainStep {mw : MicroWord} {a lo hi : Nat} (h : wordIllegal mw a lo hi = false) :
    stepIllegal (plainStep mw) a lo hi = false := by
  simp only [stepIllegal, plainStep, h, Bool.false_or]
  rfl

theorem WordRuns.wait_eq_zero {c : Core} {w : Nat} {mw : MicroWord} (h : WordRuns c w mw) : mw.wait = 0 := by
  obtain ⟨-, -, -, -, -, hwait, -, -, -⟩ := h
  exact hwait

/-- A word without a WAIT stalls only where it queues a list or a record without room (R125). -/
theorem stallFor_none {c : Core} {w : Nat} {mw : MicroWord} (hwait : mw.wait = 0) (hlist : mw.op = 0x1F → (getW c w).lists.length < 16)
    (hrec : mw.op = 0x20 → (getW c w).recq.length < 8) : stallFor c w mw = some 0 := by
  have hroom : ¬((mw.op = 0x1F ∧ ¬pecFree (getW c w)) ∨ (mw.op = 0x20 ∧ ¬recFree (getW c w))) := by
    simp only [pecFree, recFree, decide_eq_true_eq]
    tauto
  rw [stallFor, if_neg hroom, hwait]
  rfl

/-- A legal word with room in the window runs to its end. -/
theorem runStep_runs {c d : Core} {w : Nat} {mw : MicroWord} {ctl : Ctl} (h : WordRuns c w mw) (hstall : stallFor c w mw = some 0)
    (hop : applyOp (atWord c w) w mw = (d, ctl)) (hcycles : (getW d w).micro.cycles = (getW c w).micro.cycles) :
    runStep c w (plainStep mw) = wordLeads (atWord c w) d w mw.cyc (csRegion (nanoMode c w) (getW c w).micro.upc) ctl := by
  obtain ⟨-, -, -, hhandler, -, -, hcyc, hroom, hlegal⟩ := h
  have hstart : ¬ windowCycles (getW c w) ≤ (getW c w).micro.cycles + 0 := by omega
  have hintime : ¬ windowCycles (getW c w) < (getW (spend d w mw.cyc) w).micro.cycles := by
    simp only [getW_spend, Weaver.withTimers, hcycles]
    omega
  have hat : spend (modM c w (fun y => { y with stalled := false })) w 0 = atWord c w := rfl
  have hopa : (plainStep mw).opa = mw := rfl
  simp only [runStep, stepIllegal_plainStep hlegal, hopa, hstall, hstart, hat, hop, applySecond_plainStep, stepCtl_plainStep, hintime,
    hhandler, Bool.false_eq_true, if_false, decide_false, Option.isSome_none]
  cases ctl <;> rfl

/-- A command of a word whose operation leads to the next word. -/
theorem makes_word {i : Instr} {s : State} {w op : Nat} {m : MicroArgs} {d : Core} (he : exec i s = didC s (runMicro s.core w (wordOf op m)))
    (h : WordRuns s.core w (wordOf op m)) (hop : applyOp (atWord s.core w) w (wordOf op m) = (d, .next))
    (hcycles : (getW d w).micro.cycles = (getW (atWord s.core w) w).micro.cycles)
    (hprog : (getW d w).micro.prog = (getW (atWord s.core w) w).micro.prog)
    (hlist : op = 0x1F → (getW s.core w).lists.length < 16) (hrec : op = 0x20 → (getW s.core w).recq.length < 8) :
    Makes i s (wordEnd d w (m.cyc.toNat + 1)) := by
  have hstep := runStep_runs h (stallFor_none h.wait_eq_zero hlist hrec) hop (by simpa using hcycles)
  obtain ⟨hemit, hphase, hp, hhandler, hstalled, -, -, -, -⟩ := h
  have hgoes : (getW (wordEnd d w (m.cyc.toNat + 1)) w).micro.prog = true := by
    simpa [wordEnd, hp] using hprog
  have hcaught : caughtUp s.core w = s.core := if_neg (by simp [hstalled])
  refine makes_didC he ?_
  have hcyc : (wordOf op m).cyc = m.cyc.toNat + 1 := rfl
  simp [runMicro, hemit, hphase, hp, hcaught, runWord, hstep, wordLeads, hgoes, hcyc]

end Sys2Proof.Machine
end

section
/-!
Microwords that act on the segment (R91, R92, R99, R100, R102, R127, R134, R177, R216).
-/
namespace Sys2Proof.Machine

/-! ## STAIL -/

theorem opStail_idle {c : Core} {w : Nat} (h : (getW c w).inHold = true ∨ (getW c w).tailed = true) : opStail c w = c := if_pos h

theorem opStail_late {c : Core} {w : Nat} (hh : (getW c w).inHold = false) (ht : (getW c w).tailed = false) (he : 12 < (getW c w).e) :
    opStail c w = setW c w { getW c w with tailed := true } := by
  have he : ¬ (getW c w).e ≤ 12 := by omega
  simp [opStail, hh, ht, he]

theorem opStail_early {c : Core} {w : Nat} (hh : (getW c w).inHold = false) (ht : (getW c w).tailed = false) (he : (getW c w).e ≤ 12) :
    opStail c w = requestStop (setW c w { getW c w with tailed := true }) w 5 (granuleEndOf (getW c w)) := by
  simp [opStail, hh, ht, he]

/-! ## What operations leave of the micro-machine -/

@[simp] theorem requestStop_micro (c : Core) (w cause b : Nat) : (getW (requestStop c w cause b) w).micro = (getW c w).micro := by
  simp [requestStop, modW]

@[simp] theorem sampleMto_micro (c : Core) (w : Nat) : (getW (sampleMto c w) w).micro = (getW c w).micro := by
  simp [sampleMto, sampleEdges, modW]

@[simp] theorem opMtout_micro (c : Core) (w : Nat) : (getW (opMtout c w) w).micro = (getW c w).micro := by
  simp [opMtout]

@[simp] theorem opStail_micro (c : Core) (w : Nat) : (getW (opStail c w) w).micro = (getW c w).micro := by
  unfold opStail
  dsimp only
  split
  · rfl
  · split <;> simp

theorem setT_cycles (c : Core) (w : Nat) (b : Bool) : (getW (setT c w b) w).micro.cycles = (getW c w).micro.cycles := by
  simp [setT]

theorem setT_prog (c : Core) (w : Nat) (b : Bool) : (getW (setT c w b) w).micro.prog = (getW c w).micro.prog := by
  simp [setT]

/-! ## The statement -/

/-- A command of a word whose operation leaves the micro-machine. -/
theorem makes_word_of_micro {i : Instr} {s : State} {w op : Nat} {m : MicroArgs} {d : Core}
    (he : exec i s = didC s (runMicro s.core w (wordOf op m))) (h : WordRuns s.core w (wordOf op m))
    (hop : applyOp (atWord s.core w) w (wordOf op m) = (d, .next)) (hmicro : (getW d w).micro = (getW (atWord s.core w) w).micro)
    (hlist : op = 0x1F → (getW s.core w).lists.length < 16 := by simp)
    (hrec : op = 0x20 → (getW s.core w).recq.length < 8 := by simp) : Makes i s (wordEnd d w (m.cyc.toNat + 1)) :=
  makes_word he h hop (by rw [hmicro]) (by rw [hmicro]) hlist hrec

/-- Settles O38: each word by what its operation does. -/
theorem microwordSegmentEffects : Obligations.MicrowordSegmentEffects := by
  intro s w m c x
  have put {y : Weaver} : (getW (setW c w.val y) w.val).micro = y.micro := congrArg Weaver.micro (getW_setW_same c w.val y)
  refine ⟨?tailLate, ?tailEarly, ?tailIdle, ?fclr, ?mclr, ?mtout, ?soff, ?pecq, ?recq, ?recqHold, ?trgs, ?ecfg, ?etst, ?eack⟩
  case tailLate =>
    intro h hh ht he
    rw [← opStail_late hh ht he]
    exact makes_word_of_micro rfl h rfl (opStail_micro _ _)
  case tailEarly =>
    intro h hh ht he
    rw [← opStail_early hh ht he]
    exact makes_word_of_micro rfl h rfl (opStail_micro _ _)
  case tailIdle =>
    intro h hidle
    exact makes_word_of_micro rfl h (congrArg (·, Ctl.next) (opStail_idle hidle)) rfl
  case fclr => exact fun h => makes_word_of_micro rfl h rfl put
  case mclr => exact fun h => makes_word_of_micro rfl h rfl put
  case mtout => exact fun h => makes_word_of_micro rfl h rfl (opMtout_micro _ _)
  case soff => exact fun h => makes_word_of_micro rfl h rfl put
  case pecq =>
    intro h hroom hlist
    exact makes_word_of_micro rfl h (if_neg hlist) put (hlist := fun _ => hroom)
  case recq =>
    intro h hroom hhold
    exact makes_word_of_micro rfl h (if_neg (Bool.eq_false_iff.mp hhold)) put (hrec := fun _ => hroom)
  case recqHold =>
    intro h hroom hhold
    exact makes_word_of_micro rfl h (if_pos hhold) rfl (hrec := fun _ => hroom)
  case trgs => exact fun h => makes_word_of_micro rfl h rfl put
  case ecfg => exact fun h => makes_word_of_micro rfl h rfl put
  case etst => exact fun h => makes_word rfl h rfl (setT_cycles _ _ _) (setT_prog _ _ _) (by simp) (by simp)
  case eack => exact fun h => makes_word_of_micro rfl h rfl put

end Sys2Proof.Machine
end

section
/-!
Pattern instructions that have been dispatched (R85, R87, R124, R130, R131, R141).
-/
namespace Sys2Proof.Machine

/-- A dispatched instruction runs its words, and one that R87 calls illegal by its flow asks for a stop (log 16). -/
theorem runInstr_dispatched {c : Core} {w : Nat} (h : (getW c w).micro.phase = .dispatched) :
    runInstr c w = resume (modM (if flowIllegal c w then requestStop c w 2 (granuleEndOf (getW c w)) else c) w
      (fun y => { y with phase := .running, prog := true })) w := if_pos h

theorem runNative_emitting {c : Core} {w op : Nat} (he : emitting c w = true) (hn : nanoMode c w = false)
    (hop : iwOpcode (getW c w).micro.iw = op) : runNative c w op = runInstr c w := if_pos ⟨he, by simp [hn], hop⟩

theorem runUser_emitting {c : Core} {w : Nat} (he : emitting c w = true) (hn : nanoMode c w = false)
    (hop : 0xE0 ≤ iwOpcode (getW c w).micro.iw) : runUser c w = runInstr c w := if_pos ⟨he, by simp [hn], hop⟩

theorem runHorot_emitting {c : Core} {w hop : Nat} (he : emitting c w = true) (hn : nanoMode c w = true)
    (h : hwHop (getW c w).micro.iw = hop) : runHorot c w hop = runInstr c w := if_pos ⟨he, hn, h⟩

/-- The native instructions with their opcodes (Table 3-3). -/
def nativeRows (w : Fin 64) : List (Instr × Nat) :=
  [(.nop w, 0), (.tail w, 1), (.jmp w, 2), (.rpt w, 3), (.loop w, 4), (.call w, 5), (.ret w, 6), (.pmatch w, 7), (.jf w, 8), (.jnf w, 9),
    (.jmt w, 10), (.clrf w, 11), (.siteoff w, 12), (.pec w, 13), (.mark w, 14), (.trig w, 15)]

/-- The ZH64 instructions with their opcodes (Table 4-14). -/
def horotRows (w : Fin 64) : List (Instr × Nat) :=
  [(.hstep w, 0), (.hfin w, 1), (.hgo w, 2), (.hrpt w, 3), (.hlpa w, 4), (.hlpb w, 5), (.hsub w, 6), (.hback w, 7), (.hseek w, 8),
    (.hfail w, 9), (.hpass w, 10), (.hrst w, 11), (.hlvl w, 12), (.htag w, 13)]

theorem exec_native (s : State) (w : Fin 64) : ∀ e ∈ nativeRows w, exec e.1 s = didC s (runNative s.core w.val e.2) := by
  simp only [nativeRows, List.forall_mem_cons, List.not_mem_nil, false_imp_iff, implies_true, and_true]
  exact ⟨rfl, rfl, rfl, rfl, rfl, rfl, rfl, rfl, rfl, rfl, rfl, rfl, rfl, rfl, rfl, rfl⟩

theorem exec_horot (s : State) (w : Fin 64) : ∀ e ∈ horotRows w, exec e.1 s = didC s (runHorot s.core w.val e.2) := by
  simp only [horotRows, List.forall_mem_cons, List.not_mem_nil, false_imp_iff, implies_true, and_true]
  exact ⟨rfl, rfl, rfl, rfl, rfl, rfl, rfl, rfl, rfl, rfl, rfl, rfl, rfl, rfl⟩

/-- Settles O34: each row acts where its instruction has been dispatched, and the instruction runs. -/
theorem dispatchedInstructionsRun : Obligations.DispatchedInstructionsRun := by
  intro s w hemit hphase b c
  have hrun : runInstr s.core w.val = c := runInstr_dispatched hphase
  refine ⟨fun hn e he hop => ?native, fun hn hop => ?user, fun hn e he hop => ?horot⟩
  case native => exact makes_didC (exec_native s w e he) ((runNative_emitting hemit hn hop).trans hrun)
  case user => exact makes_didC rfl ((runUser_emitting hemit hn hop).trans hrun)
  case horot => exact makes_didC (exec_horot s w e he) ((runHorot_emitting hemit hn hop).trans hrun)

end Sys2Proof.Machine
end

section
/-!
Granule windows, granule ends, safe stops, block fetches and TRGO pulses (R83, R108, R110, R111, R114, R124).
-/
namespace Sys2Proof.Machine

/-! ## The window opens (R124) -/

/-- The window of a closed granule of an emitting Weaver before anything of it has run: its instruction word is read, and the
pending expiries are noted. -/
def windowOpened (m : Mem) (c : Core) (w : Nat) (d : SegDesc) : Core :=
  modM (elapseTo c (windowOpenTick (getW c w))) w (fun y => { y with
    phase := .running, iw := granuleIw m (getW c w) d, cycles := 0, handler := none, prog := false, stalled := false, upset := none
    todo := y.pending })

theorem firstVectorDue_none {c : Core} {w : Nat} (h : (getW c w).opening = none) : firstVectorDue c w = c := if_neg (by simp [h])

theorem openWindow_closed {m : Mem} {c : Core} {w : Nat} {d : SegDesc} (hd : (getW c w).desc = some d) (he : emitting c w = true)
    (hp : (getW c w).micro.phase = .closed) : openWindow m c w none = resume (windowOpened m c w d) w := by
  simp only [openWindow, hd, he, hp, and_self, if_true]
  rfl

/-- A window without program and pending expiry dispatches. -/
theorem resume_dispatch {c : Core} {w : Nat} (hp : (getW c w).micro.phase = .running) (hs : (getW c w).micro.stalled = false)
    (hh : (getW c w).micro.handler = none) (hg : (getW c w).micro.prog = false) (ht : (getW c w).micro.todo = 0) :
    resume c w = dispatch c w := by
  simp [resume, windowFuel, proceed, hp, hs, hh, hg, ht]

/-- Tail and hold granules dispatch nothing. -/
theorem dispatch_none {c : Core} {w : Nat} (h : (getW c w).inHold = true ∨ (getW c w).tailLeft ≠ 0) :
    dispatch c w = modM c w (fun y => { y with phase := .ended }) := if_pos h

/-- An item without a parity error is read at once (R136). -/
theorem readItem_good {c : Core} {w : Nat} (item addr : Nat) (h : (getW c w).micro.upset = none) : readItem c w item addr true = (c, true) := by
  simp [readItem, h]

/-- The block once dispatch has taken its micro-cycle and preset NXT and T. -/
def dispatchPreset (c : Core) (w : Nat) : Core := spend (modM c w (fun y => { y with nxt := (getW c w).k + 1, t := false })) w 1

/-- An instruction that passes its checks is dispatched at the address of its entry. -/
theorem dispatch_passes {c : Core} {w : Nat} (hh : (getW c w).inHold = false) (ht : (getW c w).tailLeft = 0)
    (hu : (getW c w).micro.upset = none)
    (hg : csEntryGood (dispatchEntry (dispatchPreset c w) w (dispatchIndex (dispatchPreset c w) w)) = true)
    (hc : (getW (dispatchPreset c w) w).micro.cycles ≤ windowCycles (getW c w)) (hok : dispatchOk (dispatchPreset c w) w = true) :
    dispatch c w = modM (dispatchPreset c w) w (fun y => { y with
      phase := .dispatched, upc := bits (dispatchEntry (dispatchPreset c w) w (dispatchIndex (dispatchPreset c w) w)) 0 14 }) := by
  have hupset : (getW (dispatchPreset c w) w).micro.upset = none := by simp [dispatchPreset, hu]
  have hread := readItem_good 1 (dispatchIndex (dispatchPreset c w) w) hupset
  have hgoes : ¬((getW c w).inHold = true ∨ (getW c w).tailLeft ≠ 0) := by simp [hh, ht]
  have hpreset : spend (modM c w (fun y => { y with nxt := (getW c w).k + 1, t := false })) w 1 = dispatchPreset c w := rfl
  simp only [dispatch, hgoes, hpreset, hg, hread, hok, Nat.not_lt.mpr hc, if_false, if_true, Bool.not_true, Bool.false_eq_true]

/-! ## The granule ends (R83) -/

/-- A granule that ends without a stop in it, and whose window asks for none, goes on. -/
theorem granuleEnd_whole {m : Mem} {c : Core} {w : Nat} {d : SegDesc} (hd : (getW c w).desc = some d) (he : emitting c w = true)
    (hh : (getW c w).inHold = false) (hs : (getW c w).stopReq = none) (ho : (getW c w).opening = none)
    (ha : (getW (closeWindow m c w) w).stopReq = none) :
    granuleEnd m c w =
      let fin := (getW c w).gStart + 64 * d.period
      let b := deliverLate (emitVectors m (elapseTo (closeWindow m c w) fin) w 64) w
      let c1 := wr (applyOff (drainQueue (drainHold (takeGranule b w (64 * (getW c w).e)) w ((getW c w).e - 1)) w) w) (wk w 4) (64 * ((getW c w).e + 1))
      afterGranule m (modW c1 w (fun y => { y with recent := ((getW c w).k :: y.recent).take 32 })) w d fin := by
  simp only [granuleEnd, hd, he, hs, firstVectorDue_none ho, ha, hh, if_true, if_false, Bool.false_eq_true]

theorem safeStop_inside {m : Mem} {c : Core} {w cause b : Nat} (hs : (getW c w).stopReq = some (cause, b)) (he : emitting c w = true)
    (hb : b < granuleEndOf (getW c w)) : safeStop m c w = cutStop m c w cause b := by
  simp only [safeStop, hs, he, hb, if_true]

/-! ## The statement -/

/-- Settles O33: each command by the branch that its hypotheses select. -/
theorem granulesWindowsAndPulses : Obligations.GranulesWindowsAndPulses := by
  refine ⟨?window, ?granule, ?stop, ?block, ?pulse, ?pulseEnd⟩
  case window =>
    intro s w d hd he hp ho c a b entry hpending
    have hopen : openWindow s.mem (firstVectorDue s.core w.val) w.val none = dispatch a w.val := by
      rw [firstVectorDue_none ho, openWindow_closed hd he hp]
      refine resume_dispatch ?_ ?_ ?_ ?_ ?_ <;> simp [windowOpened]
      simpa [c] using hpending
    refine ⟨fun hnone => makes_didC rfl (hopen.trans (dispatch_none hnone)), fun hh ht hg hc hok => ?_⟩
    exact makes_didC rfl (hopen.trans (dispatch_passes hh ht (by simp [a]) hg hc hok))
  case granule =>
    intro s w d hd he hh hs ho fin e a b c ha
    exact makes_didC rfl (granuleEnd_whole hd he hh hs ho ha)
  case stop =>
    intro s w cause b hs he hb
    exact makes_didC rfl (safeStop_inside hs he hb)
  case block =>
    intro s w b he c
    exact makes_didC rfl (if_pos he)
  case pulse =>
    intro s w mask rise rest hp
    exact makes_didC rfl (by simp only [firePulse, hp])
  case pulseEnd => exact fun s k => makes_didC rfl rfl

end Sys2Proof.Machine
end

section
/-!
Launches, jumps, aborts and acknowledgements of a Weaver, and its segment table (R94 to R96, R104 to R106, R113, R178).
-/
namespace Sys2Proof.Machine

/-! ## The objects (Tables 3-8 and 3-9) -/

theorem objIs_launch (w : Fin 64) : objIs (jk w.val 1) .u8 .rwe .any = true := by revert w; decide +kernel

theorem objIs_jump (w : Fin 64) : objIs (jk w.val 2) .u16 .rw (.nat 0 0x100) = true := by revert w; decide +kernel

theorem objIs_abort (w : Fin 64) : objIs (jk w.val 5) .bool .wo (.nat 1 1) = true := by revert w; decide +kernel

theorem objIs_stopAck (w : Fin 64) : objIs (wk w.val 6) .bool .wo (.nat 1 1) = true := by revert w; decide +kernel

theorem objIs_segTable (w : Fin 64) : objIs (mkKey (0x2040 + w.val) 1) .domain .rw .any = true := by revert w; decide +kernel

theorem domMax_segTable (w : Fin 64) : domMax (mkKey (0x2040 + w.val) 1) = 32768 := by revert w; decide +kernel

/-- The objects of a Weaver that these commands write: LAUNCH, JUMP, ABORT, STOP_ACK and SEG_TABLE. -/
def commandKeys (w : Fin 64) : List Key := [jk w.val 1, jk w.val 2, jk w.val 5, wk w.val 6, mkKey (0x2040 + w.val) 1]

/-- None of them is a job object of the journal, and none needs authentication. -/
theorem commandKeys_free (w : Fin 64) :
    ∀ k ∈ commandKeys w, (keyIx k == 0x5800 && keySub k == 2) = false ∧ (k == dk 3 || k == dk 4) = false := by
  revert w
  decide +kernel

theorem closedTo_command {c : Core} {k : Key} (w : Fin 64) (ho : Open c) (hk : k ∈ commandKeys w) : closedTo c k = false :=
  closedTo_open ho (commandKeys_free w k hk).1

/-! ## Writes -/

/-- A write of a BOOL that takes 1 alone passes the checks. -/
theorem writeFail_command {c : Core} {k : Key} (w : Fin 64) (hobj : objIs k .bool .wo (.nat 1 1) = true) (ho : Open c)
    (hk : k ∈ commandKeys w) : writeFail c false k 1 0 0 = none :=
  writeFail_none hobj ho rfl rfl (commandKeys_free w k hk).2 rfl rfl rfl rfl

theorem writeFail_jump {c : Core} {w : Fin 64} {v : BitVec 16} (ho : Open c) (hv : v.toNat ≤ 0x100) :
    writeFail c false (jk w.val 2) v.toNat 0 0 = none := by
  have hwidth : ¬ 2 ^ (8 * ObjTy.u16.width) ≤ v.toNat := by simp only [ObjTy.width]; omega
  have hrange : rangeFail .u16 (.nat 0 0x100) v.toNat = none := by simp [rangeFail, hv]
  exact writeFail_none (objIs_jump w) ho (by simp [hwidth]) rfl (commandKeys_free w _ (by simp [commandKeys])).2 rfl rfl rfl hrange

theorem blockFail_segTable {c : Core} (w : Fin 64) (ho : Open c) : blockFail c false (mkKey (0x2040 + w.val) 1) = none :=
  blockFail_none (objIs_segTable w) ho rfl (commandKeys_free w _ (by simp [commandKeys])).2 rfl

theorem leastEpoch_launch (c : Core) (w : Fin 64) : leastEpoch c (jk w.val 1) = epochNow c + 1 := by
  have hother : ∀ w : Fin 64, ¬(0x44C0 ≤ keyIx (jk w.val 1) ∧ keyIx (jk w.val 1) < 0x44C8 ∧ keySub (jk w.val 1) = 0xE) := by
    decide +kernel
  exact if_neg (hother w)

/-- A LAUNCH for a boundary in reach that finds room among the pending entries passes the checks (R68 to R70). -/
theorem writeFail_launch {c : Core} {w : Fin 64} {i : Byte} {epoch : Nat} (ho : Open c) (hpast : epochNow c < boundaryOf c epoch)
    (hfar : boundaryOf c epoch ≤ epochNow c + 2 ^ 32) (hroom : c.rwe.length < 1024) :
    writeFail c false (jk w.val 1) i.toNat epoch 0 = none := by
  have hl := (lookObj_open (jk w.val 1) ho).trans (objIs_find (objIs_launch w))
  have hwidth : ¬ 2 ^ (8 * ObjTy.u8.width) ≤ i.toNat := by
    have := i.isLt
    simp only [ObjTy.width]
    omega
  have hleast := leastEpoch_launch c w
  have htiming : timingFail c .rwe (jk w.val 1) epoch 0 = none := by
    have h1 : ¬ boundaryOf c epoch < epochNow c + 1 := by omega
    have h2 : ¬ epochNow c + 2 ^ 32 < boundaryOf c epoch := by omega
    have h3 : ¬ 1024 ≤ c.rwe.length + 0 := by omega
    simp only [timingFail, Acc.isRwe, hleast, h1, h2, h3, decide_false, firstFail, if_true]
  have hkey := (commandKeys_free w (jk w.val 1) (by simp [commandKeys])).2
  simp only [writeFail, hl, hwidth, Acc.writable, authBars, hkey, htiming, modeAccepts, typeFail, rangeFail, decide_false, Bool.and_false]
  rfl

/-- A write of an RWE object that passes its checks is accepted with its effect. -/
theorem accepts_rwe {i : Instr} {s : State} {k : Key} {v e : Nat} {eff : Effect} {c : Core} (he : exec i s = wrote s k v e eff)
    (hw : writeFail s.core false k v e 0 = none) (ht : closedTo s.core k = false) (hf : eff s.mem s.core = (stOk, (s.mem, c))) :
    Accepts i s c := by
  simp only [Accepts, Makes, Gives, he, wrote_eq _ _ _ _ _ hw ht, hf]

/-! ## LAUNCH (R96) -/

/-- The registers that follow when a Weaver has been armed: the power states of the stacks, the coalesced entries of the journal and the
unprotected launches of the pair. -/
def launchKeys : List Key := [stk 0 3, stk 1 3, stk 2 3, stk 3 3, mkKey 0x7800 3, mkKey 0x6010 0xC]

/-- The second core has the Weavers, the pending entries and the other registers of the first. -/
def LaunchFrame (c d : Core) : Prop := d.weavers = c.weavers ∧ d.rwe = c.rwe ∧ SameRegsBut launchKeys c d

theorem LaunchFrame.of_regs {c d : Core} (hw : d.weavers = c.weavers) (hr : d.rwe = c.rwe) (hk : d.regs = c.regs) : LaunchFrame c d :=
  ⟨hw, hr, fun k _ => rd_congr hk k⟩

theorem LaunchFrame.refl (c : Core) : LaunchFrame c c := .of_regs rfl rfl rfl

theorem LaunchFrame.trans {c d e : Core} (h : LaunchFrame c d) (g : LaunchFrame d e) : LaunchFrame c e := by
  obtain ⟨hw, hr, hk⟩ := h
  obtain ⟨gw, gr, gk⟩ := g
  exact ⟨gw.trans hw, gr.trans hr, fun k hn => (gk k hn).trans (hk k hn)⟩

theorem LaunchFrame.foldl {α : Type} {g : Core → α → Core} {l : List α} (h : ∀ c, ∀ x ∈ l, LaunchFrame c (g c x)) (c : Core) :
    LaunchFrame c (l.foldl g c) :=
  List.foldlRecOn l g (LaunchFrame.refl c) (fun _ hd x hx => hd.trans (h _ x hx))

theorem wr_launchFrame (c : Core) {k : Key} (v : Nat) (hk : k ∈ launchKeys) : LaunchFrame c (wr c k v) :=
  ⟨rfl, rfl, fun _ hj => rd_wr_ne c v (fun e => hj (e ▸ hk))⟩

theorem startPll_launchFrame (c : Core) (g : Nat) : LaunchFrame c (startPll c g) := by
  unfold startPll
  split
  · exact .refl c
  · exact .of_regs rfl rfl rfl

theorem wakeStacks_launchFrame (c : Core) : LaunchFrame c (wakeStacks c) :=
  .foldl (fun c s hs => wr_launchFrame c 0 (by revert s; decide)) c

theorem journalAdd_launchFrame (c : Core) (kind id value : Nat) (o : Bool) (run : Nat) :
    LaunchFrame c (journalAdd c kind id value o run) := by
  unfold journalAdd journalWait
  dsimp only
  split
  · exact .trans (.of_regs rfl rfl rfl) (.trans (wr_launchFrame _ _ (by decide)) (.of_regs rfl rfl rfl))
  · exact .of_regs rfl rfl rfl

/-- The block when a LAUNCH has armed its Weaver with a copy of the descriptor, before the clocks, the HBM and the journal follow. -/
def weaverArmed (c : Core) (w idx e : Nat) (d : SegDesc) : Core :=
  modW (wr (wr (wr c (wk w 1) 1) (wk w 2) idx) (mkKey (0x5C40 + w) 2) 0) w (fun x => { x with
    desc := some d, launchEpoch := e, holdHere := 0, waitFrom := none, waitAge := 0, stopReq := none })

/-- The block with a change of its journal. -/
def withJournal (c : Core) (f : Journal → Journal) : Core := { c with journal := f c.journal }

theorem withJournal_launchFrame (c : Core) (f : Journal → Journal) : LaunchFrame c (withJournal c f) := .of_regs rfl rfl rfl

/-- The block when the PLLs and the HBM have been woken for an armed Weaver. -/
def launchWoken (c : Core) (w idx e : Nat) (d : SegDesc) : Core :=
  wakeStacks ((groupsOf (weaverArmed c w idx e d) w).foldl startPll (weaverArmed c w idx e d))

/-- The block when the journal's entry of an armed Weaver waits. -/
def launchNoted (c : Core) (w idx e : Nat) (d : SegDesc) : Core :=
  journalAdd (launchWoken c w idx e d) 6 w (d.streamBase + enabledSites c w * 2 ^ 16 + idx * 2 ^ 24) false e

/-- The block when the journal holds what an armed Weaver was launched with. -/
def launchHeld (c : Core) (w idx e : Nat) (d : SegDesc) : Core :=
  withJournal (launchNoted c w idx e d) (fun j => { j with armed := mset (0, 0, 0, 0) j.armed w (d.streamBase, enabledSites c w, idx, e) })

theorem armWeaver_eq (c : Core) (w idx e : Nat) (d : SegDesc) :
    armWeaver c w idx e d =
      if (decide (2 ≤ rd (launchHeld c w idx e d) (mkKey 0x6010 7)) &&
          (setBits (enabledSites c w) 8).any (fun s => (streamEntry (launchHeld c w idx e d) (siteStream d s)).mirror)) = true then
        bump (launchHeld c w idx e d) (mkKey 0x6010 0xC)
      else launchHeld c w idx e d := by
  rfl

theorem launchWoken_launchFrame (c : Core) (w idx e : Nat) (d : SegDesc) : LaunchFrame (weaverArmed c w idx e d) (launchWoken c w idx e d) :=
  .trans (.foldl (fun c g _ => startPll_launchFrame c g) _) (wakeStacks_launchFrame _)

theorem launchHeld_launchFrame (c : Core) (w idx e : Nat) (d : SegDesc) : LaunchFrame (weaverArmed c w idx e d) (launchHeld c w idx e d) := by
  have hnoted : LaunchFrame (launchWoken c w idx e d) (launchNoted c w idx e d) := journalAdd_launchFrame _ _ _ _ _ _
  have hheld : LaunchFrame (launchNoted c w idx e d) (launchHeld c w idx e d) := withJournal_launchFrame _ _
  exact (launchWoken_launchFrame c w idx e d).trans (hnoted.trans hheld)

theorem armWeaver_launchFrame (c : Core) (w idx e : Nat) (d : SegDesc) : LaunchFrame (weaverArmed c w idx e d) (armWeaver c w idx e d) := by
  rw [armWeaver_eq]
  split
  · exact (launchHeld_launchFrame c w idx e d).trans (wr_launchFrame _ _ (by decide))
  · exact launchHeld_launchFrame c w idx e d

/-- The registers of a Weaver that shows it is armed are none of those that follow. -/
theorem stateKeys_free (w : Fin 64) :
    wk w.val 1 ∉ launchKeys ∧ wk w.val 2 ∉ launchKeys ∧ wk w.val 1 ≠ wk w.val 2 ∧ wk w.val 1 ≠ mkKey (0x5C40 + w.val) 2 ∧
      wk w.val 2 ≠ mkKey (0x5C40 + w.val) 2 := by
  revert w
  decide +kernel

theorem getW_weaverArmed (c : Core) (w idx e : Nat) (d : SegDesc) :
    getW (weaverArmed c w idx e d) w =
      { getW c w with desc := some d, launchEpoch := e, holdHere := 0, waitFrom := none, waitAge := 0, stopReq := none } := by
  rw [weaverArmed, modW, getW_setW_same]
  simp only [getW, wr_weavers]

theorem rd_weaverArmed (c : Core) (w idx e : Nat) (d : SegDesc) (k : Key) :
    rd (weaverArmed c w idx e d) k = rd (wr (wr (wr c (wk w 1) 1) (wk w 2) idx) (mkKey (0x5C40 + w) 2) 0) k := by
  rw [weaverArmed, modW, rd_setW]

/-- An armed Weaver: its state, its segment, the copy of its descriptor and its epoch. -/
theorem armWeaver_arms (c : Core) (w : Fin 64) (idx e : Nat) (d : SegDesc) :
    wState (armWeaver c w.val idx e d) w.val = 1 ∧ rd (armWeaver c w.val idx e d) (wk w.val 2) = idx ∧
      (getW (armWeaver c w.val idx e d) w.val).desc = some d ∧ (getW (armWeaver c w.val idx e d) w.val).launchEpoch = e := by
  obtain ⟨hw, -, hk⟩ := armWeaver_launchFrame c w.val idx e d
  obtain ⟨h1, h2, h12, h1c, h2c⟩ := stateKeys_free w
  have hweaver : getW (armWeaver c w.val idx e d) w.val = getW (weaverArmed c w.val idx e d) w.val := by simp only [getW, hw]
  refine ⟨?_, ?_, ?_, ?_⟩
  · rw [wState, hk _ h1, rd_weaverArmed, rd_wr_ne _ _ h1c, rd_wr_ne _ _ h12, rd_wr_same]
  · rw [hk _ h2, rd_weaverArmed, rd_wr_ne _ _ h2c, rd_wr_same]
  · rw [hweaver, getW_weaverArmed]
  · rw [hweaver, getW_weaverArmed]

/-- The block with one more entry pending for its epoch (R69). -/
def withPending (c : Core) (p : PendingWrite) : Core := { c with rwe := c.rwe ++ [p] }

theorem withPending_rwe (c : Core) (p : PendingWrite) : (withPending c p).rwe = c.rwe ++ [p] := rfl

theorem rd_withPending (c : Core) (p : PendingWrite) (k : Key) : rd (withPending c p) k = rd c k := rfl

theorem getW_withPending (c : Core) (p : PendingWrite) (w : Nat) : getW (withPending c p) w = getW c w := rfl

theorem exec_launch (w : Fin 64) (i : Byte) (epoch : BitVec 48) (s : State) :
    exec (.launch w i epoch) s = wrote s (jk w.val 1) i.toNat epoch.toNat (effLaunch w.val i.toNat (boundaryOf s.core epoch.toNat)) := rfl

/-- A LAUNCH of a listed descriptor on a ready device arms its Weaver and is pending for its epoch. -/
theorem effLaunch_ready {m : Mem} {c : Core} {w idx e : Nat} {d : SegDesc} (hrun : runBy c e = true) (hd : descAt c w idx = some d)
    (hready : launchReady c w d e = true) :
    effLaunch w idx e m c = (stOk, (m, withPending (armWeaver c w idx e d) { key := jk w 1, value := idx, epoch := e })) := by
  simp only [effLaunch, effW, effA, writeLaunch, guardSt, hrun, hd, hready, if_true]
  rfl

/-! ## JUMP, ABORT and STOP_ACK (R104 to R106, R113) -/

/-- A JUMP of an active Weaver goes to the slot of its position. -/
theorem effJump_active {m : Mem} {c : Core} {w v : Nat} (hv : v ≤ 0x100) (hs : wState c w = 1 ∨ wState c w = 2 ∨ wState c w = 3) :
    effJump w v m c =
      (stOk, (m, wr (wr c (if wState c w = 2 ∧ pastCommit m c w = true then jk w 4 else jk w 3) v) (jk w 2) v)) := by
  have hactive : (wState c w == 1 || wState c w == 2 || wState c w == 3) = true := by simpa [or_assoc] using hs
  simp only [effJump, effW, effA, writeJump, guardSt, hv, hactive, decide_true, if_true, answer, Except.map]
  split <;> rfl

/-- An ABORT of an emitting Weaver empties both slots and asks for a stop. -/
theorem writeAbort_emitting {c : Core} {w : Nat} (hs : wState c w = 2 ∨ wState c w = 3) :
    writeAbort c w = .ok (requestStop (wr (wr c (jk w 3) 0xFFFF) (jk w 4) 0xFFFF) w 8
      (if c.stamp ≤ (getW c w).gStart then (getW c w).gStart else granuleEndOf (getW c w))) := by
  rcases hs with hs | hs <;> rw [writeAbort, hs] <;> rfl

/-- An ABORT of an ARMED Weaver rejects its launch. -/
theorem writeAbort_armed {c : Core} {w : Nat} {d : SegDesc} (hs : wState c w = 1) (hd : (getW c w).desc = some d) :
    writeAbort c w = .ok (enterRest (discardLists (tallyEvent
      ((setBits (enabledSites c w) 8).foldl (fun c site => makeRejected c w site d 8) c) 0xD5) w) w 0) := by
  simp only [writeAbort, hs, abortArmed, hd]

theorem writeStopAck_stopped {c : Core} {w : Nat} (hs : wState c w = 4) :
    writeStopAck c w = .ok (enterRest (wr c (wk w 5) 0) w 0) := by
  simp only [writeStopAck, hs, beq_self_eq_true, guardSt, if_true]

/-- A write that its object accepts. -/
theorem effW_ok {f : Core → Written} {m : Mem} {c d : Core} (h : f c = .ok d) : effW f m c = (stOk, (m, d)) := by
  simp only [effW, effA, h, answer]

/-! ## SEG_TABLE (R94) -/

/-- A table of whole descriptors within its size is judged by its descriptors. -/
theorem writeSegTable_sized {c : Core} {data : List Byte} (w : Nat) (h128 : data.length % 128 = 0) (hmin : 128 ≤ data.length)
    (hmax : data.length ≤ 32768) :
    writeSegTable c w data = match badDesc (descNumbers data).length (capacity c) 0 (descNumbers data) with
      | some (i, s) => (s, wr c (mkKey (0x2040 + w) 2) i)
      | none => match rasterRefuses c w ((descNumbers data).map parseDesc) with
        | some i => (stOutOfRange, wr c (mkKey (0x2040 + w) 2) i)
        | none => (stOk, setDom c (mkKey (0x2040 + w) 1) data) := by
  refine if_neg ?_
  omega

/-! ## The statement -/

/-- Settles O32: each write passes its checks, and its effect is that of the branch that the hypotheses select. -/
theorem launchesJumpsAndAborts : Obligations.LaunchesJumpsAndAborts := by
  unfold Obligations.LaunchesJumpsAndAborts
  refine ⟨?launch, ?jump, ?abort, ?abortArmed, ?stopAck, ?table, ?badTable⟩
  case launch =>
    intro s w i epoch d e ho hpast hfar hroom hrun hd hready
    obtain ⟨hstate, hseg, hdesc, hepoch⟩ := armWeaver_arms s.core w i.toNat e d
    obtain ⟨-, hrwe, -⟩ := armWeaver_launchFrame s.core w.val i.toNat e d
    have haccepts := accepts_rwe (exec_launch w i epoch s) (writeFail_launch ho hpast hfar hroom)
      (closedTo_command w ho (by simp [commandKeys])) (effLaunch_ready hrun hd hready)
    refine ⟨_, haccepts, ?_⟩
    rw [wState, rd_withPending, rd_withPending, getW_withPending, withPending_rwe, hrwe]
    exact ⟨hstate, hseg, hdesc, hepoch, rfl⟩
  case jump =>
    intro s w v ho hv hs
    exact accepts_scalar rfl (writeFail_jump ho hv) (closedTo_command w ho (by simp [commandKeys])) (effJump_active hv hs)
  case abort =>
    intro s w ho hs x
    exact accepts_scalar rfl (writeFail_command w (objIs_abort w) ho (by simp [commandKeys]))
      (closedTo_command w ho (by simp [commandKeys])) (effW_ok (writeAbort_emitting hs))
  case abortArmed =>
    intro s w d ho hs hd
    exact accepts_scalar rfl (writeFail_command w (objIs_abort w) ho (by simp [commandKeys]))
      (closedTo_command w ho (by simp [commandKeys])) (effW_ok (writeAbort_armed hs hd))
  case stopAck =>
    intro s w ho hs
    exact accepts_scalar rfl (writeFail_command w (objIs_stopAck w) ho (by simp [commandKeys]))
      (closedTo_command w ho (by simp [commandKeys])) (effW_ok (writeStopAck_stopped hs))
  case table =>
    intro s w data ho h128 hmin hmax hgood hraster
    have hwritten : writeSegTable s.core w.val data = (stOk, setDom s.core (mkKey (0x2040 + w.val) 1) data) := by
      rw [writeSegTable_sized w.val h128 hmin hmax, hgood, hraster]
    refine accepts_domain rfl (blockFail_segTable w ho) (closedTo_command w ho (by simp [commandKeys])) (by rwa [domMax_segTable]) ?_
    simp only [effA, hwritten]
  case badTable =>
    intro s w data i st ho h128 hmin hmax hbad
    have hwritten : writeSegTable s.core w.val data = (st, wr s.core (mkKey (0x2040 + w.val) 2) i) := by
      rw [writeSegTable_sized w.val h128 hmin hmax, hbad]
    have hexec := wroteDomain_eq s (mkKey (0x2040 + w.val) 1) data (effA (fun c => writeSegTable c w.val data))
      (blockFail_segTable w ho) (closedTo_command w ho (by simp [commandKeys])) (by rwa [domMax_segTable])
    simp only [effA, hwritten] at hexec
    exact hexec

end Sys2Proof.Machine
end

section
/-!
The vendor microprograms of NOP, JMP and TRIG (R85, R119, R121, R126, R130, Table 4-7).
-/
namespace Sys2Proof.Machine

/-! ## Where the vendor words stand (R119, R130) -/

/-- The control words of the native vendor part. -/
def vendorWords : SMap Nat := (vendorBank 0 false).words

/-- The address of the first word of a native opcode. -/
def vendorEntry (op : Nat) : Nat := bits (mget 0x8000 (vendorBank 0 false).dispatch op) 0 14

/-- The microprogram of a native opcode. -/
def vendorProgram (op : Nat) : List MicroWord := vendorPrograms.getD op []

/-- Word `j` of a native opcode's program stands at its place: it passes its parity check and is legal there, without a WAIT. -/
theorem vendorWords_hold : ∀ op < 16, ∀ j < (vendorProgram op).length,
    vendorEntry op + j < 0x1800 ∧ wordGood (mget 0 vendorWords (vendorEntry op + j)) = true ∧
      decodeMicro (mget 0 vendorWords (vendorEntry op + j)) = (vendorProgram op).getD j wDone ∧
      ((vendorProgram op).getD j wDone).wait = 0 ∧ 1 ≤ ((vendorProgram op).getD j wDone).cyc ∧
      wordIllegal ((vendorProgram op).getD j wDone) (vendorEntry op + j) 0 0x17FF = false := by
  decide +kernel

/-! ## A program in progress -/

/-- The program of a native opcode has come to its word `j` on an emitting Weaver that holds the vendor words. -/
structure InProgram (c : Core) (w op j : Nat) : Prop where
  emits : emitting c w = true
  running : (getW c w).micro.phase = .running
  begun : (getW c w).micro.prog = true
  noHandler : (getW c w).micro.handler = none
  awake : (getW c w).micro.stalled = false
  noUpset : (getW c w).micro.upset = none
  native : nanoMode c w = false
  loaded : ∀ a < 0x1800, csWord c w a = mget 0 vendorWords a
  place : (getW c w).micro.upc = vendorEntry op + j

theorem emitting_congr {c d : Core} (h : d.regs = c.regs) (w : Nat) : emitting d w = emitting c w := by
  simp only [emitting, wState, rd_congr h]

theorem nanoMode_congr {c d : Core} (h : d.regs = c.regs) (w : Nat) : nanoMode d w = nanoMode c w := by
  simp only [nanoMode, rdb, rd_congr h]

theorem csWord_congr {c d : Core} {w : Nat} (h : d.regs = c.regs) (ha : (getW d w).bankA = (getW c w).bankA)
    (hb : (getW d w).bankB = (getW c w).bankB) (a : Nat) : csWord d w a = csWord c w a := by
  simp only [csWord, activeCs, rd_congr h, ha, hb]

/-- The operation of a word has put NXT at a value, and has left the rest of the micro-machine, the registers, the banks and the
descriptor. -/
structure PutsNxt (c d : Core) (w v : Nat) : Prop where
  regs : d.regs = c.regs
  micro : (getW d w).micro = { (getW (atWord c w) w).micro with nxt := v }
  bankA : (getW d w).bankA = (getW c w).bankA
  bankB : (getW d w).bankB = (getW c w).bankB
  desc : (getW d w).desc = (getW c w).desc

section
variable {c d : Core} {w op j n : Nat} {mw : MicroWord}

/-- The word that is due runs where the window has room for it. -/
theorem InProgram.wordRuns (h : InProgram c w op j) (hop : op < 16) (hj : (vendorProgram op)[j]? = some mw)
    (hroom : (getW c w).micro.cycles + mw.cyc ≤ windowCycles (getW c w)) : WordRuns c w mw := by
  obtain ⟨hlen, he⟩ := List.getElem?_eq_some_iff.mp hj
  obtain ⟨hin, -, -, hwait, hcyc, hlegal⟩ := vendorWords_hold op hop j hlen
  have hmw : (vendorProgram op).getD j wDone = mw := by simp [hlen, he]
  rw [hmw] at hwait hcyc hlegal
  have hregion : csRegion (nanoMode c w) (getW c w).micro.upc = (0, 0x17FF) := by
    have hvendor : ¬ 0x1800 ≤ vendorEntry op + j := by omega
    simp [csRegion, h.native, h.place, hvendor]
  refine ⟨h.emits, h.running, h.begun, h.noHandler, h.awake, hwait, hcyc, hroom, ?_⟩
  rw [hregion, h.place]
  exact hlegal

/-- The word that is due is read (R121). -/
theorem InProgram.fetchStep_eq (h : InProgram c w op j) (hop : op < 16) (hj : (vendorProgram op)[j]? = some mw) :
    fetchStep c w = (c, some (plainStep mw)) := by
  obtain ⟨hlen, he⟩ := List.getElem?_eq_some_iff.mp hj
  obtain ⟨hin, hgood, hdecode, -, -, -⟩ := vendorWords_hold op hop j hlen
  have hmw : (vendorProgram op).getD j wDone = mw := by simp [hlen, he]
  rw [hmw] at hdecode
  have hread : csWord c w (getW c w).micro.upc = mget 0 vendorWords (vendorEntry op + j) := by rw [h.place, h.loaded _ hin]
  have hitem : readItem c w 0 (getW c w).micro.upc true = (c, true) := by simp [readItem, h.noUpset]
  simp [fetchStep, h.native, hread, hgood, hitem, hdecode]

/-- The program goes on with the word that is due. -/
theorem InProgram.proceed_succ (h : InProgram c w op j) (hop : op < 16) (hj : (vendorProgram op)[j]? = some mw) :
    proceed (n + 1) c w = proceed n (runStep c w (plainStep mw)) w := by
  simp [proceed, h.running, h.awake, h.begun, h.fetchStep_eq hop hj]

/-- A word that puts NXT at a value leads to the next word. -/
theorem InProgram.next {v : Nat} (h : InProgram c w op j) (hput : PutsNxt c d w v) : InProgram (wordEnd d w n) w op (j + 1) := by
  obtain ⟨hregs, hmicro, ha, hb, -⟩ := hput
  have hend : (wordEnd d w n).regs = c.regs := by rw [wordEnd_regs, hregs]
  refine ⟨?_, ?_, ?_, ?_, ?_, ?_, ?_, fun a hlt => ?_, ?_⟩
  · rw [emitting_congr hend, h.emits]
  · simp [wordEnd, hmicro, h.running]
  · simp [wordEnd, hmicro, h.begun]
  · simp [wordEnd, hmicro, h.noHandler]
  · simp [wordEnd, hmicro]
  · simp [wordEnd, hmicro, h.noUpset]
  · rw [nanoMode_congr hend, h.native]
  · rw [csWord_congr hend (by simp [wordEnd, ha]) (by simp [wordEnd, hb]), h.loaded a hlt]
  · simp [wordEnd, hmicro, h.place, Nat.add_assoc]

/-! ## The end of an instruction (R126) -/

/-- An instruction has ended with what the Weaver held before its DONE; no stop is asked for and no register has changed. -/
def EndedFrom (c e : Core) (w : Nat) : Prop :=
  (getW e w).micro.phase = .ended ∧ (getW e w).micro.nxt = (getW c w).micro.nxt ∧ (getW e w).stopReq = (getW c w).stopReq ∧
    (getW e w).trgo = (getW c w).trgo ∧ e.regs = c.regs

/-- Nothing of a window runs on once its instruction has ended. -/
theorem proceed_ended (n : Nat) (h : (getW c w).micro.phase = .ended) : proceed n c w = c := by
  cases n with
  | zero => rfl
  | succ n => simp [proceed, h]

/-- DONE with NXT in the image ends the instruction. -/
theorem finishInstr_inside {g : SegDesc} (hd : (getW c w).desc = some g) (hn : (getW c w).micro.nxt < g.imageGranules) :
    finishInstr c w = modM c w (fun y => { y with phase := .ended, prog := false }) := by
  simp [finishInstr, hd, Nat.not_le.mpr hn]

/-- A program that has come to its DONE ends. -/
theorem InProgram.ends {g : SegDesc} (h : InProgram c w op j) (hop : op < 16) (hj : (vendorProgram op)[j]? = some wDone)
    (hroom : (getW c w).micro.cycles + 1 ≤ windowCycles (getW c w)) (hd : (getW c w).desc = some g)
    (hn : (getW c w).micro.nxt < g.imageGranules) : EndedFrom c (proceed (n + 1) c w) w := by
  have hruns : WordRuns c w wDone := h.wordRuns hop hj hroom
  have hstall : stallFor c w wDone = some 0 := stallFor_none rfl (by simp [wDone, word]) (by simp [wDone, word])
  have happly : applyOp (atWord c w) w wDone = (atWord c w, .finish) := by simp [applyOp, wDone, word, h.noHandler]
  have hstep : runStep c w (plainStep wDone) = modM (spend (atWord c w) w 1) w (fun y => { y with phase := .ended, prog := false }) := by
    rw [runStep_runs hruns hstall happly (by simp), wordLeads]
    exact finishInstr_inside (g := g) (by simp [hd]) (by simpa using hn)
  rw [h.proceed_succ hop hj, hstep, proceed_ended n (by simp)]
  refine ⟨?_, ?_, ?_, ?_, ?_⟩ <;> simp

/-- A program of one word and DONE ends with what that word has left. -/
theorem InProgram.runs {g : SegDesc} {v : Nat} (h : InProgram c w op 0) (hop : op < 16) (hprog : vendorProgram op = [mw, wDone])
    (hcyc : mw.cyc = 1) (hqueue : mw.op ≠ 0x1F ∧ mw.op ≠ 0x20) (hroom : (getW c w).micro.cycles + 2 ≤ windowCycles (getW c w))
    (hstep : applyOp (atWord c w) w mw = (d, .next)) (hput : PutsNxt c d w v) (hd : (getW c w).desc = some g)
    (hn : v < g.imageGranules) : EndedFrom d (proceed (n + 2) c w) w := by
  have hmicro := hput.micro
  have hdesc := hput.desc
  have hj0 : (vendorProgram op)[0]? = some mw := by simp [hprog]
  have hj1 : (vendorProgram op)[1]? = some wDone := by simp [hprog]
  have hruns : WordRuns c w mw := h.wordRuns hop hj0 (by omega)
  have hstall : stallFor c w mw = some 0 :=
    stallFor_none hruns.wait_eq_zero (fun e => absurd e hqueue.1) (fun e => absurd e hqueue.2)
  have hlead : runStep c w (plainStep mw) = wordEnd d w 1 := by
    rw [runStep_runs hruns hstall hstep (by simp [hmicro]), wordLeads, hcyc]
  have hwindow : windowCycles (getW (wordEnd d w 1) w) = windowCycles (getW c w) := by
    simp [windowCycles, wordEnd, hdesc]
  have hdone : InProgram (wordEnd d w 1) w op 1 := h.next hput
  obtain ⟨hphase, hnxt, hstop, htrgo, hend⟩ := hdone.ends (n := n) (g := g) hop hj1 (by rw [hwindow]; simp [wordEnd, hmicro]; omega)
    (by simp [wordEnd, hdesc, hd]) (by simpa [wordEnd, hmicro] using hn)
  rw [h.proceed_succ hop hj0, hlead]
  refine ⟨hphase, hnxt.trans ?_, hstop.trans ?_, htrgo.trans ?_, hend.trans (wordEnd_regs d w 1)⟩ <;> simp [wordEnd]

end

/-! ## The statement -/

/-- What a dispatched instruction of an emitting Weaver with the vendor words loaded has before its first word (R124). -/
structure VendorDispatched (c : Core) (w op : Nat) : Prop where
  emits : emitting c w = true
  loaded : ∀ a < 0x1800, csWord c w a = mget 0 vendorWords a
  phase : (getW c w).micro.phase = .dispatched
  place : (getW c w).micro.upc = vendorEntry (iwOpcode (getW c w).micro.iw)
  noHandler : (getW c w).micro.handler = none
  noUpset : (getW c w).micro.upset = none
  awake : (getW c w).micro.stalled = false
  native : nanoMode c w = false
  opcode : iwOpcode (getW c w).micro.iw = op

/-- The block when a dispatched instruction begins its program. -/
def instrBegun (c : Core) (w : Nat) : Core := modM c w (fun y => { y with phase := .running, prog := true })

theorem VendorDispatched.inProgram {c : Core} {w op : Nat} (h : VendorDispatched c w op) : InProgram (instrBegun c w) w op 0 where
  emits := (emitting_congr rfl w).trans h.emits
  running := by simp [instrBegun]
  begun := by simp [instrBegun]
  noHandler := by simp [instrBegun, h.noHandler]
  awake := by simp [instrBegun, h.awake]
  noUpset := by simp [instrBegun, h.noUpset]
  native := (nanoMode_congr rfl w).trans h.native
  loaded := fun a ha => (csWord_congr (c := c) (d := instrBegun c w) rfl (by simp [instrBegun]) (by simp [instrBegun]) a).trans (h.loaded a ha)
  place := by simp [instrBegun, h.place, h.opcode]

/-- A dispatched instruction whose flow is legal runs its program. -/
theorem VendorDispatched.makes {s : State} {w op : Nat} {i : Instr} (h : VendorDispatched s.core w op)
    (he : exec i s = didC s (runNative s.core w op)) (hflow : flowIllegal s.core w = false) :
    Makes i s (proceed (windowCycles (getW s.core w) + 16) (instrBegun s.core w) w) := by
  refine makes_didC he ?_
  rw [runNative_emitting h.emits h.native h.opcode, runInstr_dispatched h.phase, hflow]
  simp [resume, windowFuel, windowCycles, instrBegun]

/-- A native instruction other than MATCH is legal by its flow where it has no TARGET or one in the image (R87). -/
theorem flowIllegal_native {c : Core} {w : Nat} {d : SegDesc} (hd : (getW c w).desc = some d) (hn : nanoMode c w = false)
    (h7 : iwOpcode (getW c w).micro.iw ≠ 7)
    (ht : iwOpcode (getW c w).micro.iw ∉ [2, 4, 5, 7, 8, 9, 10] ∨ iwTarget (getW c w).micro.iw < d.imageGranules) :
    flowIllegal c w = false := by
  have hop : opNow c w = iwOpcode (getW c w).micro.iw := by simp [opNow, hn]
  have htgt : ([2, 4, 5, 7, 8, 9, 10].contains (iwOpcode (getW c w).micro.iw) &&
      decide (d.imageGranules ≤ iwTarget (getW c w).micro.iw)) = false := by
    rw [Bool.and_eq_false_iff]
    refine ht.imp (fun h => ?_) (fun h => ?_)
    · simpa using h
    · simpa using h
  have hmatch : (iwOpcode (getW c w).micro.iw == 7) = false := beq_eq_false_iff_ne.mpr h7
  simp only [flowIllegal, hd, hop, hn, iwFields, Bool.false_eq_true, if_false, htgt, hmatch, Bool.false_and, Bool.or_self]

/-- Micro-register TGT of a native instruction is its TARGET field (Table 4-3). -/
theorem regRead_target {c : Core} {w : Nat} (hn : nanoMode c w = false) : regRead c w 3 = iwTarget (getW c w).micro.iw := by
  simp [regRead, hn, iwFields]

theorem iwTarget_lt (iw : Nat) : iwTarget iw < 2 ^ 64 := by
  have : iwTarget iw < 2 ^ 26 := Nat.mod_lt _ (by decide)
  omega

/-- MOV of TGT to NXT, the first word of JMP (Table 4-7). -/
theorem applyOp_movTarget (c : Core) (w : Nat) :
    applyOp c w (word 0x04 2 3 0 1) = (modM c w (fun y => { y with nxt := regRead c w 3 % 2 ^ 64 }), .next) := rfl

/-- TRGS of TGT, the first word of TRIG (Table 4-7). -/
theorem applyOp_trgsTarget (c : Core) (w : Nat) :
    applyOp c w (word 0x21 0 3 0 1) = (setW c w { getW c w with trgo := (getW c w).trgo ||| regRead c w 3 % 256 }, .next) := rfl

theorem regRead_target_atWord {c : Core} {w : Nat} (hn : nanoMode c w = false) :
    regRead (atWord (instrBegun c w) w) w 3 = iwTarget (getW c w).micro.iw := by
  have hregs : (atWord (instrBegun c w) w).regs = c.regs := atWord_regs _ _
  rw [regRead_target ((nanoMode_congr hregs w).trans hn)]
  simp [instrBegun]

/-- Settles O35: each instruction runs its vendor words one after the other to DONE. -/
theorem flowOfSimpleInstructions : Obligations.FlowOfSimpleInstructions := by
  unfold Obligations.FlowOfSimpleInstructions
  intro s w d x bank hemit hd hloaded hphase hplace hhandler hupset hawake hnano hroom hnxt
  have hvendor {op : Nat} (hop : iwOpcode x.micro.iw = op) : VendorDispatched s.core w.val op :=
    ⟨hemit, hloaded, hphase, hplace, hhandler, hupset, hawake, hnano, hop⟩
  have hwindow : windowCycles (getW (instrBegun s.core w.val) w.val) = windowCycles x := by simp [windowCycles, instrBegun, x]
  have hspace : (getW (instrBegun s.core w.val) w.val).micro.cycles + 2 ≤ windowCycles (getW (instrBegun s.core w.val) w.val) := by
    have hcycles : (getW (instrBegun s.core w.val) w.val).micro.cycles = x.micro.cycles := by simp [instrBegun, x]
    omega
  have hdesc : (getW (instrBegun s.core w.val) w.val).desc = some d := by simpa [instrBegun] using hd
  have htarget : regRead (atWord (instrBegun s.core w.val) w.val) w.val 3 = iwTarget x.micro.iw := regRead_target_atWord hnano
  refine ⟨fun hop => ?nop, fun hop htgt => ?jmp, fun hop => ?trig⟩
  case nop =>
    have hflow := flowIllegal_native (c := s.core) (w := w.val) hd hnano (by rw [hop]; decide) (.inl (by rw [hop]; decide))
    obtain ⟨hended, hn, hstop, htrgo, hregs⟩ := (hvendor hop).inProgram.ends (n := windowCycles x + 15) (g := d) (by decide) rfl
      (by omega) hdesc (by simpa [instrBegun, x] using hnxt)
    exact ⟨_, (hvendor hop).makes rfl hflow, hended, hn.trans (by simp [instrBegun, x]), hstop.trans (by simp [instrBegun, x]),
      htrgo.trans (by simp [instrBegun, x]), hregs⟩
  case jmp =>
    have hflow := flowIllegal_native (c := s.core) (w := w.val) hd hnano (by rw [hop]; decide) (.inr htgt)
    have hmov : applyOp (atWord (instrBegun s.core w.val) w.val) w.val (word 0x04 2 3 0 1) =
        (modM (atWord (instrBegun s.core w.val) w.val) w.val (fun y => { y with nxt := iwTarget x.micro.iw }), .next) := by
      rw [applyOp_movTarget, htarget, Nat.mod_eq_of_lt (iwTarget_lt _)]
    have hput : PutsNxt (instrBegun s.core w.val) (modM (atWord (instrBegun s.core w.val) w.val) w.val
        (fun y => { y with nxt := iwTarget x.micro.iw })) w.val (iwTarget x.micro.iw) := by
      constructor <;> simp
    obtain ⟨hended, hn, hstop, htrgo, hregs⟩ := (hvendor hop).inProgram.runs (n := windowCycles x + 14) (g := d) (by decide) rfl rfl
      (by decide) hspace hmov hput hdesc htgt
    exact ⟨_, (hvendor hop).makes rfl hflow, hended, hn.trans (by simp), hstop.trans (by simp [instrBegun, x]),
      hregs.trans hput.regs⟩
  case trig =>
    have hflow := flowIllegal_native (c := s.core) (w := w.val) hd hnano (by rw [hop]; decide) (.inl (by rw [hop]; decide))
    have htrgs : applyOp (atWord (instrBegun s.core w.val) w.val) w.val (word 0x21 0 3 0 1) =
        (setW (atWord (instrBegun s.core w.val) w.val) w.val { getW (atWord (instrBegun s.core w.val) w.val) w.val with
          trgo := x.trgo ||| iwTarget x.micro.iw % 256 }, .next) := by
      rw [applyOp_trgsTarget, htarget]
      simp [instrBegun, x]
    have hput : PutsNxt (instrBegun s.core w.val) (setW (atWord (instrBegun s.core w.val) w.val) w.val
        { getW (atWord (instrBegun s.core w.val) w.val) w.val with trgo := x.trgo ||| iwTarget x.micro.iw % 256 }) w.val
        x.micro.nxt := by
      constructor <;> simp [instrBegun, x]
    obtain ⟨hended, hn, hstop, htrgo, hregs⟩ := (hvendor hop).inProgram.runs (n := windowCycles x + 14) (g := d) (by decide) rfl rfl
      (by decide) hspace htrgs hput hdesc hnxt
    exact ⟨_, (hvendor hop).makes rfl hflow, hended, hn.trans (by simp [instrBegun, x]), htrgo.trans (by simp),
      hstop.trans (by simp [instrBegun, x]), hregs.trans hput.regs⟩

end Sys2Proof.Machine
end

section
/-!
The layout of a microword (R121, Table 4-2).
-/
namespace Sys2Proof.Machine

/-- The fields of a microword in their order, its cycles less one. -/
def microFields (w : MicroWord) : List (Nat × Nat) := [(6, w.op), (5, w.a), (5, w.b), (10, w.imm), (4, w.wait), (2, w.cyc - 1)]

/-- Field `i` of a microword reads back from its place. -/
theorem bits_encodeMicro {w : MicroWord} {lo len v : Nat} (i : Nat) (hv : v < 2 ^ len)
    (hi : (microFields w)[i]? = some (len, v) := by rfl)
    (hlo : fieldPlace (microFields w) i = lo := by simp [fieldPlace, microFields]) : bits (encodeMicro w) lo len = v :=
  bits_packFields_of_lt i hi hlo hv

/-- Settles O9: each field reads back from its own place, and the cycles with their offset of one. -/
theorem microwordFieldsRoundTrip : Obligations.MicrowordFieldsRoundTrip := by
  intro w hop ha hb himm hwait hmin hmax
  have hcyc : w.cyc - 1 < 2 ^ 2 := by omega
  rw [decodeMicro, bits_encodeMicro 0 hop, bits_encodeMicro 1 ha, bits_encodeMicro 2 hb, bits_encodeMicro 3 himm,
    bits_encodeMicro 4 hwait, bits_encodeMicro 5 hcyc, Nat.sub_add_cancel hmin]

end Sys2Proof.Machine
end

section
/-!
Microwords that compute, test and count, and those that end or redirect a microprogram (R119, R123, R126 to R129).
-/
namespace Sys2Proof.Machine

/-! ## What operations leave of a program in progress -/

/-- An operation has left the micro-cycles of the window and the program in progress, which only words of flow change. -/
def KeepsProgram (c d : Core) (w : Nat) : Prop :=
  (getW d w).micro.cycles = (getW c w).micro.cycles ∧ (getW d w).micro.prog = (getW c w).micro.prog

theorem KeepsProgram.refl (c : Core) (w : Nat) : KeepsProgram c c w := ⟨rfl, rfl⟩

theorem KeepsProgram.trans {c d e : Core} {w : Nat} (h : KeepsProgram c d w) (g : KeepsProgram d e w) : KeepsProgram c e w :=
  ⟨g.1.trans h.1, g.2.trans h.2⟩

theorem KeepsProgram.of_micro {c d : Core} {w : Nat} (h : (getW d w).micro = (getW c w).micro) : KeepsProgram c d w :=
  ⟨by rw [h], by rw [h]⟩

theorem setT_keepsProgram (c : Core) (w : Nat) (b : Bool) : KeepsProgram c (setT c w b) w := ⟨setT_cycles c w b, setT_prog c w b⟩

theorem modM_keepsProgram {c : Core} {w : Nat} {f : Micro → Micro} (hcycles : ∀ y, (f y).cycles = y.cycles) (hprog : ∀ y, (f y).prog = y.prog) :
    KeepsProgram c (modM c w f) w :=
  ⟨by rw [getW_modM_same, hcycles], by rw [getW_modM_same, hprog]⟩

theorem modW_keepsProgram {c : Core} {w : Nat} {f : Weaver → Weaver} (h : ∀ x, (f x).micro = x.micro) : KeepsProgram c (modW c w f) w :=
  .of_micro (by rw [modW, getW_setW_same, h])

theorem setW_keepsProgram {c : Core} {w : Nat} {x : Weaver} (h : x.micro = (getW c w).micro) : KeepsProgram c (setW c w x) w :=
  .of_micro (by rw [getW_setW_same, h])

theorem regWrite_keepsProgram (c : Core) (w r v : Nat) : KeepsProgram c (regWrite c w r v) w := by
  unfold regWrite
  dsimp only
  split_ifs
  · exact modM_keepsProgram (fun _ => rfl) (fun _ => rfl)
  · exact modM_keepsProgram (fun _ => rfl) (fun _ => rfl)
  · exact modM_keepsProgram (fun _ => rfl) (fun _ => rfl)
  · exact .refl c w

theorem setCtr_keepsProgram (c : Core) (w a : Nat) (v : Ctr) : KeepsProgram c (setCtr c w a v) w :=
  modW_keepsProgram (fun x => by split_ifs <;> rfl)

theorem clearMto_keepsProgram (c : Core) (w : Nat) :
    KeepsProgram c (sampleMto (modW c w (fun x => { x with mto := false })) w) w := by
  have hclear : KeepsProgram c (modW c w (fun x => { x with mto := false })) w := modW_keepsProgram (fun _ => rfl)
  exact hclear.trans (.of_micro (sampleMto_micro _ _))

theorem putValues_keepsProgram (c : Core) (w : Nat) (mw : MicroWord) (v : Option Nat) (t : Option Bool) :
    KeepsProgram c (putValues c w mw v t) w := by
  have hreg : KeepsProgram c (match v with | some v => regWrite c w mw.a v | none => c) w := by
    cases v with
    | none => exact .refl c w
    | some v => exact regWrite_keepsProgram c w mw.a v
  have hflag (d : Core) : KeepsProgram d (match t with | some t => setT d w t | none => d) w := by
    cases t with
    | none => exact .refl d w
    | some t => exact setT_keepsProgram d w t
  unfold putValues
  dsimp only
  split
  · exact (hreg.trans (hflag _)).trans (clearMto_keepsProgram _ _)
  · exact hreg.trans (hflag _)

/-! ## Words that lead to the next word -/

/-- A command of a word whose operation leads to the next word and neither spends micro-cycles nor ends the program. -/
theorem makes_word_next {i : Instr} {s : State} {w op : Nat} {m : MicroArgs} {d : Core}
    (he : exec i s = didC s (runMicro s.core w (wordOf op m))) (h : WordRuns s.core w (wordOf op m))
    (hop : applyOp (atWord s.core w) w (wordOf op m) = (d, .next)) (hkeeps : KeepsProgram (atWord s.core w) d w)
    (hqueue : op ≠ 0x1F ∧ op ≠ 0x20 := by decide) : Makes i s (wordEnd d w (m.cyc.toNat + 1)) :=
  makes_word he h hop hkeeps.1 hkeeps.2 (fun e => absurd e hqueue.1) (fun e => absurd e hqueue.2)

/-- The operations 0x04 to 0x13 put the values that they compute, and lead to the next word. -/
theorem applyOp_putValues (c : Core) (w : Nat) {mw : MicroWord} (hlo : 4 ≤ mw.op) (hhi : mw.op ≤ 0x13) :
    applyOp c w mw = (putValues c w mw (aluValue c w mw) (testValue c w mw), .next) := by
  obtain ⟨op, a, b, imm, wait, cyc⟩ := mw
  dsimp only at hlo hhi
  interval_cases op <;> rfl

/-- A command of a word of 0x04 to 0x13. -/
theorem makes_values {i : Instr} {s : State} {w op : Nat} {m : MicroArgs} (he : exec i s = didC s (runMicro s.core w (wordOf op m)))
    (h : WordRuns s.core w (wordOf op m)) (hop : 4 ≤ op ∧ op ≤ 0x13 := by decide) :
    Makes i s (wordEnd (putValues (atWord s.core w) w (wordOf op m) (aluValue (atWord s.core w) w (wordOf op m))
      (testValue (atWord s.core w) w (wordOf op m))) w (m.cyc.toNat + 1)) :=
  makes_word_next he h (applyOp_putValues _ _ hop.1 hop.2) (putValues_keepsProgram _ _ _ _ _) (by omega)

/-- A command of a word of 0x04 to 0x0F that writes register A. -/
theorem makes_writeA {i : Instr} {s : State} {w op v : Nat} {m : MicroArgs} (he : exec i s = didC s (runMicro s.core w (wordOf op m)))
    (h : WordRuns s.core w (wordOf op m)) (hv : aluValue (atWord s.core w) w (wordOf op m) = some v)
    (ht : testValue (atWord s.core w) w (wordOf op m) = none) (hop : 4 ≤ op ∧ op ≤ 0xF := by decide) :
    Makes i s (wordEnd (regWrite (atWord s.core w) w m.a.toNat v) w (m.cyc.toNat + 1)) := by
  have hput : putValues (atWord s.core w) w (wordOf op m) (some v) none = regWrite (atWord s.core w) w m.a.toNat v := by
    refine if_neg ?_
    have : (wordOf op m).op = op := rfl
    omega
  have hmakes := makes_values he h (by omega)
  rwa [hv, ht, hput] at hmakes

/-- A command of a word of 0x10 to 0x13 that sets T, other than TST of MTOC, which clears MTO too. -/
theorem makes_setT {i : Instr} {s : State} {w op : Nat} {t : Bool} {m : MicroArgs} (he : exec i s = didC s (runMicro s.core w (wordOf op m)))
    (h : WordRuns s.core w (wordOf op m)) (hv : aluValue (atWord s.core w) w (wordOf op m) = none)
    (ht : testValue (atWord s.core w) w (wordOf op m) = some t) (hmtoc : ¬(op = 0x13 ∧ m.a.toNat = 8))
    (hop : 4 ≤ op ∧ op ≤ 0x13 := by decide) :
    Makes i s (wordEnd (setT (atWord s.core w) w t) w (m.cyc.toNat + 1)) := by
  have hput : putValues (atWord s.core w) w (wordOf op m) none (some t) = setT (atWord s.core w) w t := if_neg hmtoc
  have hmakes := makes_values he h hop
  rwa [hv, ht, hput] at hmakes

/-- Settles O36: each word by the value that its operation computes. -/
theorem microwordArithmetic : Obligations.MicrowordArithmetic := by
  intro s w m c
  refine ⟨?mov, ?movt, ?ldi, ?ldis, ?add, ?sub, ?addi, ?and, ?or, ?xor, ?shl, ?shr⟩
  case mov => exact fun h => makes_writeA rfl h rfl rfl
  case movt =>
    intro h
    cases ht : (getW c w.val).micro.t with
    | true => exact makes_writeA rfl h (if_pos ht) rfl
    | false =>
      have hv : aluValue c w.val (wordOf 0x05 m) = none := if_neg (by simp [ht])
      have hmakes := makes_values (i := .movt w m) rfl h
      rwa [hv] at hmakes
  case ldi => exact fun h => makes_writeA rfl h rfl rfl
  case ldis => exact fun h => makes_writeA rfl h rfl rfl
  case add => exact fun h => makes_writeA rfl h rfl rfl
  case sub => exact fun h => makes_writeA rfl h rfl rfl
  case addi => exact fun h => makes_writeA rfl h rfl rfl
  case and => exact fun h => makes_writeA rfl h rfl rfl
  case or => exact fun h => makes_writeA rfl h rfl rfl
  case xor => exact fun h => makes_writeA rfl h rfl rfl
  case shl => exact fun h => makes_writeA rfl h rfl rfl
  case shr => exact fun h => makes_writeA rfl h rfl rfl

/-! ## CSTEP (R128) -/

/-- CSTEP of an inactive counter loads it for the granule. -/
theorem opCstep_load {c : Core} {w a load : Nat} (h : (ctrOf c w a).active = false) :
    opCstep c w a load = (setT (setCtr c w a { value := load % 2 ^ 18, active := true, owner := (getW c w).k }) w true, .next) := by
  simp [opCstep, stepCtr, h]

/-- CSTEP of a counter of the granule that goes on counts it down. -/
theorem opCstep_count {c : Core} {w a load : Nat} (h : (ctrOf c w a).active = true) (hown : (ctrOf c w a).owner = (getW c w).k)
    (hv : 1 < (ctrOf c w a).value) :
    opCstep c w a load = (setT (setCtr c w a { ctrOf c w a with value := (ctrOf c w a).value - 1 }) w true, .next) := by
  simp [opCstep, stepCtr, h, hown, Nat.not_le.mpr hv]

/-- CSTEP of a counter of the granule at its end clears it. -/
theorem opCstep_end {c : Core} {w a load : Nat} (h : (ctrOf c w a).active = true) (hown : (ctrOf c w a).owner = (getW c w).k)
    (hv : (ctrOf c w a).value ≤ 1) : opCstep c w a load = (setT (setCtr c w a {}) w false, .next) := by
  simp [opCstep, stepCtr, h, hown, hv]

/-- A command of a CSTEP that puts its counter at a value and tells T whether it goes on. -/
theorem makes_cstep {s : State} {w : Fin 64} {m : MicroArgs} {y : Ctr} {t : Bool} (h : WordRuns s.core w.val (wordOf 0x16 m))
    (hop : opCstep (atWord s.core w.val) w.val m.a.toNat (regRead (atWord s.core w.val) w.val m.b.toNat % 2 ^ 18) =
      (setT (setCtr (atWord s.core w.val) w.val m.a.toNat y) w.val t, .next)) :
    Makes (.cstep w m) s (wordEnd (setT (setCtr (atWord s.core w.val) w.val m.a.toNat y) w.val t) w.val (m.cyc.toNat + 1)) :=
  makes_word_next rfl h hop ((setCtr_keepsProgram _ _ _ _).trans (setT_keepsProgram _ _ _))

/-! ## PUSH and POP (R123) -/

theorem applyOp_push {c : Core} {w : Nat} {m : MicroArgs} (h : (getW c w).stack.length < 16) :
    applyOp c w (wordOf 0x18 m) =
      (setW c w { getW c w with stack := (getW c w).stack ++ [regRead c w m.b.toNat % 2 ^ 26] }, .next) := by
  simp [applyOp, wordOf, Nat.ne_of_lt h]

theorem applyOp_pop {c : Core} {w v : Nat} {l : List Nat} {m : MicroArgs} (h : (getW c w).stack = l ++ [v]) :
    applyOp c w (wordOf 0x19 m) = (regWrite (setW c w { getW c w with stack := l }) w m.a.toNat v, .next) := by
  simp [applyOp, wordOf, h]

/-! ## Words of flow -/

theorem applyOp_brc (c : Core) (w : Nat) (m : MicroArgs) :
    applyOp c w (wordOf 0x14 m) = (c, if condHolds c w m.a.toNat = true then
      .branch (((getW c w).micro.upc : Int) + toSigned 10 m.imm.toNat).toNat else .next) := rfl

/-- A program or a handler of an emitting Weaver goes on with its next word, and waits for nothing (R124, R125). -/
structure WordDue (c : Core) (w : Nat) : Prop where
  emits : emitting c w = true
  running : (getW c w).micro.phase = .running
  begun : (getW c w).micro.handler.isSome = true ∨ (getW c w).micro.prog = true
  awake : (getW c w).micro.stalled = false

section
variable {c : Core} {w : Nat} {mw : MicroWord}

theorem WordRuns.prog (h : WordRuns c w mw) : (getW c w).micro.prog = true := by
  obtain ⟨-, -, hprog, -, -, -, -, -, -⟩ := h
  exact hprog

theorem WordRuns.noHandler (h : WordRuns c w mw) : (getW c w).micro.handler = none := by
  obtain ⟨-, -, -, hhandler, -, -, -, -, -⟩ := h
  exact hhandler

theorem WordRuns.legal (h : WordRuns c w mw) : wordIllegal mw (getW c w).micro.upc
    (csRegion (nanoMode c w) (getW c w).micro.upc).1 (csRegion (nanoMode c w) (getW c w).micro.upc).2 = false := by
  obtain ⟨-, -, -, -, -, -, -, -, hlegal⟩ := h
  exact hlegal

theorem WordRuns.due (h : WordRuns c w mw) : WordDue c w := by
  obtain ⟨hemit, hphase, hprog, -, hstalled, -, -, -, -⟩ := h
  exact ⟨hemit, hphase, .inr hprog, hstalled⟩

end

/-- The window stands where a word leaves it, if its program goes on or the window is over. -/
theorem WordDue.runMicro_stays {c d : Core} {w : Nat} {mw : MicroWord} (h : WordDue c w) (hstep : runStep c w (plainStep mw) = d)
    (hon : (getW d w).micro.phase ≠ .running ∨ (getW d w).micro.prog = true) : runMicro c w mw = d := by
  obtain ⟨hemit, hphase, hbegun, hstalled⟩ := h
  have hcaught : caughtUp c w = c := if_neg (by simp [hstalled])
  have hgoes : ¬((getW d w).micro.phase = .running ∧ (getW d w).micro.handler = none ∧ (getW d w).micro.prog = false) := by
    rcases hon with hon | hon <;> simp [hon]
  simp only [runMicro, hemit, hphase, hbegun, hcaught, runWord, hstep, Bool.not_eq_true, hgoes, reduceCtorEq, if_false, and_self,
    false_or, if_true]

/-- A word that ends a handler: the window goes on with what follows it. -/
theorem WordDue.runMicro_resumes {c d : Core} {w : Nat} {mw : MicroWord} (h : WordDue c w) (hstep : runStep c w (plainStep mw) = d)
    (hrun : (getW d w).micro.phase = .running) (hhandler : (getW d w).micro.handler = none) (hprog : (getW d w).micro.prog = false) :
    runMicro c w mw = resume d w := by
  obtain ⟨hemit, hphase, hbegun, hstalled⟩ := h
  have hcaught : caughtUp c w = c := if_neg (by simp [hstalled])
  simp [runMicro, hemit, hphase, hbegun, hcaught, runWord, hstep, hrun, hhandler, hprog]

/-- A command of a word that leads to another word of its region. -/
theorem makes_branch {i : Instr} {s : State} {w op t : Nat} {m : MicroArgs} (he : exec i s = didC s (runMicro s.core w (wordOf op m)))
    (h : WordRuns s.core w (wordOf op m)) (hop : applyOp (atWord s.core w) w (wordOf op m) = (atWord s.core w, .branch t))
    (hlo : (csRegion (nanoMode s.core w) (getW s.core w).micro.upc).1 ≤ t)
    (hhi : t ≤ (csRegion (nanoMode s.core w) (getW s.core w).micro.upc).2) (hqueue : op ≠ 0x1F ∧ op ≠ 0x20 := by decide) :
    Makes i s (modM (spend (atWord s.core w) w (m.cyc.toNat + 1)) w (fun y => { y with upc := t })) := by
  have hstall : stallFor s.core w (wordOf op m) = some 0 :=
    stallFor_none h.wait_eq_zero (fun e => absurd e hqueue.1) (fun e => absurd e hqueue.2)
  have hinside : ¬(t < (csRegion (nanoMode s.core w) (getW s.core w).micro.upc).1 ∨
      (csRegion (nanoMode s.core w) (getW s.core w).micro.upc).2 < t) := by omega
  have hstep := runStep_runs h hstall hop (by simp)
  rw [wordLeads, if_neg hinside] at hstep
  exact makes_didC he (h.due.runMicro_stays hstep (.inr (by simpa using h.prog)))

/-- A legal BRC names a word of its region (R129). -/
theorem brcTarget_inside {mw : MicroWord} {a lo hi : Nat} (hop : mw.op = 0x14) (h : wordIllegal mw a lo hi = false) :
    (lo : Int) ≤ a + sextImm mw.imm ∧ (a : Int) + sextImm mw.imm ≤ hi := by
  simp only [wordIllegal, wordRefused, Bool.or_eq_false_iff] at h
  obtain ⟨-, ⟨⟨⟨-, hregion⟩, -⟩, -⟩, -⟩ := h
  simpa [hop] using hregion

/-- A program has ended when DONE has. -/
theorem finishInstr_phase (c : Core) (w : Nat) : (getW (finishInstr c w) w).micro.phase = .ended := by
  unfold finishInstr
  dsimp only
  split
  · split <;> simp
  · simp

/-- A TRET without a WAIT is legal at every place (R129). -/
theorem wordIllegal_tret {m : MicroArgs} (hwait : m.wait = 0) (a lo hi : Nat) : wordIllegal (wordOf 0x02 m) a lo hi = false := by
  simp [wordIllegal, wordRefused, wordOf, writesA, hwait]

/-- TRET ends its handler (R126). -/
theorem runStep_tret {c : Core} {w n : Nat} {m : MicroArgs} (hhandler : (getW c w).micro.handler = some n) (hwait : m.wait = 0)
    (hroom : (getW c w).micro.cycles + m.cyc.toNat + 1 ≤ windowCycles (getW c w)) :
    runStep c w (plainStep (wordOf 0x02 m)) =
      modM (spend (atWord c w) w (m.cyc.toNat + 1)) w (fun y => { y with handler := none, prog := false }) := by
  have hlegal (a lo hi : Nat) := stepIllegal_plainStep (wordIllegal_tret hwait a lo hi)
  have hopa : (plainStep (wordOf 0x02 m)).opa = wordOf 0x02 m := rfl
  have hcyc : (wordOf 0x02 m).cyc = m.cyc.toNat + 1 := rfl
  have hstall : stallFor c w (wordOf 0x02 m) = some 0 := stallFor_none (by simp [wordOf, hwait]) (by simp [wordOf]) (by simp [wordOf])
  have hstart : ¬ windowCycles (getW c w) ≤ (getW c w).micro.cycles + 0 := by omega
  have hat : spend (modM c w (fun y => { y with stalled := false })) w 0 = atWord c w := rfl
  have hop : applyOp (atWord c w) w (wordOf 0x02 m) = (atWord c w, .finish) := if_neg (by simp [hhandler])
  have hintime : ¬ windowCycles (getW c w) < (getW (spend (atWord c w) w (m.cyc.toNat + 1)) w).micro.cycles := by
    simp only [getW_spend, getW_atWord, Weaver.withTimers]
    omega
  simp only [runStep, hlegal, hopa, hstall, hstart, hat, hop, applySecond_plainStep, stepCtl_plainStep, hcyc, hintime, hhandler,
    Bool.false_eq_true, if_false, decide_false, Option.isSome_some, if_true]

theorem illegalWord_phase (c : Core) (w : Nat) : (getW (illegalWord c w) w).micro.phase ≠ .running := by
  simp [illegalWord]

/-- ILL is illegal at every place (R129). -/
theorem runStep_ill (c : Core) (w : Nat) (m : MicroArgs) : runStep c w (plainStep (wordOf 0x03 m)) = illegalWord c w := by
  have hill (a lo hi : Nat) : stepIllegal (plainStep (wordOf 0x03 m)) a lo hi = true := by
    simp [stepIllegal, plainStep, wordIllegal, wordOf]
  simp only [runStep, hill, if_true]

/-- Settles O37: the words that lead on by what their operation does, those of flow by where they lead. -/
theorem microwordTestsAndFlow : Obligations.MicrowordTestsAndFlow := by
  intro s w m c
  refine ⟨?nop, ?teq, ?tlt, ?tbit, ?tst, ?tstMto, ?brcStays, ?brc, ?jmpr, ?load, ?count, ?countEnd, ?cclr, ?push, ?pop, ?done, ?tret, ?ill⟩
  case nop => exact fun h => makes_word_next rfl h rfl (.refl _ _)
  case teq => exact fun h => makes_setT rfl h rfl rfl (by simp)
  case tlt => exact fun h => makes_setT rfl h rfl rfl (by simp)
  case tbit => exact fun h => makes_setT rfl h rfl rfl (by simp)
  case tst => exact fun h ha => makes_setT rfl h rfl rfl (fun hm => ha hm.2)
  case tstMto =>
    intro h ha
    have hput : putValues c w.val (wordOf 0x13 m) none (some (condHolds c w.val m.a.toNat)) =
        sampleMto (modW (setT c w.val (condHolds c w.val 8)) w.val (fun x => { x with mto := false })) w.val := by
      rw [ha]
      exact if_pos ⟨rfl, ha⟩
    exact hput ▸ makes_values (i := .tst w m) rfl h
  case brcStays =>
    intro h hcond
    refine makes_word_next rfl h ?_ (.refl _ _)
    rw [applyOp_brc, hcond, if_neg Bool.false_ne_true]
  case brc =>
    intro h hcond
    obtain ⟨hlo, hhi⟩ := brcTarget_inside rfl h.legal
    have hupc : (getW c w.val).micro.upc = (getW s.core w.val).micro.upc := by simp [c]
    have himm : sextImm (wordOf 0x14 m).imm = toSigned 10 m.imm.toNat := rfl
    rw [himm] at hlo hhi
    refine makes_branch rfl h (t := (((getW c w.val).micro.upc : Int) + toSigned 10 m.imm.toNat).toNat) ?_ ?_ ?_
    · rw [applyOp_brc, hcond, if_pos rfl]
    · omega
    · omega
  case jmpr => exact fun h hlo hhi => makes_branch rfl h rfl hlo hhi
  case load =>
    intro h hact
    have hop := opCstep_load (load := regRead c w.val m.b.toNat % 2 ^ 18) hact
    rw [Nat.mod_mod] at hop
    exact makes_cstep h hop
  case count => exact fun h hact hown hv => makes_cstep h (opCstep_count hact hown hv)
  case countEnd => exact fun h hact hown hv => makes_cstep h (opCstep_end hact hown hv)
  case cclr => exact fun h => makes_word_next rfl h rfl (setCtr_keepsProgram _ _ _ _)
  case push =>
    intro h hroom
    exact makes_word_next rfl h (applyOp_push hroom) (setW_keepsProgram rfl)
  case pop =>
    intro l v h hstack
    have hrest : KeepsProgram c (setW c w.val { getW c w.val with stack := l }) w.val := setW_keepsProgram rfl
    exact makes_word_next rfl h (applyOp_pop hstack) (hrest.trans (regWrite_keepsProgram _ _ _ _))
  case done =>
    intro h
    have hop : applyOp c w.val (wordOf 0x01 m) = (c, .finish) := if_neg (by simp [c, h.noHandler])
    have hstall : stallFor s.core w.val (wordOf 0x01 m) = some 0 := stallFor_none h.wait_eq_zero (by simp [wordOf]) (by simp [wordOf])
    have hstep := runStep_runs h hstall hop (by simp [c])
    exact makes_didC rfl (h.due.runMicro_stays hstep (.inl (by simp [finishInstr_phase])))
  case tret =>
    intro n hemit hphase hhandler hwait hstalled hroom
    have hdue : WordDue s.core w.val := ⟨hemit, hphase, .inl (by simp [hhandler]), hstalled⟩
    exact makes_didC rfl (hdue.runMicro_resumes (runStep_tret hhandler hwait hroom) (by simpa [c] using hphase) (by simp) (by simp))
  case ill =>
    intro hemit hphase hprog hstalled
    have hdue : WordDue s.core w.val := ⟨hemit, hphase, .inr hprog, hstalled⟩
    exact makes_didC rfl (hdue.runMicro_stays (runStep_ill s.core w.val m) (.inl (illegalWord_phase _ _)))

end Sys2Proof.Machine
end

section
/-!
The micro-timers and the objects of the control store (R131 to R133, R138, R143 to R145; Table 4-15).
-/
namespace Sys2Proof.Machine

/-! ## The objects (Table 4-15) -/

theorem objIs_nanoMode (w : Fin 64) : objIs (wk w.val 0xC) .bool (.rwm [.standby, .warm]) (.nat 0 1) = true := by
  revert w; decide +kernel

theorem objIs_shadowSlot (w : Fin 64) : objIs (wk w.val 0xF) .u8 .rw (.nat 0 1) = true := by revert w; decide +kernel

theorem objIs_userUcode (w : Fin 64) : objIs (wk w.val 0x10) .domain .rw .any = true := by revert w; decide +kernel

theorem objIs_exchange (w : Fin 64) : objIs (wk w.val 0x11) .bool .wo (.nat 1 1) = true := by revert w; decide +kernel

theorem domMax_userUcode (w : Fin 64) : domMax (wk w.val 0x10) = 8320 := by revert w; decide +kernel

/-- Two objects of a Weaver are one where their sub-indices are. -/
@[simp] theorem wk_eq_iff (w i j : Nat) : wk w i = wk w j ↔ i = j := by simp [wk, mkKey]

/-- No object of a Weaver is a job object of the journal or needs authentication. -/
theorem wk_free (w : Fin 64) {sub : Nat} (h : sub < 256) :
    (keyIx (wk w.val sub) == 0x5800 && keySub (wk w.val sub) == 2) = false ∧ (wk w.val sub == dk 3 || wk w.val sub == dk 4) = false := by
  have hix : keyIx (wk w.val sub) ≠ 0x5800 := by
    simp only [keyIx, wk, mkKey]
    omega
  have hdk (j : Nat) (hj : j < 256) : wk w.val sub ≠ dk j := by
    refine Nat.ne_of_gt ?_
    simp only [wk, dk, mkKey]
    omega
  simp [hix, hdk]

theorem closedTo_wk {c : Core} (w : Fin 64) {sub : Nat} (ho : Open c) (h : sub < 256 := by decide) : closedTo c (wk w.val sub) = false :=
  closedTo_open ho (wk_free w h).1

theorem writeFail_nanoMode {c : Core} {w : Fin 64} {v : Nat} (ho : Open c) (hm : InModes c [.standby, .warm]) (hv : v ≤ 1) :
    writeFail c false (wk w.val 0xC) v 0 0 = none := by
  have hwidth : ¬ 2 ^ (8 * ObjTy.bool.width) ≤ v := by simp only [ObjTy.width]; omega
  exact writeFail_none (objIs_nanoMode w) ho (by simp [hwidth]) rfl (wk_free w (by decide)).2 rfl (modeAccepts_rwm hm)
    (by simp [typeFail, hv]) (by simp [rangeFail, hv])

theorem writeFail_shadowSlot {c : Core} {w : Fin 64} {v : Nat} (ho : Open c) (hv : v ≤ 1) :
    writeFail c false (wk w.val 0xF) v 0 0 = none := by
  have hwidth : ¬ 2 ^ (8 * ObjTy.u8.width) ≤ v := by simp only [ObjTy.width]; omega
  exact writeFail_none (objIs_shadowSlot w) ho (by simp [hwidth]) rfl (wk_free w (by decide)).2 rfl rfl rfl (by simp [rangeFail, hv])

theorem writeFail_exchange {c : Core} (w : Fin 64) (ho : Open c) : writeFail c false (wk w.val 0x11) 1 0 0 = none :=
  writeFail_none (objIs_exchange w) ho rfl rfl (wk_free w (by decide)).2 rfl rfl rfl rfl

theorem blockFail_userUcode {c : Core} (w : Fin 64) (ho : Open c) : blockFail c false (wk w.val 0x10) = none :=
  blockFail_none (objIs_userUcode w) ho rfl (wk_free w (by decide)).2 rfl

/-- An object whose value is not 1 reads as a cleared flag. -/
theorem rdb_of_ne {c : Core} {k : Key} (h : rd c k ≠ 1) : rdb c k = false := beq_eq_false_iff_ne.mpr h

/-! ## The banks (R118, R137) -/

theorem getW_wr (c : Core) (k : Key) (v w : Nat) : getW (wr c k v) w = getW c w := rfl

theorem activeCs_wr (c : Core) {w sub : Nat} (v : Nat) (h : sub ≠ 0xD) : activeCs (wr c (wk w sub) v) w = activeCs c w := by
  simp only [activeCs, getW_wr, rd_wr, wk_eq_iff, h.symm, if_false]

theorem shadowCs_wr (c : Core) {w sub : Nat} (v : Nat) (h : sub ≠ 0xD) : shadowCs (wr c (wk w sub) v) w = shadowCs c w := by
  simp only [shadowCs, getW_wr, rd_wr, wk_eq_iff, h.symm, if_false]

theorem rd_modW (c : Core) (w : Nat) (f : Weaver → Weaver) (k : Key) : rd (modW c w f) k = rd c k := rfl

theorem getW_modW_same (c : Core) (w : Nat) (f : Weaver → Weaver) : getW (modW c w f) w = f (getW c w) := getW_setW_same _ _ _

/-- The bank that is put in the shadow place stands there. -/
theorem shadowCs_setShadowCs (c : Core) (w : Nat) (b : CsBank) : shadowCs (setShadowCs c w b) w = b := by
  simp only [shadowCs, setShadowCs, rd_modW, getW_modW_same]
  split <;> rfl

/-- The active bank stands when the shadow place takes a bank. -/
theorem activeCs_setShadowCs (c : Core) (w : Nat) (b : CsBank) : activeCs (setShadowCs c w b) w = activeCs c w := by
  simp only [activeCs, setShadowCs, rd_modW, getW_modW_same]
  split <;> rfl

theorem rd_setShadowCs (c : Core) (w : Nat) (b : CsBank) (k : Key) : rd (setShadowCs c w b) k = rd c k := rfl

/-! ## NANO_MODE (R138) -/

/-- The bank that a NANO_MODE write loads: that of the running slot in its mode, and none without microcode (log 66). -/
def runningBank (c : Core) (v : Nat) : CsBank :=
  if rd c (mkKey 0x100A 1) = 0 then {} else vendorBank (rd c (mkKey 0x100A 2)) (v == 1)

/-- The block when a NANO_MODE write has loaded its Weaver. -/
def modeLoaded (c : Core) (w v : Nat) : Core :=
  modW c w (fun x => { x with
    bankA := if rd c (wk w 0xD) = 0 then runningBank c v else {}
    bankB := if rd c (wk w 0xD) = 0 then {} else runningBank c v
    nanoSlot := if v = 1 then some (rd c (mkKey 0x100A 2)) else none
    nano := if v = 1 then horotNano else x.nano })

/-- The block after a NANO_MODE write. -/
def modeWritten (c : Core) (w v : Nat) : Core :=
  wr (wr (wr (wr (modeLoaded c w v) (wk w 0xC) v) (wk w 0xE) 0) (wk w 0x12) 0) (wk w 0x17) 0

theorem writeNanoMode_ok {c : Core} {w v : Nat} (hv : v ≤ 1) : writeNanoMode c w v = .ok (modeWritten c w v) :=
  if_neg (Nat.not_lt.mpr hv)

theorem activeCs_modeLoaded (c : Core) (w v : Nat) : activeCs (modeLoaded c w v) w = runningBank c v := by
  simp only [activeCs, modeLoaded, rd_modW, getW_modW_same]
  split <;> rfl

theorem shadowCs_modeLoaded (c : Core) (w v : Nat) : shadowCs (modeLoaded c w v) w = {} := by
  simp only [shadowCs, modeLoaded, rd_modW, getW_modW_same]
  split <;> rfl

theorem activeCs_modeWritten (c : Core) (w v : Nat) : activeCs (modeWritten c w v) w = runningBank c v := by
  rw [modeWritten, activeCs_wr _ _ (by decide), activeCs_wr _ _ (by decide), activeCs_wr _ _ (by decide), activeCs_wr _ _ (by decide),
    activeCs_modeLoaded]

theorem shadowCs_modeWritten (c : Core) (w v : Nat) : shadowCs (modeWritten c w v) w = {} := by
  rw [modeWritten, shadowCs_wr _ _ (by decide), shadowCs_wr _ _ (by decide), shadowCs_wr _ _ (by decide), shadowCs_wr _ _ (by decide),
    shadowCs_modeLoaded]

/-- The nano store is filled on entry to nano mode. -/
theorem nano_modeWritten (c : Core) (w : Nat) : (getW (modeWritten c w 1) w).nano = horotNano := by
  simp only [modeWritten, getW_wr, modeLoaded, getW_modW_same, if_true]

theorem rd_modeWritten (c : Core) (w v : Nat) (k : Key) :
    rd (modeWritten c w v) k = if k = wk w 0x17 then 0 else if k = wk w 0x12 then 0 else if k = wk w 0xE then 0
      else if k = wk w 0xC then v else rd c k := by
  simp only [modeWritten, rd_wr, modeLoaded, rd_modW]

/-! ## SHADOW_SLOT, USER_UCODE and EXCHANGE (R131, R132, R143, R144) -/

/-- The block after an accepted SHADOW_SLOT. -/
def shadowLoaded (c : Core) (w slot : Nat) (good : Bool) : Core :=
  wr (wr (setShadowCs c w (vendorBank slot (nanoMode c w))) (wk w 0xF) slot) (wk w 0xE) (if good then 1 else 2)

/-- A SHADOW_SLOT of a valid slot is accepted while no exchange waits, in nano mode where the slot's nano part is loaded. -/
theorem writeShadowSlot_ok {c : Core} {w slot : Nat} {good : Bool} (hs : slot ≤ 1) (hp : rd c (wk w 0x12) ≠ 1) (hu : ucodeValid c slot = true)
    (hn : nanoMode c w = false ∨ (getW c w).nanoSlot = some slot) :
    writeShadowSlot c w slot good = .ok (shadowLoaded c w slot good) := by
  have hpending := rdb_of_ne hp
  have hrange : ¬ 1 < slot := Nat.not_lt.mpr hs
  rcases hn with hn | hn <;> simp only [writeShadowSlot, hrange, guardSt, hpending, hu, hn, shadowLoaded, beq_self_eq_true, Bool.not_false,
    Bool.true_or, Bool.or_true, Bool.and_self, if_false, if_true]

theorem shadowCs_shadowLoaded (c : Core) (w slot : Nat) (good : Bool) :
    shadowCs (shadowLoaded c w slot good) w = vendorBank slot (nanoMode c w) := by
  rw [shadowLoaded, shadowCs_wr _ _ (by decide), shadowCs_wr _ _ (by decide), shadowCs_setShadowCs]

theorem activeCs_shadowLoaded (c : Core) (w slot : Nat) (good : Bool) : activeCs (shadowLoaded c w slot good) w = activeCs c w := by
  rw [shadowLoaded, activeCs_wr _ _ (by decide), activeCs_wr _ _ (by decide), activeCs_setShadowCs]

theorem rd_shadowLoaded (c : Core) (w slot : Nat) (good : Bool) (k : Key) :
    rd (shadowLoaded c w slot good) k = if k = wk w 0xE then (if good then 1 else 2) else if k = wk w 0xF then slot else rd c k := by
  simp only [shadowLoaded, rd_wr, rd_setShadowCs]

/-- An acceptable user part is within the size of its object. -/
theorem userPartOk_length {data : List Byte} (h : userPartOk data = true) : data.length ≤ 8320 := by
  simp only [userPartOk, Bool.and_eq_true, decide_eq_true_eq] at h
  obtain ⟨⟨⟨⟨-, hmax⟩, -⟩, -⟩, -⟩ := h
  exact hmax

/-- An acceptable user part goes to a READY shadow bank in native mode while no exchange waits. -/
theorem writeUserUcode_ok {c : Core} {w : Nat} {data : List Byte} (hd : userPartOk data = true) (hr : rd c (wk w 0xE) = 1)
    (hp : rd c (wk w 0x12) ≠ 1) (hn : nanoMode c w = false) :
    writeUserUcode c w data = .ok (setShadowCs c w (withUser (shadowCs c w) ((List.range 32).map (fun i => leAt data (2 * i) 2))
      ((List.range 8).map (fun i => leAt data (64 + 2 * i) 2)) (userWords data))) := by
  have hpending := rdb_of_ne hp
  simp [writeUserUcode, guardSt, hd, hr, hpending, hn]

/-- EXCHANGE of a READY shadow bank in IDLE and STOPPED. -/
theorem writeExchange_now {c : Core} {w : Nat} (hr : rd c (wk w 0xE) = 1) (hs : wState c w = 0 ∨ wState c w = 4) :
    writeExchange c w = .ok (swapBanks c w) := by
  simp only [writeExchange, guardSt, hr, beq_self_eq_true, if_true, hs]

/-- EXCHANGE of a READY shadow bank in the other states. -/
theorem writeExchange_waits {c : Core} {w : Nat} (hr : rd c (wk w 0xE) = 1) (h0 : wState c w ≠ 0) (h4 : wState c w ≠ 4) :
    writeExchange c w = .ok (wr c (wk w 0x12) 1) := by
  simp only [writeExchange, guardSt, hr, beq_self_eq_true, if_true, h0, h4, or_self, if_false]

/-! ## The statement -/

/-- Settles O39: the expiry by its branch; each write passes its checks, and its effect is that of the branch that the hypotheses
select. -/
theorem controlStoreObjects : Obligations.ControlStoreObjects := by
  unfold Obligations.ControlStoreObjects
  refine ⟨?timer, ?nanoMode, ?shadowSlot, ?userUcode, ?exchange, ?exchangeWaits⟩
  case timer =>
    intro s w n hemit hmt hclock
    exact makes_didC rfl (if_pos ⟨hemit, hmt, hclock⟩)
  case nanoMode =>
    intro s w v ho hm hv
    have haccepts : Accepts (.nanoMode w v) s (modeWritten s.core w.val v.toNat) :=
      accepts_scalar rfl (writeFail_nanoMode ho hm hv) (closedTo_wk w ho) (effW_ok (writeNanoMode_ok hv))
    have hactive := activeCs_modeWritten s.core w.val v.toNat
    rw [runningBank] at hactive
    have hshadow := shadowCs_modeWritten s.core w.val v.toNat
    refine ⟨_, haccepts, ?_, ?_, ?_, ?_, hactive, hshadow, ?_, ?_⟩
    · simp [rd_modeWritten]
    · simp [rd_modeWritten]
    · simp [rd_modeWritten]
    · simp [rd_modeWritten]
    · intro hv1
      rw [hv1]
      exact nano_modeWritten _ _
    · intro k hk
      simp only [List.mem_cons, List.not_mem_nil, or_false, not_or] at hk
      simp [rd_modeWritten, hk]
  case shadowSlot =>
    intro s w v good ho hv hp hu hn
    have haccepts : Accepts (.shadowSlot w v good) s (shadowLoaded s.core w.val v.toNat good) :=
      accepts_scalar rfl (writeFail_shadowSlot ho hv) (closedTo_wk w ho) (effW_ok (writeShadowSlot_ok hv hp hu hn))
    have hshadow := shadowCs_shadowLoaded s.core w.val v.toNat good
    have hactive := activeCs_shadowLoaded s.core w.val v.toNat good
    refine ⟨_, haccepts, ?_, ?_, hshadow, hactive, ?_⟩
    · simp [rd_shadowLoaded]
    · simp [rd_shadowLoaded]
    · intro k hk
      simp only [List.mem_cons, List.not_mem_nil, or_false, not_or] at hk
      simp [rd_shadowLoaded, hk]
  case userUcode =>
    intro s w data ho hd hr hp hn
    exact accepts_domain rfl (blockFail_userUcode w ho) (closedTo_wk w ho) (by rw [domMax_userUcode]; exact userPartOk_length hd)
      (effW_ok (writeUserUcode_ok hd hr hp hn))
  case exchange =>
    intro s w ho hr hs
    exact accepts_scalar rfl (writeFail_exchange w ho) (closedTo_wk w ho) (effW_ok (writeExchange_now hr hs))
  case exchangeWaits =>
    intro s w ho hr h0 h4
    exact accepts_scalar rfl (writeFail_exchange w ho) (closedTo_wk w ho) (effW_ok (writeExchange_waits hr h0 h4))

end Sys2Proof.Machine
end

section
/-!
The comparator results, the glitch filter and the compare hold-off (R163, R164, R169), and the write commands of the pins and of
their timing sets (R159, R160, R475).
-/
namespace Sys2Proof.Machine

/-! ## What the passing of time leaves of the pins -/

@[simp] theorem elapse_pins (c : Core) (n : Nat) : (elapse c n).pins = c.pins := by
  unfold elapse
  split <;> rfl

@[simp] theorem elapseTo_pins (c : Core) (t : Nat) : (elapseTo c t).pins = c.pins := by
  unfold elapseTo
  split
  · exact elapse_pins _ _
  · rfl

@[simp] theorem rd_elapseTo (c : Core) (t : Nat) (k : Key) : rd (elapseTo c t) k = rd c k := rd_congr (elapseTo_regs c t) k

@[simp] theorem getPin_elapseTo (c : Core) (t p : Nat) : getPin (elapseTo c t) p = getPin c p := by
  simp only [getPin, elapseTo_pins]

theorem elapse_stamp {c : Core} (n : Nat) (h : clockBit c 5 = true) : (elapse c n).stamp = c.stamp + 4096 * n := by
  simp [elapse, h, tallyEvents]

/-- With the stamp clock running, time reaches the cycle that holds the tick. -/
theorem lt_stamp_elapseTo {c : Core} (t : Nat) (h : clockBit c 5 = true) : t < (elapseTo c t).stamp + 4096 := by
  unfold elapseTo
  split
  · rw [elapse_stamp _ h]
    omega
  · next hnear =>
    have : ¬ c.stamp + 4096 ≤ t := fun hle => hnear ⟨h, hle⟩
    omega

/-! ## Changes of a pin -/

@[simp] theorem modPin_regs (c : Core) (p : Nat) (f : Pin → Pin) : (modPin c p f).regs = c.regs := rfl

@[simp] theorem rd_modPin (c : Core) (p : Nat) (f : Pin → Pin) (k : Key) : rd (modPin c p f) k = rd c k := rfl

@[simp] theorem getPin_modPin_same (c : Core) (p : Nat) (f : Pin → Pin) : getPin (modPin c p f) p = f (getPin c p) :=
  getPin_setPin_same _ _ _

@[simp] theorem getPin_wr (c : Core) (k : Key) (v p : Nat) : getPin (wr c k v) p = getPin c p := rfl

@[simp] theorem candOf_setCand (x : Pin) (line : CmpLine) (v : Option (Nat × Bool)) : candOf (setCand x line v) line = v := by
  cases line <;> rfl

@[simp] theorem setCand_history (x : Pin) (line : CmpLine) (v : Option (Nat × Bool)) : (setCand x line v).history = x.history := by
  cases line <;> rfl

/-- What the filter judges does not depend on the changes accepted so far. -/
theorem candOf_history (x : Pin) (line : CmpLine) (l : List CmpChange) : candOf { x with history := l } line = candOf x line := by
  cases line <;> rfl

/-! ## An accepted change (R163) -/

@[simp] theorem noteTe_regs (c : Core) (p : Nat) (level : Bool) (t : Nat) : (noteTe c p level t).regs = c.regs := by
  refine foldl_keeps Core.regs (fun c g => ?_) _ c
  split <;> rfl

@[simp] theorem noteTe_pins (c : Core) (p : Nat) (level : Bool) (t : Nat) : (noteTe c p level t).pins = c.pins := by
  refine foldl_keeps Core.pins (fun c g => ?_) _ c
  split <;> rfl

@[simp] theorem noteTe_stamp (c : Core) (p : Nat) (level : Bool) (t : Nat) : (noteTe c p level t).stamp = c.stamp := by
  refine foldl_keeps Core.stamp (fun c g => ?_) _ c
  split <;> rfl

@[simp] theorem getPin_noteTe (c : Core) (p q : Nat) (level : Bool) (t : Nat) : getPin (noteTe c p level t) q = getPin c q := by
  simp only [getPin, noteTe_pins]

/-- A pin after an accepted change of a line. -/
theorem getPin_acceptChange (c : Core) (p : Nat) (line : CmpLine) (t : Nat) (level : Bool) :
    getPin (acceptChange c p line t level) p =
      { setCand (getPin c p) line none with history := (getPin c p).history ++ [{ at_ := t, line := line, level := level }] } := by
  unfold acceptChange
  dsimp only
  split
  · rw [getPin_noteTe, getPin_modPin_same]
  · rw [getPin_modPin_same]

@[simp] theorem acceptChange_regs (c : Core) (p : Nat) (line : CmpLine) (t : Nat) (level : Bool) :
    (acceptChange c p line t level).regs = c.regs := by
  unfold acceptChange
  dsimp only
  split
  · rw [noteTe_regs, modPin_regs]
  · rw [modPin_regs]

@[simp] theorem acceptChange_stamp (c : Core) (p : Nat) (line : CmpLine) (t : Nat) (level : Bool) :
    (acceptChange c p line t level).stamp = c.stamp := by
  unfold acceptChange
  dsimp only
  split
  · rw [noteTe_stamp]; rfl
  · rfl

/-- An accepted change ends what the filter judges of its line. -/
theorem candOf_acceptChange (c : Core) (p : Nat) (line : CmpLine) (t : Nat) (level : Bool) :
    candOf (getPin (acceptChange c p line t level) p) line = none := by
  rw [getPin_acceptChange, candOf_history, candOf_setCand]

/-- An accepted change takes effect at its own instant. -/
theorem history_acceptChange (c : Core) (p : Nat) (line : CmpLine) (t : Nat) (level : Bool) :
    (getPin (acceptChange c p line t level) p).history = (getPin c p).history ++ [{ at_ := t, line := line, level := level }] := by
  rw [getPin_acceptChange]

/-! ## COMPARATOR_CHANGE (R163, R169) -/

/-- A pin whose level at the ball of a line is another, after POLARITY. -/
def Pin.withRaw (x : Pin) : CmpLine → Bool → Pin
  | .high, lv => { x with rawH := lv }
  | .low, lv => { x with rawL := lv }

@[simp] theorem candOf_withRaw (x : Pin) (line l : CmpLine) (lv : Bool) : candOf (x.withRaw line lv) l = candOf x l := by
  cases line <;> cases l <;> rfl

@[simp] theorem withRaw_history (x : Pin) (line : CmpLine) (lv : Bool) : (x.withRaw line lv).history = x.history := by
  cases line <;> rfl

@[simp] theorem lastAccepted_withRaw (x : Pin) (line l : CmpLine) (lv : Bool) : lastAccepted (x.withRaw line lv) l = lastAccepted x l := by
  cases line <;> rfl

/-- The block when the level at the ball has changed, before the filter sees it. -/
def ballChanged (c : Core) (p : Nat) (line : CmpLine) (level : Bool) (instant : Nat) : Core :=
  modPin (elapseTo c (nearInstant c.stamp (2 ^ 64) instant)) p (fun x => x.withRaw line (polarLevel c p line level))

/-- COMPARATOR_CHANGE by its branches: the level at the ball moves, and outside ISOLATED the filter sees the change. -/
theorem comparatorChanged_eq (c : Core) (p : Nat) (line : CmpLine) (level : Bool) (instant : Nat) :
    comparatorChanged c p line level instant =
      let t := nearInstant c.stamp (2 ^ 64) instant
      let lv := polarLevel c p line level
      let c2 := ballChanged c p line level instant
      if rd c (pk p 9) = 0 then c2
      else
        let c3 := judgeCand c2 p line t
        if lastAccepted (getPin c3 p) line = lv then c3
        else if glitchOf c3 p = 0 then acceptChange c3 p line t lv
        else modPin c3 p (fun x => setCand x line (some (t, lv))) := by
  have hpolar : polarLevel (elapseTo c (nearInstant c.stamp (2 ^ 64) instant)) p line level = polarLevel c p line level := by
    simp only [polarLevel, rd_elapseTo]
  have hstate : rd (ballChanged c p line level instant) (pk p 9) = rd c (pk p 9) := rd_elapseTo _ _ _
  unfold comparatorChanged
  dsimp only
  rw [hpolar, ← hstate]
  cases line <;> rfl

@[simp] theorem ballChanged_regs (c : Core) (p : Nat) (line : CmpLine) (level : Bool) (instant : Nat) :
    (ballChanged c p line level instant).regs = c.regs := elapseTo_regs _ _

@[simp] theorem getPin_ballChanged (c : Core) (p : Nat) (line : CmpLine) (level : Bool) (instant : Nat) :
    getPin (ballChanged c p line level instant) p = (getPin c p).withRaw line (polarLevel c p line level) := by
  rw [ballChanged, getPin_modPin_same, getPin_elapseTo]

@[simp] theorem glitchOf_ballChanged (c : Core) (p : Nat) (line : CmpLine) (level : Bool) (instant : Nat) :
    glitchOf (ballChanged c p line level instant) p = glitchOf c p := by
  rw [glitchOf, getPin_ballChanged]
  cases line <;> rfl

/-- At an ISOLATED pin the level at the ball moves, and nothing else. -/
theorem comparatorChanged_isolated {c : Core} {p : Nat} (line : CmpLine) (level : Bool) (instant : Nat) (h : rd c (pk p 9) = 0) :
    comparatorChanged c p line level instant = ballChanged c p line level instant := by
  rw [comparatorChanged_eq]
  exact if_pos h

/-- At another pin, with nothing under judgement, a level that differs from the last accepted one is accepted or waits (R163). -/
theorem comparatorChanged_differs {c : Core} {p : Nat} {line : CmpLine} {level : Bool} (instant : Nat) (hs : rd c (pk p 9) ≠ 0)
    (hcand : candOf (getPin c p) line = none) (hlast : lastAccepted (getPin c p) line ≠ polarLevel c p line level) :
    comparatorChanged c p line level instant =
      if glitchOf c p = 0 then
        acceptChange (ballChanged c p line level instant) p line (nearInstant c.stamp (2 ^ 64) instant) (polarLevel c p line level)
      else modPin (ballChanged c p line level instant) p
        (fun x => setCand x line (some (nearInstant c.stamp (2 ^ 64) instant, polarLevel c p line level))) := by
  have hjudge : judgeCand (ballChanged c p line level instant) p line (nearInstant c.stamp (2 ^ 64) instant) =
      ballChanged c p line level instant := by
    rw [judgeCand, getPin_ballChanged, candOf_withRaw, hcand]
  rw [comparatorChanged_eq]
  dsimp only
  rw [if_neg hs, hjudge, getPin_ballChanged, lastAccepted_withRaw, if_neg hlast, glitchOf_ballChanged]

/-! ## GLITCH_FILTER_ACCEPT and HOLDOFF_END (R163, R164) -/

/-- The level that the filter judges is accepted once time has reached the end of its GLITCH_W ticks. -/
theorem glitchAccepted_eq {c : Core} {p : Nat} {line : CmpLine} {t : Nat} {lv : Bool} (h : candOf (getPin c p) line = some (t, lv)) :
    glitchAccepted c p line = acceptChange (elapseTo c (t + glitchOf c p)) p line t lv := by
  rw [glitchAccepted, h]

/-- The end of a hold-off: time reaches it, and it may be a TE edge. -/
theorem holdoffEnded_cases {c : Core} {p e : Nat} (h : holdoffEndOf c p = some e) :
    holdoffEnded c p = elapseTo c e ∨ ∃ level, holdoffEnded c p = noteTe (elapseTo c e) p level e := by
  rw [holdoffEnded, h]
  exact (ite_eq_or_eq _ _ _).imp_right (fun h => ⟨_, h⟩)

/-! ## The objects (Tables 5-6 and 5-13) -/

theorem objIs_tsetShadow (p : Fin 256) : objIs (tk p.val 2) .domain .rw .any = true := by revert p; decide +kernel

theorem objIs_tsetCommit (p : Fin 256) : objIs (tk p.val 3) .bool .wo (.nat 1 1) = true := by revert p; decide +kernel

theorem objIs_stickyClr (p : Fin 256) : objIs (pk p.val 0xB) .u32 .wo .any = true := by revert p; decide +kernel

theorem domMax_tsetShadow (p : Fin 256) : domMax (tk p.val 2) = 4096 := by revert p; decide +kernel

/-- Two objects of a pin's timing sets are one where their sub-indices are. -/
@[simp] theorem tk_eq_iff (p i j : Nat) : tk p i = tk p j ↔ i = j := by simp [tk, mkKey]

/-- No object outside the journal and the access point is a job object or needs authentication. -/
theorem mkKey_free {ix sub : Nat} (hsub : sub < 256) (hjob : ix ≠ 0x5800) (hdap : ix ≠ 0x1110) :
    (keyIx (mkKey ix sub) == 0x5800 && keySub (mkKey ix sub) == 2) = false ∧ (mkKey ix sub == dk 3 || mkKey ix sub == dk 4) = false := by
  have hix : keyIx (mkKey ix sub) ≠ 0x5800 := by
    simp only [keyIx, mkKey]
    omega
  have hdk (j : Nat) (hj : j < 256) : mkKey ix sub ≠ dk j := by
    intro h
    have h : ix * 256 + sub = 0x1110 * 256 + j := h
    omega
  simp [hix, hdk]

theorem tk_free (p : Fin 256) {sub : Nat} (h : sub < 256) :
    (keyIx (tk p.val sub) == 0x5800 && keySub (tk p.val sub) == 2) = false ∧ (tk p.val sub == dk 3 || tk p.val sub == dk 4) = false :=
  mkKey_free h (by omega) (by omega)

theorem pk_free (p : Fin 256) {sub : Nat} (h : sub < 256) :
    (keyIx (pk p.val sub) == 0x5800 && keySub (pk p.val sub) == 2) = false ∧ (pk p.val sub == dk 3 || pk p.val sub == dk 4) = false :=
  mkKey_free h (by omega) (by omega)

theorem blockFail_tsetShadow {c : Core} (p : Fin 256) (ho : Open c) : blockFail c false (tk p.val 2) = none :=
  blockFail_none (objIs_tsetShadow p) ho rfl (tk_free p (by decide)).2 rfl

theorem writeFail_tsetCommit {c : Core} (p : Fin 256) (ho : Open c) : writeFail c false (tk p.val 3) 1 0 0 = none :=
  writeFail_none (objIs_tsetCommit p) ho rfl rfl (tk_free p (by decide)).2 rfl rfl rfl rfl

theorem writeFail_stickyClr {c : Core} (p : Fin 256) (mask : BitVec 32) (ho : Open c) :
    writeFail c false (pk p.val 0xB) mask.toNat 0 0 = none := by
  have hwidth : ¬ 2 ^ (8 * ObjTy.u32.width) ≤ mask.toNat := by
    have := mask.isLt
    simp only [ObjTy.width]
    omega
  exact writeFail_none (objIs_stickyClr p) ho (by simp [hwidth]) rfl (pk_free p (by decide)).2 rfl rfl rfl rfl

/-! ## TSET_SHADOW (R159) -/

/-- TSET_BANK names the active bank. -/
theorem activeBank_eq (c : Core) (p : Nat) :
    activeBank c p = if rd c (tk p 5) = 0 then (getPin c p).tsetA else (getPin c p).tsetB := rfl

theorem shadowBank_eq (c : Core) (p : Nat) :
    shadowBank c p = if rd c (tk p 5) = 0 then (getPin c p).tsetB else (getPin c p).tsetA := rfl

/-- A DOMAIN write command that passes its checks makes what its object's effect answers, whatever its status. -/
theorem makes_domain {i : Instr} {s : State} {k : Key} {l : List Byte} {f : Core → Answer}
    (he : exec i s = wroteDomain s k l (effA f)) (hw : blockFail s.core false k = none) (ht : closedTo s.core k = false)
    (hl : l.length ≤ domMax k) : Makes i s { (f s.core).2 with status := (f s.core).1 } := by
  simp only [Makes, Gives, he, wroteDomain_eq _ _ _ _ hw ht hl, effA]

/-- A TSET_SHADOW of a whole bank makes what its own checks answer. -/
theorem makes_tsetShadow {s : State} (p : Fin 256) {data : List Byte} (ho : Open s.core) (hlen : data.length = 4096) :
    Makes (.tsetShadow p data) s
      { (writeTsetShadow s.core p.val data).2 with status := (writeTsetShadow s.core p.val data).1 } :=
  makes_domain (f := fun c => writeTsetShadow c p.val data) rfl (blockFail_tsetShadow p ho) (closedTo_open ho (tk_free p (by decide)).1)
    (by rw [domMax_tsetShadow, hlen])

/-- The block after an accepted TSET_SHADOW: the bank that BANK does not select is the new one. -/
def tsetWritten (c : Core) (p : Nat) (data : List Byte) : Core :=
  modPin (wr c (tk p 6) 0xFF) p (fun x => if rd c (tk p 5) = 0 then { x with tsetB := data } else { x with tsetA := data })

theorem writeTsetShadow_ok {c : Core} {p : Nat} {data : List Byte} (hlen : data.length = 4096) (hgood : badTset data 64 = none)
    (hfree : rd c (tk p 4) ≠ 1) : writeTsetShadow c p data = (stOk, tsetWritten c p data) := by
  simp only [writeTsetShadow, hlen, ne_eq, not_true_eq_false, hgood, hfree, if_false, tsetWritten]

theorem writeTsetShadow_bad {c : Core} {p : Nat} {data : List Byte} {n : Nat} {st : Status} (hlen : data.length = 4096)
    (hbad : badTset data 64 = some (n, st)) : writeTsetShadow c p data = (st, wr c (tk p 6) n) := by
  simp only [writeTsetShadow, hlen, ne_eq, not_true_eq_false, hbad, if_false]

theorem rd_tsetWritten (c : Core) (p : Nat) (data : List Byte) (k : Key) :
    rd (tsetWritten c p data) k = if k = tk p 6 then 0xFF else rd c k := by
  rw [tsetWritten, rd_modPin, rd_wr]

theorem bank_tsetWritten (c : Core) (p : Nat) (data : List Byte) : rd (tsetWritten c p data) (tk p 5) = rd c (tk p 5) := by
  simp [rd_tsetWritten]

theorem getPin_tsetWritten (c : Core) (p : Nat) (data : List Byte) : getPin (tsetWritten c p data) p =
    if rd c (tk p 5) = 0 then { getPin c p with tsetB := data } else { getPin c p with tsetA := data } := by
  rw [tsetWritten, getPin_modPin_same, getPin_wr]

/-- The written bank is the shadow bank. -/
theorem shadowBank_tsetWritten (c : Core) (p : Nat) (data : List Byte) : shadowBank (tsetWritten c p data) p = data := by
  rw [shadowBank_eq, bank_tsetWritten, getPin_tsetWritten]
  split <;> rfl

/-- The active bank stands. -/
theorem activeBank_tsetWritten (c : Core) (p : Nat) (data : List Byte) : activeBank (tsetWritten c p data) p = activeBank c p := by
  rw [activeBank_eq, activeBank_eq, bank_tsetWritten, getPin_tsetWritten]
  split <;> rfl

/-! ## TSET_COMMIT (R160) -/

/-- The block after a committed swap: the other bank is active, nothing waits, and the swap is counted. -/
def tsetSwapped (c : Core) (p : Nat) : Core := swapTset (wr c (tk p 4) 1) p

theorem tsetSwapped_eq (c : Core) (p : Nat) :
    tsetSwapped c p =
      tallyEvent (bump (wr (wr (wr c (tk p 4) 1) (tk p 5) (1 - rd c (tk p 5))) (tk p 4) 0) (tk p 7)) 0xEB := by
  rw [tsetSwapped, swapTset, rd_wr_same, if_pos rfl, rd_wr_ne c 1 (by simp : tk p 5 ≠ tk p 4)]

theorem rd_tsetSwapped (c : Core) (p : Nat) (k : Key) :
    rd (tsetSwapped c p) k = if k = tk p 7 then (rd c (tk p 7) + 1) % 2 ^ 64 else if k = tk p 4 then 0
      else if k = tk p 5 then 1 - rd c (tk p 5) else rd c k := by
  rw [tsetSwapped_eq, rd_congr (tallyEvent_regs _ _), bump, bumpBy, rd_wr]
  by_cases hk : k = tk p 4
  · simp [hk]
  · simp [rd_wr, hk]

theorem getPin_tsetSwapped (c : Core) (p : Nat) : getPin (tsetSwapped c p) p = getPin c p := by
  rw [tsetSwapped_eq]
  rfl

theorem bank_tsetSwapped (c : Core) (p : Nat) : rd (tsetSwapped c p) (tk p 5) = 1 - rd c (tk p 5) := by simp [rd_tsetSwapped]

/-- A swap makes the shadow bank the active one. -/
theorem activeBank_tsetSwapped {c : Core} {p : Nat} (h : rd c (tk p 5) ≤ 1) : activeBank (tsetSwapped c p) p = shadowBank c p := by
  have hother : 1 - rd c (tk p 5) = 0 ↔ ¬ rd c (tk p 5) = 0 := by omega
  simp only [activeBank_eq, shadowBank_eq, bank_tsetSwapped, getPin_tsetSwapped, hother, ite_not]

/-- A swap makes the active bank the shadow one. -/
theorem shadowBank_tsetSwapped {c : Core} {p : Nat} (h : rd c (tk p 5) ≤ 1) : shadowBank (tsetSwapped c p) p = activeBank c p := by
  have hother : 1 - rd c (tk p 5) = 0 ↔ ¬ rd c (tk p 5) = 0 := by omega
  simp only [activeBank_eq, shadowBank_eq, bank_tsetSwapped, getPin_tsetSwapped, hother, ite_not]

theorem writeTsetCommit_now {c : Core} {p : Nat}
    (h : 64 ≤ quadWeaver c (p / 4) ∨ wState c (quadWeaver c (p / 4)) = 0 ∨ wState c (quadWeaver c (p / 4)) = 4) :
    writeTsetCommit c p = tsetSwapped c p := if_pos h

theorem writeTsetCommit_waits {c : Core} {p : Nat} (hw : quadWeaver c (p / 4) < 64) (h0 : wState c (quadWeaver c (p / 4)) ≠ 0)
    (h4 : wState c (quadWeaver c (p / 4)) ≠ 4) : writeTsetCommit c p = wr c (tk p 4) 1 := by
  refine if_neg ?_
  rintro (h | h | h)
  · omega
  · exact h0 h
  · exact h4 h

/-! ## The statement -/

/-- Settles O40: a change of a comparator by its branches, the filter and the hold-off by the accepted change, and each write by
its effect. -/
theorem comparatorsAndPinObjects : Obligations.ComparatorsAndPinObjects := by
  unfold Obligations.ComparatorsAndPinObjects
  refine ⟨?isolated, ?change, ?accept, ?holdoff, ?shadow, ?shadowBad, ?commit, ?sticky⟩
  case isolated =>
    intro s p lv t h
    refine ⟨⟨_, makes_didC rfl (comparatorChanged_isolated .high lv t.toNat h), ?_⟩,
      ⟨_, makes_didC rfl (comparatorChanged_isolated .low lv t.toNat h), ?_⟩⟩ <;>
    · rw [getPin_ballChanged]
      exact ⟨rfl, rfl, rfl, ballChanged_regs _ _ _ _ _⟩
  case change =>
    intro s p line lv t x at_ new hs hcand hlast
    refine ⟨_, makes_didC rfl (comparatorChanged_differs t.toNat hs hcand hlast), ?_, fun hzero => ?_, fun hwait => ?_⟩
    · split
      · rw [acceptChange_regs, ballChanged_regs]
      · rw [modPin_regs, ballChanged_regs]
    · rw [if_pos hzero, history_acceptChange, getPin_ballChanged, withRaw_history]
      exact ⟨candOf_acceptChange _ _ _ _ _, rfl⟩
    · rw [if_neg hwait, getPin_modPin_same, candOf_setCand, setCand_history, getPin_ballChanged, withRaw_history]
      exact ⟨rfl, rfl⟩
  case accept =>
    intro s p line t lv hcand
    refine ⟨_, makes_didC rfl (glitchAccepted_eq hcand), candOf_acceptChange _ _ _ _ _, ?_, ?_, fun hclock => ?_⟩
    · rw [acceptChange_regs, elapseTo_regs]
    · rw [history_acceptChange, getPin_elapseTo]
    · rw [acceptChange_stamp]
      exact lt_stamp_elapseTo _ hclock
  case holdoff =>
    intro s p e hend
    rcases holdoffEnded_cases hend with h | ⟨level, h⟩
    · exact ⟨_, makes_didC rfl h, elapseTo_pins _ _, elapseTo_regs _ _, lt_stamp_elapseTo e⟩
    · refine ⟨_, makes_didC rfl h, ?_, ?_, fun hclock => ?_⟩
      · rw [noteTe_pins, elapseTo_pins]
      · rw [noteTe_regs, elapseTo_regs]
      · rw [noteTe_stamp]
        exact lt_stamp_elapseTo e hclock
  case shadow =>
    intro s p data ho hlen hgood hfree
    have hmakes := makes_tsetShadow p ho hlen
    rw [writeTsetShadow_ok hlen hgood hfree] at hmakes
    refine ⟨_, hmakes, shadowBank_tsetWritten _ _ _, activeBank_tsetWritten _ _ _, ?_, fun k hk => ?_⟩
    · simp [rd_tsetWritten]
    · rw [rd_tsetWritten, if_neg (by simpa using hk)]
  case shadowBad =>
    intro s p data n st ho hlen hbad
    have hmakes := makes_tsetShadow p ho hlen
    rwa [writeTsetShadow_bad hlen hbad] at hmakes
  case commit =>
    intro s p w ho hbank
    have haccepts : Accepts (.tsetCommit p) s (writeTsetCommit s.core p.val) :=
      accepts_scalar rfl (writeFail_tsetCommit p ho) (closedTo_open ho (tk_free p (by decide)).1) rfl
    refine ⟨fun hidle => ?_, fun hw h0 h4 => ?_⟩
    · rw [writeTsetCommit_now hidle] at haccepts
      refine ⟨_, haccepts, activeBank_tsetSwapped hbank, shadowBank_tsetSwapped hbank, ?_, ?_, fun k hk => ?_⟩
      · simp [rd_tsetSwapped]
      · simp [rd_tsetSwapped]
      · simp only [List.mem_cons, List.not_mem_nil, or_false, not_or] at hk
        obtain ⟨h4, h5, h7⟩ := hk
        simp [rd_tsetSwapped, h4, h5, h7]
    · rwa [writeTsetCommit_waits hw h0 h4] at haccepts
  case sticky =>
    intro s p mask ho
    exact accepts_scalar rfl (writeFail_stickyClr p mask ho) (closedTo_open ho (pk_free p (by decide)).1) rfl

end Sys2Proof.Machine
end

section
/-!
The control ports: where ISSUE puts a list in a port's queue (R175).
-/
namespace Sys2Proof.Machine

/-! ## ISSUE (R175) -/

theorem objIs_issue (k : Fin 16) :
    objIs (ck k.val 7) .u16 (.rwm [.standby, .warm, .calibrate, .run, .service]) (.nat 1 65535) = true := by
  revert k; decide +kernel

theorem ck_free (k : Fin 16) {sub : Nat} (h : sub < 256) :
    (keyIx (ck k.val sub) == 0x5800 && keySub (ck k.val sub) == 2) = false ∧ (ck k.val sub == dk 3 || ck k.val sub == dk 4) = false :=
  mkKey_free h (by omega) (by omega)

theorem writeFail_issue {c : Core} (k : Fin 16) {n : BitVec 16} (ho : Open c)
    (hm : InModes c [.standby, .warm, .calibrate, .run, .service]) (hn : n ≠ 0) : writeFail c false (ck k.val 7) n.toNat 0 0 = none := by
  have hlt := n.isLt
  have hpos : 1 ≤ n.toNat := Nat.one_le_iff_ne_zero.mpr (fun h => hn (BitVec.eq_of_toNat_eq h))
  have hwidth : ¬ 2 ^ (8 * ObjTy.u16.width) ≤ n.toNat := by simp only [ObjTy.width]; omega
  have hrange : rangeFail .u16 (.nat 1 65535) n.toNat = none := by
    have hmax : n.toNat ≤ 65535 := by omega
    simp [rangeFail, hpos, hmax]
  exact writeFail_none (objIs_issue k) ho (by simp [hwidth]) rfl (ck_free k (by decide)).2 rfl (modeAccepts_rwm hm) rfl hrange

/-- ISSUE of a list to a port with room: the list enters the queue behind those of earlier instants, and among those of its own
instant by the rank of its source. -/
theorem accepts_issue {s : State} (k : Fin 16) {n : BitVec 16} (ho : Open s.core)
    (hm : InModes s.core [.standby, .warm, .calibrate, .run, .service]) (hn : n ≠ 0) (hroom : (getPec s.core k.val).queue.length < 64) :
    Accepts (.issue k n) s (enterPort s.core k.val n.toNat .host) := by
  have hissue : issueList s.core k.val n.toNat = .ok (enterPort s.core k.val n.toNat .host) := by
    simp only [issueList, guardSt, hroom, decide_true, if_true]
  exact accepts_scalar rfl (writeFail_issue k ho hm hn) (closedTo_open ho (ck_free k (by decide)).1) (effW_ok hissue)

/-- The queue of a port that a list has entered. -/
theorem queue_enterPort (c : Core) (k n : Nat) (src : ListFrom) :
    (getPec (enterPort c k n src) k).queue = insertList { list := n, source := src, since := c.time } (getPec c k).queue := by
  rw [enterPort, getPec_setPec_same]

@[simp] theorem noticed_pecs (c : Core) : (noticed c).pecs = c.pecs := by
  obtain ⟨d, o, f, l, h⟩ := noticed_only c
  rw [h]

/-- A command that is accepted leaves each control port in one state. -/
theorem Accepts.getPec_unique {i : Instr} {s : State} {c d : Core} (hc : Accepts i s c) (hd : Accepts i s d) (k : Nat) :
    getPec c k = getPec d k := by
  have hnext := Host.Outcome.next.inj (hc.symm.trans hd)
  have hcore := congrArg (fun t : State => t.core.pecs) hnext
  simp only [noticed_pecs] at hcore
  simp only [getPec, hcore]

/-! ## The counterexample -/

/-- A block in RUN whose port 0 holds a list that entered at the present instant from a source numbered above the host's rank
of 64. -/
def rankedBehindHost : State :=
  { pending := [], mem := {},
    core := { regs := [(mkKey 0x1200 1, modeCode .run)],
              pecs := [(0, { queue := [{ list := 1, source := .weaver 65, since := 0 }] })] } }

/-- A list of the host enters that queue at its front. -/
theorem insertList_rankedBehindHost :
    insertList { list := 2, source := .host, since := rankedBehindHost.core.time } (getPec rankedBehindHost.core 0).queue =
      [{ list := 2, source := .host, since := 0 }, { list := 1, source := .weaver 65, since := 0 }] := by
  decide

/-- Refutes O41: its clause on ISSUE puts the host's list at the end of the queue in every state, but the model ranks the lists of
one instant by their source, and a state may name a source `.weaver 65`, which ranks behind the host: there the host's list
goes to the front. R175 knows the Weavers 0 to 63 only; the statement asks nothing of the sources in the queue. -/
theorem not_controlPorts : ¬ Obligations.ControlPorts := by
  unfold Obligations.ControlPorts
  rintro ⟨-, hissue, -⟩
  have hopen : Open rankedBehindHost.core := by unfold Open; decide +kernel
  have hmode : InModes rankedBehindHost.core [.standby, .warm, .calibrate, .run, .service] := ⟨.run, by simp, by decide +kernel⟩
  have hroom : (getPec rankedBehindHost.core 0).queue.length < 64 := by decide +kernel
  obtain ⟨happend, -⟩ := hissue rankedBehindHost 0 2 hopen hmode (by decide)
  have hport := (happend hroom).getPec_unique (accepts_issue 0 hopen hmode (by decide) hroom) 0
  have hqueue := (congrArg Pec.queue hport).trans (queue_enterPort _ 0 2 .host)
  exact absurd (hqueue.trans insertList_rankedBehindHost) (by decide)

end Sys2Proof.Machine
end

section
/-!
Calibration and drift tracking: tracker rounds, rebuilds and the swap of the banks, the swap group, foreground calibration, the
field set and the tap query (R190 to R202).
-/
namespace Sys2Proof.Machine

/-! ## Folds of the core -/

/-- A fold keeps what each of its steps keeps on the members of its list. -/
theorem foldl_keeps_mem {α β : Type} {g : Core → α → Core} (f : Core → β) {l : List α}
    (h : ∀ c, ∀ x ∈ l, f (g c x) = f c) (c : Core) : f (l.foldl g c) = f c :=
  List.foldlRecOn (motive := fun d => f d = f c) l g rfl (fun d hd x hx => (h d x hx).trans hd)

/-- What the step of one member alone changes is, after a fold in which that member comes once, as its step leaves it. -/
theorem foldl_at {α β : Type} {g : Core → α → Core} (f : Core → β) {x : α} {l : List α}
    (hkeep : ∀ c y, y ≠ x → f (g c y) = f c) (hl : l.Nodup) (hx : x ∈ l) (c : Core) : ∃ d, f d = f c ∧ f (l.foldl g c) = f (g d x) := by
  induction l generalizing c with
  | nil => cases hx
  | cons y l ih =>
    obtain ⟨hy, hl⟩ := List.nodup_cons.mp hl
    by_cases hyx : y = x
    · subst hyx
      exact ⟨c, rfl, foldl_keeps_mem f (fun d z hz => hkeep d z (ne_of_mem_of_not_mem hz hy)) _⟩
    · obtain ⟨d, hd, hfold⟩ := ih hl (List.mem_of_ne_of_mem (Ne.symm hyx) hx) (g c y)
      exact ⟨d, hd.trans (hkeep c y hyx), hfold⟩

/-- What the step of one member sets and every other step keeps is set after a fold over that member. -/
theorem foldl_sets {α β : Type} {g : Core → α → Core} (f : Core → β) {x : α} {v : β} {l : List α} (hset : ∀ c, f (g c x) = v)
    (hkeep : ∀ c, ∀ y ∈ l, y ≠ x → f (g c y) = f c) {c : Core} (h : f c = v ∨ x ∈ l) : f (l.foldl g c) = v := by
  induction l generalizing c with
  | nil => exact h.resolve_right List.not_mem_nil
  | cons y l ih =>
    refine ih (fun d z hz => hkeep d z (List.mem_cons_of_mem _ hz)) ?_
    by_cases hyx : y = x
    · exact .inl (hyx ▸ hset c)
    · exact h.imp (fun hc => (hkeep c y List.mem_cons_self hyx).trans hc) (List.mem_of_ne_of_mem (Ne.symm hyx))

/-! ## Keys -/

theorem keyIx_mkKey {ix sub : Nat} (h : sub < 256) : keyIx (mkKey ix sub) = ix := by
  simp only [keyIx, mkKey]
  omega

/-- A key of one index is no object of another. -/
theorem ne_mkKey {k ix sub : Nat} (hk : keyIx k ≠ ix) (h : sub < 256 := by decide) : k ≠ mkKey ix sub :=
  fun he => hk (he ▸ keyIx_mkKey h)

/-- Objects of different sub-indices are different. -/
theorem mkKey_ne_sub (ix ix' : Nat) {sub sub' : Nat} (h : sub ≠ sub') (hs : sub < 256 := by decide) (hs' : sub' < 256 := by decide) :
    mkKey ix sub ≠ mkKey ix' sub' := by
  intro he
  have he : ix * 256 + sub = ix' * 256 + sub' := he
  omega

theorem getPin_modPin_ne (c : Core) {p q : Nat} (f : Pin → Pin) (h : q ≠ p) : getPin (modPin c p f) q = getPin c q :=
  getPin_setPin_ne c _ h

/-- The block with other figures of calibration. -/
def setCal (c : Core) (x : Cal) : Core := { c with cal := x }

@[simp] theorem setCal_cal (c : Core) (x : Cal) : (setCal c x).cal = x := rfl

@[simp] theorem rd_setCal (c : Core) (x : Cal) (k : Key) : rd (setCal c x) k = rd c k := rfl

@[simp] theorem getPin_setCal (c : Core) (x : Cal) (p : Nat) : getPin (setCal c x) p = getPin c p := rfl

/-! ## Tracker rounds (R190) -/

/-- The drifts of a pin after a round: each path with 64 or more residuals moves by their mean. -/
def roundDrift (x : Pin) : SMap Int :=
  x.resid.foldl (fun d e => if 64 ≤ e.2.n then mmod 0 d e.1 (fun v => v + roundDiv e.2.sum e.2.n) else d) x.drift

/-- What a round adds to the drift of a path. -/
def driftStep (r : Resid) : Int := if 64 ≤ r.n then roundDiv r.sum r.n else 0

/-- A pin after a round, but for the instant of the last round that counted. -/
def endedPin (x : Pin) : Pin := { x with drift := roundDrift x, resid := [], used := 0, eye := [] }

theorem mget_mabove {α : Type} (d : α) {m : SMap α} {i : Nat} (h : mabove i m) : mget d m i = d := by
  induction m with
  | nil => rfl
  | cons e m ih =>
    obtain ⟨k, v⟩ := e
    have hki : k ≠ i := Nat.ne_of_gt (h (k, v) List.mem_cons_self)
    have htail := ih (fun e he => h e (List.mem_cons_of_mem _ he))
    simpa only [mget, mfind, hki, if_false] using htail

/-- One entry of the residuals moves the drift of its path. -/
theorem mget_driftEntry (d : SMap Int) (k : Nat) (r : Resid) (path : Nat) :
    mget 0 (if 64 ≤ r.n then mmod 0 d k (fun v => v + roundDiv r.sum r.n) else d) path =
      mget 0 d path + if k = path then driftStep r else 0 := by
  by_cases hk : k = path
  · subst hk
    by_cases hn : 64 ≤ r.n <;> simp [driftStep, hn, mmod]
  · by_cases hn : 64 ≤ r.n <;> simp [hn, hk, mmod, mget_mset_ne _ _ _ _ (Ne.symm hk)]

/-- The residuals of a round move each drift once. -/
theorem mget_roundDrift (x : Pin) (path : Nat) (h : mwf x.resid = true) :
    mget 0 (roundDrift x) path = mget 0 x.drift path + driftStep (mget {} x.resid path) := by
  unfold roundDrift
  generalize x.drift = d
  generalize x.resid = m at h
  induction m generalizing d with
  | nil => simp [mget, mfind, driftStep]
  | cons e m ih =>
    obtain ⟨k, r⟩ := e
    obtain ⟨habove, hm⟩ := (mwf_cons k r m).mp h
    rw [List.foldl_cons, ih _ hm, mget_driftEntry]
    by_cases hk : k = path
    · subst hk
      rw [mget_mabove {} habove]
      simp [mget, mfind, driftStep]
    · simp [mget, mfind, hk]

/-- A pin that nothing was gathered for is as after a round. -/
theorem endedPin_idle {x : Pin} (h : x.resid = [] ∧ x.used = 0 ∧ x.eye = []) : endedPin x = x := by
  obtain ⟨hresid, hused, heye⟩ := h
  cases x
  simp_all [endedPin, roundDrift]

theorem getPin_roundPin_same (c : Core) (p : Nat) :
    ∃ t, getPin (roundPin c p) p = { endedPin (getPin c p) with lastRound := t } := by
  unfold roundPin
  dsimp only
  split_ifs with hidle hcounts
  · exact ⟨(getPin c p).lastRound, by rw [endedPin_idle hidle]⟩
  · exact ⟨some c.time, getPin_setPin_same _ _ _⟩
  · exact ⟨(getPin c p).lastRound, getPin_setPin_same _ _ _⟩

theorem getPin_roundPin_ne (c : Core) {p q : Nat} (h : q ≠ p) : getPin (roundPin c p) q = getPin c q := by
  unfold roundPin
  dsimp only
  split_ifs
  · rfl
  · exact getPin_setPin_ne _ _ h
  · exact getPin_setPin_ne _ _ h

/-- The end of a round for a pin writes the pin's figures alone. -/
theorem rd_roundPin_ne (c : Core) {p : Nat} {k : Key} (h : keyIx k ≠ 0x3200 + p) : rd (roundPin c p) k = rd c k := by
  unfold roundPin
  dsimp only
  split_ifs
  · rfl
  · rw [rd_setPin, rd_wr_ne _ _ (ne_mkKey h), rd_wr_ne _ _ (ne_mkKey h), rd_wr_ne _ _ (ne_mkKey h), rd_wr_ne _ _ (ne_mkKey h)]
  · rfl

/-- ROUNDS of a pin after the end of a round. -/
theorem rd_roundPin_rounds (c : Core) (p : Nat) : rd (roundPin c p) (mkKey (0x3200 + p) 2) =
    if roundCounts (getPin c p) && inModes c [.run, .calibrate] then (rd c (mkKey (0x3200 + p) 2) + 1) % 2 ^ 32
    else rd c (mkKey (0x3200 + p) 2) := by
  unfold roundPin
  dsimp only
  split_ifs with hidle hcounts hcounts
  · simp [roundCounts, hidle.1] at hcounts
  · rfl
  · rw [rd_setPin, rd_wr_ne _ _ (mkKey_ne_sub _ _ (by decide)), rd_wr_ne _ _ (mkKey_ne_sub _ _ (by decide)),
      rd_wr_ne _ _ (mkKey_ne_sub _ _ (by decide)), rd_wr_same]
  · rfl

theorem inModes_congr {c d : Core} (h : modeNow d = modeNow c) (l : List Mode) : inModes d l = inModes c l := by
  simp only [inModes, funext fun m => show inMode d m = inMode c m by simp only [inMode, h]]

/-- A round ends for every pin. -/
def roundPins (c : Core) : Core := (List.range 256).foldl roundPin c

/-- The end of a round does for a pin what it does for that pin alone. -/
theorem roundPins_at (c : Core) (p : Fin 256) :
    (∃ t, getPin (roundPins c) p.val = { endedPin (getPin c p.val) with lastRound := t }) ∧
    rd (roundPins c) (mkKey (0x3200 + p.val) 2) =
      if roundCounts (getPin c p.val) && inModes c [.run, .calibrate] then (rd c (mkKey (0x3200 + p.val) 2) + 1) % 2 ^ 32
      else rd c (mkKey (0x3200 + p.val) 2) := by
  have hkeep (c : Core) (q : Nat) (hq : q ≠ p.val) :
      (getPin (roundPin c q) p.val, rd (roundPin c q) (mkKey (0x3200 + p.val) 2), modeNow (roundPin c q)) =
        (getPin c p.val, rd c (mkKey (0x3200 + p.val) 2), modeNow c) := by
    have hrounds : keyIx (mkKey (0x3200 + p.val) 2) ≠ 0x3200 + q := by
      rw [keyIx_mkKey (by decide)]
      omega
    have hmode : keyIx (mkKey 0x1200 1) ≠ 0x3200 + q := by
      rw [keyIx_mkKey (by decide)]
      omega
    rw [getPin_roundPin_ne c (Ne.symm hq), rd_roundPin_ne c hrounds, modeNow, rd_roundPin_ne c hmode, modeNow]
  obtain ⟨d, hd, hfold⟩ := foldl_at (fun c => (getPin c p.val, rd c (mkKey (0x3200 + p.val) 2), modeNow c)) hkeep
    List.nodup_range (List.mem_range.mpr p.isLt) c
  simp only [Prod.mk.injEq] at hd hfold
  obtain ⟨hpin, hrounds, hmode⟩ := hd
  obtain ⟨hpinEnd, hroundsEnd, -⟩ := hfold
  refine ⟨?_, ?_⟩
  · rw [roundPins, hpinEnd, ← hpin]
    exact getPin_roundPin_same d p.val
  · rw [roundPins, hroundsEnd, rd_roundPin_rounds, hpin, hrounds, inModes_congr hmode]

/-- What a round of a block leaves of the figures of calibration. -/
def roundCal (c : Core) (x : Cal) : Cal := { x with roundCold := x.roundCold || (c.cal.coldNow || !refwarm c), coldNow := !refwarm c }

/-- The block as a round ends, before a rebuild starts. -/
def roundClosed (c : Core) : Core := setCal (roundPins c) (roundCal c (roundPins c).cal)

/-- A rebuild starts where a pin wants one, else one that was held. -/
def roundRebuilds (c : Core) : Core := if (List.range 256).any (wantsRebuild c) then startRebuild c else startHeld c

theorem roundEnd_off {c : Core} (h : rd c (gk 1) ≠ 1) : roundEnd c = c := by
  simp only [roundEnd, rdb_of_ne h, Bool.false_eq_true, if_false]

theorem roundEnd_on {c d : Core} (h : rd c (gk 1) = 1) (hd : (if inMode c .calibrate then takeSources c else c) = d) :
    roundEnd c = roundRebuilds (roundClosed d) := by
  have hon : rdb c (gk 1) = true := beq_iff_eq.mpr h
  have hend : roundEnd c = if rdb c (gk 1) then
      roundRebuilds (setCal ((List.range 256).foldl roundPin (if inMode c .calibrate then takeSources c else c))
        (roundCal (if inMode c .calibrate then takeSources c else c)
          ((List.range 256).foldl roundPin (if inMode c .calibrate then takeSources c else c)).cal)) else c := rfl
  rw [hend, if_pos hon, hd, roundClosed, roundPins]

/-- What the calibration source gives a round changes no register. -/
theorem takeSources_regs (c : Core) : (takeSources c).regs = c.regs := by
  have htake (c : Core) (e : Nat × SourceResid) : (takeSource c e.1 e.2).regs = c.regs := rfl
  exact foldl_keeps Core.regs htake _ _

/-! ## Swaps (R192) -/

/-- A pin after a swap: the newer bank is active. -/
def swappedPin (x : Pin) : Pin :=
  if (activeCorr x).gen < (shadowCorr x).gen then { x with corrActiveB := !x.corrActiveB } else x

theorem swappedPin_newer {x : Pin} (h : (activeCorr x).gen < (shadowCorr x).gen) :
    swappedPin x = { x with corrActiveB := !x.corrActiveB } := if_pos h

theorem activeCorr_swappedPin {x : Pin} (h : (activeCorr x).gen < (shadowCorr x).gen) : activeCorr (swappedPin x) = shadowCorr x := by
  rw [swappedPin_newer h, activeCorr, shadowCorr]
  cases x.corrActiveB <;> rfl

theorem shadowCorr_swappedPin {x : Pin} (h : (activeCorr x).gen < (shadowCorr x).gen) : shadowCorr (swappedPin x) = activeCorr x := by
  rw [swappedPin_newer h, activeCorr, shadowCorr]
  cases x.corrActiveB <;> rfl

/-- A swapped pin has its newer bank and does not swap again. -/
theorem swappedPin_swappedPin (x : Pin) : swappedPin (swappedPin x) = swappedPin x := by
  by_cases h : (activeCorr x).gen < (shadowCorr x).gen
  · rw [swappedPin, activeCorr_swappedPin h, shadowCorr_swappedPin h, if_neg (Nat.lt_asymm h)]
  · have hx : swappedPin x = x := if_neg h
    rw [hx, hx]

theorem getPin_swapPin_same (c : Core) (p : Nat) : getPin (swapPin c p) p = swappedPin (getPin c p) := by
  unfold swapPin swappedPin
  dsimp only
  split
  · exact getPin_setPin_same _ _ _
  · rfl

theorem getPin_swapPin_ne (c : Core) {p q : Nat} (h : q ≠ p) : getPin (swapPin c p) q = getPin c q := by
  unfold swapPin
  dsimp only
  split
  · exact getPin_setPin_ne _ _ h
  · rfl

/-- A pin that has its newer bank keeps it through every swap. -/
theorem getPin_swapPin_settled (c : Core) (p : Nat) {q : Nat} (h : swappedPin (getPin c q) = getPin c q) :
    getPin (swapPin c p) q = getPin c q := by
  by_cases hq : q = p
  · subst hq
    rw [getPin_swapPin_same, h]
  · exact getPin_swapPin_ne c hq

/-- The second core differs from the first, of the registers and the figures of calibration, in SWAP_READY alone. -/
def SwapsOnly (c d : Core) : Prop := d.cal = c.cal ∧ SameRegsBut [gk 4] c d

theorem SwapsOnly.refl (c : Core) : SwapsOnly c c := ⟨rfl, fun _ _ => rfl⟩

theorem SwapsOnly.trans {a b c : Core} (h : SwapsOnly a b) (g : SwapsOnly b c) : SwapsOnly a c := by
  obtain ⟨hcal, hregs⟩ := h
  obtain ⟨gcal, gregs⟩ := g
  exact ⟨gcal.trans hcal, fun k hk => (gregs k hk).trans (hregs k hk)⟩

theorem SwapsOnly.foldl {α : Type} {g : Core → α → Core} (h : ∀ c x, SwapsOnly c (g c x)) (l : List α) (c : Core) :
    SwapsOnly c (l.foldl g c) :=
  List.foldlRecOn l g (SwapsOnly.refl c) (fun _ hd x _ => hd.trans (h _ x))

theorem swapsOnly_ready (c : Core) (v w : Nat) (f : Weaver → Weaver) : SwapsOnly c (modW (wr c (gk 4) v) w f) :=
  ⟨rfl, fun _ hk => rd_wr_ne c v (by simpa using hk)⟩

theorem swapPin_regs (c : Core) (p : Nat) : (swapPin c p).regs = c.regs := by
  unfold swapPin
  dsimp only
  split <;> rfl

theorem foldl_swapPin_regs (l : List Nat) (c : Core) : (l.foldl swapPin c).regs = c.regs := foldl_keeps Core.regs swapPin_regs l c

theorem swapPin_cal (c : Core) (p : Nat) : (swapPin c p).cal = c.cal := by
  unfold swapPin
  dsimp only
  split <;> rfl

theorem swapPin_only (c : Core) (p : Nat) : SwapsOnly c (swapPin c p) :=
  ⟨swapPin_cal c p, fun k _ => rd_congr (swapPin_regs c p) k⟩

theorem swapWeaver_only (c : Core) (w : Nat) : SwapsOnly c (swapWeaver c w) := by
  unfold swapWeaver
  split
  · exact (SwapsOnly.foldl swapPin_only (pinsOf c w) c).trans (swapsOnly_ready _ _ w _)
  · exact SwapsOnly.refl c

theorem swapPoint_only (c : Core) (w : Nat) : SwapsOnly c (swapPoint c w) := by
  unfold swapPoint
  split
  · exact SwapsOnly.refl c
  · exact swapWeaver_only c w

/-- The SWAP_READY bit of a Weaver whose pins have swapped is clear. -/
theorem bit_swapWeaver_same {c : Core} (w : Nat) (h : c.cal.rebuilding = none) :
    bit (rd (swapWeaver c w) (gk 4)) w = false := by
  unfold swapWeaver
  split
  · simp [rd_modW, bit_clearBit]
  · next hnot => simpa [h] using hnot

/-- The bits of the other Weavers stand. -/
theorem bit_swapWeaver_ne (c : Core) {v w : Nat} (h : v ≠ w) : bit (rd (swapWeaver c v) (gk 4)) w = bit (rd c (gk 4)) w := by
  unfold swapWeaver
  split
  · simp [rd_modW, bit_clearBit, h, rd_congr (foldl_swapPin_regs (pinsOf c v) c)]
  · rfl

theorem bit_swapPoint_ne (c : Core) {v w : Nat} (h : v ≠ w) : bit (rd (swapPoint c v) (gk 4)) w = bit (rd c (gk 4)) w := by
  unfold swapPoint
  split
  · rfl
  · exact bit_swapWeaver_ne c h

/-- At a permitted point a Weaver's SWAP_READY bit clears unless it belongs to the swap group. -/
theorem bit_swapPoint_same {c : Core} {w : Nat} (hready : bit (rd c (gk 4)) w = true) (h : c.cal.rebuilding = none) :
    bit (rd (swapPoint c w) (gk 4)) w = inSwapGroup c w := by
  unfold swapPoint
  by_cases hgroup : inSwapGroup c w = true
  · simp [hgroup, hready]
  · rw [if_neg hgroup, bit_swapWeaver_same w h, Bool.eq_false_iff.mpr hgroup]

/-- Swaps keep a pin that has its newer bank. -/
theorem getPin_swapPoint_settled (c : Core) (w : Nat) {p : Nat} (h : swappedPin (getPin c p) = getPin c p) :
    getPin (swapPoint c w) p = getPin c p := by
  unfold swapPoint swapWeaver
  split
  · rfl
  · split
    · exact List.foldlRecOn (motive := fun d => getPin d p = getPin c p) _ swapPin rfl
        (fun d hd q _ => (getPin_swapPin_settled d q (by rw [hd, h])).trans hd)
    · rfl

/-! ## What the swaps go by: the ends of a rebuild and of a swap leave the quads, the states of the Weavers and the swap group -/

theorem SameRegsBut.trans {l : List Key} {a b c : Core} (h : SameRegsBut l a b) (g : SameRegsBut l b c) : SameRegsBut l a c :=
  fun k hk => (g k hk).trans (h k hk)

theorem quadWeaver_congr {c d : Core} (h : SameRegsBut [gk 4, gk 8] c d) (q : Nat) : quadWeaver d q = quadWeaver c q :=
  h _ (by simpa using ⟨mkKey_ne_sub _ _ (by decide), mkKey_ne_sub _ _ (by decide)⟩)

theorem quadsOf_congr {c d : Core} (h : SameRegsBut [gk 4, gk 8] c d) (w : Nat) : quadsOf d w = quadsOf c w := by
  simp only [quadsOf, quadWeaver_congr h]

theorem wState_congr {c d : Core} (h : SameRegsBut [gk 4, gk 8] c d) (w : Nat) : wState d w = wState c w :=
  h _ (by simpa using ⟨mkKey_ne_sub _ _ (by decide), mkKey_ne_sub _ _ (by decide)⟩)

theorem inSwapGroup_congr {c d : Core} (h : SameRegsBut [gk 4, gk 8] c d) (w : Nat) : inSwapGroup d w = inSwapGroup c w := by
  have hid : rd d (mkKey 0x6020 0) = rd c (mkKey 0x6020 0) := h _ (by decide)
  have hgroup : rd d (gk 0xD) = rd c (gk 0xD) := h _ (by decide)
  simp only [inSwapGroup, noDeviceId, deviceId, hid, hgroup]

theorem SwapsOnly.sameRegs {c d : Core} (h : SwapsOnly c d) : SameRegsBut [gk 4, gk 8] c d :=
  fun k hk => h.2 k (fun hm => hk (List.mem_append_left [gk 8] hm))

/-! ## The end of a rebuild (R191) -/

/-- SWAP_READY rises for a Weaver that holds a quad. -/
def readyStep (c : Core) (w : Nat) : Core :=
  if (quadsOf c w).isEmpty then c
  else if bit (rd c (gk 4)) w then c
  else modW (wr c (gk 4) (setBit (rd c (gk 4)) w)) w (fun x => { x with swapSince := some c.time, swapRaised := false })

theorem raiseReady_eq (c : Core) : raiseReady c = (List.range 64).foldl readyStep c := rfl

theorem readyStep_only (c : Core) (w : Nat) : SwapsOnly c (readyStep c w) := by
  unfold readyStep
  split_ifs
  · exact SwapsOnly.refl c
  · exact SwapsOnly.refl c
  · exact swapsOnly_ready c _ w _

theorem readyStep_pins (c : Core) (w : Nat) : (readyStep c w).pins = c.pins := by
  unfold readyStep
  split_ifs <;> rfl

theorem bit_readyStep_ne (c : Core) {v w : Nat} (h : v ≠ w) : bit (rd (readyStep c v) (gk 4)) w = bit (rd c (gk 4)) w := by
  unfold readyStep
  split_ifs
  · rfl
  · rfl
  · simp [rd_modW, bit_setBit, h]

theorem bit_readyStep_same {c : Core} {w : Nat} (h : quadsOf c w ≠ []) : bit (rd (readyStep c w) (gk 4)) w = true := by
  unfold readyStep
  split_ifs with hempty hready
  · exact absurd (List.isEmpty_iff.mp hempty) h
  · exact hready
  · simp [rd_modW, bit_setBit]

theorem raiseReady_only (c : Core) : SwapsOnly c (raiseReady c) := SwapsOnly.foldl readyStep_only _ c

theorem getPin_raiseReady (c : Core) (p : Nat) : getPin (raiseReady c) p = getPin c p := by
  simp only [getPin, raiseReady_eq, foldl_keeps Core.pins readyStep_pins]

theorem bit_raiseReady {c : Core} (w : Fin 64) (h : quadsOf c w.val ≠ []) : bit (rd (raiseReady c) (gk 4)) w.val = true := by
  have hkeep (c : Core) (v : Nat) (hv : v ≠ w.val) :
      (quadsOf (readyStep c v) w.val, bit (rd (readyStep c v) (gk 4)) w.val) = (quadsOf c w.val, bit (rd c (gk 4)) w.val) := by
    rw [quadsOf_congr (readyStep_only c v).sameRegs, bit_readyStep_ne c hv]
  obtain ⟨d, hd, hfold⟩ := foldl_at (fun c => (quadsOf c w.val, bit (rd c (gk 4)) w.val)) hkeep List.nodup_range
    (List.mem_range.mpr w.isLt) c
  simp only [Prod.mk.injEq] at hd hfold
  rw [raiseReady_eq, hfold.2]
  exact bit_readyStep_same (by rwa [hd.1])

/-- The four pins of a quad swap. -/
def swapQuad (c : Core) (q : Nat) : Core := [0, 1, 2, 3].foldl (fun c j => swapPin c (4 * q + j)) c

/-- A Weaver that is IDLE or STOPPED comes to a permitted point. -/
def idlePoint (c : Core) (w : Nat) : Core := if wState c w = 0 ∨ wState c w = 4 then swapPoint c w else c

/-- The pins of the quads that swap at once have swapped. -/
def quadsSwapped (c : Core) : Core := ((List.range 64).filter (quadSwaps c)).foldl swapQuad c

theorem swapAtOnce_eq {c : Core} (h : c.cal.rebuilding = none) :
    swapAtOnce c = (List.range 64).foldl idlePoint (quadsSwapped c) := by
  have hbusy : ¬ c.cal.rebuilding.isSome = true := by simp [h]
  have hswap : swapAtOnce c = if c.cal.rebuilding.isSome then c else (List.range 64).foldl idlePoint (quadsSwapped c) := rfl
  rw [hswap, if_neg hbusy]

theorem quadsSwapped_regs (c : Core) : (quadsSwapped c).regs = c.regs :=
  foldl_keeps Core.regs (fun d q => foldl_keeps Core.regs (fun e j => swapPin_regs e (4 * q + j)) _ d) _ c

theorem quadsSwapped_cal (c : Core) : (quadsSwapped c).cal = c.cal :=
  foldl_keeps Core.cal (fun d q => foldl_keeps Core.cal (fun e j => swapPin_cal e (4 * q + j)) _ d) _ c

theorem quadsSwapped_only (c : Core) : SwapsOnly c (quadsSwapped c) :=
  ⟨quadsSwapped_cal c, fun k _ => rd_congr (quadsSwapped_regs c) k⟩

theorem idlePoint_only (c : Core) (w : Nat) : SwapsOnly c (idlePoint c w) := by
  unfold idlePoint
  split
  · exact swapPoint_only c w
  · exact SwapsOnly.refl c

theorem swapAtOnce_only {c : Core} (h : c.cal.rebuilding = none) : SwapsOnly c (swapAtOnce c) := by
  rw [swapAtOnce_eq h]
  exact (quadsSwapped_only c).trans (SwapsOnly.foldl idlePoint_only _ _)

/-- A set SWAP_READY bit stands through the swaps at once while its Weaver runs or belongs to the swap group. -/
theorem bit_swapAtOnce {c : Core} (w : Fin 64) (h : c.cal.rebuilding = none) (hready : bit (rd c (gk 4)) w.val = true) :
    bit (rd (swapAtOnce c) (gk 4)) w.val = (inSwapGroup c w.val || (wState c w.val != 0 && wState c w.val != 4)) := by
  have hkeep (d : Core) (v : Nat) (hv : v ≠ w.val) :
      (bit (rd (idlePoint d v) (gk 4)) w.val, (idlePoint d v).cal, inSwapGroup (idlePoint d v) w.val, wState (idlePoint d v) w.val) =
        (bit (rd d (gk 4)) w.val, d.cal, inSwapGroup d w.val, wState d w.val) := by
    have honly := idlePoint_only d v
    have hbit : bit (rd (idlePoint d v) (gk 4)) w.val = bit (rd d (gk 4)) w.val := by
      unfold idlePoint
      split
      · exact bit_swapPoint_ne d hv
      · rfl
    rw [hbit, honly.1, inSwapGroup_congr honly.sameRegs, wState_congr honly.sameRegs]
  obtain ⟨d, hd, hfold⟩ := foldl_at (fun d => (bit (rd d (gk 4)) w.val, d.cal, inSwapGroup d w.val, wState d w.val)) hkeep
    List.nodup_range (List.mem_range.mpr w.isLt) (quadsSwapped c)
  simp only [Prod.mk.injEq] at hd hfold
  obtain ⟨hbit, hcal, hgroup, hstate⟩ := hd
  rw [rd_congr (quadsSwapped_regs c)] at hbit
  rw [inSwapGroup_congr (quadsSwapped_only c).sameRegs] at hgroup
  rw [wState_congr (quadsSwapped_only c).sameRegs] at hstate
  rw [quadsSwapped_cal] at hcal
  rw [swapAtOnce_eq h, hfold.1, idlePoint, hstate]
  by_cases hidle : wState c w.val = 0 ∨ wState c w.val = 4
  · rw [if_pos hidle, bit_swapPoint_same (hbit.trans hready) (by rw [hcal, h]), hgroup]
    rcases hidle with hidle | hidle <;> simp [hidle]
  · rw [if_neg hidle, hbit, hready]
    obtain ⟨h0, h4⟩ := not_or.mp hidle
    simp [h0, h4]

theorem getPin_swapQuad_ne (c : Core) {p q : Nat} (h : q ≠ p / 4) : getPin (swapQuad c q) p = getPin c p := by
  refine foldl_keeps_mem (getPin · p) (fun d j hj => getPin_swapPin_ne d ?_) c
  have hj4 : j < 4 := by
    simp only [List.mem_cons, List.not_mem_nil, or_false] at hj
    omega
  omega

theorem getPin_swapQuad_own (c : Core) (p : Nat) : getPin (swapQuad c (p / 4)) p = swappedPin (getPin c p) := by
  have hkeep (d : Core) (j : Nat) (hj : j ≠ p % 4) : getPin (swapPin d (4 * (p / 4) + j)) p = getPin d p :=
    getPin_swapPin_ne d (by omega)
  have hmem : p % 4 ∈ [0, 1, 2, 3] := by
    have hlt := Nat.mod_lt p (show 4 > 0 by decide)
    simp only [List.mem_cons, List.not_mem_nil, or_false]
    omega
  obtain ⟨d, hd, hfold⟩ := foldl_at (getPin · p) hkeep (by decide) hmem c
  rw [Nat.div_add_mod] at hfold
  rw [← hd, ← getPin_swapPin_same]
  exact hfold

theorem getPin_quadsSwapped {c : Core} (p : Fin 256) (h : quadSwaps c (p.val / 4) = true) :
    getPin (quadsSwapped c) p.val = swappedPin (getPin c p.val) := by
  have hquad : p.val / 4 ∈ (List.range 64).filter (quadSwaps c) := List.mem_filter.mpr ⟨List.mem_range.mpr (by omega), h⟩
  obtain ⟨d, hd, hfold⟩ := foldl_at (getPin · p.val) (fun d q hq => getPin_swapQuad_ne d hq)
    (List.nodup_range.filter _) hquad c
  rw [← hd, ← getPin_swapQuad_own]
  exact hfold

/-- The pins of a quad that swaps at once have their newer banks. -/
theorem getPin_swapAtOnce {c : Core} (p : Fin 256) (h : c.cal.rebuilding = none) (hq : quadSwaps c (p.val / 4) = true) :
    getPin (swapAtOnce c) p.val = swappedPin (getPin c p.val) := by
  rw [swapAtOnce_eq h]
  refine List.foldlRecOn (motive := fun d => getPin d p.val = swappedPin (getPin c p.val)) _ idlePoint
    (getPin_quadsSwapped p hq) (fun d hd w _ => ?_)
  unfold idlePoint
  split
  · exact (getPin_swapPoint_settled d w (by rw [hd, swappedPin_swappedPin])).trans hd
  · exact hd

/-- The block with the banks of a rebuild written: the generation has risen. -/
def rebuilt (c : Core) : Core :=
  setCal (wr c (gk 8) ((rd c (gk 8) + 1) % 2 ^ 32)) { c.cal with rebuilding := none, rebuildAgain := false }

theorem completeRebuild_once {c : Core} (h : c.cal.rebuilding.isSome = true) (hagain : c.cal.rebuildAgain = false) :
    completeRebuild c = swapAtOnce (raiseReady (rebuilt c)) := by
  obtain ⟨t, ht⟩ := Option.isSome_iff_exists.mp h
  simp only [completeRebuild, ht, wr_cal, hagain, Bool.false_eq_true, if_false, rebuilt, setCal]

theorem rd_rebuilt (c : Core) (k : Key) : rd (rebuilt c) k = if k = gk 8 then (rd c (gk 8) + 1) % 2 ^ 32 else rd c k := rd_wr c _ _ _

theorem sameRegs_rebuilt (c : Core) : SameRegsBut [gk 4, gk 8] c (rebuilt c) := by
  intro k hk
  rw [rd_rebuilt, if_neg (fun h => hk (by simp [h]))]

/-! ## SWAP_TIMEOUT (R193) -/

/-- The block with a wait noted and counted. -/
def waitCounted (c : Core) (w : Nat) : Core := bump (modW c w (fun x => { x with swapRaised := true })) (gk 0x10)

theorem swapTimedOut_first {c : Core} {w : Nat} (hready : bit (rd c (gk 4)) w = true) (hraised : (getW c w).swapRaised = false) :
    swapTimedOut c w = raise (waitCounted c w) 288 1 w := by
  simp only [swapTimedOut, hready, hraised, Bool.not_false, Bool.and_self, if_true, waitCounted]

theorem rd_waitCounted (c : Core) (w : Nat) (k : Key) :
    rd (waitCounted c w) k = if k = gk 0x10 then (rd c (gk 0x10) + 1) % 2 ^ 64 else rd c k := by
  rw [waitCounted, bump, bumpBy, rd_wr, rd_modW, rd_modW]

theorem getW_waitCounted (c : Core) (w : Nat) : (getW (waitCounted c w) w).swapRaised = true := by
  rw [waitCounted, bump, bumpBy, getW_wr, getW_modW_same]

/-! ## The objects (Tables 6-6 and 6-7) -/

theorem objIs_groupEpoch : objIs (gk 0xE) .u64 .rw .any = true := by decide +kernel

theorem objIs_calStart : objIs (gk 6) .bool (.rwm [.calibrate]) (.nat 1 1) = true := by decide +kernel

theorem objIs_fieldCommit : objIs (gk 0xA) .bool (.rwm [.calibrate]) (.nat 1 1) = true := by decide +kernel

theorem objIs_tapQuery (p : Fin 256) : objIs (mkKey (0x3300 + p.val) 6) .u64 .rw .tapQuery = true := by revert p; decide +kernel

theorem gk_free {sub : Nat} (h : sub < 256) :
    (keyIx (gk sub) == 0x5800 && keySub (gk sub) == 2) = false ∧ (gk sub == dk 3 || gk sub == dk 4) = false :=
  mkKey_free h (by decide) (by decide)

theorem tapQuery_free (p : Fin 256) : (keyIx (mkKey (0x3300 + p.val) 6) == 0x5800 && keySub (mkKey (0x3300 + p.val) 6) == 2) = false ∧
    (mkKey (0x3300 + p.val) 6 == dk 3 || mkKey (0x3300 + p.val) 6 == dk 4) = false :=
  mkKey_free (by decide) (by omega) (by omega)

theorem width_u64 (v : BitVec 64) : ¬ 2 ^ (8 * ObjTy.u64.width) ≤ v.toNat := by
  have hlt := v.isLt
  simp only [ObjTy.width]
  omega

theorem writeFail_groupEpoch {c : Core} (e : BitVec 64) (ho : Open c) : writeFail c false (gk 0xE) e.toNat 0 0 = none :=
  writeFail_none objIs_groupEpoch ho (by simp [width_u64]) rfl (gk_free (by decide)).2 rfl rfl rfl rfl

theorem writeFail_calStart {c : Core} (ho : Open c) (hm : InModes c [.calibrate]) : writeFail c false (gk 6) 1 0 0 = none :=
  writeFail_none objIs_calStart ho rfl rfl (gk_free (by decide)).2 rfl (modeAccepts_rwm hm) rfl rfl

theorem writeFail_fieldCommit {c : Core} (ho : Open c) (hm : InModes c [.calibrate]) : writeFail c false (gk 0xA) 1 0 0 = none :=
  writeFail_none objIs_fieldCommit ho rfl rfl (gk_free (by decide)).2 rfl (modeAccepts_rwm hm) rfl rfl

theorem writeFail_tapQuery {c : Core} (p : Fin 256) {v : BitVec 64} (ho : Open c) (hreserved : bit v.toNat 39 = false)
    (hpath : bits v.toNat 40 5 ≤ 19) (hhigh : bits v.toNat 45 19 = 0) :
    writeFail c false (mkKey (0x3300 + p.val) 6) v.toNat 0 0 = none := by
  have hrange : rangeFail .u64 .tapQuery v.toNat = none := by simp [rangeFail, hreserved, hpath, hhigh]
  exact writeFail_none (objIs_tapQuery p) ho (by simp [width_u64]) rfl (tapQuery_free p).2 rfl rfl rfl hrange

/-- A write that passes its checks and that its object refuses answers the status alone. -/
theorem makes_effW_error {i : Instr} {s : State} {k : Key} {v : Nat} {f : Core → Written} {st : Status}
    (he : exec i s = wrote s k v 0 (effW f)) (hw : writeFail s.core false k v 0 0 = none) (ht : closedTo s.core k = false)
    (hf : f s.core = .error st) : Makes i s { s.core with status := st } := by
  simp only [Makes, Gives, he, wrote_eq _ _ _ _ _ hw ht, effW, effA, hf, answer]

/-! ## GROUP_EPOCH (R195) -/

theorem writeGroupEpoch_ok {c : Core} {e : Nat}
    (h : e = 0 ∨ epochNow c + 2 ≤ e ∧ e ≤ epochNow c + 2 ^ 32 ∧ noDeviceId c = false) :
    writeGroupEpoch c e = .ok (startHeld (wr c (gk 0xE) e)) := by
  rcases h with rfl | ⟨hlo, hhi, hid⟩
  · rfl
  · have he : e ≠ 0 := by omega
    simp only [writeGroupEpoch, he, guardSt, hlo, hhi, hid, decide_true, Bool.not_false, if_true, if_false]

theorem writeGroupEpoch_past {c : Core} {e : Nat} (he : e ≠ 0) (h : e < epochNow c + 2) :
    writeGroupEpoch c e = .error stEpochPast := by
  simp only [writeGroupEpoch, he, guardSt, Nat.not_le.mpr h, decide_false, Bool.false_eq_true, if_false]

theorem writeGroupEpoch_far {c : Core} {e : Nat} (h : epochNow c + 2 ^ 32 < e) : writeGroupEpoch c e = .error stEpochTooFar := by
  have he : e ≠ 0 := by omega
  have hlo : epochNow c + 2 ≤ e := by omega
  simp only [writeGroupEpoch, he, guardSt, hlo, Nat.not_le.mpr h, decide_true, decide_false, Bool.false_eq_true, if_true, if_false]

/-! ## Foreground calibration (R199) -/

theorem startForeground_eq (c : Core) :
    startForeground c = setCal (wr c (gk 7) 1) { c.cal with fgRunning := true, fgCold := !refwarm c } := rfl

/-- The results with a coarse-position table that is not valid (R183). -/
def badResults (rs : List CalResult) : List CalResult :=
  rs.filter (fun r => !((List.range 8).all (fun g => coarseValid (r.coarse.getD g []))))

/-- The results are taken: the tables of all, and the deltas where every table is valid. -/
def resultsTaken (c : Core) (rs : List CalResult) : Core :=
  if (badResults rs).isEmpty then rs.foldl takeResult (rs.foldl takeTables c) else rs.foldl takeTables c

/-- The drifts of a pin are cleared. -/
def clearDrift (c : Core) (p : Nat) : Core := if (getPin c p).drift = [] then c else modPin c p (fun x => { x with drift := [] })

/-- CAL_FLAGS after foreground calibration: cleared, or with TAP_FAULT of the pins that failed. -/
def flagsPut (c : Core) (bad : List CalResult) : Core :=
  if bad.isEmpty then (List.range 256).foldl (fun c p => wr c (mkKey (0x3200 + p) 9) 0) c
  else bad.foldl (fun c r => wr c (mkKey (0x3200 + r.pin.val) 9) (rd c (mkKey (0x3200 + r.pin.val) 9) ||| 2)) c

/-- The block with CAL_STATUS at the outcome of foreground calibration. -/
def outcomePut (c : Core) (rs : List CalResult) : Core :=
  wr (flagsPut ((List.range 256).foldl clearDrift (resultsTaken c rs)) (badResults rs)) (gk 7) (if (badResults rs).isEmpty then 2 else 3)

/-- The block as foreground calibration ends, before the raises and the rebuild. -/
def foregroundEnded (c : Core) (rs : List CalResult) : Core :=
  setCal (outcomePut c rs) { (outcomePut c rs).cal with
    fgRunning := false, fgDone := (outcomePut c rs).cal.fgDone || (badResults rs).isEmpty, roundCold := false, coldNow := !refwarm c
    source := rs.flatMap (fun r => r.source.map (fun e => (r.pin.val, e))), sourceRound := 0 }

theorem completeForeground_running {c : Core} (rs : List CalResult) (h : c.cal.fgRunning = true) : completeForeground c rs =
    startRebuild (raiseGroups (foregroundEnded c rs) ((badResults rs).foldl (fun m r => setBit m (r.pin.val / 16)) 0) 1) := by
  simp only [completeForeground, h, if_true, foregroundEnded, outcomePut, flagsPut, resultsTaken, badResults, setCal]
  congr

/-- The field delta that a result gives a path: its offset less the factory's at its temperature. -/
def fieldDelta (r : CalResult) (path : Nat) : Int :=
  r.offsets.getD path 0 - interpAt r.tempMc (fun i => Config.factoryOffset r.pin.val i path)

/-- The field deltas that a result stages. -/
def stagedDelta (r : CalResult) : SMap Int :=
  (List.range 20).foldl (fun m path => mset 0 m path (fieldDelta r path)) []

/-- A map that takes a value for each key of a range reads it for each of them. -/
theorem mget_foldl_mset (f : Nat → Int) (n : Nat) {i : Nat} (h : i < n) :
    mget 0 ((List.range n).foldl (fun m j => mset 0 m j (f j)) []) i = f i := by
  induction n with
  | zero => omega
  | succ n ih =>
    rw [List.range_succ, List.foldl_append, List.foldl_cons, List.foldl_nil]
    by_cases hi : i = n
    · subst hi
      exact mget_mset_same _ _ _ _
    · rw [mget_mset_ne _ _ _ _ hi]
      exact ih (by omega)

theorem takeResult_eq (c : Core) (r : CalResult) : takeResult c r =
    wr (modPin c r.pin.val (fun x => { x with staged := stagedDelta r, stagedCold := c.cal.fgCold })) (mkKey (0x3200 + r.pin.val) 5)
      r.eye.toNat := rfl

theorem takeTables_regs (c : Core) (r : CalResult) : (takeTables c r).regs = c.regs := rfl

theorem takeTables_fgDone (c : Core) (r : CalResult) : (takeTables c r).cal.fgDone = c.cal.fgDone := rfl

theorem takeResult_cal (c : Core) (r : CalResult) : (takeResult c r).cal = c.cal := rfl

theorem staged_takeTables (c : Core) (r : CalResult) (p : Nat) : (getPin (takeTables c r) p).staged = (getPin c p).staged := by
  unfold takeTables
  by_cases hp : p = r.pin.val
  · subst hp
    rw [getPin_modPin_same]
    rfl
  · rw [getPin_modPin_ne _ _ hp]
    rfl

/-- What a result stages for its pin, and its EYE_CAL. -/
theorem takeResult_own (c : Core) (r : CalResult) :
    ((getPin (takeResult c r) r.pin.val).staged, rd (takeResult c r) (mkKey (0x3200 + r.pin.val) 5)) =
      (stagedDelta r, r.eye.toNat) := by
  rw [takeResult_eq, rd_wr_same, getPin_wr, getPin_modPin_same]

/-- A result changes no other pin. -/
theorem takeResult_other (c : Core) {r o : CalResult} (h : o.pin ≠ r.pin) :
    ((getPin (takeResult c o) r.pin.val).staged, rd (takeResult c o) (mkKey (0x3200 + r.pin.val) 5)) =
      ((getPin c r.pin.val).staged, rd c (mkKey (0x3200 + r.pin.val) 5)) := by
  have hval : r.pin.val ≠ o.pin.val := fun hv => h (Fin.ext hv.symm)
  have hkey : keyIx (mkKey (0x3200 + r.pin.val) 5) ≠ 0x3200 + o.pin.val := by
    rw [keyIx_mkKey (by decide)]
    omega
  rw [takeResult_eq, rd_wr_ne _ _ (ne_mkKey hkey), getPin_wr, getPin_modPin_ne _ _ hval, rd_modPin]

/-- The results of a calibration without a bad table are taken, each for its own pin. -/
theorem resultsTaken_own {c : Core} {rs : List CalResult} {r : CalResult} (hbad : badResults rs = []) (hr : r ∈ rs)
    (hone : ∀ o ∈ rs, o.pin = r.pin → o = r) :
    (getPin (resultsTaken c rs) r.pin.val).staged = stagedDelta r ∧
      rd (resultsTaken c rs) (mkKey (0x3200 + r.pin.val) 5) = r.eye.toNat := by
  rw [resultsTaken, hbad, if_pos List.isEmpty_nil]
  have htaken := foldl_sets (fun c => ((getPin c r.pin.val).staged, rd c (mkKey (0x3200 + r.pin.val) 5)))
    (fun c => takeResult_own c r) (fun c o ho hne => takeResult_other c (fun hp => hne (hone o ho hp)))
    (c := rs.foldl takeTables c) (.inr hr)
  exact Prod.mk.inj htaken

theorem resultsTaken_fgDone (c : Core) (rs : List CalResult) : (resultsTaken c rs).cal.fgDone = c.cal.fgDone := by
  have htables := foldl_keeps (fun c => c.cal.fgDone) takeTables_fgDone rs c
  unfold resultsTaken
  split
  · exact (foldl_keeps (fun c => c.cal.fgDone) (fun c r => congrArg Cal.fgDone (takeResult_cal c r)) rs _).trans htables
  · exact htables

/-- A calibration with a bad table stages nothing. -/
theorem staged_resultsTaken_bad {c : Core} {rs : List CalResult} (hbad : badResults rs ≠ []) (p : Nat) :
    (getPin (resultsTaken c rs) p).staged = (getPin c p).staged := by
  rw [resultsTaken, if_neg (by simpa using hbad)]
  exact foldl_keeps (fun c => (getPin c p).staged) (fun c r => staged_takeTables c r p) rs c

theorem clearDrift_regs (c : Core) (p : Nat) : (clearDrift c p).regs = c.regs := by
  unfold clearDrift
  split <;> rfl

theorem clearDrift_cal (c : Core) (p : Nat) : (clearDrift c p).cal = c.cal := by
  unfold clearDrift
  split <;> rfl

theorem drift_clearDrift_same (c : Core) (p : Nat) : (getPin (clearDrift c p) p).drift = [] := by
  unfold clearDrift
  split
  · assumption
  · rw [getPin_modPin_same]

theorem getPin_clearDrift_ne (c : Core) {p q : Nat} (h : q ≠ p) : getPin (clearDrift c p) q = getPin c q := by
  unfold clearDrift
  split
  · rfl
  · exact getPin_modPin_ne c _ h

theorem staged_clearDrift (c : Core) (p q : Nat) : (getPin (clearDrift c p) q).staged = (getPin c q).staged := by
  by_cases h : q = p
  · subst h
    unfold clearDrift
    split
    · rfl
    · rw [getPin_modPin_same]
  · rw [getPin_clearDrift_ne c h]

/-- CAL_FLAGS are written one by one: what each of the writes keeps stands. -/
theorem flagsPut_keeps {β : Type} (f : Core → β) (h : ∀ c p v, f (wr c (mkKey (0x3200 + p) 9) v) = f c) (c : Core)
    (bad : List CalResult) : f (flagsPut c bad) = f c := by
  unfold flagsPut
  split
  · exact foldl_keeps_mem f (fun d p _ => h d p 0) c
  · exact foldl_keeps_mem f (fun d r _ => h d r.pin.val _) c

theorem rd_flagsPut_eye (c : Core) (bad : List CalResult) (p : Nat) :
    rd (flagsPut c bad) (mkKey (0x3200 + p) 5) = rd c (mkKey (0x3200 + p) 5) :=
  flagsPut_keeps (rd · _) (fun d q v => rd_wr_ne d v (mkKey_ne_sub _ _ (by decide))) c bad

theorem getPin_foregroundEnded (c : Core) (rs : List CalResult) (p : Nat) :
    getPin (foregroundEnded c rs) p = getPin ((List.range 256).foldl clearDrift (resultsTaken c rs)) p := by
  rw [foregroundEnded, getPin_setCal, outcomePut, getPin_wr]
  exact flagsPut_keeps (getPin · p) (fun d q v => getPin_wr d _ v p) _ _

theorem drift_foregroundEnded (c : Core) (rs : List CalResult) (p : Fin 256) : (getPin (foregroundEnded c rs) p.val).drift = [] := by
  rw [getPin_foregroundEnded]
  exact foldl_sets (fun c => (getPin c p.val).drift) (fun c => drift_clearDrift_same c p.val)
    (fun c q _ hq => congrArg Pin.drift (getPin_clearDrift_ne c (Ne.symm hq))) (.inr (List.mem_range.mpr p.isLt))

theorem staged_foregroundEnded (c : Core) (rs : List CalResult) (p : Nat) :
    (getPin (foregroundEnded c rs) p).staged = (getPin (resultsTaken c rs) p).staged := by
  rw [getPin_foregroundEnded]
  exact foldl_keeps (fun c => (getPin c p).staged) (fun c q => staged_clearDrift c q p) _ _

theorem eye_foregroundEnded (c : Core) (rs : List CalResult) (p : Nat) :
    rd (foregroundEnded c rs) (mkKey (0x3200 + p) 5) = rd (resultsTaken c rs) (mkKey (0x3200 + p) 5) := by
  have hkey : mkKey (0x3200 + p) 5 ≠ gk 7 := mkKey_ne_sub _ _ (by decide)
  rw [foregroundEnded, rd_setCal, outcomePut, rd_wr_ne _ _ hkey, rd_flagsPut_eye]
  exact rd_congr (foldl_keeps Core.regs clearDrift_regs _ _) _

theorem status_foregroundEnded (c : Core) (rs : List CalResult) :
    rd (foregroundEnded c rs) (gk 7) = if (badResults rs).isEmpty then 2 else 3 := by
  rw [foregroundEnded, rd_setCal, outcomePut, rd_wr_same]

theorem fgDone_foregroundEnded (c : Core) (rs : List CalResult) :
    (foregroundEnded c rs).cal.fgDone = (c.cal.fgDone || (badResults rs).isEmpty) := by
  have hcal : (outcomePut c rs).cal = (resultsTaken c rs).cal := by
    rw [outcomePut, wr_cal, flagsPut_keeps Core.cal (fun d q v => wr_cal d _ v)]
    exact foldl_keeps Core.cal clearDrift_cal _ _
  rw [foregroundEnded, setCal_cal, hcal, resultsTaken_fgDone]

/-! ## FIELD_COMMIT (R200) -/

/-- A pin's staged delta becomes its field set. -/
def commitPin (c : Core) (p : Nat) : Core :=
  if (getPin c p).field = (getPin c p).staged ∧ (getPin c p).fieldCold = (getPin c p).stagedCold then c
  else setPin c p { getPin c p with field := (getPin c p).staged, fieldCold := (getPin c p).stagedCold }

theorem commitField_done {c : Core} (h : c.cal.fgDone = true) : commitField c = .ok ((List.range 256).foldl commitPin c) := by
  unfold commitField
  rw [h]
  rfl

theorem commitField_never {c : Core} (h : c.cal.fgDone = false) : commitField c = .error stStateConflict := by
  unfold commitField
  rw [h]
  rfl

theorem commitPin_regs (c : Core) (p : Nat) : (commitPin c p).regs = c.regs := by
  unfold commitPin
  split <;> rfl

theorem getPin_commitPin_ne (c : Core) {p q : Nat} (h : q ≠ p) : getPin (commitPin c p) q = getPin c q := by
  unfold commitPin
  split
  · rfl
  · exact getPin_setPin_ne c _ h

theorem getPin_commitPin_same (c : Core) (p : Nat) : getPin (commitPin c p) p =
    { getPin c p with field := (getPin c p).staged, fieldCold := (getPin c p).stagedCold } := by
  unfold commitPin
  split
  · next hsame =>
    obtain ⟨hfield, hcold⟩ := hsame
    rw [← hfield, ← hcold]
  · exact getPin_setPin_same c p _

theorem getPin_commitPins (c : Core) (p : Fin 256) : getPin ((List.range 256).foldl commitPin c) p.val =
    { getPin c p.val with field := (getPin c p.val).staged, fieldCold := (getPin c p.val).stagedCold } := by
  obtain ⟨d, hd, hfold⟩ := foldl_at (getPin · p.val) (fun d q hq => getPin_commitPin_ne d (Ne.symm hq)) List.nodup_range
    (List.mem_range.mpr p.isLt) c
  rw [← hd]
  exact hfold.trans (getPin_commitPin_same d p.val)

/-! ## The statement -/

/-- Settles O42: the rounds, the rebuild and the results of calibration pin by pin, the swaps Weaver by Weaver, and each write by
its effect. -/
theorem calibrationCommands : Obligations.CalibrationCommands := by
  unfold Obligations.CalibrationCommands
  refine ⟨?roundOff, ?round, ?rebuild, ?timeout, ?groupEpoch, ?start, ?complete, ?commit, ?query⟩
  case roundOff =>
    intro s hoff
    exact makes_didC rfl (roundEnd_off hoff)
  case round =>
    intro s hon c
    have hregs : c.regs = s.core.regs := by
      by_cases hm : inMode s.core .calibrate = true
      · exact (congrArg Core.regs (if_pos hm)).trans (takeSources_regs _)
      · exact congrArg Core.regs (if_neg hm)
    refine ⟨roundClosed c, makes_didC rfl (roundEnd_on hon rfl), fun p => ?_⟩
    obtain ⟨⟨t, hpin⟩, hrounds⟩ := roundPins_at c p
    rw [roundClosed, getPin_setCal, rd_setCal, hpin, hrounds, rd_congr hregs]
    exact ⟨rfl, rfl, rfl, rfl, fun hwf path => mget_roundDrift (getPin c p.val) path hwf⟩
  case rebuild =>
    intro s hwrites hagain
    have hbuilt := sameRegs_rebuilt s.core
    have hready := raiseReady_only (rebuilt s.core)
    have hnone : (raiseReady (rebuilt s.core)).cal.rebuilding = none := congrArg Cal.rebuilding hready.1
    have hswap := swapAtOnce_only hnone
    have hraised := hbuilt.trans hready.sameRegs
    refine ⟨_, makes_didC rfl (completeRebuild_once hwrites hagain), ?_, ?_, hraised.trans hswap.sameRegs, fun w hw => ?_,
      fun p hp hnewer => ?_⟩
    · rw [(hready.trans hswap).2 (gk 8) (by decide), rd_rebuilt, if_pos rfl]
    · rw [hswap.1, hnone]
    · rw [← quadsOf_congr hbuilt] at hw
      rw [bit_swapAtOnce w hnone (bit_raiseReady w hw), inSwapGroup_congr hraised, wState_congr hraised]
    · have hquad : quadSwaps (raiseReady (rebuilt s.core)) (p.val / 4) = true := by
        simp [quadSwaps, quadWeaver_congr hraised, hp]
      rw [getPin_swapAtOnce p hnone hquad, getPin_raiseReady]
      exact activeCorr_swappedPin hnewer
  case timeout =>
    intro s w hready hraised
    refine ⟨_, makes_didC rfl (swapTimedOut_first hready hraised), getW_waitCounted _ _, ?_, fun k hk => ?_⟩
    · rw [rd_waitCounted, if_pos rfl]
    · rw [rd_waitCounted, if_neg (by simpa using hk)]
  case groupEpoch =>
    intro s e ho
    have hpass := writeFail_groupEpoch e ho
    have hopen : closedTo s.core (gk 0xE) = false := closedTo_open ho (gk_free (by decide)).1
    refine ⟨fun h => ?_, fun h0 hpast => ?_, fun hfar => ?_⟩
    · have he : e.toNat = 0 ∨ epochNow s.core + 2 ≤ e.toNat ∧ e.toNat ≤ epochNow s.core + 2 ^ 32 ∧ noDeviceId s.core = false :=
        h.imp_left (fun h => by rw [h]; rfl)
      exact accepts_scalar rfl hpass hopen (effW_ok (writeGroupEpoch_ok he))
    · have he : e.toNat ≠ 0 := fun h => h0 (BitVec.eq_of_toNat_eq h)
      exact makes_effW_error rfl hpass hopen (writeGroupEpoch_past he hpast)
    · exact makes_effW_error rfl hpass hopen (writeGroupEpoch_far hfar)
  case start =>
    intro s ho hm
    refine ⟨startForeground s.core, accepts_scalar rfl (writeFail_calStart ho hm) (closedTo_open ho (gk_free (by decide)).1) rfl,
      ?_, rfl, rfl, fun k hk => ?_⟩
    · rw [startForeground_eq, rd_setCal, rd_wr_same]
    · rw [startForeground_eq, rd_setCal, rd_wr_ne _ _ (by simpa using hk)]
  case complete =>
    intro s rs hrun bad
    refine ⟨foregroundEnded s.core rs, makes_didC rfl (completeForeground_running rs hrun), rfl, rfl, rfl,
      drift_foregroundEnded s.core rs, ?_, fun hbad => ⟨?_, fun p => ?_⟩, fun hbad => ⟨?_, fun r hr hone => ?_⟩⟩
    · rw [status_foregroundEnded]
      exact if_congr List.isEmpty_iff rfl rfl
    · have hsome : (badResults rs).isEmpty = false := List.isEmpty_eq_false_iff.mpr hbad
      rw [fgDone_foregroundEnded, hsome, Bool.or_false]
    · rw [staged_foregroundEnded, staged_resultsTaken_bad hbad]
    · have hnone : (badResults rs).isEmpty = true := List.isEmpty_iff.mpr hbad
      rw [fgDone_foregroundEnded, hnone, Bool.or_true]
    · obtain ⟨hstaged, heye⟩ := resultsTaken_own (c := s.core) hbad hr hone
      rw [eye_foregroundEnded, staged_foregroundEnded, hstaged, heye]
      exact ⟨rfl, fun path hpath => mget_foldl_mset (fieldDelta r) 20 hpath⟩
  case commit =>
    intro s ho hm
    have hpass := writeFail_fieldCommit ho hm
    have hopen : closedTo s.core (gk 0xA) = false := closedTo_open ho (gk_free (by decide)).1
    refine ⟨fun hdone => ⟨_, accepts_scalar rfl hpass hopen (effW_ok (commitField_done hdone)), ?_, getPin_commitPins s.core⟩,
      fun hnever => makes_effW_error rfl hpass hopen (commitField_never hnever)⟩
    exact foldl_keeps Core.regs commitPin_regs _ s.core
  case query =>
    intro s p v ho hreserved hpath hhigh
    exact accepts_scalar rfl (writeFail_tapQuery p ho hreserved hpath hhigh) (closedTo_open ho (tapQuery_free p).1) rfl

end Sys2Proof.Machine
end

section
/-!
The way of a staged record to its place in a ring or in the Landing, and STREAM_TABLE (R215, R219 to R221, R413).
-/
namespace Sys2Proof.Machine

/-! ## What a raise and a failed check leave of the DOMAIN objects -/

theorem stopAtVector_doms (c : Core) (k w : Nat) : (stopAtVector c k w).doms = c.doms := by
  unfold stopAtVector
  split
  · rfl
  · split <;> rfl

theorem foldl_stop_doms (l : List Nat) (k : Nat) (c : Core) : (l.foldl (fun c w => stopAtVector c k w) c).doms = c.doms :=
  foldl_keeps Core.doms (fun c w => stopAtVector_doms c k w) l c

theorem foldl_wr_doms (f : Nat → Key) (v : Nat) (l : List Nat) (c : Core) : (l.foldl (fun c i => wr c (f i) v) c).doms = c.doms :=
  foldl_keeps Core.doms (fun c i => wr_doms c (f i) v) l c

theorem react_doms (c : Core) (src eff : Nat) (given : List Nat) : (react c src eff given).doms = c.doms := by
  unfold react
  split
  · rfl
  · split
    · rw [foldl_stop_doms]
    · dsimp only
      split
      · split
        · simp only [foldl_stop_doms]
        · split <;> simp only [foldl_stop_doms]
      · simp only [foldl_wr_doms, foldl_stop_doms]

theorem latchFirst_doms (c : Core) (src eff : Nat) : (latchFirst c src eff).1.doms = c.doms := by
  unfold latchFirst
  dsimp only
  split <;> rfl

theorem queueEvent_doms (c : Core) (e : FaultEvent) : (queueEvent c e).doms = c.doms := by
  unfold queueEvent
  split <;> rfl

theorem tallyEvent_doms (c : Core) (n : Nat) : (tallyEvent c n).doms = c.doms := rfl

/-- A raise leaves every DOMAIN object. -/
theorem raiseFor_doms (c : Core) (src lvl d : Nat) (given : List Nat) : (raiseFor c src lvl d given).doms = c.doms := by
  unfold raiseFor
  dsimp only
  rw [react_doms]
  split <;> simp only [tallyEvent_doms, queueEvent_doms, latchFirst_doms]

theorem voided_doms (c : Core) (seq : Nat) (given : List Nat) : (voided c seq given).doms = c.doms := raiseFor_doms _ _ _ _ _

/-- A failed check of a checkpoint is counted in one object. -/
theorem dom_countCrcFail (c : Core) (point : Nat) {k : Key} (h : k ≠ mkKey 0x7800 5) : dom (countCrcFail c point) k = dom c k :=
  dom_setDom_ne c _ h

/-- The check of a record at placement leaves the stream table. -/
theorem streamEntry_checkedRecord (c : Core) (x : Staged) (n : Nat) : streamEntry (checkedRecord c x).2 n = streamEntry c n := by
  unfold checkedRecord
  split
  · rfl
  · have hdom : dom (voided (countCrcFail c 0) x.seq [x.weaver]) (mkKey 0x5C01 0) = dom c (mkKey 0x5C01 0) := by
      rw [dom, voided_doms]
      exact dom_countCrcFail c 0 (by decide)
    exact congrArg (streamEntryOf · n) hdom

theorem checkedRecord_good (c : Core) {x : Staged} (h : crcOk x.bytes = true) : checkedRecord c x = (x.bytes, c) := if_pos h

theorem checkedRecord_bad (c : Core) {x : Staged} (h : crcOk x.bytes = false) :
    checkedRecord c x = (voidRecord c x.stream x.seq 1, voided (countCrcFail c 0) x.seq [x.weaver]) :=
  if_neg (by simp [h])

/-! ## Ring units (R220) -/

/-- The units of a run no longer than the ring stand apart. -/
theorem ringAddr_apart (e : StreamEntry) (pos : Nat) {j : Nat} (h0 : 0 < j) (h : j < e.ringUnits) :
    ringAddr e pos + 32 ≤ ringAddr e (pos + j) ∨ ringAddr e (pos + j) + 32 ≤ ringAddr e pos := by
  have hne : pos % e.ringUnits ≠ (pos + j) % e.ringUnits := by
    intro he
    have hz := Nat.sub_mod_eq_zero_of_mod_eq he.symm
    rw [Nat.add_sub_cancel_left, Nat.mod_eq_of_lt h] at hz
    omega
  unfold ringAddr
  omega

theorem checkedStore_fst (m : Mem) (c : Core) (a : Nat) (l : List Byte) (hint : PageHint) : (checkedStore m c a l hint).1 = store m a l := rfl

/-- A record's units change no byte outside their addresses. -/
theorem readByte_storeUnits_outside (k : Nat) (m : Mem) (c : Core) (e : StreamEntry) (pos : Nat) (hint : PageHint) (l : List Byte) (a : Nat)
    (h : ∀ j < k, a < ringAddr e (pos + j) ∨ ringAddr e (pos + j) + 32 ≤ a) :
    readByte (storeUnits m c e pos hint k l).1 a = readByte m a := by
  induction k generalizing m c pos l with
  | zero => rfl
  | succ k ih =>
    have hfirst : a < ringAddr e pos ∨ ringAddr e pos + (l.take 32).length ≤ a := by
      have := h 0 (by omega)
      have := List.length_take_le 32 l
      simp only [Nat.add_zero] at *
      omega
    have hrest : ∀ j < k, a < ringAddr e (pos + 1 + j) ∨ ringAddr e (pos + 1 + j) + 32 ≤ a := by
      intro j hj
      have := h (j + 1) (by omega)
      rwa [show pos + (j + 1) = pos + 1 + j by omega] at this
    exact (ih _ _ _ _ hrest).trans (readByte_store_outside m _ _ a hfirst)

theorem ringBytes_succ (m : Mem) (e : StreamEntry) (seq pos k : Nat) :
    ringBytes m e { seq := seq, pos := pos, units := k + 1 } =
      readBytes m (ringAddr e pos) 32 ++ ringBytes m e { seq := seq, pos := pos + 1, units := k } := by
  simp only [ringBytes, List.range_succ_eq_map, List.flatMap_cons, List.flatMap_map, Nat.add_zero, Nat.succ_eq_add_one,
    Nat.add_assoc, Nat.add_comm 1]

/-- A record of whole units, no longer than its ring, reads back from the units where it was stored. -/
theorem ringBytes_storeUnits (k : Nat) (m : Mem) (c : Core) (e : StreamEntry) (seq pos : Nat) (hint : PageHint) (l : List Byte)
    (hl : l.length = 32 * k) (hk : k ≤ e.ringUnits) :
    ringBytes (storeUnits m c e pos hint k l).1 e { seq := seq, pos := pos, units := k } = l := by
  induction k generalizing m c pos l with
  | zero => exact (List.length_eq_zero_iff.mp hl).symm
  | succ k ih =>
    have hlen : (l.take 32).length = 32 := by rw [List.length_take]; omega
    have hfirst : readBytes (storeUnits m c e pos hint (k + 1) l).1 (ringAddr e pos) 32 = l.take 32 := by
      refine .trans (List.map_congr_left fun i hi => ?_) (hlen ▸ readBytes_store m (ringAddr e pos) (l.take 32))
      refine readByte_storeUnits_outside k _ _ e (pos + 1) hint _ _ fun j hj => ?_
      have hi := List.mem_range.mp hi
      have := ringAddr_apart e pos (Nat.succ_pos j) (by omega)
      rw [show pos + j.succ = pos + 1 + j by omega] at this
      omega
    rw [ringBytes_succ, hfirst, storeUnits, ih _ _ _ _ (by rw [List.length_drop]; omega) (by omega), List.take_append_drop]

theorem ringTakes_fits {c : Core} {n units : Nat} (h : ringTakes c n units = true) : units ≤ (streamEntry c n).ringUnits := by
  have hfree : units ≤ ringFree c n := of_decide_eq_true (Bool.and_eq_true_iff.mp h).2
  exact hfree.trans (Nat.sub_le _ _)

/-! ## RECORD_PLACEMENT (R215, R220, R221) -/

theorem placeRecord_none {c : Core} {n : Nat} (m : Mem) (h : nextStaged c n = none) : placeRecord m c n = (m, c) := by
  simp only [placeRecord, h]

/-- Without room in its ring a record stays staged. -/
theorem placeRecord_full {c : Core} {n : Nat} {x : Staged} (m : Mem) (hx : nextStaged c n = some x) (hgood : crcOk x.bytes = true)
    (hring : goesToRing x.dest x.bytes = true) (hfull : ringTakes c n (unitsOf x.bytes) = false) : placeRecord m c n = (m, c) := by
  simp only [placeRecord, hx, checkedRecord_good c hgood, hring, hfull, Bool.not_false, Bool.and_true, Bool.true_or, if_true]

/-- The block when a staged record has left the Landing and its credit has returned. -/
def unstaged (c : Core) (x : Staged) : Core :=
  { c with landing := { c.landing with staged := c.landing.staged.erase x, held := c.landing.held - x.credit } }

/-- A record for its ring alone is written there and leaves the Landing. -/
theorem placeRecord_ring {c : Core} {n : Nat} {x : Staged} (m : Mem) (hx : nextStaged c n = some x)
    (hring : goesToRing x.dest (checkedRecord c x).1 = true) (hboom : goesToBoom x.dest (checkedRecord c x).1 = false)
    (hroom : ringTakes c n (unitsOf (checkedRecord c x).1) = true) :
    placeRecord m c n =
      ((ringWrite m (checkedRecord c x).2 n x.seq (checkedRecord c x).1).1,
        reschedule (recordStands (releaseShares (unstaged (ringWrite m (checkedRecord c x).2 n x.seq (checkedRecord c x).1).2 x))
          n x.seq (checkedRecord c x).1)) := by
  simp only [placeRecord, hx, hring, hboom, hroom, Bool.not_true, Bool.and_false, Bool.false_and, Bool.or_false, Bool.false_eq_true,
    if_true, if_false]
  rfl

/-- A DIRECT record of one unit is none of the ring's and none of the boom's. -/
theorem direct_stays {x : Staged} (hdest : x.dest = 0) (hkind : recKind x.bytes < 8) :
    goesToRing x.dest x.bytes = false ∧ goesToBoom x.dest x.bytes = false := by
  simp [goesToRing, goesToBoom, hdest, hkind]

/-- The block when a staged record stands in the Landing as placed. -/
def placedInLanding (c : Core) (x : Staged) : Core :=
  { c with landing := { c.landing with
      staged := c.landing.staged.map (fun y => if y = x then { y with bytes := x.bytes, placed := true } else y) } }

/-- A record for neither ring nor boom stays in the Landing. -/
theorem placeRecord_landing {c : Core} {n : Nat} {x : Staged} (m : Mem) (hx : nextStaged c n = some x) (hgood : crcOk x.bytes = true)
    (hring : goesToRing x.dest x.bytes = false) (hboom : goesToBoom x.dest x.bytes = false) :
    placeRecord m c n = (m, reschedule (recordStands (releaseShares (placedInLanding c x)) n x.seq x.bytes)) := by
  simp only [placeRecord, hx, checkedRecord_good c hgood, hring, hboom, Bool.false_and, Bool.or_false, Bool.false_eq_true, if_false]
  rfl

/-! ## STREAM_TABLE (R219) -/

theorem objIs_streamTable : objIs (mkKey 0x5C01 0) .domain .rw .any = true := by decide +kernel

theorem domMax_streamTable : domMax (mkKey 0x5C01 0) = 2097152 := by decide +kernel

/-- A STREAM_TABLE within the size of its object makes what the check of its entries answers. -/
theorem makes_streamTable {s : State} {data : List Byte} (ho : Open s.core) (hmax : data.length ≤ 2097152) :
    Makes (.streamTable data) s { (answer s.core (writeStreamTable s.core data)).2 with
      status := (answer s.core (writeStreamTable s.core data)).1 } := by
  obtain ⟨hjobs, hauth⟩ := mkKey_free (ix := 0x5C01) (sub := 0) (by decide) (by decide) (by decide)
  exact makes_domain (f := fun c => answer c (writeStreamTable c data)) rfl (blockFail_none objIs_streamTable ho rfl hauth rfl)
    (closedTo_open ho hjobs) (by rwa [domMax_streamTable])

section
variable {data : List Byte} (hpos : 0 < data.length) (h32 : data.length % 32 = 0)
include hpos h32

/-- A table of whole entries is refused for the first check that an entry fails. -/
theorem writeStreamTable_bad (c : Core) {st : Status} (hbad : streamTableStatus data = some st) : writeStreamTable c data = .error st := by
  have hsize : ¬(data.length = 0 ∨ data.length % 32 ≠ 0) := by omega
  simp only [writeStreamTable, hsize, if_false, hbad]

/-- A table of sound entries is judged by the entries of the used streams. -/
theorem writeStreamTable_sound (c : Core) (hgood : streamTableStatus data = none) : writeStreamTable c data =
    guardSt ((usedStreams c).all (fun n => slice (dom c (mkKey 0x5C01 0)) (32 * n) 32 == slice data (32 * n) 32)) stStateConflict
      (.ok (setDom c (mkKey 0x5C01 0) data)) := by
  have hsize : ¬(data.length = 0 ∨ data.length % 32 ≠ 0) := by omega
  simp only [writeStreamTable, hsize, if_false, hgood]

theorem writeStreamTable_kept (c : Core) (hgood : streamTableStatus data = none)
    (hkept : ∀ n ∈ usedStreams c, slice (dom c (mkKey 0x5C01 0)) (32 * n) 32 = slice data (32 * n) 32) :
    writeStreamTable c data = .ok (setDom c (mkKey 0x5C01 0) data) :=
  (writeStreamTable_sound hpos h32 c hgood).trans (if_pos (List.all_eq_true.mpr fun n hn => beq_iff_eq.mpr (hkept n hn)))

theorem writeStreamTable_conflict (c : Core) (hgood : streamTableStatus data = none)
    (hdiffers : ∃ n ∈ usedStreams c, slice (dom c (mkKey 0x5C01 0)) (32 * n) 32 ≠ slice data (32 * n) 32) :
    writeStreamTable c data = .error stStateConflict := by
  obtain ⟨n, hn, hne⟩ := hdiffers
  exact (writeStreamTable_sound hpos h32 c hgood).trans (if_neg fun hall => hne (eq_of_beq (List.all_eq_true.mp hall n hn)))

end

/-! ## The statement -/

/-- Settles O43: each branch of the placement by where the record goes, the ring units by induction on their number, and each
write of the table by the check that decides it. -/
theorem recordsReachTheirPlace : Obligations.RecordsReachTheirPlace := by
  unfold Obligations.RecordsReachTheirPlace
  refine ⟨?none, ?full, ?ring, ?check, ?direct, ?table⟩
  case none => exact fun s n h => gives_did rfl (placeRecord_none s.mem h)
  case full => exact fun s n x hx hgood hring hfull => gives_did rfl (placeRecord_full s.mem hx hgood hring hfull)
  case ring =>
    intro s n x hx e bytes c st w c0 hlen hring hboom hroom
    have hwhole : bytes.length = 32 * unitsOf bytes := by
      unfold unitsOf
      omega
    have he : streamEntry c n.toNat = e := streamEntry_checkedRecord s.core x n.toNat
    have hwritten : ringWrite s.mem c n.toNat x.seq bytes = (w.1, c0) := by
      simp only [ringWrite, he]
      rfl
    have hplaced := placeRecord_ring s.mem hx hring hboom hroom
    rw [hwritten] at hplaced
    exact ⟨gives_did rfl hplaced, ringBytes_storeUnits _ _ _ _ _ _ _ _ hwhole (ringTakes_fits hroom),
      fun a => readByte_storeUnits_outside _ _ _ _ _ _ _ a⟩
  case check => exact fun s x => ⟨checkedRecord_good s.core, checkedRecord_bad s.core⟩
  case direct =>
    intro s n x hx hgood hdest hkind
    obtain ⟨hring, hboom⟩ := direct_stays hdest hkind
    exact gives_did rfl (placeRecord_landing s.mem hx hgood hring hboom)
  case table =>
    intro s data ho hmax hpos h32
    have hmakes := makes_streamTable ho hmax
    refine ⟨fun hgood hkept => ?_, fun hgood hdiffers => ?_, fun st hbad => ?_⟩
    · rwa [writeStreamTable_kept hpos h32 s.core hgood hkept] at hmakes
    · rwa [writeStreamTable_conflict hpos h32 s.core hgood hdiffers] at hmakes
    · rwa [writeStreamTable_bad hpos h32 s.core hbad] at hmakes

end Sys2Proof.Machine
end

section
/-!
The frames of the Stream Transport: DATA, OPEN, ACK, NAK, CLOSE and the acknowledgement time-out (R223 to R227).
-/
namespace Sys2Proof.Machine

/-! ## What the egress check leaves: the device's number -/

@[simp] theorem deviceId_raiseFor (c : Core) (src lvl d : Nat) (given : List Nat) : deviceId (raiseFor c src lvl d given) = deviceId c :=
  raiseFor_rd _ _ _ _ _ _ (by decide)

@[simp] theorem deviceId_touchHbm (c : Core) (a n : Nat) (hint : PageHint) : deviceId (touchHbm c a n hint) = deviceId c :=
  touchHbm_regs _ _ _ _ (by decide)

@[simp] theorem deviceId_countCrcFail (c : Core) (point : Nat) : deviceId (countCrcFail c point) = deviceId c := rfl

@[simp] theorem deviceId_voided (c : Core) (seq : Nat) (given : List Nat) : deviceId (voided c seq given) = deviceId c :=
  (deviceId_raiseFor _ _ _ _ _).trans (rd_wr_ne c _ (by decide))

@[simp] theorem deviceId_recoveredCopy (c : Core) (seq : Nat) : deviceId (recoveredCopy c seq) = deviceId c :=
  (deviceId_raiseFor _ _ _ _ _).trans (rd_wr_ne c _ (by decide))

@[simp] theorem deviceId_ueMet (c : Core) (u : Nat) : deviceId (ueMet c u) = deviceId c :=
  (deviceId_raiseFor _ _ _ _ _).trans (rd_wr_ne c _ (by decide))

@[simp] theorem deviceId_checkedStore (m : Mem) (c : Core) (a : Nat) (l : List Byte) (hint : PageHint) :
    deviceId (checkedStore m c a l hint).2 = deviceId c :=
  (foldl_keeps deviceId deviceId_ueMet _ _).trans
    ((foldl_keeps deviceId (fun c b => deviceId_touchHbm c (4096 * b) 4096 .close) _ _).trans (deviceId_touchHbm _ _ _ _))

@[simp] theorem deviceId_storeUnits (k : Nat) (m : Mem) (c : Core) (e : StreamEntry) (pos : Nat) (hint : PageHint) (l : List Byte) :
    deviceId (storeUnits m c e pos hint k l).2 = deviceId c := by
  induction k generalizing m c pos l with
  | zero => rfl
  | succ k ih => exact (ih _ _ _ _).trans (deviceId_checkedStore _ _ _ _ _)

/-- Reading the units of a ring record, with each uncorrectable error met, leaves the device's number. -/
theorem deviceId_unitsRead (bad units : List Nat) (f : Nat → Nat) (c : Core) :
    deviceId (bad.foldl ueMet (units.foldl (fun c k => touchHbm c (f k) 32 .auto) c)) = deviceId c :=
  (foldl_keeps deviceId deviceId_ueMet _ _).trans (foldl_keeps deviceId (fun c k => deviceId_touchHbm c (f k) 32 .auto) _ _)

theorem deviceId_egress (m : Mem) (c : Core) (n : Nat) (h : Held) : deviceId (egress m c n h).2.2 = deviceId c := by
  cases h with
  | ring r =>
    simp only [egress]
    split
    · exact deviceId_unitsRead _ _ _ c
    · split <;> simp only [deviceId_storeUnits, deviceId_recoveredCopy, deviceId_voided, deviceId_countCrcFail, deviceId_unitsRead]
  | landing s =>
    simp only [egress]
    split
    · rfl
    · exact deviceId_voided _ _ _
  | lost seq => exact deviceId_voided _ _ _

theorem deviceId_gather (k : Nat) (m : Mem) (c : Core) (n after top units : Nat) (again : Bool) :
    deviceId (gather k m c n after top units again).2.2.2 = deviceId c := by
  induction k generalizing m c after units with
  | zero => rfl
  | succ k ih =>
    simp only [gather]
    split
    · rfl
    · split
      · rfl
      · split
        · rfl
        · exact (ih _ _ _ _).trans (deviceId_egress m c n _)

/-! ## DATA (R225) -/

/-- The block when gathered records have left in a frame from a port. -/
def dataSent (c : Core) (n p last : Nat) (host : HostAddr) (frame : List Byte) : Core :=
  tallyEvent (sendUdp (modStream c n (fun st => { st with sent := last, everSent := max st.everSent last, eth := p })) p svcSt host frame) 0xDC

/-- What a stream gathers for one frame of a port from its next held record up to a sequence: all sent before, or all new. -/
def gathered (m : Mem) (c : Core) (n p top : Nat) (h : Held) : List (List Byte) × (Nat × (Mem × Core)) :=
  gather 256 m c n (getStream c n).sent top (frameUnits c p) (decide (heldSeq h ≤ (getStream c n).everSent))

theorem deviceId_gathered (m : Mem) (c : Core) (n p top : Nat) (h : Held) : deviceId (gathered m c n p top h).2.2.2 = deviceId c :=
  deviceId_gather _ _ _ _ _ _ _ _

/-- A bound stream whose port is up sends what it gathers from its next held record. -/
theorem sendOwn_gathered {c : Core} {n p top : Nat} {host : HostAddr} {h : Held} (m : Mem) (hbound : (getStream c n).bound = some host)
    (hport : streamPort c (streamEntry c n).port (getStream c n).eth = some p) (hruns : stStopped c = false)
    (hfence : pairState c = 5 → (streamEntry c n).mirror = false)
    (htop : min (getStream c n).journal ((getStream c n).lastAck + (getStream c n).window) = top)
    (hnext : nextHeld c n (getStream c n).sent top = some h) (hsome : (gathered m c n p top h).1 ≠ []) :
    sendOwn m c n = ((gathered m c n p top h).2.2.1, dataSent (gathered m c n p top h).2.2.2 n p (gathered m c n p top h).2.1 host
      (dataFrame (gathered m c n p top h).2.2.2 (deviceId c) n (heldSeq h) (getStream c n).session
        (decide (heldSeq h ≤ (getStream c n).everSent)) false (gathered m c n p top h).1)) := by
  have hopen : ¬(stStopped c = true ∨ (pairState c = 5 ∧ (streamEntry c n).mirror = true)) := by
    rintro (hs | ⟨h5, hm⟩)
    · simp [hruns] at hs
    · simp [hfence h5] at hm
  unfold gathered at hsome
  simp only [sendOwn, hbound, hport, hopen, htop, hnext, List.isEmpty_iff, hsome, if_false]
  rfl

theorem sendStream_own {c : Core} (m : Mem) (n : Nat) (h : pairState c ≠ 4) : sendStream m c n = sendOwn m c n := by
  simp only [sendStream, h, and_false, if_false]

/-- A DATA command that no retrain keeps waiting sends. -/
theorem exec_stData {s : State} {n : BitVec 16} (h : s.core.hbm.training = false ∨ (getStream s.core n.toNat).ring = []) :
    exec (.stData n) s = did s (sendStream s.mem s.core n.toNat) := by
  refine bestEffort_run s ?_ _ _
  rcases h with h | h <;> simp [h]

/-! ## Frames for the device's own streams (R223) -/

theorem forPartner_unserved {c : Core} {f : StFrame} (h : pairState c ≠ 4) : forPartner c f = false := by
  simp [forPartner, h]

/-- A frame with a tag wherever AUTH_REQUIRED asks it is not refused for want of one. -/
theorem not_tagMissing {c : Core} {key : Option (List Byte)} (h : authRequired c = true → key.isSome = true) :
    ¬(authRequired c = true ∧ key.isNone = true) := by
  rintro ⟨hr, hn⟩
  cases key with
  | none => exact absurd (h hr) (by decide)
  | some k => cases hn

theorem stBoundFrame_ok {c : Core} {ty : Nat} {f : StFrame} {key : Option (List Byte)} (h : stAccept c ty f = .ok key)
    (hauth : authRequired c = true → key.isSome = true) : stBoundFrame c ty f = .ok () := by
  simp only [stBoundFrame, h, not_tagMissing hauth, if_false]

/-! ## OPEN (R224) -/

theorem openStatus_ok {c : Core} {f : StFrame} {key : Option (List Byte)} {low next : Nat}
    (hauth : authRequired c = true → key.isSome = true) (hlow : low ≤ f.seq.toNat) (hnext : f.seq.toNat ≤ next) :
    openStatus c f key low next = stOk := by
  simp only [openStatus, not_tagMissing hauth, Nat.not_lt.mpr hlow, Nat.not_lt.mpr hnext, if_false]

theorem openStatus_stale {c : Core} {f : StFrame} {key : Option (List Byte)} {low next : Nat}
    (hauth : authRequired c = true → key.isSome = true) (hlow : f.seq.toNat < low) : openStatus c f key low next = stStaleSequence := by
  simp only [openStatus, not_tagMissing hauth, hlow, if_false, if_true]

/-- A stream bound to the sender of an OPEN. -/
def openBound (st : Stream) (f : StFrame) (key : Option (List Byte)) : Stream :=
  { st with bound := some f.src, session := (if key.isSome then f.session.toNat else 0), eth := f.eth.val, window := f.window.toNat }

/-- A stream bound by an OPEN with status OK, which is sent from its SEQ. -/
def openFrom (st : Stream) (f : StFrame) (key : Option (List Byte)) : Stream :=
  { openBound st f key with sent := f.seq.toNat - 1, everSent := max st.everSent (f.seq.toNat - 1), lastAck := f.seq.toNat - 1 }

section
variable {c : Core} {f : StFrame} {key : Option (List Byte)} (hkey : stAccept c stTypeOpen f = .ok key) (hpair : pairState c ≠ 4)
  (hown : forOwn c f = true) (hauth : authRequired c = true → key.isSome = true)
include hkey hpair hown hauth

theorem stOpenFrame_ok (m : Mem) (hlow : (getStream c f.stream.toNat).acked + 1 ≤ f.seq.toNat)
    (hnext : f.seq.toNat ≤ (getStream c f.stream.toNat).next) :
    stOpenFrame m c f = ackStream m (setStream (openReply c f key ((getStream c f.stream.toNat).acked + 1) stOk) f.stream.toNat
      (openFrom (getStream c f.stream.toNat) f key)) f.stream.toNat (f.seq.toNat - 1) := by
  have hne : stOk ≠ stAuthRequired := by decide
  simp only [stOpenFrame, hkey, forPartner_unserved hpair, hown, openStatus_ok hauth hlow hnext, hne, Bool.false_eq_true, if_false, if_true,
    ne_eq, not_true_eq_false]
  rfl

theorem stOpenFrame_stale (m : Mem) (hlow : f.seq.toNat < (getStream c f.stream.toNat).acked + 1) :
    stOpenFrame m c f = (m, setStream (openReply c f key ((getStream c f.stream.toNat).acked + 1) stStaleSequence) f.stream.toNat
      (openBound (getStream c f.stream.toNat) f key)) := by
  have hne : stStaleSequence ≠ stAuthRequired := by decide
  have hbad : stStaleSequence ≠ stOk := by decide
  simp only [stOpenFrame, hkey, forPartner_unserved hpair, hown, openStatus_stale hauth hlow, hne, hbad, Bool.false_eq_true, if_false, if_true,
    ne_eq, not_false_eq_true]
  rfl

end

/-! ## ACK, NAK and CLOSE (R224, R226) -/

/-- A stream whose records up to the SEQ of an ACK are acknowledged. -/
def ackTaken (st : Stream) (f : StFrame) : Stream :=
  { st with lastAck := f.seq.toNat, window := f.window.toNat, sent := max st.sent f.seq.toNat }

section
variable {c : Core} {f : StFrame} {key : Option (List Byte)} (hpair : pairState c ≠ 4) (hown : forOwn c f = true)
  (hauth : authRequired c = true → key.isSome = true) (hbound : (getStream c f.stream.toNat).bound = some f.src)
include hpair hown hauth hbound

/-- An ACK of the bound host is judged by the last one and by the highest sequence sent. -/
theorem stAckFrame_bound (m : Mem) (hkey : stAccept c stTypeAck f = .ok key) : stAckFrame m c f =
    if f.seq.toNat < (getStream c f.stream.toNat).lastAck then (m, tallyEvent c 0xDE)
    else if (getStream c f.stream.toNat).everSent < f.seq.toNat then (m, bump (tallyEvent c 0xDE) (mkKey 0x5C00 9))
    else ackStream m (setStream (tallyEvent c 0xDE) f.stream.toNat (ackTaken (getStream c f.stream.toNat) f)) f.stream.toNat f.seq.toNat := by
  simp only [stAckFrame, stBoundFrame_ok hkey hauth, forPartner_unserved hpair, hown, hbound, ackTaken, Bool.false_eq_true, Bool.not_true,
    if_false, ne_eq, not_true_eq_false]

/-- A NAK of the bound host sends again from its SEQ what was sent. -/
theorem stNakFrame_bound (hkey : stAccept c stTypeNak f = .ok key) : stNakFrame c f =
    if (getStream c f.stream.toNat).everSent < f.seq.toNat then c
    else countResend (setStream c f.stream.toNat { getStream c f.stream.toNat with
      sent := max (getStream c f.stream.toNat).acked (f.seq.toNat - 1) }) := by
  simp only [stNakFrame, stBoundFrame_ok hkey hauth, forPartner_unserved hpair, hown, hbound, Bool.false_eq_true, Bool.not_true, if_false,
    ne_eq, not_true_eq_false, false_or]

theorem stCloseFrame_bound (hkey : stAccept c stTypeClose f = .ok key) :
    stCloseFrame c f = setStream c f.stream.toNat { getStream c f.stream.toNat with bound := none } := by
  simp only [stCloseFrame, stBoundFrame_ok hkey hauth, forPartner_unserved hpair, hown, hbound, Bool.false_eq_true, Bool.not_true, if_false,
    if_true]

end

theorem stTimeout_waiting {c : Core} {n : Nat} (hbound : (getStream c n).bound.isSome = true)
    (hsent : (getStream c n).acked < (getStream c n).sent) :
    stTimeout c n = countResend (setStream c n { getStream c n with sent := (getStream c n).acked }) :=
  if_pos ⟨hbound, hsent⟩

/-! ## What an acknowledgement frees (R215, R220, R226) -/

theorem journalAdd_streams (c : Core) (kind id value : Nat) (isOpen : Bool) (run : Nat) :
    (journalAdd c kind id value isOpen run).streams = c.streams := by
  unfold journalAdd journalWait
  dsimp only
  split <;> rfl

theorem journalAdd_landing (c : Core) (kind id value : Nat) (isOpen : Bool) (run : Nat) :
    (journalAdd c kind id value isOpen run).landing = c.landing := by
  unfold journalAdd journalWait
  dsimp only
  split <;> rfl

theorem journalAdd_booms (c : Core) (kind id value : Nat) (isOpen : Bool) (run : Nat) :
    (journalAdd c kind id value isOpen run).booms = c.booms := by
  unfold journalAdd journalWait
  dsimp only
  split <;> rfl

theorem reschedule_streams (c : Core) : (reschedule c).streams = c.streams :=
  foldl_keeps Core.streams (fun c _ => wr_streams c _ _) _ c

theorem reschedule_landing (c : Core) : (reschedule c).landing = c.landing :=
  foldl_keeps Core.landing (fun c _ => wr_landing c _ _) _ c

/-- Without booms there is nothing to commit. -/
theorem settleBooms_none (m : Mem) {c : Core} (h : c.booms = []) : settleBooms m c = (m, reschedule c) := by
  simp only [settleBooms, h, List.map_nil, List.foldl_nil]

/-- The placed records of a stream that an acknowledgement up to a sequence covers. -/
def coveredBy (c : Core) (n seq : Nat) : List Staged :=
  c.landing.staged.filter (fun x => x.stream == n && x.placed && decide (x.seq ≤ seq))

/-- A stream with its records up to a sequence acknowledged and their ring units free. -/
def ackedTo (st : Stream) (seq : Nat) : Stream := { st with acked := seq, ring := st.ring.filter (fun r => decide (seq < r.seq)) }

/-- The block with staged records gone from the Landing. -/
def droppedStaged (c : Core) (gone : List Staged) : Core :=
  { c with landing := { c.landing with staged := c.landing.staged.filter (fun x => !gone.contains x) } }

/-- The block when an acknowledgement has freed the ring units and the credit of what it covers. -/
def ackFreed (c : Core) (n seq : Nat) : Core :=
  (coveredBy c n seq).foldl returnCredit (droppedStaged (setStream c n (ackedTo (getStream c n) seq)) (coveredBy c n seq))

theorem ackStream_advances (m : Mem) {c : Core} {n seq : Nat} (h : (getStream c n).acked < seq) :
    ackStream m c n seq = settleBooms m (releaseShares (journalAdd (ackFreed c n seq) 2 n seq false 0)) :=
  if_neg (Nat.not_le.mpr h)

theorem held_foldl_returnCredit (l : List Staged) (c : Core) :
    (l.foldl returnCredit c).landing.held = c.landing.held - (l.map Staged.credit).sum := by
  induction l generalizing c with
  | nil => rfl
  | cons x l ih => rw [List.foldl_cons, ih, List.map_cons, List.sum_cons, Nat.sub_add_eq]; rfl

theorem ackFreed_streams (c : Core) (n seq : Nat) :
    (ackFreed c n seq).streams = (setStream c n (ackedTo (getStream c n) seq)).streams :=
  foldl_keeps (g := returnCredit) Core.streams (fun _ _ => rfl) _ _

theorem ackFreed_booms (c : Core) (n seq : Nat) : (ackFreed c n seq).booms = c.booms :=
  foldl_keeps (g := returnCredit) Core.booms (fun _ _ => rfl) _ _

theorem ackFreed_held (c : Core) (n seq : Nat) :
    (ackFreed c n seq).landing.held = c.landing.held - ((coveredBy c n seq).map Staged.credit).sum := held_foldl_returnCredit _ _

theorem getStream_congr {c d : Core} (h : c.streams = d.streams) (n : Nat) : getStream c n = getStream d n := by
  rw [getStream, getStream, h]

/-- Without booms an acknowledgement frees, lets its journal entry wait, and the scheduler follows. -/
theorem ackStream_freed (m : Mem) {c : Core} {n seq : Nat} (hbooms : c.booms = []) (h : (getStream c n).acked < seq) :
    ackStream m c n seq = (m, reschedule (releaseShares (journalAdd (ackFreed c n seq) 2 n seq false 0))) := by
  rw [ackStream_advances m h, settleBooms_none]
  exact (journalAdd_booms _ _ _ _ _ _).trans ((ackFreed_booms c n seq).trans hbooms)

theorem getStream_ackStream (m : Mem) {c : Core} {n seq : Nat} (hbooms : c.booms = []) (h : (getStream c n).acked < seq) :
    getStream (ackStream m c n seq).2 n = ackedTo (getStream c n) seq := by
  have hstreams : (ackStream m c n seq).2.streams = (setStream c n (ackedTo (getStream c n) seq)).streams := by
    rw [ackStream_freed m hbooms h, reschedule_streams]
    exact (journalAdd_streams _ _ _ _ _ _).trans (ackFreed_streams c n seq)
  rw [getStream_congr hstreams, getStream_setStream_same]

theorem held_ackStream (m : Mem) {c : Core} {n seq : Nat} (hbooms : c.booms = []) (h : (getStream c n).acked < seq) :
    (ackStream m c n seq).2.landing.held = c.landing.held - ((coveredBy c n seq).map Staged.credit).sum := by
  rw [ackStream_freed m hbooms h, reschedule_landing]
  exact (congrArg Landing.held (journalAdd_landing _ _ _ _ _ _)).trans (ackFreed_held c n seq)

/-! ## The statement -/

/-- Settles O45: each frame by the equation of its handler for an own stream, ACK by how its SEQ stands to the last one and to what was sent. -/
theorem streamTransportFrames : Obligations.StreamTransportFrames := by
  unfold Obligations.StreamTransportFrames
  refine ⟨?data, ?opens, ?ack, ?frees, ?nak, ?close, ?timeout⟩
  case data =>
    intro s n host p h st top again r c hbound hport hruns hfence hpair htrain hnext hsome
    have hsent := sendOwn_gathered s.mem hbound hport hruns hfence rfl hnext hsome
    rw [← deviceId_gathered s.mem s.core n.toNat p top h] at hsent
    exact gives_did (exec_stData htrain) ((sendStream_own s.mem n.toNat hpair).trans hsent)
  case opens =>
    intro s f key hkey hpair hown hauth st y r
    exact ⟨fun hlow hnext => gives_did rfl (stOpenFrame_ok hkey hpair hown hauth s.mem hlow hnext),
      fun hlow => gives_did rfl (stOpenFrame_stale hkey hpair hown hauth s.mem hlow)⟩
  case ack =>
    intro s f key hkey hpair hown hauth st r hbound
    have hack := stAckFrame_bound hpair hown hauth hbound s.mem hkey
    refine ⟨fun hold => ?_, fun hnew hhigh => ?_, fun hnew hsent => ?_⟩
    · exact gives_did rfl (hack.trans (if_pos hold))
    · exact gives_did rfl ((hack.trans (if_neg (Nat.not_lt.mpr hnew))).trans (if_pos hhigh))
    · exact gives_did rfl ((hack.trans (if_neg (Nat.not_lt.mpr hnew))).trans (if_neg (Nat.not_lt.mpr hsent)))
  case frees =>
    intro m c n seq hbooms hseq
    rw [getStream_ackStream m hbooms hseq, held_ackStream m hbooms hseq]
    exact ⟨congrArg Prod.fst (ackStream_freed m hbooms hseq), rfl, rfl, rfl⟩
  case nak =>
    intro s f key hkey hpair hown hauth st hbound
    have hnak := stNakFrame_bound hpair hown hauth hbound hkey
    exact ⟨fun hsent => makes_didC rfl (hnak.trans (if_neg (Nat.not_lt.mpr hsent))), fun hhigh => makes_didC rfl (hnak.trans (if_pos hhigh))⟩
  case close => exact fun s f key hkey hpair hown hauth hbound => makes_didC rfl (stCloseFrame_bound hpair hown hauth hbound hkey)
  case timeout => exact fun s n hbound hsent => makes_didC rfl (stTimeout_waiting hbound hsent)

end Sys2Proof.Machine
end

section
/-!
A TIE result of a TDC channel reaches the chains and the acquisition units (R264, R265); every TDC channel stays as it was.
-/
namespace Sys2Proof.Machine

@[simp] theorem bump_tdcs (c : Core) (k : Key) : (bump c k).tdcs = c.tdcs := rfl

@[simp] theorem bumpBy_tdcs (c : Core) (k : Key) (n : Nat) : (bumpBy c k n).tdcs = c.tdcs := rfl

@[simp] theorem setAcq_tdcs (c : Core) (u : Nat) (x : Acq) : (setAcq c u x).tdcs = c.tdcs := rfl

@[simp] theorem modAcq_tdcs (c : Core) (u : Nat) (f : Acq → Acq) : (modAcq c u f).tdcs = c.tdcs := rfl

@[simp] theorem setChain_tdcs (c : Core) (n : Nat) (x : Chain) : (setChain c n x).tdcs = c.tdcs := rfl

@[simp] theorem modChain_tdcs (c : Core) (n : Nat) (f : Chain → Chain) : (modChain c n f).tdcs = c.tdcs := rfl

@[simp] theorem tallyEvent_tdcs (c : Core) (src : Nat) : (tallyEvent c src).tdcs = c.tdcs := rfl

@[simp] theorem noteAccepted_tdcs (c : Core) (source : Nat) (v : Int) (ovr : Bool) : (noteAccepted c source v ovr).tdcs = c.tdcs := rfl

theorem OnlySent.tdcs {c d : Core} (h : OnlySent c d) : d.tdcs = c.tdcs := by
  obtain ⟨x, o, f, l, rfl⟩ := h
  rfl

/-! ## Tokens -/

/-- An own token that is flooded is sent, and nothing else changes. -/
theorem floodToken_only (c : Core) (slots : List Slot) : OnlySent c (floodToken c slots none) := by
  have hlinks (l : List Nat) : OnlySent c (l.foldl (fun c k => sendSlots c k 0 slots) c) :=
    .foldl _ (fun c k => sendSlots_only c k 0 slots) l c
  simp only [floodToken, Bool.false_eq_true, if_false]
  split
  · exact (hlinks _).trans (.foldl _ (fun c a => sendUdp_only c _ _ a _) _ _)
  · exact hlinks _

@[simp] theorem sendFire_tdcs (c : Core) (stamp tgroup unit : Nat) : (sendFire c stamp tgroup unit).tdcs = c.tdcs :=
  (floodToken_only (ownToken c).2 _).tdcs.trans rfl

/-! ## The records of a unit -/

@[simp] theorem fillFifo_tdcs (n : Nat) (c : Core) (u : Nat) : (fillFifo n c u).tdcs = c.tdcs := by
  induction n generalizing c with
  | zero => rfl
  | succ n ih =>
    simp only [fillFifo]
    split
    · rfl
    · split
      · exact ih _
      · rfl

@[simp] theorem pushMade_tdcs (c : Core) (u : Nat) (r : AcqRec) : (pushMade c u r).tdcs = c.tdcs := by simp [pushMade]

@[simp] theorem pushSpan_tdcs (c : Core) (u : Nat) (s : AcqSpan) : (pushSpan c u s).tdcs = c.tdcs := by
  unfold pushSpan
  dsimp only
  split <;> simp

@[simp] theorem pushMark_tdcs (c : Core) (u : Nat) (k : AcqMark) : (pushMark c u k).tdcs = c.tdcs := by
  unfold pushMark
  dsimp only
  split <;> simp

@[simp] theorem closeSpan_tdcs (c : Core) (u : Nat) : (closeSpan c u).tdcs = c.tdcs := by
  unfold closeSpan
  split <;> simp

/-! ## The samples of a unit -/

@[simp] theorem finishAcq_tdcs (c : Core) (u cause : Nat) : (finishAcq c u cause).tdcs = c.tdcs := by
  unfold finishAcq
  dsimp only
  split <;> split <;> simp

@[simp] theorem flushAcq_tdcs (c : Core) (u : Nat) : (flushAcq c u).tdcs = c.tdcs := by
  unfold flushAcq
  dsimp only
  split <;> split <;> simp

@[simp] theorem groupFire_tdcs (c : Core) (tgroup stamp device unit : Nat) (own : Option Nat) :
    (groupFire c tgroup stamp device unit own).tdcs = c.tdcs := by
  refine foldl_keeps Core.tdcs (fun c u => ?_) _ _
  dsimp only
  split <;> simp

@[simp] theorem testSample_tdcs (c : Core) (u : Nat) (s : AcqSample) : (testSample c u s).tdcs = c.tdcs := by
  unfold testSample
  dsimp only
  repeat' split
  all_goals simp

@[simp] theorem testDue_tdcs (n : Nat) (c : Core) (u upto : Nat) : (testDue n c u upto).tdcs = c.tdcs := by
  induction n generalizing c with
  | zero => rfl
  | succ n ih =>
    simp only [testDue]
    split
    · rfl
    · split
      · simp [ih]
      · rfl

@[simp] theorem testAll_tdcs (c : Core) (u : Nat) : (testAll c u).tdcs = c.tdcs := testDue_tdcs _ _ _ _

@[simp] theorem acqSample_tdcs (c : Core) (u : Nat) (value : Int) (stamp flags : Nat) :
    (acqSample c u value stamp flags).tdcs = c.tdcs := by
  unfold acqSample
  dsimp only
  repeat' split
  all_goals simp

@[simp] theorem acqFeed_tdcs (c : Core) (source : Nat) (value : Int) (stamp flags : Nat) :
    (acqFeed c source value stamp flags).tdcs = c.tdcs := by
  refine foldl_keeps Core.tdcs (fun c u => ?_) _ _
  split <;> simp

/-! ## The inputs and outputs of a chain -/

@[simp] theorem closeBlock_tdcs (c : Core) (n : Nat) : (closeBlock c n).tdcs = c.tdcs := by simp [closeBlock]

@[simp] theorem detect_tdcs (c : Core) (n : Nat) (y : Int) (flags : Nat) : (detect c n y flags).tdcs = c.tdcs := by
  unfold detect
  dsimp only
  split <;> simp

@[simp] theorem chainOutput_tdcs (c : Core) (n : Nat) (num : Int) (stamp : Nat) : (chainOutput c n num stamp).tdcs = c.tdcs := by
  simp only [chainOutput, acqFeed_tdcs, detect_tdcs]
  split <;> simp

@[simp] theorem chainInput_tdcs (c : Core) (n : Nat) (v : Option Int) (stamp : Nat) (ovr warm : Bool) :
    (chainInput c n v stamp ovr warm).tdcs = c.tdcs := by
  unfold chainInput
  dsimp only
  split
  · rfl
  · split <;> split <;> simp

/-- A TIE result that reaches the chains leaves every channel. -/
theorem tieFeed_tdcs (c : Core) (ch : Nat) (value : Int) (stamp : Nat) (replaced warm first : Bool) :
    (tieFeed c ch value stamp replaced warm first).tdcs = c.tdcs := by
  have hchain (c : Core) (n : Nat) (b : Prop) [Decidable b] (f : Chain → Chain) (v : Option Int) (ovr : Bool) :
      (chainInput (if b then modChain c n f else c) n v stamp ovr warm).tdcs = c.tdcs := by
    split <;> simp
  refine (foldl_keeps Core.tdcs (fun c n => ?_) _ _).trans ?_
  · split
    · rfl
    · exact hchain _ _ _ _ _ _
  · split <;> simp

end Sys2Proof.Machine
end

section
/-!
The channels of the time-to-digital converters and the code-density runs (R230 to R250): the objects, what an entry, an end and a
result leave of a channel, then each command.
-/
namespace Sys2Proof.Machine

/-! ## The objects (Tables 8-8 and 8-9) -/

theorem objIs_tdcArm (ch : Fin 264) : objIs (tdk ch.val 0x10) .bool (.rwm [.warm, .calibrate, .run]) (.nat 0 1) = true := by
  revert ch; decide +kernel

theorem objIs_cdStart : objIs (tgk 1) .bool (.rwm [.warm, .calibrate, .run]) (.nat 1 1) = true := by decide +kernel

theorem tdk_free (ch : Fin 264) {sub : Nat} (h : sub < 256) :
    (keyIx (tdk ch.val sub) == 0x5800 && keySub (tdk ch.val sub) == 2) = false ∧ (tdk ch.val sub == dk 3 || tdk ch.val sub == dk 4) = false :=
  mkKey_free h (by omega) (by omega)

theorem tgk_free {sub : Nat} (h : sub < 256) :
    (keyIx (tgk sub) == 0x5800 && keySub (tgk sub) == 2) = false ∧ (tgk sub == dk 3 || tgk sub == dk 4) = false :=
  mkKey_free h (by decide) (by decide)

/-- A write of 0 or 1 to ARM passes the checks. -/
theorem writeFail_tdcArm {c : Core} (ch : Fin 264) {v : Nat} (ho : Open c) (hm : InModes c [.warm, .calibrate, .run]) (hv : v ≤ 1) :
    writeFail c false (tdk ch.val 0x10) v 0 0 = none := by
  have hwidth : ¬ 2 ^ (8 * ObjTy.bool.width) ≤ v := by simp only [ObjTy.width]; omega
  have htype : typeFail .bool v = none := if_neg (Nat.not_lt.mpr hv)
  have hrange : rangeFail .bool (.nat 0 1) v = none := by simp [rangeFail, hv]
  exact writeFail_none (objIs_tdcArm ch) ho (by simp [hwidth]) rfl (tdk_free ch (by decide)).2 rfl (modeAccepts_rwm hm) htype hrange

theorem closedTo_tdcArm {c : Core} (ch : Fin 264) (ho : Open c) : closedTo c (tdk ch.val 0x10) = false :=
  closedTo_open ho (tdk_free ch (by decide)).1

theorem writeFail_cdStart {c : Core} (ho : Open c) (hm : InModes c [.warm, .calibrate, .run]) : writeFail c false (tgk 1) 1 0 0 = none :=
  writeFail_none objIs_cdStart ho rfl rfl (tgk_free (by decide)).2 rfl (modeAccepts_rwm hm) rfl rfl

theorem closedTo_cdStart {c : Core} (ho : Open c) : closedTo c (tgk 1) = false := closedTo_open ho (tgk_free (by decide)).1

/-- Two objects of a channel are one where their sub-indices are. -/
@[simp] theorem tdk_eq_iff (ch i j : Nat) : tdk ch i = tdk ch j ↔ i = j := by simp [tdk, mkKey]

/-- The same object of two channels is one where the channels are. -/
theorem tdk_ne_channel {ch ch' : Nat} (h : ch ≠ ch') (i : Nat) : tdk ch i ≠ tdk ch' i := by simp [tdk, mkKey, h]

/-- No object of a channel is a global one. -/
theorem tdk_ne_tgk (ch : Nat) {i j : Nat} (h : i ≠ j) (hi : i < 256 := by decide) (hj : j < 256 := by decide) : tdk ch i ≠ tgk j :=
  mkKey_ne_sub _ _ h hi hj

/-! ## What the other operations leave of a channel -/

@[simp] theorem getTdc_wr (c : Core) (k : Key) (v n : Nat) : getTdc (wr c k v) n = getTdc c n := rfl

@[simp] theorem getTdc_bump (c : Core) (k : Key) (n : Nat) : getTdc (bump c k) n = getTdc c n := rfl

@[simp] theorem elapse_tdcs (c : Core) (n : Nat) : (elapse c n).tdcs = c.tdcs := by
  unfold elapse
  split <;> rfl

@[simp] theorem getTdc_elapseTo (c : Core) (t n : Nat) : getTdc (elapseTo c t) n = getTdc c n := by
  unfold elapseTo
  split
  · rw [getTdc, elapse_tdcs, getTdc]
  · rfl

@[simp] theorem measuring_elapseTo (c : Core) (t ch : Nat) : measuring (elapseTo c t) ch = measuring c ch := by
  rw [measuring, rd_elapseTo, measuring]

@[simp] theorem live_elapseTo (c : Core) (t ch : Nat) : live (elapseTo c t) ch = live c ch := by
  rw [live, measuring_elapseTo, getTdc_elapseTo, live]

@[simp] theorem resultEntry_elapseTo (c : Core) (t ch kind flags edge stamp value : Nat) :
    resultEntry (elapseTo c t) ch kind flags edge stamp value = resultEntry c ch kind flags edge stamp value := by
  rw [resultEntry, rd_elapseTo, resultEntry]

/-! ## The registers that an operation leaves -/

theorem sameRegsBut_wr (c : Core) {k : Key} {l : List Key} (v : Nat) (h : k ∈ l) : SameRegsBut l c (wr c k v) :=
  fun _ hj => rd_wr_ne c v (fun he => hj (he ▸ h))

theorem SameRegsBut.mono {l l' : List Key} {a b : Core} (h : SameRegsBut l a b) (hl : ∀ k ∈ l, k ∈ l') : SameRegsBut l' a b :=
  fun k hk => h k (fun hm => hk (hl k hm))

theorem SameRegsBut.of_regs {l : List Key} {a b : Core} (h : b.regs = a.regs) : SameRegsBut l a b := fun k _ => rd_congr h k

/-! ## Entries and ends (R242 to R244) -/

/-- What waits at a channel after an entry: the entry too, where the channel has a ring. -/
def queued (x : Tdc) (entry : List Byte) : List (List Byte) := if x.cfg.ringEntries = 0 then x.fifo else x.fifo ++ [entry]

theorem getTdc_queueEntry (c : Core) (ch : Nat) (entry : List Byte) :
    getTdc (queueEntry c ch entry) ch = { getTdc c ch with fifo := queued (getTdc c ch) entry } := by
  rw [queueEntry, modTdc, getTdc_setTdc_same]
  by_cases hring : (getTdc c ch).cfg.ringEntries = 0
  · simp only [queued, if_pos hring]
  · simp only [queued, if_neg hring]

/-- Whether the channel has a place for its END entry, or has no ring. -/
def HasRoom (x : Tdc) : Prop := x.cfg.ringEntries = 0 ∨ x.fifo.length < 256

theorem HasRoom.not_full {x : Tdc} (h : HasRoom x) : ¬ (x.cfg.ringEntries ≠ 0 ∧ 256 ≤ x.fifo.length) := by
  rintro ⟨hring, hfull⟩
  exact h.elim hring (Nat.not_lt.mpr hfull)

/-- With room the measurement ends: its END entry is queued and the channel is IDLE. -/
theorem endMeasure_room {c : Core} {ch : Nat} (h : HasRoom (getTdc c ch)) (cause instant : Nat) : endMeasure c ch cause instant =
    wr (queueEntry c ch (resultEntry c ch 0xF 0 cause instant (getTdc c ch).results)) (tdk ch 0x12) 0 := if_neg h.not_full

/-- While the whole FIFO is full the END entry waits. -/
theorem endMeasure_full {c : Core} {ch : Nat} (hring : (getTdc c ch).cfg.ringEntries ≠ 0) (hfull : 256 ≤ (getTdc c ch).fifo.length)
    (cause instant : Nat) : endMeasure c ch cause instant =
      setTdc c ch { getTdc c ch with ending := some (resultEntry c ch 0xF 0 cause instant (getTdc c ch).results) } := if_pos ⟨hring, hfull⟩

/-- An end changes no register but STATE. -/
theorem sameRegsBut_endMeasure (c : Core) (ch cause instant : Nat) : SameRegsBut [tdk ch 0x12] c (endMeasure c ch cause instant) := by
  unfold endMeasure
  dsimp only
  split
  · exact .of_regs rfl
  · exact sameRegsBut_wr (queueEntry c ch _) _ (by simp)

/-- An ended measurement is IDLE, its END entry waits in the FIFO, and STATE alone among the registers has changed. -/
theorem endMeasure_spec {c : Core} {ch : Nat} (h : HasRoom (getTdc c ch)) (cause instant : Nat) :
    rd (endMeasure c ch cause instant) (tdk ch 0x12) = 0 ∧
    (getTdc (endMeasure c ch cause instant) ch).fifo = queued (getTdc c ch) (resultEntry c ch 0xF 0 cause instant (getTdc c ch).results) ∧
    SameRegsBut [tdk ch 0x12] c (endMeasure c ch cause instant) := by
  refine ⟨?_, ?_, sameRegsBut_endMeasure c ch cause instant⟩
  · rw [endMeasure_room h, rd_wr_same]
  · rw [endMeasure_room h, getTdc_wr, getTdc_queueEntry]

theorem measuring_of_idle {c : Core} {ch : Nat} (h : rd c (tdk ch 0x12) = 0) : measuring c ch = false := by simp [measuring, h]

theorem measuring_endMeasure {c : Core} {ch : Nat} (h : HasRoom (getTdc c ch)) (cause instant : Nat) :
    measuring (endMeasure c ch cause instant) ch = false := measuring_of_idle (endMeasure_spec h cause instant).1

/-! ## A channel that can end -/

/-- The channel does not measure, or can end at once: it has room, and no END entry waits. -/
def CanEnd (c : Core) (ch : Nat) : Prop :=
  measuring c ch = false ∨ HasRoom (getTdc c ch) ∧ (getTdc c ch).ending = none

theorem live_iff (c : Core) (ch : Nat) : live c ch = true ↔ measuring c ch = true ∧ (getTdc c ch).ending = none := by simp [live]

/-- A live channel that can end has room for it. -/
theorem CanEnd.room {c : Core} {ch : Nat} (h : CanEnd c ch) (hlive : live c ch = true) : HasRoom (getTdc c ch) := by
  rcases h with hidle | ⟨hroom, -⟩
  · simp [live, hidle] at hlive
  · exact hroom

/-- A channel that can end is IDLE once it has been made to. -/
theorem CanEnd.ended {c : Core} {ch : Nat} (h : CanEnd c ch) (cause instant : Nat) :
    measuring (if live c ch then endMeasure c ch cause instant else c) ch = false := by
  split
  case isTrue hlive => exact measuring_endMeasure (h.room hlive) cause instant
  case isFalse hlive =>
    rcases h with hidle | ⟨-, hending⟩
    · exact hidle
    · simpa [live, hending] using hlive

/-- What an end, made or not, leaves of the registers. -/
theorem rd_ended (c : Core) (ch cause instant : Nat) {k : Key} (hk : k ≠ tdk ch 0x12) :
    rd (if live c ch then endMeasure c ch cause instant else c) k = rd c k := by
  split
  · exact sameRegsBut_endMeasure c ch cause instant k (by simpa using hk)
  · rfl

/-! ## Results (R235, R242 to R244) -/

/-- The flags of a result: those of its own, MISSED_STAMPS, WARMING and FACTORY_CD. -/
def resultFlags (x : Tdc) (flags : Nat) (cold : Bool) : Nat :=
  flags ||| (if x.missed then rfMissed else 0) ||| (if cold then rfWarming else 0) ||| (if x.armTable = [] then rfFactory else 0)

/-- The block with a result entered: it waits in the FIFO, it is counted, and LAST_STAMP, LAST_VALUE and LAST_FLAGS tell it. -/
def resultPut (c : Core) (ch kind flags edge stamp value : Nat) : Core :=
  wr (wr (wr (modTdc (queueEntry c ch (resultEntry c ch kind flags edge stamp value)) ch
    (fun y => { y with results := y.results + 1, missed := false })) (tdk ch 0x14) (stamp % 2 ^ 64)) (tdk ch 0x15) (value % 2 ^ 64))
    (tdk ch 0x16) flags

theorem getTdc_resultPut (c : Core) (ch kind flags edge stamp value : Nat) :
    getTdc (resultPut c ch kind flags edge stamp value) ch =
      { getTdc c ch with fifo := queued (getTdc c ch) (resultEntry c ch kind flags edge stamp value)
                         results := (getTdc c ch).results + 1, missed := false } := by
  simp only [resultPut, getTdc_wr, modTdc, getTdc_setTdc_same, getTdc_queueEntry]

theorem rd_resultPut (c : Core) (ch kind flags edge stamp value : Nat) :
    rd (resultPut c ch kind flags edge stamp value) (tdk ch 0x14) = stamp % 2 ^ 64 ∧
    rd (resultPut c ch kind flags edge stamp value) (tdk ch 0x15) = value % 2 ^ 64 ∧
    rd (resultPut c ch kind flags edge stamp value) (tdk ch 0x16) = flags := by
  simp [resultPut, rd_wr]

theorem sameRegsBut_resultPut (c : Core) (ch kind flags edge stamp value : Nat) :
    SameRegsBut [tdk ch 0x14, tdk ch 0x15, tdk ch 0x16] c (resultPut c ch kind flags edge stamp value) := by
  intro k hk
  simp only [List.mem_cons, List.not_mem_nil, or_false, not_or] at hk
  obtain ⟨h14, h15, h16⟩ := hk
  rw [resultPut, rd_wr_ne _ _ h16, rd_wr_ne _ _ h15, rd_wr_ne _ _ h14]
  rfl

/-- A result fills at most the FIFO's last place but one. -/
theorem room_resultPut {c : Core} {ch : Nat} (h : ¬ ((getTdc c ch).cfg.ringEntries ≠ 0 ∧ 255 ≤ (getTdc c ch).fifo.length))
    (kind flags edge stamp value : Nat) : HasRoom (getTdc (resultPut c ch kind flags edge stamp value) ch) := by
  rw [getTdc_resultPut]
  by_cases hring : (getTdc c ch).cfg.ringEntries = 0
  · exact .inl hring
  · have hfifo : (getTdc c ch).fifo.length < 255 := by
      by_contra hfull
      exact h ⟨hring, Nat.not_lt.mp hfull⟩
    refine .inr ?_
    simp only [queued, hring, if_false, List.length_append, List.length_singleton]
    omega

/-- The block with a result of `kind` entered and, of TIE, fed to the chains. -/
def resultFed (c : Core) (ch kind flags edge stamp value : Nat) : Core :=
  if kind = 4 then
    tieFeed (resultPut c ch kind flags edge stamp value) ch (toSigned 64 value) stamp (flags % 4 != 0) (bit flags 2)
      ((getTdc c ch).results == 0)
  else resultPut c ch kind flags edge stamp value

theorem getTdc_resultFed (c : Core) (ch kind flags edge stamp value n : Nat) :
    getTdc (resultFed c ch kind flags edge stamp value) n = getTdc (resultPut c ch kind flags edge stamp value) n := by
  unfold resultFed
  split
  · rw [getTdc, tieFeed_tdcs, getTdc]
  · rfl

/-- A result entered and fed leaves the place of the END entry. -/
theorem room_resultFed {c : Core} {ch : Nat} (h : ¬ ((getTdc c ch).cfg.ringEntries ≠ 0 ∧ 255 ≤ (getTdc c ch).fifo.length))
    (kind flags edge stamp value : Nat) : HasRoom (getTdc (resultFed c ch kind flags edge stamp value) ch) := by
  rw [getTdc_resultFed]
  exact room_resultPut h kind flags edge stamp value

/-- With 255 entries waiting a result ends the measurement in its place. -/
theorem pushResult_overrun {c : Core} {ch : Nat} (hring : (getTdc c ch).cfg.ringEntries ≠ 0) (hfull : 255 ≤ (getTdc c ch).fifo.length)
    (kind flags edge stamp value instant other : Nat) (stamped cold : Bool) :
    pushResult c ch kind flags edge stamp value instant other stamped cold = endMeasure (bump c (tgk 7)) ch (min 4 other) instant :=
  if_pos ⟨hring, hfull⟩

/-- With a place before the last one a result is entered, and the last of COUNT results ends the measurement. -/
theorem pushResult_enters {c : Core} {ch : Nat} (h : ¬ ((getTdc c ch).cfg.ringEntries ≠ 0 ∧ 255 ≤ (getTdc c ch).fifo.length))
    (kind flags edge stamp value instant other : Nat) (stamped cold : Bool) :
    let f := resultFlags (getTdc c ch) flags (cold || (stamped && tableWarming (getTdc c ch).armTable))
    pushResult c ch kind flags edge stamp value instant other stamped cold =
      if kind ≤ 4 ∧ (getTdc c ch).cfg.count ≠ 0 ∧ (getTdc c ch).results + 1 = (getTdc c ch).cfg.count
      then endMeasure (resultFed c ch kind f edge stamp value) ch 0 instant else resultFed c ch kind f edge stamp value := if_neg h

/-- After a result the channel can end, if it could before. -/
theorem canEnd_pushResult {c : Core} {ch : Nat} (hroom : HasRoom (getTdc c ch)) (hending : (getTdc c ch).ending = none)
    (kind flags edge stamp value instant other : Nat) (stamped cold : Bool) :
    CanEnd (pushResult c ch kind flags edge stamp value instant other stamped cold) ch := by
  by_cases hover : (getTdc c ch).cfg.ringEntries ≠ 0 ∧ 255 ≤ (getTdc c ch).fifo.length
  · rw [pushResult_overrun hover.1 hover.2]
    exact .inl (measuring_endMeasure (c := bump c (tgk 7)) hroom _ _)
  · rw [pushResult_enters hover]
    split
    · exact .inl (measuring_endMeasure (room_resultFed hover _ _ _ _ _) _ _)
    · refine .inr ⟨room_resultFed hover _ _ _ _ _, ?_⟩
      rw [getTdc_resultFed, getTdc_resultPut]
      exact hending

/-- The registers that a result of another mode than TIE may change. -/
theorem sameRegsBut_pushResult (c : Core) (ch : Nat) {kind : Nat} (hkind : kind ≠ 4) (flags edge stamp value instant other : Nat)
    (stamped cold : Bool) : SameRegsBut [tdk ch 0x12, tdk ch 0x14, tdk ch 0x15, tdk ch 0x16, tgk 7] c
      (pushResult c ch kind flags edge stamp value instant other stamped cold) := by
  by_cases hover : (getTdc c ch).cfg.ringEntries ≠ 0 ∧ 255 ≤ (getTdc c ch).fifo.length
  · rw [pushResult_overrun hover.1 hover.2]
    exact (sameRegsBut_wr c _ (by simp)).trans ((sameRegsBut_endMeasure _ ch _ _).mono (by simp))
  · rw [pushResult_enters hover, resultFed, if_neg hkind]
    have hput := (sameRegsBut_resultPut c ch kind (resultFlags (getTdc c ch) flags (cold || (stamped && tableWarming (getTdc c ch).armTable)))
      edge stamp value).mono (l' := [tdk ch 0x12, tdk ch 0x14, tdk ch 0x15, tdk ch 0x16, tgk 7]) (by simp)
    split
    · exact hput.trans ((sameRegsBut_endMeasure _ ch _ _).mono (by simp))
    · exact hput

end Sys2Proof.Machine
end

section
/-!
The commands of the TDC channels and of the code-density runs (R232 to R250).
-/
namespace Sys2Proof.Machine

/-! ## ARM (R236, R243) -/

/-- The block with no loop-back transition waiting for a channel. -/
def dueCleared (c : Core) (ch : Nat) : Core :=
  if ch < 256 ∧ (getPin c ch).due ≠ [] then modPin c ch (fun y => { y with due := [] }) else c

theorem rd_dueCleared (c : Core) (ch : Nat) (k : Key) : rd (dueCleared c ch) k = rd c k := by
  unfold dueCleared
  split <;> rfl

theorem due_dueCleared (c : Core) {ch : Nat} (h : ch < 256) : (getPin (dueCleared c ch) ch).due = [] := by
  unfold dueCleared
  split
  case isTrue => rw [modPin, getPin_setPin_same]
  case isFalse hdue => exact by_contra fun hne => hdue ⟨h, hne⟩

/-- A channel as its measurement starts. -/
def armedTdc (c : Core) (ch instant : Nat) : Tdc :=
  { cfg := tdcConfig c ch, arm := instant, since := instant
    anchor := if (tdcConfig c ch).anchor = 0 then none else some (tdcConfig c ch).anchor
    fifo := (getTdc c ch).fifo, table := (getTdc c ch).table, armTable := (getTdc c ch).table
    coldRef := !refwarm c, coldEdge := !refwarm c, cdRunning := (getTdc c ch).cdRunning
    busyA := (getTdc c ch).busyA, busyB := (getTdc c ch).busyB, missed := (getTdc c ch).missed }

theorem armTdc_eq (c : Core) (ch instant : Nat) : armTdc c ch instant =
    bump (wr (setTdc (dueCleared c ch) ch (armedTdc c ch instant)) (tdk ch 0x12) 1) (tdk ch 0x13) := rfl

theorem getTdc_armTdc (c : Core) (ch instant : Nat) : getTdc (armTdc c ch instant) ch = armedTdc c ch instant := by
  rw [armTdc_eq, getTdc_bump, getTdc_wr, getTdc_setTdc_same]

theorem due_armTdc (c : Core) {ch : Nat} (h : ch < 256) (instant : Nat) : (getPin (armTdc c ch instant) ch).due = [] :=
  due_dueCleared c h

theorem rd_armTdc (c : Core) (ch instant : Nat) (k : Key) : rd (armTdc c ch instant) k =
    if k = tdk ch 0x13 then (rd c (tdk ch 0x13) + 1) % 2 ^ 64 else if k = tdk ch 0x12 then 1 else rd c k := by
  have hrun : tdk ch 0x13 ≠ tdk ch 0x12 := by simp
  rw [armTdc_eq, bump, bumpBy, rd_wr, rd_wr_ne _ _ hrun, rd_wr, rd_setTdc, rd_setTdc, rd_dueCleared, rd_dueCleared]

theorem writeTdcArm_idle {c : Core} {ch : Nat} (hgate : gateOk c ch = true) (hidle : measuring c ch = false) :
    writeTdcArm c ch = .ok (armTdc c ch ((c.stamp / 4096 + 1) * 4096)) := by
  simp only [writeTdcArm, guardSt, hgate, hidle, Bool.not_false, if_true]

theorem writeTdcArm_measuring {c : Core} {ch : Nat} (hgate : gateOk c ch = true) (hrun : measuring c ch = true) :
    writeTdcArm c ch = .error stStateConflict := by
  simp only [writeTdcArm, guardSt, hgate, hrun, Bool.not_true, Bool.false_eq_true, if_true, if_false]

/-- A disarm of a live channel at which nothing has fallen due ends its measurement with cause HOST. -/
theorem disarmTdc_live {c : Core} {ch : Nat} (hlive : live c ch = true) (hdue : tdcDue c ch c.stamp = c) :
    disarmTdc c ch = endMeasure c ch 3 c.stamp := by
  simp only [disarmTdc, endNow, hdue, hlive, if_true]

theorem disarmTdc_idle {c : Core} {ch : Nat} (hlive : live c ch = false) : disarmTdc c ch = c := by
  have hdue : tdcDue c ch c.stamp = c := by simp [tdcDue, hlive]
  simp only [disarmTdc, endNow, hdue, hlive, Bool.false_eq_true, if_false]

theorem accepts_tdcDisarm {s : State} (ch : Fin 264) {d : Core} (ho : Open s.core) (hm : InModes s.core [.warm, .calibrate, .run])
    (h : disarmTdc s.core ch.val = d) : Accepts (.tdcDisarm ch) s d := by
  subst h
  exact accepts_scalar rfl (writeFail_tdcArm ch ho hm (by decide)) (closedTo_tdcArm ch ho) rfl

/-! ## An edge in STAMP (R232, R233, R235) -/

/-- The start field of EDGE is its two low bits. -/
theorem polarityOk_startField (n : Nat) (rising : Bool) : polarityOk (bits n 0 2) rising = bit n (if rising then 0 else 1) := by
  have hlow : bits n 0 2 = n % 2 ^ 2 := by rw [bits, pow_zero, Nat.div_one]
  cases rising <;> simp only [polarityOk, bit, hlow, Nat.testBit_mod_two_pow] <;> simp

/-- Outside INTERVAL stage A converts the edge where it has converted nothing yet. -/
theorem stageFor_free {x : Tdc} (hmode : x.cfg.mode = 1) (hbusy : x.busyA = none) (ch source ns raw : Nat) :
    stageFor ch x source ns raw = 0 := by
  simp [stageFor, hmode, hbusy]

theorem takeStage_free {x : Tdc} (hbusy : x.busyA = none) (ch ns raw : Nat) : takeStage ch x false false ns raw =
    some (stampOf ch x.armTable 0 ns raw, { x with busyA := some (stampOf ch x.armTable 0 ns raw) }) := by
  simp [takeStage, hbusy]

/-- A channel whose start source begins its hold-off with a qualifying edge at a stamp. -/
def startHeldAt (x : Tdc) (t : Nat) : Tdc := { x with holdStart := some t, coldEdge := x.coldRef }

/-- A channel after an edge that stage A has stamped. -/
def edgeStamped (x : Tdc) (t : Nat) : Tdc := { x with edges := x.edges + 1, busyA := some t, since := t }

/-- A qualifying edge of STAMP under DIVIDE 1 gives a result with its index and its stamp. -/
theorem seriesEdge_stamp {x : Tdc} (hmode : x.cfg.mode = 1) (hdivide : x.cfg.divide = 1) (hbusy : x.busyA = none) (c : Core)
    (ch ns raw : Nat) :
    let t := stampOf ch x.armTable 0 ns raw
    seriesEdge c ch x ns raw =
      pushResult (setTdc c ch (edgeStamped x t)) ch 1 0 x.edges t x.edges t 8 true x.coldRef := by
  have hindex : ¬ (x.edges % max 1 x.cfg.divide ≠ 0 ∨ x.cfg.mode = 5 ∧ 2 ^ 20 ≤ x.sums.n) := by
    simp [hdivide, hmode, Nat.mod_one]
  unfold seriesEdge
  dsimp only
  rw [if_neg hindex, takeStage_free (x := { x with edges := x.edges + 1 }) hbusy, hmode]
  rfl

/-- An edge of the start source in STAMP, of a polarity of EDGE and under no hold-off, qualifies. -/
theorem measureEdge_stamp {c : Core} {ch source : Nat} {rising : Bool} (hmode : (getTdc c ch).cfg.mode = 1)
    (hsource : (getTdc c ch).cfg.start = source) (hsome : source ≠ 0) (hhold : (getTdc c ch).holdStart = none)
    (hbusy : (getTdc c ch).busyA = none) (hedge : bit (getTdc c ch).cfg.edge (if rising then 0 else 1) = true) (ns raw : Nat) :
    let t := stampOf ch (getTdc c ch).armTable 0 ns raw
    let x := startHeldAt (getTdc c ch) t
    measureEdge c ch source rising ns raw = seriesEdge (setTdc c ch x) ch x ns raw := by
  have hstage := stageFor_free hmode hbusy ch source ns raw
  rw [← polarityOk_startField] at hedge
  simp [measureEdge, hstage, hmode, hsource, hsome, hhold, hedge, heldOff, startHeldAt]

/-- A result of STAMP that leaves COUNT unreached, with room in the FIFO, is entered. -/
theorem pushResult_stamp {c : Core} {ch : Nat} {x : Tdc} (hx : getTdc c ch = x) (hcount : x.results + 1 ≠ x.cfg.count)
    (hroom : x.fifo.length < 255) (flags edge stamp value instant other : Nat) (cold : Bool) :
    pushResult c ch 1 flags edge stamp value instant other true cold =
      resultPut c ch 1 (resultFlags x flags (cold || tableWarming x.armTable)) edge stamp value := by
  subst hx
  rw [pushResult_enters (fun h => absurd h.2 (Nat.not_le.mpr hroom)), if_neg (fun h => hcount h.2.2), resultFed, if_neg (by decide),
    Bool.true_and]

/-- What an edge asks of a channel in STAMP under DIVIDE 1, to give a result at stamp `t` that ends nothing. -/
structure StampEdge (x : Tdc) (e : TdcEdge) (t : Nat) : Prop where
  mode : x.cfg.mode = 1
  divide : x.cfg.divide = 1
  source : x.cfg.start = e.source.toNat
  some : e.source ≠ 0
  hold : x.holdStart = none
  busy : x.busyA = none
  count : x.results + 1 ≠ x.cfg.count
  room : x.fifo.length < 255
  edge : bit x.cfg.edge (if e.rising then 0 else 1) = true
  arm : x.arm ≤ t

/-- A stamped edge, not before the arm instant, of a live channel at which nothing has fallen due is measured. -/
theorem tdcEdgeAt_measured {c : Core} {e : TdcEdge} {x : Tdc} {ns t : Nat} (hx : getTdc c e.ch.val = x) (hrun : stampsRun c = true)
    (hlive : live c e.ch.val = true) (hns : nearInstant (c.stamp / 4096) (2 ^ 52) e.ns.toNat = ns)
    (ht : stampOf e.ch.val x.armTable (stageFor e.ch.val x e.source.toNat ns e.raw.toNat) ns e.raw.toNat = t) (harm : x.arm ≤ t)
    (hdue : tdcDue (elapseTo c (ns * 4096)) e.ch.val t = elapseTo c (ns * 4096)) :
    tdcEdgeAt c e = measureEdge (elapseTo c (ns * 4096)) e.ch.val e.source.toNat e.rising ns e.raw.toNat := by
  simp only [tdcEdgeAt, hrun, hns, live_elapseTo, hlive, getTdc_elapseTo, hx, ht, hdue, Nat.not_lt.mpr harm, Bool.not_true,
    Bool.false_eq_true, or_self, if_true, if_false]

/-- An edge of `StampEdge` enters its result. -/
theorem tdcEdgeAt_stamp {c : Core} {e : TdcEdge} {x : Tdc} {ns t : Nat} (hx : getTdc c e.ch.val = x) (hrun : stampsRun c = true)
    (hlive : live c e.ch.val = true) (hns : nearInstant (c.stamp / 4096) (2 ^ 52) e.ns.toNat = ns)
    (ht : stampOf e.ch.val x.armTable 0 ns e.raw.toNat = t) (h : StampEdge x e t)
    (hdue : tdcDue (elapseTo c (ns * 4096)) e.ch.val t = elapseTo c (ns * 4096)) :
    ∃ d, d.regs = c.regs ∧ getTdc d e.ch.val = edgeStamped (startHeldAt x t) t ∧
      tdcEdgeAt c e = resultPut d e.ch.val 1 (resultFlags x 0 (x.coldRef || tableWarming x.armTable)) x.edges t x.edges := by
  have hsome : e.source.toNat ≠ 0 := fun h0 => h.some (BitVec.eq_of_toNat_eq h0)
  have hx' : getTdc (elapseTo c (ns * 4096)) e.ch.val = x := by rw [getTdc_elapseTo, hx]
  refine ⟨setTdc (setTdc (elapseTo c (ns * 4096)) e.ch.val (startHeldAt x t)) e.ch.val (edgeStamped (startHeldAt x t) t),
    elapseTo_regs c _, getTdc_setTdc_same _ _ _, ?_⟩
  have hstage : stampOf e.ch.val x.armTable (stageFor e.ch.val x e.source.toNat ns e.raw.toNat) ns e.raw.toNat = t := by
    rw [stageFor_free h.mode h.busy, ht]
  rw [tdcEdgeAt_measured hx hrun hlive hns hstage h.arm hdue,
    measureEdge_stamp (hx' ▸ h.mode) (hx' ▸ h.source) hsome (hx' ▸ h.hold) (hx' ▸ h.busy) (hx' ▸ h.edge), hx', ht,
    seriesEdge_stamp (x := startHeldAt x t) h.mode h.divide h.busy]
  have harmed : stampOf e.ch.val (startHeldAt x t).armTable 0 ns e.raw.toNat = t := ht
  rw [harmed]
  exact pushResult_stamp (x := edgeStamped (startHeldAt x t) t) (getTdc_setTdc_same _ _ _) h.count h.room _ _ _ _ _ _ _

end Sys2Proof.Machine
end

section
/-!
The ends of measurements, the results that go to memory, the code-density runs (R237, R239, R244, R247 to R250), and the statement.
-/
namespace Sys2Proof.Machine

/-! ## The end of a gate (R237, R247, R248) -/

theorem gateAt_some {x : Tdc} {g : Nat} (h : gateAt x = some g) : x.arm + x.cfg.gate * 4096 = g := by
  unfold gateAt at h
  split at h
  · cases h
  · exact Option.some.inj h

/-- The gate of a live channel that no time-out precedes ends at its instant. -/
theorem gateEnd_at {c : Core} {ch g : Nat} (hlive : live c ch = true) (hgate : gateAt (getTdc c ch) = some g)
    (hfirst : ∀ l, timeoutAt (getTdc c ch) = some l → g ≤ l) : gateEnd c ch = endGate (elapseTo c g) ch := by
  simp only [gateEnd, hgate, hlive, Bool.not_true, Bool.false_eq_true, if_false]
  split
  case h_1 l hl => rw [if_neg (Nat.not_lt.mpr (hfirst l hl))]
  case h_2 => rfl

theorem endGate_other {c : Core} {ch g : Nat} (hmode : (getTdc c ch).cfg.mode ≠ 5) (hgate : gateAt (getTdc c ch) = some g) :
    endGate c ch = endMeasure c ch 1 g := by
  rw [endGate, if_pos hmode, gateAt_some hgate]

/-- The values that the end of a FREQ gate gives its objects: those of the fit, or free ones where it has none, and 0 for few stamps. -/
def fitValues (c : Core) (s : FreqSums) : Nat × Nat × Nat × Nat :=
  if decide (s.n < 16) then (0, 0, 0, 0)
  else (freqFit s).getD ((freeMany c 4).getD 0 0, (freeMany c 4).getD 1 0, (freeMany c 4).getD 2 0, (freeMany c 4).getD 3 0)

/-- The block with the objects of a FREQ gate set. -/
def fitPut (c : Core) (ch : Nat) (s : FreqSums) : Core :=
  setFreq (if decide (s.n < 16) ∨ (freqFit s).isSome then c else freeUsedMany c 4) ch (if decide (s.n < 16) then 2 else 1) s.n (fitValues c s)

theorem getTdc_fitPut (c : Core) (ch : Nat) (s : FreqSums) (n : Nat) : getTdc (fitPut c ch s) n = getTdc c n := by
  simp only [fitPut, setFreq, List.foldl, getTdc_wr]
  split <;> rfl

theorem rd_setFreq (c : Core) (ch status n : Nat) (v : Nat × Nat × Nat × Nat) :
    rd (setFreq c ch status n v) (tdk ch 0x17) = status % 2 ^ 64 ∧ rd (setFreq c ch status n v) (tdk ch 0x18) = v.1 % 2 ^ 64 ∧
    rd (setFreq c ch status n v) (tdk ch 0x19) = v.2.1 % 2 ^ 64 ∧ rd (setFreq c ch status n v) (tdk ch 0x1A) = v.2.2.1 % 2 ^ 64 ∧
    rd (setFreq c ch status n v) (tdk ch 0x1B) = v.2.2.2 % 2 ^ 64 ∧ rd (setFreq c ch status n v) (tdk ch 0x1C) = n % 2 ^ 64 := by
  simp only [setFreq, List.foldl, rd_wr, tdk_eq_iff]
  simp

/-- The end of a FREQ gate enters two results, the second one where the channel still runs, and then ends the measurement. -/
theorem endGate_freq {c : Core} {ch : Nat} (hmode : (getTdc c ch).cfg.mode = 5) :
    ∃ (flags instant v w : Nat) (stamped cold : Bool),
      let s := (getTdc c ch).sums
      let c1 := pushResult (fitPut c ch s) ch 5 flags s.n (getTdc c ch).arm v instant 1 stamped cold
      let c2 := if live c1 ch then pushResult c1 ch 6 flags (getTdc c ch).edges instant w instant 1 stamped cold else c1
      endGate c ch = if live c2 ch then endMeasure c2 ch 1 instant else c2 :=
  ⟨_, _, _, _, _, _, if_neg (not_not_intro hmode)⟩

/-- After the end of a FREQ gate the channel is IDLE, and every object that a result leaves reads as the fit has set it. -/
theorem endGate_fits {c : Core} {ch : Nat} (hlive : live c ch = true) (hroom : HasRoom (getTdc c ch)) (hmode : (getTdc c ch).cfg.mode = 5) :
    measuring (endGate c ch) ch = false ∧
    SameRegsBut [tdk ch 0x12, tdk ch 0x14, tdk ch 0x15, tdk ch 0x16, tgk 7] (fitPut c ch (getTdc c ch).sums) (endGate c ch) := by
  obtain ⟨flags, instant, v, w, stamped, cold, hend⟩ := endGate_freq hmode
  rw [hend]
  have htdc := getTdc_fitPut c ch (getTdc c ch).sums ch
  have hfirst := canEnd_pushResult (c := fitPut c ch (getTdc c ch).sums) (by rw [htdc]; exact hroom)
    (by rw [htdc]; exact ((live_iff c ch).mp hlive).2) 5 flags (getTdc c ch).sums.n (getTdc c ch).arm v instant 1 stamped cold
  have hregs := sameRegsBut_pushResult (fitPut c ch (getTdc c ch).sums) ch (kind := 5) (by decide) flags (getTdc c ch).sums.n
    (getTdc c ch).arm v instant 1 stamped cold
  generalize pushResult (fitPut c ch (getTdc c ch).sums) ch 5 flags (getTdc c ch).sums.n (getTdc c ch).arm v instant 1 stamped cold = c1
    at hfirst hregs
  refine ⟨CanEnd.ended ?_ 1 instant, fun k hk => ?_⟩
  · split
    case isTrue hl => exact canEnd_pushResult (hfirst.room hl) ((live_iff c1 ch).mp hl).2 ..
    case isFalse => exact hfirst
  · rw [rd_ended _ ch 1 instant (fun he => hk (by simp [he]))]
    split
    case isTrue => exact (sameRegsBut_pushResult c1 ch (by decide) flags _ _ w instant 1 stamped cold k hk).trans (hregs k hk)
    case isFalse => exact hregs k hk

/-- The objects of FREQ are none of those that a result changes. -/
theorem freqKeys_kept {ch i : Nat} (hlow : 0x17 ≤ i) (hhigh : i < 256) :
    tdk ch i ∉ [tdk ch 0x12, tdk ch 0x14, tdk ch 0x15, tdk ch 0x16, tgk 7] := by
  have hglobal : tdk ch i ≠ tgk 7 := tdk_ne_tgk ch (by omega) hhigh
  simp only [List.mem_cons, tdk_eq_iff, hglobal, List.not_mem_nil, or_false]
  omega

/-- FREQ_STATUS and FREQ_N after the end of a FREQ gate, and the four values of its fit. -/
theorem rd_endGate_freq {c : Core} {ch : Nat} (hlive : live c ch = true) (hroom : HasRoom (getTdc c ch)) (hmode : (getTdc c ch).cfg.mode = 5) :
    let s := (getTdc c ch).sums
    let v := fitValues c s
    rd (endGate c ch) (tdk ch 0x1C) = s.n % 2 ^ 64 ∧ rd (endGate c ch) (tdk ch 0x17) = (if s.n < 16 then 2 else 1) ∧
      rd (endGate c ch) (tdk ch 0x18) = v.1 % 2 ^ 64 ∧ rd (endGate c ch) (tdk ch 0x19) = v.2.1 % 2 ^ 64 ∧
      rd (endGate c ch) (tdk ch 0x1A) = v.2.2.1 % 2 ^ 64 ∧ rd (endGate c ch) (tdk ch 0x1B) = v.2.2.2 % 2 ^ 64 := by
  intro s v
  have hkept (i : Nat) (hlow : 0x17 ≤ i) (hhigh : i < 256) : rd (endGate c ch) (tdk ch i) = rd (fitPut c ch s) (tdk ch i) :=
    (endGate_fits hlive hroom hmode).2 _ (freqKeys_kept hlow hhigh)
  obtain ⟨hstatus, hperiod, hunc, hfreq, hfunc, hn⟩ := rd_setFreq (if decide (s.n < 16) ∨ (freqFit s).isSome then c else freeUsedMany c 4) ch
    (if decide (s.n < 16) then 2 else 1) s.n v
  have hstatus' : (if decide (s.n < 16) then 2 else 1) % 2 ^ 64 = (if s.n < 16 then 2 else 1) := by
    by_cases hfew : s.n < 16 <;> simp [hfew]
  exact ⟨(hkept 0x1C (by decide) (by decide)).trans hn, ((hkept 0x17 (by decide) (by decide)).trans hstatus).trans hstatus',
    (hkept 0x18 (by decide) (by decide)).trans hperiod, (hkept 0x19 (by decide) (by decide)).trans hunc,
    (hkept 0x1A (by decide) (by decide)).trans hfreq, (hkept 0x1B (by decide) (by decide)).trans hfunc⟩

/-- With 16 stamps or more the values are those of the fit. -/
theorem fitValues_fit (c : Core) {s : FreqSums} {v : Nat × Nat × Nat × Nat} (hmany : 16 ≤ s.n) (hfit : freqFit s = some v) :
    fitValues c s = v := by
  simp [fitValues, Nat.not_lt.mpr hmany, hfit]

/-! ## Time-outs (R239) -/

/-- The time-out of a live channel that comes before its gate end happens at its limit. -/
theorem tdcTimedOut_at {c : Core} {ch l : Nat} (hlive : live c ch = true) (hlimit : timeoutAt (getTdc c ch) = some l)
    (hfirst : ∀ g, gateAt (getTdc c ch) = some g → l < g) : tdcTimedOut c ch = timeOut (elapseTo c l) ch l := by
  have hgate : (gateAt (getTdc c ch)).filter (fun g => decide (g ≤ l)) = none :=
    Option.filter_eq_none_iff.mpr (fun g hg => by simpa using hfirst g hg)
  have htime : (some l).filter (fun t => decide (t ≤ l)) = some l := by simp
  simp only [tdcTimedOut, hlimit, tdcDue, live_elapseTo, hlive, getTdc_elapseTo, hgate, htime, Bool.not_true, Bool.false_eq_true, if_false]

/-- A time-out enters its result with TIMEOUT, and ends the measurement. -/
theorem timeOut_eq (c : Core) (ch limit : Nat) : ∃ (begun cold : Bool),
    let x := getTdc c ch
    let d := pushResult c ch x.cfg.mode rfTimeout (awaitedIndex x) limit (x.cfg.timeout * 4096) limit 2 begun cold
    timeOut c ch limit = if live d ch then endMeasure d ch 2 limit else d := ⟨_, _, rfl⟩

/-- A result of another mode than TIE that is entered shows in LAST_STAMP, LAST_VALUE and LAST_FLAGS. -/
theorem rd_pushResult {c : Core} {ch : Nat} (h : ¬ ((getTdc c ch).cfg.ringEntries ≠ 0 ∧ 255 ≤ (getTdc c ch).fifo.length)) {kind : Nat}
    (hkind : kind ≠ 4) (flags edge stamp value instant other : Nat) (stamped cold : Bool) :
    let d := pushResult c ch kind flags edge stamp value instant other stamped cold
    rd d (tdk ch 0x14) = stamp % 2 ^ 64 ∧ rd d (tdk ch 0x15) = value % 2 ^ 64 ∧
      rd d (tdk ch 0x16) = resultFlags (getTdc c ch) flags (cold || (stamped && tableWarming (getTdc c ch).armTable)) := by
  dsimp only
  rw [pushResult_enters h, resultFed, if_neg hkind]
  split
  · have hend := sameRegsBut_endMeasure (resultPut c ch kind (resultFlags (getTdc c ch) flags
      (cold || (stamped && tableWarming (getTdc c ch).armTable))) edge stamp value) ch 0 instant
    rw [hend _ (by simp), hend _ (by simp), hend _ (by simp)]
    exact rd_resultPut ..
  · exact rd_resultPut ..

theorem bit_resultFlags_timeout (x : Tdc) (cold : Bool) : bit (resultFlags x rfTimeout cold) 0 = true := by
  simp [resultFlags, bit, rfTimeout]

theorem measuring_timeOut {c : Core} {ch : Nat} (hlive : live c ch = true) (hroom : HasRoom (getTdc c ch)) (limit : Nat) :
    measuring (timeOut c ch limit) ch = false := by
  obtain ⟨begun, cold, h⟩ := timeOut_eq c ch limit
  rw [h]
  exact (canEnd_pushResult hroom ((live_iff c ch).mp hlive).2 ..).ended 2 limit

/-- The result of a time-out has the limit as its stamp, TIMEOUT as its value in ticks, and the flag of a time-out. -/
theorem rd_timeOut {c : Core} {ch : Nat} (hmode : (getTdc c ch).cfg.mode ≠ 4)
    (hroom : (getTdc c ch).cfg.ringEntries = 0 ∨ (getTdc c ch).fifo.length < 255) (limit : Nat) :
    rd (timeOut c ch limit) (tdk ch 0x14) = limit % 2 ^ 64 ∧
    rd (timeOut c ch limit) (tdk ch 0x15) = (getTdc c ch).cfg.timeout * 4096 % 2 ^ 64 ∧
    bit (rd (timeOut c ch limit) (tdk ch 0x16)) 0 = true := by
  obtain ⟨begun, cold, h⟩ := timeOut_eq c ch limit
  have hover : ¬ ((getTdc c ch).cfg.ringEntries ≠ 0 ∧ 255 ≤ (getTdc c ch).fifo.length) :=
    fun hf => hroom.elim hf.1 (Nat.not_lt.mpr hf.2)
  obtain ⟨hstamp, hvalue, hflags⟩ := rd_pushResult hover hmode rfTimeout (awaitedIndex (getTdc c ch)) limit
    ((getTdc c ch).cfg.timeout * 4096) limit 2 begun cold
  rw [h, rd_ended _ ch 2 limit (by simp), rd_ended _ ch 2 limit (by simp), rd_ended _ ch 2 limit (by simp), hstamp, hvalue, hflags]
  exact ⟨rfl, rfl, bit_resultFlags_timeout _ _⟩

/-! ## Results into memory (R244) -/

theorem exec_tdcResultWrite {s : State} (ch : Fin 264) (h : s.core.hbm.training = false) :
    exec (.tdcResultWrite ch) s = did s (writeResult s.mem s.core ch.val) := bestEffort_run s (by rw [h]; rfl) _ _

/-- Without a ring, or with the ring full, the entry waits. -/
theorem writeResult_waits {c : Core} {ch : Nat} (m : Mem)
    (h : (getTdc c ch).cfg.ringEntries = 0 ∨ (getTdc c ch).cfg.ringEntries ≤ rd c (tdk ch 0xE) - rd c (tdk ch 0xF)) :
    writeResult m c ch = (m, c) := by
  unfold writeResult
  dsimp only
  split
  · rfl
  · rw [if_pos (h.elim .inl (fun hf => .inr (.inl hf)))]

/-- A place of the ring that memory answers takes the first entry; an END entry that waited takes the place of that one. -/
theorem writeResult_stores {c : Core} {ch : Nat} {e : List Byte} {es : List (List Byte)} (m : Mem) (hfifo : (getTdc c ch).fifo = e :: es)
    (hring : (getTdc c ch).cfg.ringEntries ≠ 0) (hplace : rd c (tdk ch 0xE) - rd c (tdk ch 0xF) < (getTdc c ch).cfg.ringEntries) {a : Nat}
    (ha : (getTdc c ch).cfg.ringBase + 32 * (rd c (tdk ch 0xE) % max 1 (getTdc c ch).cfg.ringEntries) = a)
    (hmapped : localMapped c a 32 = true) :
    writeResult m c ch = (store m a e, match (getTdc c ch).ending with
      | some last => wr (setTdc (bump (checkedStore m c a e .auto).2 (tdk ch 0xE)) ch
          { getTdc c ch with fifo := es ++ [last], ending := none }) (tdk ch 0x12) 0
      | none => setTdc (bump (checkedStore m c a e .auto).2 (tdk ch 0xE)) ch { getTdc c ch with fifo := es }) := by
  have hgo : ¬ ((getTdc c ch).cfg.ringEntries = 0 ∨ (getTdc c ch).cfg.ringEntries ≤ rd c (tdk ch 0xE) - rd c (tdk ch 0xF) ∨
      (!localMapped c a 32) = true) := by
    simp [hring, hplace, hmapped]
  unfold writeResult
  dsimp only
  rw [hfifo]
  dsimp only
  rw [ha, if_neg hgo]
  cases (getTdc c ch).ending <;> rfl

/-! ## Code-density runs (R249, R250) -/

/-- A run starts on a channel. -/
def runOn (c : Core) (ch : Nat) : Core := modTdc (setCdState c ch 1) ch (fun x => { x with cdRunning := true })

/-- A run starts on every channel. -/
def runOnAll (c : Core) : Core := (List.range 264).foldl runOn c

theorem startRun_eq (c : Core) : startRun c = { wr (runOnAll c) (tgk 3) 0 with
    cd := { (runOnAll c).cd with running := true, coldRef := !refwarm c, started := true, generation := (runOnAll c).cd.generation + 1
                                 restart := false } } := rfl

theorem runOn_cd (c : Core) (ch : Nat) : (runOn c ch).cd = c.cd := rfl

theorem runOnAll_cd (c : Core) : (runOnAll c).cd = c.cd := foldl_keeps Core.cd runOn_cd _ _

theorem getTdc_runOn_same (c : Core) (ch : Nat) : getTdc (runOn c ch) ch = { getTdc c ch with cdRunning := true } :=
  getTdc_setTdc_same _ _ _

theorem getTdc_runOn_ne (c : Core) {ch n : Nat} (h : n ≠ ch) : getTdc (runOn c ch) n = getTdc c n :=
  (getTdc_setTdc_ne (setCdState c ch 1) _ h).trans rfl

theorem cdState_runOnAll (c : Core) (ch : Fin 264) : rd (runOnAll c) (tdk ch.val 0x1F) = 1 := by
  have hset (c : Core) : rd (runOn c ch.val) (tdk ch.val 0x1F) = 1 := rd_wr_same c _ _
  have hkeep (c : Core) (n : Nat) (h : n ≠ ch.val) : rd (runOn c n) (tdk ch.val 0x1F) = rd c (tdk ch.val 0x1F) :=
    rd_wr_ne c _ (tdk_ne_channel h.symm _)
  exact foldl_sets (rd · (tdk ch.val 0x1F)) hset (fun c n _ h => hkeep c n h) (.inr (List.mem_range.mpr ch.isLt))

theorem cdRunning_runOnAll (c : Core) (ch : Fin 264) : (getTdc (runOnAll c) ch.val).cdRunning = true := by
  have hset (c : Core) : (getTdc (runOn c ch.val) ch.val).cdRunning = true := by rw [getTdc_runOn_same]
  have hkeep (c : Core) (n : Nat) (h : n ≠ ch.val) : (getTdc (runOn c n) ch.val).cdRunning = (getTdc c ch.val).cdRunning := by
    rw [getTdc_runOn_ne c h.symm]
  exact foldl_sets (fun c => (getTdc c ch.val).cdRunning) hset (fun c n _ h => hkeep c n h) (.inr (List.mem_range.mpr ch.isLt))

theorem table_runOnAll (c : Core) (n : Nat) : (getTdc (runOnAll c) n).table = (getTdc c n).table := by
  have hkeep (c : Core) (ch : Nat) : (getTdc (runOn c ch) n).table = (getTdc c n).table := by
    by_cases h : n = ch
    · rw [h, getTdc_runOn_same]
    · rw [getTdc_runOn_ne c h]
  exact foldl_keeps (fun c => (getTdc c n).table) hkeep _ _

theorem rd_startRun (c : Core) (k : Key) : rd (startRun c) k = if k = tgk 3 then 0 else rd (runOnAll c) k := by
  have hregs : (startRun c).regs = (wr (runOnAll c) (tgk 3) 0).regs := by rw [startRun_eq]
  rw [rd_congr hregs, rd_wr]

theorem cdState_startRun (c : Core) (ch : Fin 264) : rd (startRun c) (tdk ch.val 0x1F) = 1 := by
  rw [rd_startRun, if_neg (tdk_ne_tgk ch.val (by decide)), cdState_runOnAll]

theorem startRun_cd (c : Core) : (startRun c).cd =
    { running := true, coldRef := !refwarm c, started := true, generation := c.cd.generation + 1, restart := false } := by
  rw [startRun_eq, runOnAll_cd]

/-- A run that starts takes a channel on, and leaves its table. -/
theorem getTdc_startRun (c : Core) (ch : Fin 264) :
    (getTdc (startRun c) ch.val).cdRunning = true ∧ (getTdc (startRun c) ch.val).table = (getTdc c ch.val).table := by
  have htdcs : (startRun c).tdcs = (runOnAll c).tdcs := by rw [startRun_eq, wr_tdcs]
  have hget : getTdc (startRun c) ch.val = getTdc (runOnAll c) ch.val := by rw [getTdc, htdcs, getTdc]
  rw [hget]
  exact ⟨cdRunning_runOnAll c ch, table_runOnAll c ch.val⟩

theorem inModes_true {c : Core} {l : List Mode} (h : InModes c l) : inModes c l = true := modeAccepts_rwm h

theorem writeCdStart_idle {c : Core} (h : c.cd.running = false) : writeCdStart c = .ok (startRun c) := by
  simp only [writeCdStart, guardSt, h, Bool.not_false, if_true]

theorem writeCdStart_running {c : Core} (h : c.cd.running = true) : writeCdStart c = .error stStateConflict := by
  simp only [writeCdStart, guardSt, h, Bool.not_true, Bool.false_eq_true, if_false]

/-- The run ends once no channel lacks its table. -/
def runSettled (c : Core) : Core :=
  if (List.range 264).any (fun k => (getTdc c k).cdRunning) then c else { c with cd := { c.cd with running := false } }

theorem runSettled_regs (c : Core) : (runSettled c).regs = c.regs := by
  unfold runSettled
  split <;> rfl

theorem getTdc_runSettled (c : Core) (n : Nat) : getTdc (runSettled c) n = getTdc c n := by
  unfold runSettled
  split <;> rfl

/-- A channel's run is done, with CD_STATE and its table. -/
def channelDone (c : Core) (ch state : Nat) (table : List Byte) : Core :=
  setCdState (setTdc c ch { getTdc c ch with cdRunning := false, table := table }) ch state

/-- One more channel counts in CD_DONE. -/
def doneCounted (c : Core) : Core := wr c (tgk 3) (rd c (tgk 3) + 1)

/-- The hits of an IDLE channel in a run that goes on make its table where both stages have valid hits, else the channel fails. -/
theorem tableComplete_eq {c : Core} {ch : Nat} (hrun : (getTdc c ch).cdRunning = true) (hidle : measuring c ch = false)
    (hgoes : c.cd.restart = false) (hstamps : stampsRun c = true) (a b : List Nat) :
    tableComplete c ch a b =
      if (hitsOk a && hitsOk b) = true then runSettled (doneCounted (channelDone c ch 2 (cdTable c ch a b)))
      else runSettled (doneCounted (raise (channelDone c ch 3 (getTdc c ch).table) 289 1 ch)) := by
  unfold tableComplete
  dsimp only
  rw [if_neg (by simp [hrun, hidle, hgoes, hstamps])]
  split <;> rfl

theorem rd_channelDone (c : Core) (ch state : Nat) (table : List Byte) (k : Key) :
    rd (channelDone c ch state table) k = if k = tdk ch 0x1F then state else rd c k := rd_wr _ _ _ _

theorem rd_doneCounted (c : Core) (k : Key) : rd (doneCounted c) k = if k = tgk 3 then rd c (tgk 3) + 1 else rd c k := rd_wr _ _ _ _

theorem rd_tableMade (c : Core) (ch : Nat) (table : List Byte) (k : Key) :
    rd (runSettled (doneCounted (channelDone c ch 2 table))) k =
      if k = tgk 3 then rd c (tgk 3) + 1 else if k = tdk ch 0x1F then 2 else rd c k := by
  have hkeys : tgk 3 ≠ tdk ch 0x1F := (tdk_ne_tgk ch (by decide)).symm
  rw [rd_congr (runSettled_regs _), rd_doneCounted, rd_channelDone, rd_channelDone, if_neg hkeys]

theorem getTdc_tableMade (c : Core) (ch : Nat) (table : List Byte) :
    getTdc (runSettled (doneCounted (channelDone c ch 2 table))) ch = { getTdc c ch with cdRunning := false, table := table } := by
  rw [getTdc_runSettled]
  exact getTdc_setTdc_same _ _ _

/-! ## The statement -/

/-- Settles O46: each write passes its checks, and each command acts by the branch that its hypotheses select. -/
theorem timeToDigitalConverters : Obligations.TimeToDigitalConverters := by
  unfold Obligations.TimeToDigitalConverters
  refine ⟨?arm, ?disarm, ?unlocked, ?edge, ?gate, ?timeout, ?result, ?cdStart, ?interval, ?table⟩
  case arm =>
    intro s ch ho hm hgate
    have hpass := writeFail_tdcArm ch ho hm (le_refl 1)
    refine ⟨fun hidle => ?_, fun hrun => makes_effW_error rfl hpass (closedTo_tdcArm ch ho) (writeTdcArm_measuring hgate hrun)⟩
    refine ⟨_, accepts_scalar rfl hpass (closedTo_tdcArm ch ho) (effW_ok (writeTdcArm_idle hgate hidle)), ?_⟩
    rw [getTdc_armTdc]
    refine ⟨by simp [rd_armTdc], by simp [rd_armTdc], rfl, rfl, rfl, rfl, rfl, rfl, rfl, rfl, rfl, rfl,
      fun hpin => due_armTdc s.core hpin _, fun k hk => ?_⟩
    simp only [List.mem_cons, List.not_mem_nil, or_false, not_or] at hk
    rw [rd_armTdc, if_neg hk.2, if_neg hk.1]
  case disarm =>
    intro s ch ho hm x last
    refine ⟨fun hlive hdue hroom => ?_, fun hlive hdue hring hfull => ?_, fun hlive => accepts_tdcDisarm ch ho hm (disarmTdc_idle hlive)⟩
    · exact ⟨_, accepts_tdcDisarm ch ho hm (disarmTdc_live hlive hdue), endMeasure_spec hroom 3 s.core.stamp⟩
    · exact accepts_tdcDisarm ch ho hm ((disarmTdc_live hlive hdue).trans (endMeasure_full hring hfull 3 s.core.stamp))
  case unlocked =>
    intro s e hstamps
    exact makes_didC rfl (by simp [tdcEdgeAt, hstamps])
  case edge =>
    intro s e x ns t c fl hrun hlive hmode hdivide hsource hsome hhold hbusy hcount hroom hedge harm hdue
    obtain ⟨d, hregs, hx, hd⟩ := tdcEdgeAt_stamp (x := x) rfl hrun hlive rfl rfl
      ⟨hmode, hdivide, hsource, hsome, hhold, hbusy, hcount, hroom, hedge, harm⟩ hdue
    have hfl : resultFlags x 0 (x.coldRef || tableWarming x.armTable) = fl := by
      simp [resultFlags, fl]
    have hentry : resultEntry d e.ch.val 1 fl x.edges t x.edges = resultEntry s.core e.ch.val 1 fl x.edges t x.edges := by
      rw [resultEntry, rd_congr hregs, resultEntry]
    rw [hfl] at hd
    refine ⟨_, makes_didC rfl hd, ?_⟩
    obtain ⟨hstamp, hvalue, hflags⟩ := rd_resultPut d e.ch.val 1 fl x.edges t x.edges
    refine ⟨hstamp, hvalue, hflags, (SameRegsBut.of_regs hregs).trans (sameRegsBut_resultPut d e.ch.val 1 fl x.edges t x.edges), ?_⟩
    rw [getTdc_resultPut, hx, hentry]
    exact ⟨rfl, rfl, rfl, rfl⟩
  case gate =>
    intro s ch g x hlive hgate hroom hfirst
    have hend := gateEnd_at hlive hgate hfirst
    have hx : getTdc (elapseTo s.core g) ch.val = x := getTdc_elapseTo ..
    refine ⟨fun hmode => ?_, fun hmode => ?_⟩
    · refine ⟨_, makes_didC rfl (hend.trans (endGate_other (by rwa [hx]) (by rwa [hx]))), ?_⟩
      obtain ⟨hstate, hfifo, hregs⟩ := endMeasure_spec (c := elapseTo s.core g) (ch := ch.val) (by rwa [hx]) 1 g
      rw [hx, resultEntry_elapseTo] at hfifo
      exact ⟨hstate, hfifo, (SameRegsBut.of_regs (elapseTo_regs s.core g)).trans hregs⟩
    · have hlive' : live (elapseTo s.core g) ch.val = true := by rwa [live_elapseTo]
      obtain ⟨hidle, -⟩ := endGate_fits hlive' (by rwa [hx]) (by rwa [hx])
      obtain ⟨hn, hstatus, hvalues⟩ := rd_endGate_freq hlive' (by rwa [hx]) (by rwa [hx])
      rw [hx] at hn hstatus hvalues
      refine ⟨_, makes_didC rfl hend, hidle, hn, hstatus, fun hmany v hfit => ?_⟩
      rwa [fitValues_fit _ hmany hfit] at hvalues
  case timeout =>
    intro s ch l x hlive hlimit hroom hfirst
    have hx : getTdc (elapseTo s.core l) ch.val = x := getTdc_elapseTo ..
    refine ⟨_, makes_didC rfl (tdcTimedOut_at hlive hlimit hfirst), measuring_timeOut (by rwa [live_elapseTo]) (by rwa [hx]) l,
      fun hmode hplace => ?_⟩
    have htold := rd_timeOut (c := elapseTo s.core l) (ch := ch.val) (by rwa [hx]) (by rwa [hx]) l
    rwa [hx] at htold
  case result =>
    intro s ch e es x a c hfifo hlen htrain
    have hexec := exec_tdcResultWrite ch htrain
    refine ⟨fun hring hplace hmapped => ?_, fun hwait => gives_did hexec (writeResult_waits s.mem hwait)⟩
    have hstores := writeResult_stores s.mem hfifo hring hplace rfl hmapped
    refine ⟨fun hnone => ?_, fun last hlast => ?_, ?_, ?_⟩
    · rw [hnone] at hstores
      exact gives_did hexec hstores
    · rw [hlast] at hstores
      exact gives_did hexec hstores
    · have hread := readBytes_store s.mem a e
      rwa [hlen] at hread
    · have hsame := sameBytesBut_store s.mem a e
      rwa [hlen] at hsame
  case cdStart =>
    intro s ho hm
    have hpass := writeFail_cdStart ho hm
    refine ⟨fun hidle => ?_, fun hrun => makes_effW_error rfl hpass (closedTo_cdStart ho) (writeCdStart_running hrun)⟩
    have hcd := startRun_cd s.core
    exact ⟨_, accepts_scalar rfl hpass (closedTo_cdStart ho) (effW_ok (writeCdStart_idle hidle)), by rw [hcd], by rw [hcd],
      (rd_startRun s.core _).trans (if_pos rfl), fun ch => ⟨cdState_startRun s.core ch, getTdc_startRun s.core ch⟩⟩
  case interval =>
    intro s
    refine ⟨fun hset hidle hm => makes_didC rfl ?_, fun hzero => makes_didC rfl ?_⟩
    · simp [intervalRun, hset, hidle, inModes_true hm]
    · simp [intervalRun, hzero]
  case table =>
    intro s ch a b x y z hrun hidle hgoes hstamps
    have hdone := tableComplete_eq hrun hidle hgoes hstamps a b
    refine ⟨fun hok => ?_, fun hbad => ?_⟩
    · refine ⟨_, makes_didC rfl (hdone.trans (if_pos hok)), ?_⟩
      rw [getTdc_tableMade]
      have hkeys : tdk ch.val 0x1F ≠ tgk 3 := tdk_ne_tgk ch.val (by decide)
      refine ⟨by rw [rd_tableMade, if_neg hkeys, if_pos rfl], rfl, by rw [rd_tableMade, if_pos rfl], fun k hk => ?_⟩
      simp only [List.mem_cons, List.not_mem_nil, or_false, not_or] at hk
      rw [rd_tableMade, if_neg hk.2, if_neg hk.1]
    · exact makes_didC rfl (hdone.trans (if_neg (by simp [hbad])))

end Sys2Proof.Machine
end

section
/-!
The objects of the sense inputs, the filter chains and the acquisition units, and what their operations leave of the registers
(R255 to R286).
-/
namespace Sys2Proof.Machine

/-! ## Registers -/

theorem rd_bump (c : Core) (k j : Key) : rd (bump c k) j = if j = k then (rd c k + 1) % 2 ^ 64 else rd c j := rd_wr c k j _

/-- A key below the links is none of those that a raise may write. -/
theorem mkKey_not_raised {ix sub : Nat} (hix : ix < 0x6000) (hsub : sub < 256) : mkKey ix sub ∉ raiseKeys := by
  intro hmem
  have hlinks : ∀ k ∈ raiseKeys, 0x6000 ≤ keyIx k := by decide
  have hle := hlinks _ hmem
  rw [keyIx_mkKey hsub] at hle
  omega

/-- A fold over members none of which changes the core leaves it. -/
theorem foldl_stays {α : Type} {g : Core → α → Core} {l : List α} {c : Core} (h : ∀ x ∈ l, g c x = c) : l.foldl g c = c :=
  List.foldlRecOn (motive := fun d => d = c) l g rfl (fun d hd x hx => by rw [hd, h x hx])

/-- A write of a BOOL that its object takes in the present mode passes the checks. -/
theorem writeFail_bool {c : Core} {k : Key} {acc : Acc} {lo v : Nat} (hobj : objIs k .bool acc (.nat lo 1) = true) (ho : Open c)
    (hfree : (k == dk 3 || k == dk 4) = false) (hm : modeAccepts c acc = true) (hlo : lo ≤ v) (hv : v ≤ 1)
    (hw : acc.writable = true := by rfl) (hr : acc.isRwe = false := by rfl) : writeFail c false k v 0 0 = none := by
  have hwidth : ¬ 2 ^ (8 * ObjTy.bool.width) ≤ v := by simp only [ObjTy.width]; omega
  have htype : typeFail .bool v = none := if_neg (Nat.not_lt.mpr hv)
  have hrange : rangeFail .bool (.nat lo 1) v = none := by simp [rangeFail, hlo, hv]
  exact writeFail_none hobj ho (by simp [hwidth]) hw hfree hr hm htype hrange

/-! ## Objects of the sense inputs (Table 9-7) -/

theorem objIs_ovrClr (n : Fin 32) : objIs (nk n.val 7) .bool .wo (.nat 1 1) = true := by revert n; decide +kernel

theorem nk_free (n : Fin 32) {sub : Nat} (h : sub < 256) :
    (keyIx (nk n.val sub) == 0x5800 && keySub (nk n.val sub) == 2) = false ∧ (nk n.val sub == dk 3 || nk n.val sub == dk 4) = false :=
  mkKey_free h (by omega) (by omega)

/-- Two objects of an input are one where their sub-indices are. -/
@[simp] theorem nk_eq_iff (n i j : Nat) : nk n i = nk n j ↔ i = j := by simp [nk, mkKey]

/-! ## Objects of the filter chains (Table 9-8) -/

theorem objIs_chainRun (n : Fin 8) : objIs (fk n.val 7) .bool (.rwm [.warm, .calibrate, .run]) (.nat 0 1) = true := by
  revert n; decide +kernel

theorem objIs_coeffs (n : Fin 8) : objIs (fk n.val 6) .domain .rw .any = true := by revert n; decide +kernel

theorem domMax_coeffs (n : Fin 8) : domMax (fk n.val 6) = 512 := by revert n; decide +kernel

theorem fk_free (n : Fin 8) {sub : Nat} (h : sub < 256) :
    (keyIx (fk n.val sub) == 0x5800 && keySub (fk n.val sub) == 2) = false ∧ (fk n.val sub == dk 3 || fk n.val sub == dk 4) = false :=
  mkKey_free h (by omega) (by omega)

/-- Two objects of a chain are one where their sub-indices are. -/
@[simp] theorem fk_eq_iff (n i j : Nat) : fk n i = fk n j ↔ i = j := by simp [fk, mkKey]

/-- No object of a chain is one of an input. -/
theorem fk_ne_nk (k : Nat) {n i j : Nat} (hn : n < 32) (hi : i < 256) (hj : j < 256) : fk k i ≠ nk n j := by
  have hix : keyIx (fk k i) ≠ 0x4400 + n := by
    rw [fk, keyIx_mkKey hi]
    omega
  exact ne_mkKey hix hj

@[simp] theorem getChain_setChain_same (c : Core) (n : Nat) (x : Chain) : getChain (setChain c n x) n = x := by
  simp [getChain, setChain]

@[simp] theorem rd_setChain (c : Core) (n : Nat) (x : Chain) (k : Key) : rd (setChain c n x) k = rd c k := rfl

/-! ## Objects of the acquisition units (Table 9-9) -/

theorem objIs_acqArm (u : Fin 8) : objIs (qk u.val 7) .bool (.rwm [.warm, .calibrate, .run]) (.nat 0 1) = true := by
  revert u; decide +kernel

theorem objIs_hostFire (u : Fin 8) : objIs (qk u.val 9) .bool .wo (.nat 1 1) = true := by revert u; decide +kernel

theorem objIs_groupArm (u : Fin 8) : objIs (qk u.val 0xE) .bool .rwe (.nat 1 1) = true := by revert u; decide +kernel

theorem objIs_conditions (u : Fin 8) : objIs (qk u.val 4) .domain .rw .any = true := by revert u; decide +kernel

theorem objIs_mask (u : Fin 8) : objIs (qk u.val 5) .domain .rw .any = true := by revert u; decide +kernel

theorem domMax_conditions (u : Fin 8) : domMax (qk u.val 4) = 64 := by revert u; decide +kernel

theorem domMax_mask (u : Fin 8) : domMax (qk u.val 5) = 32784 := by revert u; decide +kernel

theorem qk_free (u : Fin 8) {sub : Nat} (h : sub < 256) :
    (keyIx (qk u.val sub) == 0x5800 && keySub (qk u.val sub) == 2) = false ∧ (qk u.val sub == dk 3 || qk u.val sub == dk 4) = false :=
  mkKey_free h (by omega) (by omega)

/-- Two objects of a unit are one where their sub-indices are. -/
@[simp] theorem qk_eq_iff (u i j : Nat) : qk u i = qk u j ↔ i = j := by simp [qk, mkKey]

/-- No object of a unit is one of an input. -/
theorem qk_ne_nk (u : Nat) {n i j : Nat} (hn : n < 32) (hi : i < 256) (hj : j < 256) : qk u i ≠ nk n j := by
  have hix : keyIx (qk u i) ≠ 0x4400 + n := by
    rw [qk, keyIx_mkKey hi]
    omega
  exact ne_mkKey hix hj

@[simp] theorem getAcq_setAcq_same (c : Core) (u : Nat) (x : Acq) : getAcq (setAcq c u x) u = x := by simp [getAcq, setAcq]

@[simp] theorem getAcq_wr (c : Core) (k : Key) (v u : Nat) : getAcq (wr c k v) u = getAcq c u := rfl

@[simp] theorem getAcq_bump (c : Core) (k : Key) (u : Nat) : getAcq (bump c k) u = getAcq c u := rfl

@[simp] theorem setAcq_regs (c : Core) (u : Nat) (x : Acq) : (setAcq c u x).regs = c.regs := rfl

@[simp] theorem rd_setAcq (c : Core) (u : Nat) (x : Acq) (k : Key) : rd (setAcq c u x) k = rd c k := rfl

end Sys2Proof.Machine
end

section
/-!
The conversions of the sense inputs, the detector blocks and the filter chains (R256 to R268).
-/
namespace Sys2Proof.Machine

/-! ## A conversion (R256, R259, R260) -/

/-- Whether a conversion of ADC a in slot m carries SETTLING. -/
def settles (c : Core) (a m : Nat) : Bool := (mget ({} : Adc) c.adcs a).settling && (mget ({} : Adc) c.adcs a).lastSlot == some (m - 1)

/-- LAST_FLAGS of a conversion. -/
def conversionFlags (c : Core) (a m : Nat) (v : Int) : Nat :=
  (if clampInt (-131072) 131071 v != v then flOvr else 0) + (if settles c a m then flSettling else 0) +
    (if !refwarm c then flWarming else 0)

/-- The block with a conversion of input n in LAST_CODE, LAST_STAMP and LAST_FLAGS, and in SETTLING_COUNT where it carries SETTLING. -/
def conversionTold (c : Core) (a m n : Nat) (v : Int) : Core :=
  let code := clampInt (-131072) 131071 v
  let taken := { c with
    adcs := mset ({} : Adc) (mset ({} : Adc) c.adcs a { lastSlot := some m }) a { settling := code != v, lastSlot := some m } }
  let told := wr (wr (wr taken (nk n 3) (ofSigned 32 code)) (nk n 4) (m * 500 * 4096 % 2 ^ 64)) (nk n 5) (conversionFlags c a m v)
  if settles c a m then bump told (nk n 9) else told

/-- The block with a conversion of input n over range counted. -/
def overCounted (c : Core) (n : Nat) : Core := wr (bump c (nk n 8)) (nk n 6) 1

/-- The block after a conversion of input n, before anything takes its code. -/
def conversionMade (c : Core) (a m n : Nat) (v : Int) : Core :=
  let told := conversionTold c a m n v
  if !(clampInt (-131072) 131071 v != v) then told
  else if rdb told (nk n 6) then overCounted told n else raise (overCounted told n) 290 0 n

/-- The block with a sample of a source accepted, unless it carries SETTLING. -/
def acceptedUnless (settling : Bool) (c : Core) (source : Nat) (v : Int) (ovr : Bool) : Core :=
  if settling then c else noteAccepted c source v ovr

/-- The block after a conversion of input n that nothing has taken yet. -/
def conversionAccepted (c : Core) (a m n : Nat) (v : Int) : Core :=
  let code := clampInt (-131072) 131071 v
  acceptedUnless (settles c a m) (conversionMade c a m n v) n code (code != v)

@[simp] theorem rd_acceptedUnless (settling : Bool) (c : Core) (source : Nat) (v : Int) (ovr : Bool) (k : Key) :
    rd (acceptedUnless settling c source v ovr) k = rd c k := by
  cases settling <;> rfl

@[simp] theorem acceptedUnless_adcs (settling : Bool) (c : Core) (source : Nat) (v : Int) (ovr : Bool) :
    (acceptedUnless settling c source v ovr).adcs = c.adcs := by
  cases settling <;> rfl

theorem sourceLast_acceptedUnless (settling : Bool) (c : Core) (source : Nat) (v : Int) (ovr : Bool) :
    mget none (acceptedUnless settling c source v ovr).sourceLast source =
      if settling then mget none c.sourceLast source else some (v, ovr) := by
  cases settling
  · exact mget_mset_same none c.sourceLast source (some (v, ovr))
  · rfl

theorem rd_conversionTold (c : Core) (a m n : Nat) (v : Int) (k : Key) : rd (conversionTold c a m n v) k =
    if k = nk n 9 then (if settles c a m then (rd c (nk n 9) + 1) % 2 ^ 64 else rd c (nk n 9))
    else if k = nk n 5 then conversionFlags c a m v
    else if k = nk n 4 then m * 500 * 4096 % 2 ^ 64
    else if k = nk n 3 then ofSigned 32 (clampInt (-131072) 131071 v)
    else rd c k := by
  have hadcs (x : SMap Adc) (j : Key) : rd { c with adcs := x } j = rd c j := rfl
  unfold conversionTold
  dsimp only
  by_cases h9 : k = nk n 9
  · subst h9
    split <;> simp [rd_bump, rd_wr, hadcs]
  · split <;> simp only [rd_bump, rd_wr, hadcs, h9, if_false]

theorem conversionTold_adcs (c : Core) (a m n : Nat) (v : Int) :
    mget {} (conversionTold c a m n v).adcs a = { settling := clampInt (-131072) 131071 v != v, lastSlot := some m } := by
  have hadcs : (conversionTold c a m n v).adcs = mset {} (mset {} c.adcs a { lastSlot := some m }) a
      { settling := clampInt (-131072) 131071 v != v, lastSlot := some m } := by
    unfold conversionTold
    dsimp only
    split <;> rfl
  rw [hadcs, mget_mset_same]

theorem conversionTold_sourceLast (c : Core) (a m n : Nat) (v : Int) : (conversionTold c a m n v).sourceLast = c.sourceLast := by
  unfold conversionTold
  dsimp only
  split <;> rfl

theorem rd_overCounted (c : Core) (n : Nat) (k : Key) : rd (overCounted c n) k =
    if k = nk n 6 then 1 else if k = nk n 8 then (rd c (nk n 8) + 1) % 2 ^ 64 else rd c k := by
  rw [overCounted, rd_wr, rd_bump]

/-- A conversion changes objects of its input alone, but for what a raise may write. -/
theorem rd_conversionAccepted {c : Core} {n : Nat} {k : Key} (hk : k ∉ raiseKeys) (hn : ∀ i < 256, k ≠ nk n i) (a m : Nat) (v : Int) :
    rd (conversionAccepted c a m n v) k = rd c k := by
  have hover (d : Core) : rd (overCounted d n) k = rd d k := by simp [rd_overCounted, hn]
  have htold : rd (conversionTold c a m n v) k = rd c k := by simp [rd_conversionTold, hn]
  simp only [conversionAccepted, rd_acceptedUnless, conversionMade]
  split
  · exact htold
  · split
    · rw [hover, htold]
    · rw [raise_rd _ _ _ _ _ hk, hover, htold]

/-- The input that an ADC converts is one of the 32. -/
theorem enabledInputs_lt {c : Core} {a i n : Nat} (ha : a < 4) (h : (enabledInputs c a)[i]? = some n) : n < 32 := by
  have hmem := List.mem_of_getElem? h
  simp only [enabledInputs, List.mem_filter, List.mem_map, List.mem_range] at hmem
  obtain ⟨⟨j, hj, rfl⟩, -⟩ := hmem
  omega

/-- No unit takes a source that none names. -/
theorem acqFeed_unused {c : Core} {source : Nat} (h : ∀ u < 8, rd c (qk u 1) ≠ source) (value : Int) (stamp flags : Nat) :
    acqFeed c source value stamp flags = c :=
  foldl_stays fun u hu => if_neg fun hsource => h u (List.mem_range.mp hu) hsource.1

/-- The block in which the chains have taken a conversion. -/
def conversionChained (c : Core) (a m n : Nat) (v : Int) : Core :=
  let code := clampInt (-131072) 131071 v
  (List.range 8).foldl (fun d k => if rd d (fk k 1) = n then
    chainInput d k (if settles c a m then none else some code) (m * 500 * 4096) (code != v && !settles c a m) (!refwarm c) else d)
    (conversionAccepted c a m n v)

/-- A conversion of the next enabled input is told and accepted, the chains take it, and the units where it carries no SETTLING. -/
theorem convert_next {c : Core} {a m n : Nat} (hnext : (enabledInputs c a)[m % max 1 (enabledInputs c a).length]? = some n) (v : Int) :
    convert c a m v =
      if settles c a m then conversionChained c a m n v
      else acqFeed (conversionChained c a m n v) n (clampInt (-131072) 131071 v * 64) (m * 500 * 4096) (conversionFlags c a m v) := by
  unfold convert
  extract_lets x l c0 settling
  have hl : l[m % max 1 l.length]? = some n := hnext
  rw [hl]
  rfl

/-- A conversion of an input that no chain and no unit takes is told and accepted, and nothing follows from it. -/
theorem convert_untaken {c : Core} {a m n : Nat} (ha : a < 4) (hnext : (enabledInputs c a)[m % max 1 (enabledInputs c a).length]? = some n)
    (hchains : ∀ k < 8, rd c (fk k 1) ≠ n) (hunits : ∀ u < 8, rd c (qk u 1) ≠ n) (v : Int) :
    convert c a m v = conversionAccepted c a m n v := by
  have hn := enabledInputs_lt ha hnext
  have hchain (k : Nat) (hk : k < 8) : rd (conversionAccepted c a m n v) (fk k 1) = rd c (fk k 1) :=
    rd_conversionAccepted (mkKey_not_raised (by omega) (by decide)) (fun i hi => fk_ne_nk k hn (by decide) hi) a m v
  have hunit (u : Nat) (hu : u < 8) : rd (conversionAccepted c a m n v) (qk u 1) = rd c (qk u 1) :=
    rd_conversionAccepted (mkKey_not_raised (by omega) (by decide)) (fun i hi => qk_ne_nk u hn (by decide) hi) a m v
  have hchained : conversionChained c a m n v = conversionAccepted c a m n v := foldl_stays fun k hk => if_neg (by
    rw [hchain k (List.mem_range.mp hk)]
    exact hchains k (List.mem_range.mp hk))
  rw [convert_next hnext, hchained, acqFeed_unused (fun u hu => by rw [hunit u hu]; exact hunits u hu), ite_self]

theorem clampInt_within {lo hi v : Int} (hlo : lo ≤ v) (hhi : v ≤ hi) : clampInt lo hi v = v := by
  simp [clampInt, Int.not_lt.mpr hlo, Int.not_lt.mpr hhi]

theorem clampInt_above {lo hi v : Int} (hlo : lo ≤ hi) (hhi : hi < v) : clampInt lo hi v = hi := by
  have hlow : ¬ v < lo := by omega
  simp [clampInt, hlow, hhi]

/-- A conversion within range is told and accepted. -/
theorem conversionAccepted_within {c : Core} {v : Int} (hlo : -131072 ≤ v) (hhi : v ≤ 131071) (a m n : Nat) :
    conversionAccepted c a m n v = acceptedUnless (settles c a m) (conversionTold c a m n v) n v false := by
  simp [conversionAccepted, conversionMade, clampInt_within hlo hhi]

/-- A conversion over range is counted, and the first one since OVR was cleared raises the source that names its input. -/
theorem conversionAccepted_over {c : Core} {v : Int} (hv : 131071 < v) (a m n : Nat) :
    let told := overCounted (conversionTold c a m n v) n
    conversionAccepted c a m n v =
      acceptedUnless (settles c a m) (if rd c (nk n 6) = 1 then told else raise told 290 0 n) n 131071 true := by
  have hne : (131071 != v) = true := bne_iff_ne.mpr (by omega)
  have hclamp : clampInt (-131072) 131071 v = 131071 := clampInt_above (by decide) hv
  have hovr : rd (conversionTold c a m n v) (nk n 6) = rd c (nk n 6) := by simp [rd_conversionTold]
  simp [conversionAccepted, conversionMade, hclamp, hne, rdb, hovr]

theorem conversionFlags_within {v : Int} (hlo : -131072 ≤ v) (hhi : v ≤ 131071) (c : Core) (a m : Nat) :
    conversionFlags c a m v = (if settles c a m then 2 else 0) + (if refwarm c then 0 else 64) := by
  cases hwarm : refwarm c <;> simp [conversionFlags, clampInt_within hlo hhi, hwarm, flSettling, flWarming]

/-- The flags of a conversion over range hold OVR. -/
theorem bit_conversionFlags_over {v : Int} (hv : 131071 < v) (c : Core) (a m : Nat) : bit (conversionFlags c a m v) 0 = true := by
  have hne : (131071 : Int) ≠ v := by omega
  have hclamp : clampInt (-131072) 131071 v = 131071 := clampInt_above (by decide) hv
  have hodd : conversionFlags c a m v % 2 = 1 := by
    simp only [conversionFlags, hclamp, bne_iff_ne, ne_eq, hne, not_false_eq_true, if_true, flOvr, flSettling, flWarming]
    split <;> split <;> rfl
  simp [bit, hodd]

/-- What a conversion over range tells: the highest code, OVR, one more in OVR_COUNT, and SETTLING for the next conversion. -/
theorem overCounted_told {v : Int} (hv : 131071 < v) (c : Core) (a m n : Nat) :
    let d := overCounted (conversionTold c a m n v) n
    rd d (nk n 3) = 131071 ∧ rd d (nk n 6) = 1 ∧ rd d (nk n 8) = (rd c (nk n 8) + 1) % 2 ^ 64 ∧
    rd d (nk n 5) = conversionFlags c a m v ∧ mget {} d.adcs a = { settling := true, lastSlot := some m } := by
  have hne : (131071 : Int) ≠ v := by omega
  have hclamp : clampInt (-131072) 131071 v = 131071 := clampInt_above (by decide) hv
  have hcode : ofSigned 32 131071 = 131071 := by decide
  refine ⟨?_, ?_, ?_, ?_, ?_⟩
  · simp [rd_overCounted, rd_conversionTold, hclamp, hcode]
  · simp [rd_overCounted]
  · simp [rd_overCounted, rd_conversionTold]
  · simp [rd_overCounted, rd_conversionTold]
  · refine (conversionTold_adcs c a m n v).trans ?_
    simp [hclamp, hne]

/-! ## Detector blocks (R268) -/

theorem rd_closeBlock (c : Core) (n : Nat) (k : Key) : rd (closeBlock c n) k =
    if k = fk n 0x17 then (rd c (fk n 0x17) + 1) % 2 ^ 64
    else if k = fk n 0x16 then (getChain c n).blockFlags
    else if k = fk n 0x15 then (getChain c n).env
    else if k = fk n 0x14 then roundSqrtDiv (getChain c n).blockSq (getChain c n).blockN
    else if k = fk n 0x13 then ofSigned 32 (roundDiv (getChain c n).blockSum (getChain c n).blockN)
    else if k = fk n 0x12 then ofSigned 32 (getChain c n).blockMin
    else if k = fk n 0x11 then ofSigned 32 (getChain c n).blockMax
    else rd c k := by
  simp only [closeBlock, rd_setChain, rd_bump, rd_wr]
  simp

theorem getChain_closeBlock (c : Core) (n : Nat) : getChain (closeBlock c n) n =
    { getChain c n with blockN := 0, blockMax := 0, blockMin := 0, blockSum := 0, blockSq := 0, blockFlags := 0 } :=
  getChain_setChain_same _ _ _

/-! ## RUN (R265, R266) -/

/-- A write of 0 or 1 to RUN passes the checks. -/
theorem writeFail_chainRun {c : Core} (n : Fin 8) {v : Nat} (ho : Open c) (hm : InModes c [.warm, .calibrate, .run]) (hv : v ≤ 1) :
    writeFail c false (fk n.val 7) v 0 0 = none :=
  writeFail_bool (objIs_chainRun n) ho (fk_free n (by decide)).2 (modeAccepts_rwm hm) (Nat.zero_le v) hv

theorem closedTo_chain {c : Core} (n : Fin 8) {sub : Nat} (ho : Open c) (h : sub < 256 := by decide) : closedTo c (fk n.val sub) = false :=
  closedTo_open ho (fk_free n h).1

/-- Whether SOURCE of a chain names what gives samples: a TDC channel, or an enabled input (R265). -/
def SourceUsable (c : Core) (n : Nat) : Prop :=
  rd c (fk n 1) ≠ 0xFFFF ∧ (0x20 ≤ rd c (fk n 1) ∨ rd c (nk (rd c (fk n 1)) 1) = 1)

/-- A chain as it starts. -/
def chainStarted (c : Core) (n : Nat) : Core :=
  let told := if rd c (fk n 2) = 3 then wr c (fk n 0xC) (enbwAtStart c n) else c
  setChain (wr (wr (wr (wr told (fk n 7) 1) (fk n 8) 1) (fk n 0x18) 0) (fk n 0x19) 0) n { fillLeft := taintLen c n }

theorem startChain_usable {c : Core} {n : Nat} (h : SourceUsable c n) :
    startChain c n = .ok (if rd c (fk n 8) = 1 then c else chainStarted c n) := by
  obtain ⟨hnamed, hgives⟩ := h
  have hok : (rd c (fk n 1) != 0xFFFF && (decide (0x20 ≤ rd c (fk n 1)) || rdb c (nk (rd c (fk n 1)) 1))) = true := by
    simpa [hnamed, rdb] using hgives
  unfold startChain
  dsimp only
  rw [guardSt, if_pos hok]
  split <;> rfl

theorem startChain_unusable {c : Core} {n : Nat} (h : ¬ SourceUsable c n) : startChain c n = .error stStateConflict := by
  refine if_neg fun hok => h ?_
  simpa [SourceUsable, rdb] using hok

theorem rd_chainStarted (c : Core) (n : Nat) (k : Key) : rd (chainStarted c n) k =
    if k = fk n 0x19 then 0 else if k = fk n 0x18 then 0 else if k = fk n 8 then 1 else if k = fk n 7 then 1
    else if k = fk n 0xC then (if rd c (fk n 2) = 3 then enbwAtStart c n else rd c (fk n 0xC)) else rd c k := by
  have htold : rd (if rd c (fk n 2) = 3 then wr c (fk n 0xC) (enbwAtStart c n) else c) k =
      if k = fk n 0xC then (if rd c (fk n 2) = 3 then enbwAtStart c n else rd c (fk n 0xC)) else rd c k := by
    split
    · rw [rd_wr]
    · split
      · subst k; rfl
      · rfl
  simp only [chainStarted, rd_setChain, rd_wr, htold]

theorem stopChain_stopped {c : Core} {n : Nat} (h : rd c (fk n 8) = 0) : stopChain c n = wr (wr c (fk n 7) 0) (fk n 8) 0 := if_pos h

theorem stopChain_running {c : Core} {n : Nat} (h : rd c (fk n 8) ≠ 0) : stopChain c n =
    (List.range 8).foldl (fun c u => if rd c (qk u 1) = 0x20 + n then endAcq c u 4 else c) (wr (wr c (fk n 7) 0) (fk n 8) 0) := if_neg h

/-! ## COEFFS (R267) -/

/-- 128 coefficients in range are judged by the state of the chain. -/
theorem writeCoeffs_inRange {c : Core} {data : List Byte} (n : Nat) (hlen : data.length = 512)
    (hrange : ∀ j < 128, -8388608 ≤ toSigned 32 (leAt data (4 * j) 4) ∧ toSigned 32 (leAt data (4 * j) 4) ≤ 8388607) :
    writeCoeffs c n data = guardSt (rd c (fk n 8) == 0 && rd c (fk n 2) == 3) stStateConflict (.ok (setDom c (fk n 6) data)) := by
  refine if_neg ?_
  rintro (hsize | hbad)
  · exact hsize hlen
  · obtain ⟨j, hj, hout⟩ := List.any_eq_true.mp hbad
    have hin := hrange j (List.mem_range.mp hj)
    simp only [Bool.or_eq_true, decide_eq_true_eq] at hout
    omega

/-- A whole COEFFS makes what its check answers. -/
theorem makes_coeffs {s : State} (n : Fin 8) {data : List Byte} (ho : Open s.core) (hlen : data.length = 512) :
    Makes (.coeffs n data) s { (answer s.core (writeCoeffs s.core n.val data)).2 with
      status := (answer s.core (writeCoeffs s.core n.val data)).1 } :=
  makes_domain (f := fun c => answer c (writeCoeffs c n.val data)) rfl
    (blockFail_none (objIs_coeffs n) ho rfl (fk_free n (by decide)).2 rfl) (closedTo_chain n ho) (by rw [domMax_coeffs, hlen])

/-! ## The statement -/

/-- Settles O47: a conversion by whether its code is clamped, and each write by the branch that its hypotheses select. -/
theorem senseScanAndChains : Obligations.SenseScanAndChains := by
  unfold Obligations.SenseScanAndChains
  refine ⟨?idle, ?slot, ?conversion, ?block, ?ovrClr, ?start, ?stop, ?coeffs⟩
  case idle =>
    intro s v0 v1 v2 v3 h
    refine makes_didC rfl (if_pos (h.imp (fun hm => ?_) (fun hc => by rw [hc]; rfl)))
    rw [Bool.not_eq_true']
    refine Bool.eq_false_iff.mpr fun hin => hm ?_
    obtain ⟨m, hmem, hmode⟩ := List.any_eq_true.mp hin
    exact ⟨m, hmem, by simpa [inMode] using hmode⟩
  case slot =>
    intro s v0 v1 v2 v3 m hm hclock
    exact makes_didC rfl (if_neg (by simp [inModes_true hm, hclock]))
  case conversion =>
    intro c a m n v x st d ha hnext hchains hunits
    have hd : d = conversionAccepted c a m n v := convert_untaken ha hnext hchains hunits v
    have hst : settles c a m = st := rfl
    clear_value d
    refine ⟨fun hlo hhi => ?_, fun hv hovr => ?_, fun hv hovr => ?_⟩
    · have hcode : clampInt (-131072) 131071 v = v := clampInt_within hlo hhi
      rw [hd, conversionAccepted_within hlo hhi, hst]
      simp only [rd_acceptedUnless, acceptedUnless_adcs, sourceLast_acceptedUnless, conversionTold_sourceLast]
      refine ⟨?_, ?_, ?_, ?_, ?_, fun k hk => ?_, ?_, trivial⟩
      · simp [rd_conversionTold, hcode]
      · simp [rd_conversionTold]
      · simp [rd_conversionTold, conversionFlags_within hlo hhi, hst]
      · simp [rd_conversionTold]
      · simp [rd_conversionTold, hst]
      · simp only [List.mem_cons, List.not_mem_nil, or_false, not_or] at hk
        simp [rd_conversionTold, hk]
      · rw [conversionTold_adcs, hcode, bne_self_eq_false]
    · obtain ⟨hcode, hset, hcount, hflags, hadcs⟩ := overCounted_told hv c a m n
      rw [hd, conversionAccepted_over hv, if_pos hovr]
      simp only [rd_acceptedUnless, acceptedUnless_adcs]
      exact ⟨hcode, hset, hcount, hflags ▸ bit_conversionFlags_over hv c a m, hadcs⟩
    · obtain ⟨hcode, hset, hcount, -, hadcs⟩ := overCounted_told hv c a m n
      have hclear : ¬ rd c (nk n 6) = 1 := by omega
      refine ⟨overCounted (conversionTold c a m n v) n, ?_, hcode, hset, hcount, hadcs⟩
      rw [hd, conversionAccepted_over hv, if_neg hclear, hst]
      rfl
  case block =>
    intro s n x
    refine ⟨fun hfull => ?_, fun hpart => makes_didC rfl (if_neg (by simp [hpart]))⟩
    refine ⟨closeBlock s.core n.val, makes_didC rfl (if_pos hfull), ?_⟩
    have hothers : SameRegsBut [fk n.val 0x11, fk n.val 0x12, fk n.val 0x13, fk n.val 0x14, fk n.val 0x15, fk n.val 0x16, fk n.val 0x17]
        s.core (closeBlock s.core n.val) := by
      intro k hk
      simp only [List.mem_cons, List.not_mem_nil, or_false, not_or] at hk
      simp [rd_closeBlock, hk]
    rw [getChain_closeBlock]
    simp [rd_closeBlock, x, hothers]
  case ovrClr =>
    exact fun s n ho => accepts_scalar rfl (writeFail_bool (objIs_ovrClr n) ho (nk_free n (by decide)).2 rfl (le_refl 1) (le_refl 1))
      (closedTo_open ho (nk_free n (by decide)).1) rfl
  case start =>
    intro s n ho hm src
    have hpass := writeFail_chainRun n ho hm (le_refl 1)
    refine ⟨fun hnamed hgives hrun => ?_, fun hnamed hgives hstopped => ?_, fun hnone => ?_⟩
    · refine accepts_scalar rfl hpass (closedTo_chain n ho) (effW_ok ?_)
      rw [startChain_usable ⟨hnamed, hgives⟩, if_pos hrun]
    · refine ⟨chainStarted s.core n.val, accepts_scalar rfl hpass (closedTo_chain n ho) (effW_ok ?_), ?_⟩
      · rw [startChain_usable ⟨hnamed, hgives⟩, if_neg hstopped]
      · refine ⟨by simp [rd_chainStarted], by simp [rd_chainStarted], by simp [rd_chainStarted], by simp [rd_chainStarted],
          getChain_setChain_same _ _ _, fun k hk => ?_, by simp [rd_chainStarted]⟩
        simp only [List.mem_cons, List.not_mem_nil, or_false, not_or] at hk
        simp [rd_chainStarted, hk]
    · refine makes_effW_error rfl hpass (closedTo_chain n ho) (startChain_unusable ?_)
      rintro ⟨hnamed, hgives⟩
      rcases hnone with hnone | ⟨hinput, hoff⟩
      · exact hnamed hnone
      · exact hgives.elim (Nat.not_le.mpr hinput) hoff
  case stop =>
    intro s n ho hm c
    have haccepts {d : Core} (h : stopChain s.core n.val = d) : Accepts (.fcStop n) s d :=
      h ▸ accepts_scalar rfl (writeFail_chainRun n ho hm (Nat.zero_le 1)) (closedTo_chain n ho) rfl
    exact ⟨fun hstopped => haccepts (stopChain_stopped hstopped), fun hrunning => haccepts (stopChain_running hrunning)⟩
  case coeffs =>
    intro s n data ho hlen hrange
    have hmakes := makes_coeffs n ho hlen
    rw [writeCoeffs_inRange n.val hlen hrange] at hmakes
    refine ⟨fun hstopped hpreset => ?_, fun hbars => ?_⟩
    · rwa [hstopped, hpreset] at hmakes
    · have hconflict : (rd s.core (fk n.val 8) == 0 && rd s.core (fk n.val 2) == 3) = false := by
        rcases hbars with h | h <;> simp [h]
      rwa [hconflict] at hmakes

end Sys2Proof.Machine
end

section
/-!
The acquisition units: arming, fires, the tests of samples, intervals, ends and records (R269 to R286).
-/
namespace Sys2Proof.Machine

@[simp] theorem rd_modAcq (c : Core) (u : Nat) (f : Acq → Acq) (k : Key) : rd (modAcq c u f) k = rd c k := rfl

/-! ## ARM and HOST_FIRE (R270, R274, R277, R286) -/

/-- A write of 0 or 1 to ARM passes the checks. -/
theorem writeFail_acqArm {c : Core} (u : Fin 8) {v : Nat} (ho : Open c) (hm : InModes c [.warm, .calibrate, .run]) (hv : v ≤ 1) :
    writeFail c false (qk u.val 7) v 0 0 = none :=
  writeFail_bool (objIs_acqArm u) ho (qk_free u (by decide)).2 (modeAccepts_rwm hm) (Nat.zero_le v) hv

theorem closedTo_acq {c : Core} (u : Fin 8) {sub : Nat} (ho : Open c) (h : sub < 256 := by decide) : closedTo c (qk u.val sub) = false :=
  closedTo_open ho (qk_free u h).1

theorem writeArm_free {c : Core} {u : Nat} (hidle : acqState c u = 0) (hfree : acqStreamFree c u = true) :
    writeArm c u = .ok (armAcq c u 0 0 c.stamp) := by
  simp [writeArm, guardSt, hidle, hfree]

theorem writeArm_barred {c : Core} {u : Nat} (h : acqState c u ≠ 0 ∨ acqStreamFree c u = false) :
    writeArm c u = .error stStateConflict := by
  rcases h with h | h <;> simp [writeArm, guardSt, h]

theorem rd_armAcq (c : Core) (u origin epoch notBefore : Nat) (k : Key) : rd (armAcq c u origin epoch notBefore) k =
    if k = qk u 0xB then (rd c (qk u 0xB) + 1) % 2 ^ 64 else if k = qk u 0xA then 1 else rd c k := by
  simp [armAcq, rd_bump, rd_wr]

theorem getAcq_armAcq (c : Core) (u origin epoch notBefore : Nat) : getAcq (armAcq c u origin epoch notBefore) u =
    { fifo := (getAcq c u).fifo, waiting := (getAcq c u).waiting, origin := origin == 1, armEpoch := epoch, notBefore := notBefore } := by
  simp [armAcq]

/-! ## GROUP_ARM (R281) -/

theorem leastEpoch_groupArm (c : Core) (u : Fin 8) : leastEpoch c (qk u.val 0xE) = epochNow c + 2 := by
  have hunits : ∀ u : Fin 8, 0x44C0 ≤ keyIx (qk u.val 0xE) ∧ keyIx (qk u.val 0xE) < 0x44C8 ∧ keySub (qk u.val 0xE) = 0xE := by
    decide
  exact if_pos (hunits u)

/-- A write of GROUP_ARM for an epoch it may name, with room among the pending entries, passes the checks. -/
theorem writeFail_groupArm {c : Core} (u : Fin 8) {epoch : Nat} (ho : Open c) (hnamed : epoch ≠ 0) (hpast : epochNow c + 2 ≤ epoch)
    (hfar : epoch ≤ epochNow c + 2 ^ 32) (hroom : c.rwe.length < 1024) : writeFail c false (qk u.val 0xE) 1 epoch 0 = none := by
  have hl := (lookObj_open (qk u.val 0xE) ho).trans (objIs_find (objIs_groupArm u))
  have htiming : timingFail c .rwe (qk u.val 0xE) epoch 0 = none := by
    have hboundary : boundaryOf c epoch = epoch := if_neg hnamed
    have h1 : ¬ epoch < epochNow c + 2 := by omega
    have h2 : ¬ epochNow c + 2 ^ 32 < epoch := by omega
    have h3 : ¬ 1024 ≤ c.rwe.length + 0 := by omega
    simp only [timingFail, Acc.isRwe, leastEpoch_groupArm, hboundary, h1, h2, h3, decide_false, firstFail, if_true]
  have hkey := (qk_free u (sub := 0xE) (by decide)).2
  simp only [writeFail, hl, authBars, hkey, htiming, Bool.and_false]
  rfl

/-- A master with a group and an ID sends the arm token. -/
theorem writeGroupArm_master {c : Core} {u : Nat} (hmaster : rd c (qk u 0xD) = 1) (hgroup : rd c (qk u 0xC) ≠ 0)
    (hid : noDeviceId c = false) (e : Nat) : writeGroupArm c u e =
      .ok (sendToken { c with tokens := { c.tokens with arms := c.tokens.arms ++ [(rd c (qk u 0xC), e)] } } tokArm e
        (rd c (qk u 0xC))) := by
  simp [writeGroupArm, guardSt, hmaster, hgroup, hid]

/-! ## Samples (R269, R274, R276, R283) -/

theorem conditionTest_idle {c : Core} {u : Nat} (h : acqState c u = 0) : conditionTest c u = c := if_pos h

theorem intervalEnd_idle {c : Core} {u : Nat} (h : acqState c u = 0) : intervalEnd c u = c := if_neg fun hrun => hrun.1 h

theorem postEnd_idle {c : Core} {u : Nat} (h : acqState c u = 0) : postEnd c u = c := if_neg fun hrun => hrun.1 h

theorem conditionTest_due {c : Core} {u : Nat} {x : AcqSample} {rest : List AcqSample} (hrun : acqState c u ≠ 0)
    (hheld : (getAcq c u).held = x :: rest) (hdue : x.stamp ≤ c.stamp - heldTicks c u) :
    conditionTest c u = testSample (setAcq c u { getAcq c u with held := rest }) u x := by
  simp only [conditionTest, hrun, testDue, hheld, hdue, modAcq, if_true, if_false]

theorem conditionTest_early {c : Core} {u : Nat} {x : AcqSample} {rest : List AcqSample} (hrun : acqState c u ≠ 0)
    (hheld : (getAcq c u).held = x :: rest) (hearly : c.stamp - heldTicks c u < x.stamp) : conditionTest c u = c := by
  simp only [conditionTest, hrun, testDue, hheld, Nat.not_le.mpr hearly, if_false]

/-- With no interval complete and no POST ending, nothing falls due. -/
theorem flushAcq_quiet {c : Core} {u : Nat} (hspan : spanFull c u = false) (hpost : (getAcq c u).postLeft = none) : flushAcq c u = c := by
  simp [flushAcq, hspan, hpost]

/-- A sample that meets nothing makes no fire. -/
theorem decide4_unmet {c : Core} {u : Nat} {x : Acq} {h : AcqSample} (hmet : metMask c u x h (!(firesAt x h.stamp).isEmpty) = 0) :
    decide4 c u x h = (0, firesAt x h.stamp, false) := by
  simp [decide4, hmet]

/-- A unit after a sample that has met nothing. -/
def sampleTested (c : Core) (u : Nat) (x : Acq) (h : AcqSample) : Acq :=
  { x with
    fires := x.fires.filter (fun f => decide (h.stamp < f.1))
    trgi := x.trgi.filter (fun e => decide (h.stamp < e.2 / 4096 * 4096))
    hostFires := x.hostFires.filter (fun t => decide (h.stamp < t))
    span := some (spanAdd c u x h), tested := x.tested + 1, prev := h.value, prevStamp := h.stamp, postLeft := none }

/-- A sample that meets no condition joins its interval. -/
theorem testSample_unmet {c : Core} {u : Nat} {h : AcqSample} (hrun : acqState c u ≠ 0) (hspan : spanFull c u = false)
    (hpost : (getAcq c u).postLeft = none) (hmet : metMask c u (getAcq c u) h (!(firesAt (getAcq c u) h.stamp).isEmpty) = 0) :
    (testSample c u h).regs = c.regs ∧ getAcq (testSample c u h) u = sampleTested c u (getAcq c u) h := by
  have hnone : setBits 0 4 = [] := by decide
  unfold testSample
  dsimp only
  rw [flushAcq_quiet hspan hpost, if_neg hrun, decide4_unmet hmet]
  simp [hnone, hpost, markOf, modAcq, sampleTested, spanAdd]

/-! ## Intervals and ends (R269, R276, R279) -/

theorem postLeft_fillFifo (n : Nat) (c : Core) (u : Nat) : (getAcq (fillFifo n c u) u).postLeft = (getAcq c u).postLeft := by
  induction n generalizing c with
  | zero => rfl
  | succ n ih =>
    simp only [fillFifo]
    split
    · rfl
    · split
      · rw [ih, getAcq_setAcq_same]
      · rfl

/-- The close of an interval leaves what POST still takes. -/
theorem postLeft_closeSpan (c : Core) (u : Nat) : (getAcq (closeSpan c u) u).postLeft = (getAcq c u).postLeft := by
  unfold closeSpan
  split
  · unfold pushSpan
    dsimp only
    split
    · simp [modAcq]
    · simp [postLeft_fillFifo, modAcq]
  · rfl

/-- What waits alone enters a FIFO with room. -/
theorem fillFifo_one {c : Core} {u : Nat} {w : AcqWait} (hwait : (getAcq c u).waiting = [w]) (hroom : (getAcq c u).fifo.length < 64)
    (n : Nat) : fillFifo (n + 1) c u = setAcq c u { getAcq c u with fifo := (getAcq c u).fifo ++ [waitRecord u w], waiting := [] } := by
  rw [fillFifo, hwait]
  dsimp only
  rw [if_pos hroom]
  cases n <;> simp [fillFifo]

theorem spanFull_of_count {c : Core} {u : Nat} {p : AcqSpan} (hspan : (getAcq c u).span = some p) (h : rd c (qk u 2) ≤ p.count) :
    spanFull c u = true := by
  simp [spanFull, hspan, h]

/-- With nothing waiting and room in the FIFO the interval in progress closes into a MINMAX record. -/
theorem closeSpan_room {c : Core} {u : Nat} {p : AcqSpan} (hspan : (getAcq c u).span = some p) (hwait : (getAcq c u).waiting = [])
    (hroom : (getAcq c u).fifo.length < 64) :
    (closeSpan c u).regs = c.regs ∧ getAcq (closeSpan c u) u = { getAcq c u with
      span := none, fifo := (getAcq c u).fifo ++ [spanRecord u (rd c (qk u 3)) (rd c (qk u 0xB)) p (spanPartial c u p)] } := by
  simp only [closeSpan, hspan, pushSpan, modAcq, getAcq_setAcq_same, hwait, List.findSome?_nil, List.nil_append]
  rw [fillFifo_one (by rw [getAcq_setAcq_same]) (by rwa [getAcq_setAcq_same])]
  simp only [setAcq_regs, getAcq_setAcq_same, waitRecord, rd_setAcq, spanPartial, and_self]

/-- An acquisition that has ended is IDLE, and STOP_CAUSE tells its cause. -/
theorem finishAcq_idle (c : Core) (u cause : Nat) :
    acqState (finishAcq c u cause) u = 0 ∧ rd (finishAcq c u cause) (qk u 0x10) = cause := by
  have hstate : qk u 0xA ≠ qk u 0x10 := by simp
  unfold finishAcq
  extract_lets x begun closed y
  split
  simp only [acqState, rd_modAcq, rd_wr, hstate, if_true, if_false, and_self]

/-- A POST of no samples left ends the acquisition, after the interval in progress where that is complete. -/
theorem postEnd_spent {c : Core} {u : Nat} (hrun : acqState c u ≠ 0) (hpost : (getAcq c u).postLeft = some 0) :
    postEnd c u = finishAcq (if spanFull c u then closeSpan c u else c) u 0 := by
  have hkept : (getAcq (if spanFull c u then closeSpan c u else c) u).postLeft = some 0 := by
    split
    · rw [postLeft_closeSpan, hpost]
    · exact hpost
  rw [postEnd, if_pos ⟨hrun, hpost⟩, flushAcq, if_pos hkept]

/-! ## Records (R209, R270, R279) -/

theorem length_leBytes (k n : Nat) : (leBytes k n).length = k := by
  induction k generalizing n with
  | zero => rfl
  | succ k ih => rw [leBytes, List.length_cons, ih]

theorem length_twoUnit (fields : List (Nat × Nat)) : (twoUnit fields).length = 64 := by
  rw [twoUnit, sealCrc, List.length_append, length_leBytes, length_leBytes]

/-- The bytes of a unit's record under its stream's next number. -/
def acqBytes (c : Core) (r : AcqRec) : List Byte :=
  twoUnit (commonFields c r.kind r.stream (getStream c r.stream).next r.flags r.run ++ r.body)

/-- The block with the first record of a unit's FIFO taken, and its number used. -/
def acqRecordTaken (c : Core) (u : Nat) (r : AcqRec) (rs : List AcqRec) : Core :=
  setStream (setAcq c u { getAcq c u with fifo := rs }) r.stream
    { getStream c r.stream with next := ((getStream c r.stream).next + 1) % 2 ^ 48 }

/-- The first record goes to a ring that takes it, is counted, and makes room in the FIFO. -/
theorem writeAcqRecord_placed {m m' : Mem} {c d : Core} {u : Nat} {r : AcqRec} {rs : List AcqRec} (hfifo : (getAcq c u).fifo = r :: rs)
    (hring : ringTakes c r.stream 2 = true) (hdone : rd c (jo 8) ≠ 1) (hid : noDeviceId c = false)
    (hwritten : ringWrite m (acqRecordTaken c u r rs) r.stream (getStream c r.stream).next (acqBytes c r) = (m', d)) :
    writeAcqRecord m c u = (m', fillFifo 64 (tallyEvent (bump
      (recordStands d r.stream (getStream c r.stream).next (acqBytes c r)) (qk u 0x15)) (0x68 + u)) u) := by
  have hbytes : twoUnit (commonFields c r.kind r.stream (getStream c r.stream).next r.flags r.run ++ r.body) = acqBytes c r := rfl
  have htaken : setStream (setAcq c u { getAcq c u with fifo := rs }) r.stream
    { getStream c r.stream with next := ((getStream c r.stream).next + 1) % 2 ^ 48 } = acqRecordTaken c u r rs := rfl
  unfold writeAcqRecord
  dsimp only
  rw [hfifo]
  dsimp only
  rw [if_neg (by simp [hring, hdone, hid]), hbytes, htaken, hwritten]

theorem writeAcqRecord_empty {c : Core} {u : Nat} (m : Mem) (h : (getAcq c u).fifo = []) : writeAcqRecord m c u = (m, c) := by
  unfold writeAcqRecord
  dsimp only
  rw [h]

/-- A record of 64 bytes takes two units of its ring. -/
theorem ringWrite_twoUnits {bytes : List Byte} (h : bytes.length = 64) (m : Mem) (c : Core) (n seq : Nat) :
    let w := storeUnits m c (streamEntry c n) (getStream c n).ringPos (ringHint bytes) 2 bytes
    ringWrite m c n seq bytes = (w.1, setStream w.2 n { getStream c n with
      ringPos := ((getStream c n).ringPos + 2) % max 1 (streamEntry c n).ringUnits
      ring := (getStream c n).ring ++ [{ seq := seq, pos := (getStream c n).ringPos, units := 2 }] }) := by
  have hunits : unitsOf bytes = 2 := by rw [unitsOf, h]
  simp only [ringWrite, hunits]

/-! ## MASK and CONDITIONS (R273, R278, R286) -/

theorem writeMask_valid {c : Core} {data : List Byte} (u : Nat) (h : maskOk data = true) :
    writeMask c u data = guardSt (acqState c u == 0) stStateConflict (.ok (setDom c (qk u 5) data)) := if_neg (by simp [h])

theorem maskOk_length {data : List Byte} (h : maskOk data = true) : data.length ≤ 32784 := by
  simp only [maskOk, Bool.and_eq_true, decide_eq_true_eq, beq_iff_eq] at h
  omega

theorem writeConditions_valid {c : Core} {data : List Byte} (u : Nat) (hlen : data.length = 64)
    (h : ∀ n < 4, condStatus (leAt data (16 * n) 16) = none) :
    writeConditions c u data = guardSt (acqState c u == 0) stStateConflict (.ok (setDom c (qk u 4) data)) := by
  have hnone : [0, 1, 2, 3].findSome? (fun n => condStatus (leAt data (16 * n) 16)) = none :=
    List.findSome?_eq_none_iff.mpr fun n hn => h n (by simp at hn; omega)
  rw [writeConditions, if_neg (not_not_intro hlen), hnone]

/-- A DOMAIN of a unit that its contents do not refuse is taken while the unit is IDLE, and is in conflict with it otherwise. -/
theorem unitDomain_taken_while_idle {i : Instr} {s : State} {u : Fin 8} {sub : Nat} {data : List Byte} {f : Core → Written}
    (hsub : sub < 256) (he : exec i s = wroteDomain s (qk u.val sub) data (effW f)) (hobj : objIs (qk u.val sub) .domain .rw .any = true)
    (ho : Open s.core) (hlen : data.length ≤ domMax (qk u.val sub))
    (hf : f s.core = guardSt (acqState s.core u.val == 0) stStateConflict (.ok (setDom s.core (qk u.val sub) data))) :
    (acqState s.core u.val = 0 → Accepts i s (setDom s.core (qk u.val sub) data)) ∧
    (acqState s.core u.val ≠ 0 → Makes i s { s.core with status := stStateConflict }) := by
  have hmakes := makes_domain (f := fun c => answer c (f c)) he
    (blockFail_none hobj ho rfl (qk_free u hsub).2 rfl) (closedTo_acq u ho hsub) hlen
  rw [hf] at hmakes
  refine ⟨fun hidle => ?_, fun hrun => ?_⟩
  · rwa [hidle] at hmakes
  · rwa [beq_false_of_ne hrun] at hmakes

/-! ## The statement -/

/-- Settles O48: each write passes its checks, and each command acts by the branch that its hypotheses select. -/
theorem acquisitionUnits : Obligations.AcquisitionUnits := by
  unfold Obligations.AcquisitionUnits
  refine ⟨?arm, ?disarm, ?fire, ?group, ?idle, ?held, ?test, ?interval, ?post, ?record, ?empty, ?mask, ?conditions⟩
  case arm =>
    intro s u ho hm
    have hpass := writeFail_acqArm u ho hm (le_refl 1)
    refine ⟨fun hidle hfree => ?_, fun hbars => makes_effW_error rfl hpass (closedTo_acq u ho) (writeArm_barred hbars)⟩
    refine ⟨_, accepts_scalar rfl hpass (closedTo_acq u ho) (effW_ok (writeArm_free hidle hfree)), ?_, ?_, fun k hk => ?_,
      getAcq_armAcq s.core u.val 0 0 s.core.stamp⟩
    · simp [acqState, rd_armAcq]
    · simp [rd_armAcq]
    · simp only [List.mem_cons, List.not_mem_nil, or_false, not_or] at hk
      simp [rd_armAcq, hk]
  case disarm =>
    intro s u ho hm
    have haccepts {d : Core} (h : writeDisarm s.core u.val = d) : Accepts (.acqDisarm u) s d :=
      h ▸ accepts_scalar rfl (writeFail_acqArm u ho hm (Nat.zero_le 1)) (closedTo_acq u ho) rfl
    exact ⟨fun hidle => haccepts (if_pos hidle), fun hrun => haccepts (if_neg hrun)⟩
  case fire =>
    intro s u ho
    have hpass := writeFail_bool (objIs_hostFire u) ho (qk_free u (by decide)).2 rfl (le_refl 1) (le_refl 1)
    have haccepts {d : Core} (h : writeHostFire s.core u.val = d) : Accepts (.hostFire u) s d :=
      h ▸ accepts_scalar rfl hpass (closedTo_acq u ho) rfl
    exact ⟨fun hidle => haccepts (if_pos hidle), fun hrun => haccepts (if_neg hrun)⟩
  case group =>
    intro s u epoch ho e g c hnamed hpast hfar hroom hmaster hgroup hid
    have he : e ≠ 0 := fun h0 => hnamed (BitVec.eq_of_toNat_eq h0)
    have hboundary : boundaryOf s.core e = e := if_neg he
    refine accepts_rwe rfl (writeFail_groupArm u ho he hpast hfar hroom) (closedTo_acq u ho) (effW_ok ?_)
    rw [hboundary, writeGroupArm_master hmaster hgroup hid]
    rfl
  case idle =>
    exact fun s u h => ⟨makes_didC rfl (conditionTest_idle h), makes_didC rfl (intervalEnd_idle h), makes_didC rfl (postEnd_idle h)⟩
  case held =>
    exact fun s u h rest hrun hheld => ⟨fun hdue => makes_didC rfl (conditionTest_due hrun hheld hdue),
      fun hearly => makes_didC rfl (conditionTest_early hrun hheld hearly)⟩
  case test =>
    intro c u h x d hrun hspan hpost hmet
    obtain ⟨hregs, htested⟩ := testSample_unmet (by omega) hspan hpost hmet
    rw [htested]
    exact ⟨(rd_congr hregs _).trans hrun, rfl, rfl, rfl, rfl, rfl, hregs⟩
  case interval =>
    intro s u p x hrun hspan hcount hwait hroom
    obtain ⟨hregs, hclosed⟩ := closeSpan_room hspan hwait hroom
    exact ⟨_, makes_didC rfl (if_pos ⟨hrun, spanFull_of_count hspan hcount⟩), hclosed, hregs⟩
  case post =>
    intro s u hrun hpost
    exact ⟨_, makes_didC rfl (postEnd_spent hrun hpost), finishAcq_idle _ u.val 0⟩
  case record =>
    intro s u r rs x e st bytes y w m c hfifo hring hdone hid htrain
    have hlen : bytes.length = 64 := length_twoUnit _
    have hexec : exec (.acqRecordWrite u) s = did s (writeAcqRecord s.mem s.core u.val) :=
      bestEffort_run s (by rw [htrain, Bool.false_and]) _ _
    have hwritten : ringWrite s.mem (acqRecordTaken s.core u.val r rs) r.stream st.next bytes = (m, c) := by
      have hy : getStream (acqRecordTaken s.core u.val r rs) r.stream = y := getStream_setStream_same _ _ _
      rw [ringWrite_twoUnits hlen, hy]
      rfl
    exact ⟨gives_did hexec (writeAcqRecord_placed hfifo hring hdone hid hwritten),
      ringBytes_storeUnits 2 _ _ _ _ _ _ _ hlen (ringTakes_fits hring), fun a => readByte_storeUnits_outside 2 _ _ _ _ _ _ a⟩
  case empty =>
    intro s u hfifo
    have hexec : exec (.acqRecordWrite u) s = did s (writeAcqRecord s.mem s.core u.val) :=
      bestEffort_run s (by rw [hfifo, List.isEmpty_nil, Bool.not_true, Bool.and_false]) _ _
    exact gives_did hexec (writeAcqRecord_empty s.mem hfifo)
  case mask =>
    intro s u data ho hok
    have hsize : data.length ≤ domMax (qk u.val 5) := by
      rw [domMax_mask]
      exact maskOk_length hok
    exact unitDomain_taken_while_idle (by decide) rfl (objIs_mask u) ho hsize (writeMask_valid u.val hok)
  case conditions =>
    exact fun s u data ho hlen hok => unitDomain_taken_while_idle (by decide) rfl (objIs_conditions u) ho (by rw [domMax_conditions, hlen])
      (writeConditions_valid u.val hlen hok)

end Sys2Proof.Machine
end

section
/-!
The objects of the raster groups, and what the operations on a group leave of the registers (R287 to R305).
-/
namespace Sys2Proof.Machine

/-! ## Registers and groups -/

@[simp] theorem rd_modR (c : Core) (g : Nat) (f : Raster → Raster) (k : Key) : rd (modR c g f) k = rd c k := rfl

@[simp] theorem dom_modR (c : Core) (g : Nat) (f : Raster → Raster) (k : Key) : dom (modR c g f) k = dom c k := rfl

@[simp] theorem getR_setR_same (c : Core) (g : Nat) (r : Raster) : getR (setR c g r) g = r := by simp [getR, setR]

@[simp] theorem getR_modR_same (c : Core) (g : Nat) (f : Raster → Raster) : getR (modR c g f) g = f (getR c g) := getR_setR_same _ _ _

@[simp] theorem getR_wr (c : Core) (k : Key) (v g : Nat) : getR (wr c k v) g = getR c g := rfl

@[simp] theorem getR_setDom (c : Core) (k : Key) (l : List Byte) (g : Nat) : getR (setDom c k l) g = getR c g := rfl

@[simp] theorem getR_setClock (c : Core) (d : Nat) (b : Bool) (g : Nat) : getR (setClock c d b) g = getR c g := rfl

theorem rd_bumpBy (c : Core) (k : Key) (n : Nat) (j : Key) : rd (bumpBy c k n) j = if j = k then (rd c k + n) % 2 ^ 64 else rd c j :=
  rd_wr c k j _

/-! ## Objects (Table 10-3) -/

theorem objIs_rasterEnable (g : Fin 2) : objIs (rk g.val 1) .bool .rw (.nat 0 1) = true := by revert g; decide

theorem objIs_timing (g : Fin 2) : objIs (rk g.val 0xD) .domain .rw .any = true := by revert g; decide

theorem objIs_rects (g : Fin 2) : objIs (rk g.val 0xF) .domain .rw .any = true := by revert g; decide

theorem objIs_present (g : Fin 2) : objIs (rk g.val 0x10) .u8 .wo .any = true := by revert g; decide

theorem objIs_selfRefresh (g : Fin 2) : objIs (rk g.val 0x13) .bool .rw (.nat 0 1) = true := by revert g; decide

theorem objIs_mismatchClr (g : Fin 2) : objIs (rk g.val 0x20) .u32 .wo .any = true := by revert g; decide

theorem domMax_timing (g : Fin 2) : domMax (rk g.val 0xD) = 32 := by revert g; decide

theorem domMax_rects (g : Fin 2) : domMax (rk g.val 0xF) = 384 := by revert g; decide

theorem rk_free (g : Fin 2) {sub : Nat} (h : sub < 256 := by decide) :
    (keyIx (rk g.val sub) == 0x5800 && keySub (rk g.val sub) == 2) = false ∧ (rk g.val sub == dk 3 || rk g.val sub == dk 4) = false :=
  mkKey_free h (by omega) (by omega)

/-- Two objects of a group are one where their sub-indices are. -/
@[simp] theorem rk_eq_iff (g i j : Nat) : rk g i = rk g j ↔ i = j := by simp [rk, mkKey]

theorem closedTo_raster {c : Core} (g : Fin 2) {sub : Nat} (ho : Open c) (h : sub < 256 := by decide) : closedTo c (rk g.val sub) = false :=
  closedTo_open ho (rk_free g h).1

theorem writeFail_rasterEnable {c : Core} (g : Fin 2) {v : Nat} (ho : Open c) (hv : v ≤ 1) : writeFail c false (rk g.val 1) v 0 0 = none :=
  writeFail_bool (objIs_rasterEnable g) ho (rk_free g).2 rfl (Nat.zero_le v) hv

theorem writeFail_selfRefresh {c : Core} (g : Fin 2) {v : Nat} (ho : Open c) (hv : v ≤ 1) : writeFail c false (rk g.val 0x13) v 0 0 = none :=
  writeFail_bool (objIs_selfRefresh g) ho (rk_free g).2 rfl (Nat.zero_le v) hv

theorem writeFail_present {c : Core} (g : Fin 2) (n : Byte) (ho : Open c) : writeFail c false (rk g.val 0x10) n.toNat 0 0 = none := by
  have hwidth : ¬ 2 ^ (8 * ObjTy.u8.width) ≤ n.toNat := Nat.not_le.mpr n.isLt
  exact writeFail_none (objIs_present g) ho (by simp [hwidth]) rfl (rk_free g).2 rfl rfl rfl rfl

theorem writeFail_mismatchClr {c : Core} (g : Fin 2) (m : BitVec 32) (ho : Open c) : writeFail c false (rk g.val 0x20) m.toNat 0 0 = none := by
  have hwidth : ¬ 2 ^ (8 * ObjTy.u32.width) ≤ m.toNat := Nat.not_le.mpr m.isLt
  exact writeFail_none (objIs_mismatchClr g) ho (by simp [hwidth]) rfl (rk_free g).2 rfl rfl rfl rfl

/-! ## Binding (R288) -/

/-- A group with an empty position. -/
def emptied (r : Raster) : Raster := { timing := r.timing, rects := r.rects }

/-- The block with a group bound, before its clock. -/
def rasterBound (c : Core) (g : Nat) : Core := modR (wr c (rk g 1) 1) g emptied

/-- The block with a group bound. -/
def rasterEnabled (c : Core) (g : Nat) : Core :=
  if pllModes c && refLocked c then setClock (rasterBound c g) (44 + g) true else rasterBound c g

theorem enableRaster_binds {c : Core} {g : Nat} (h : rasterBinds c g = true) : enableRaster c g = .ok (rasterEnabled c g) := if_pos h

theorem enableRaster_refused {c : Core} {g : Nat} (h : rasterBinds c g = false) : enableRaster c g = .error stStateConflict :=
  if_neg (Bool.eq_false_iff.mp h)

theorem rd_rasterEnabled (c : Core) (g : Nat) {k : Key} (h : k ≠ clockKey) :
    rd (rasterEnabled c g) k = if k = rk g 1 then 1 else rd c k := by
  unfold rasterEnabled
  split
  · rw [rd_setClock_ne _ _ _ h, rasterBound, rd_modR, rd_wr]
  · rw [rasterBound, rd_modR, rd_wr]

theorem getR_rasterEnabled (c : Core) (g : Nat) : getR (rasterEnabled c g) g = emptied (getR c g) := by
  unfold rasterEnabled
  split <;> simp [rasterBound]

theorem clockBit_rasterEnabled (c : Core) (g : Nat) :
    clockBit (rasterEnabled c g) (44 + g) = (clockBit c (44 + g) || (pllModes c && refLocked c)) := by
  have hbound : clockBit (rasterBound c g) (44 + g) = clockBit c (44 + g) := by
    rw [clockBit, rasterBound, rd_modR, rd_wr_ne _ _ (rk_ne_clockKey g 1).symm, clockBit]
  unfold rasterEnabled
  split
  case isTrue h => rw [clockBit_setClock_same, h, Bool.or_true]
  case isFalse h => rw [hbound, Bool.eq_false_iff.mpr h, Bool.or_false]

/-- Whether a group is bound to a Weaver at work: ARMED, RUNNING or STOPPING (R288). -/
def AtWork (c : Core) (g : Nat) : Prop :=
  rd c (rk g 1) = 1 ∧ (wState c (rd c (rk g 2)) = 1 ∨ wState c (rd c (rk g 2)) = 2 ∨ wState c (rd c (rk g 2)) = 3)

/-- The block with a group released. -/
def rasterReleased (c : Core) (g : Nat) : Core :=
  setClock (modR (wr (wr (wr (writeDues c g (getR c g).dues) (rk g 1) 0) (rk g 0x11) 0xFF) (rk g 0x12) 0xFF) g emptied) (44 + g) false

theorem atWork_iff (c : Core) (g : Nat) : AtWork c g ↔
    (rdb c (rk g 1) && (wState c (rd c (rk g 2)) == 1 || wState c (rd c (rk g 2)) == 2 || wState c (rd c (rk g 2)) == 3)) = true := by
  simp [AtWork, rdb, or_assoc]

theorem disableRaster_free {c : Core} {g : Nat} (h : ¬ AtWork c g) : disableRaster c g = .ok (rasterReleased c g) := by
  rw [atWork_iff, Bool.not_eq_true] at h
  exact if_pos (by rw [h]; decide)

theorem disableRaster_atWork {c : Core} {g : Nat} (h : AtWork c g) : disableRaster c g = .error stStateConflict := by
  rw [atWork_iff] at h
  exact if_neg (by rw [h]; decide)

theorem rd_rasterReleased (c : Core) (g : Nat) {k : Key} (h : k ≠ clockKey) : rd (rasterReleased c g) k =
    if k = rk g 0x12 then 0xFF else if k = rk g 0x11 then 0xFF else if k = rk g 1 then 0 else rd (writeDues c g (getR c g).dues) k := by
  rw [rasterReleased, rd_setClock_ne _ _ _ h, rd_modR, rd_wr, rd_wr, rd_wr]

/-! ## PRESENT (R294) -/

/-- The block with a slot PENDING. -/
def presentMade (c : Core) (g n : Nat) : Core :=
  let old := rd c (rk g 0x11)
  modR (wr (if old = 0xFF then c else bump c (rk g 0x19)) (rk g 0x11) n) g (fun r => { r with
    presentAt := c.stamp, older := if old ≠ 0xFF ∧ rasterRuns c g then r.older ++ [(r.presentAt, old)] else [] })

theorem writePresent_eq {c : Core} {g n : Nat} (h : slotExists c g n = true) :
    writePresent c g n = guardSt (rdb c (rk g 1)) stStateConflict (.ok (presentMade c g n)) := if_neg (by simp [h])

theorem writePresent_noSlot {c : Core} {g n : Nat} (h : slotExists c g n = false) : writePresent c g n = .error stOutOfRange :=
  if_pos (by simp [h])

theorem writePresent_enabled {c : Core} {g n : Nat} (h : slotExists c g n = true) (hon : rd c (rk g 1) = 1) :
    writePresent c g n = .ok (presentMade c g n) := by
  rw [writePresent_eq h, guardSt, if_pos (by simpa [rdb] using hon)]

theorem writePresent_disabled {c : Core} {g n : Nat} (h : slotExists c g n = true) (hoff : rd c (rk g 1) ≠ 1) :
    writePresent c g n = .error stStateConflict := by
  rw [writePresent_eq h, guardSt, if_neg (by simpa [rdb] using hoff)]

theorem rd_presentMade (c : Core) (g n : Nat) (k : Key) : rd (presentMade c g n) k =
    if k = rk g 0x11 then n
    else if k = rk g 0x19 then (if rd c (rk g 0x11) = 0xFF then rd c (rk g 0x19) else (rd c (rk g 0x19) + 1) % 2 ^ 64)
    else rd c k := by
  simp only [presentMade, rd_modR, rd_wr]
  split
  · rfl
  · by_cases hnone : rd c (rk g 0x11) = 0xFF
    · simp only [if_pos hnone]
      split
      · subst k; rfl
      · rfl
    · simp only [if_neg hnone, rd_bump]

theorem getR_presentMade (c : Core) (g n : Nat) : getR (presentMade c g n) g = { getR c g with
    presentAt := c.stamp
    older := if rd c (rk g 0x11) ≠ 0xFF ∧ rasterRuns c g then (getR c g).older ++ [((getR c g).presentAt, rd c (rk g 0x11))] else [] } := by
  simp only [presentMade, getR_modR_same, getR_wr]
  split <;> rfl

/-! ## TIMING and RECTS (R298 to R300) -/

theorem timingValid_length {c : Core} {g : Nat} {l : List Byte} (h : timingValid c g l = true) : l.length = 32 := by
  by_contra hne
  simp [timingValid, hne] at h

theorem rectsValid_length {l : List Byte} (h : rectsValid l = true) : l.length = 384 := by
  simp only [rectsValid, Bool.and_eq_true, beq_iff_eq] at h
  exact h.1

/-- A DOMAIN write command above the object's size is out of range. -/
theorem makes_oversized {i : Instr} {s : State} {k : Key} {l : List Byte} {eff : Effect} (he : exec i s = wroteDomain s k l eff)
    (hw : blockFail s.core false k = none) (hl : domMax k < l.length) : Makes i s { s.core with status := stOutOfRange } := by
  simp only [Makes, Gives, he, wroteDomain, writeDomain, hw, hl, if_true, did, settledM]

/-- A DOMAIN of a group is taken where its contents are valid, and out of range otherwise, whatever its size. -/
theorem groupDomain_judged {i : Instr} {s : State} {g : Fin 2} {sub : Nat} {data : List Byte} {f : Core → Written} {valid : Bool} {d : Core}
    (hsub : sub < 256) (he : exec i s = wroteDomain s (rk g.val sub) data (effW f)) (hobj : objIs (rk g.val sub) .domain .rw .any = true)
    (ho : Open s.core) (hsize : valid = true → data.length = domMax (rk g.val sub))
    (hf : f s.core = guardSt valid stOutOfRange (.ok d)) :
    (valid = true → Accepts i s d) ∧ (valid = false → Makes i s { s.core with status := stOutOfRange }) := by
  have hpass := blockFail_none hobj ho rfl (rk_free g hsub).2 rfl
  have hmakes := fun hlen => makes_domain (f := fun c => answer c (f c)) he hpass (closedTo_raster g ho hsub) hlen
  rw [hf] at hmakes
  refine ⟨fun hvalid => ?_, fun hvalid => ?_⟩
  · rw [hvalid] at hmakes
    exact hmakes (hsize hvalid).le
  · rw [hvalid] at hmakes
    exact (le_or_gt data.length (domMax (rk g.val sub))).elim hmakes (makes_oversized he hpass)

/-! ## Live objects: SELF_REFRESH, SR_EXIT_LINES, SR_CTL (R303, R304) -/

theorem rd_writeLive (c : Core) (g sub v : Nat) (k : Key) : rd (writeLive c g sub v) k = if k = rk g sub then v else rd c k :=
  rd_wr c (rk g sub) k v

theorem writes_writeLive (c : Core) (g sub v : Nat) : (getR (writeLive c g sub v) g).writes =
    (getR c g).writes.filter (fun e => decide ((getW c (rd c (rk g 2))).gStart ≤ e.1)) ++ [(c.stamp, sub, rd c (rk g sub))] := by
  simp [writeLive]

/-- From the start of the granule being emitted up to the write, what is decided sees the value before it. -/
theorem liveAt_writeLive_before {c : Core} {g t : Nat} (hstart : (getW c (rd c (rk g 2))).gStart ≤ t) (ht : t ≤ c.stamp) (sub v : Nat) :
    liveAt (writeLive c g sub v) g sub t = liveAt c g sub t := by
  have hkept : ((getR c g).writes.filter (fun e => decide ((getW c (rd c (rk g 2))).gStart ≤ e.1))).find?
      (fun e => e.2.1 == sub && decide (t ≤ e.1)) = (getR c g).writes.find? (fun e => e.2.1 == sub && decide (t ≤ e.1)) := by
    rw [List.find?_filter]
    congr 1
    funext e
    rw [Bool.eq_iff_iff]
    simp only [decide_eq_true_eq, Bool.and_eq_true]
    exact and_iff_right_of_imp fun h => le_trans hstart h.2
  have hlast : [(c.stamp, sub, rd c (rk g sub))].find? (fun e => e.2.1 == sub && decide (t ≤ e.1)) = some (c.stamp, sub, rd c (rk g sub)) := by
    simp [ht]
  rw [liveAt, liveAt, writes_writeLive, List.find?_append, hkept, hlast]
  cases (getR c g).writes.find? (fun e => e.2.1 == sub && decide (t ≤ e.1)) <;> rfl

/-- After every write so far, what is decided sees the last value. -/
theorem liveAt_writeLive_after {c : Core} {g t : Nat} (hpast : ∀ e ∈ (getR c g).writes, e.1 ≤ c.stamp) (ht : c.stamp < t) (sub v : Nat) :
    liveAt (writeLive c g sub v) g sub t = v := by
  have hnone : (getR (writeLive c g sub v) g).writes.find? (fun e => e.2.1 == sub && decide (t ≤ e.1)) = none := by
    refine List.find?_eq_none.mpr fun e he => ?_
    have hle : e.1 ≤ c.stamp := by
      rw [writes_writeLive, List.mem_append, List.mem_singleton] at he
      rcases he with he | rfl
      · exact hpast e (List.mem_filter.mp he).1
      · exact le_refl _
    simp [Nat.lt_of_le_of_lt hle ht]
  rw [liveAt, hnone]
  simp only [rd_writeLive, if_true]

end Sys2Proof.Machine
end

section
/-!
The CRCs of rectangles and the frame starts of the raster groups (R296 to R304).
-/
namespace Sys2Proof.Machine

/-! ## CRCs of rectangles (R302) -/

theorem ofLe_leBytes_of_lt {k n : Nat} (h : n < 256 ^ k) : ofLe (leBytes k n) = n := by
  induction k generalizing n with
  | zero => exact (Nat.lt_one_iff.mp h).symm
  | succ k ih =>
    have hrest : n / 256 < 256 ^ k := Nat.div_lt_of_lt_mul (by rwa [← Nat.pow_succ'])
    rw [leBytes, ofLe, ih hrest, BitVec.toNat_ofNat]
    omega

/-- A number that replaces four bytes reads back. -/
theorem leAt_spliced {l : List Byte} {off n : Nat} (hoff : off ≤ l.length) (hn : n < 2 ^ 32) :
    leAt (l.take off ++ leBytes 4 n ++ l.drop (off + 4)) off 4 = n := by
  have hdrop : (l.take off ++ leBytes 4 n ++ l.drop (off + 4)).drop off = leBytes 4 n ++ l.drop (off + 4) := by
    rw [List.append_assoc]
    exact List.drop_left' (by simp [hoff])
  have htake : (leBytes 4 n ++ l.drop (off + 4)).take 4 = leBytes 4 n := List.take_left' (length_leBytes 4 n)
  have hslice : slice (l.take off ++ leBytes 4 n ++ l.drop (off + 4)) off 4 = leBytes 4 n := by
    simp only [slice, hdrop, htake, length_leBytes, Nat.sub_self, List.replicate_zero, List.append_nil]
  rw [leAt, hslice, ofLe_leBytes_of_lt hn]

/-- LAST_CRC, whole. -/
def lastCrcs (c : Core) (g : Nat) : List Byte := if dom c (rk g 0x1E) = [] then List.replicate 128 0 else dom c (rk g 0x1E)

/-- The block with a CRC at an offset of LAST_CRC. -/
def crcStored (c : Core) (g off crc : Nat) : Core :=
  setDom c (rk g 0x1E) ((lastCrcs c g).take off ++ leBytes 4 crc ++ (lastCrcs c g).drop (off + 4))

/-- The block with a mismatch of a frame noted at a bit of MISMATCH_STICKY. -/
def mismatchNoted (c : Core) (g n frame : Nat) : Core :=
  let counted := bump (wr c (rk g 0x1F) (setBit (rd c (rk g 0x1F)) n)) (rk g 0x21)
  if rd counted (rk g 0x22) = 0 then wr counted (rk g 0x22) frame else counted

/-- The block with one CRC of a stream of a frame written and compared. -/
def crcWritten (c : Core) (g : Nat) (d : RectDue) (e : Nat × Nat × Option Nat) : Core :=
  let stored := crcStored c g (64 * ofBool d.returned + 4 * e.1) e.2.1
  if e.2.2.any (fun v => v != e.2.1) then mismatchNoted stored g (16 * ofBool d.returned + e.1) d.frame else stored

theorem writeDue_eq (c : Core) (g : Nat) (d : RectDue) : writeDue c g d = d.crcs.foldl (fun c e => crcWritten c g d e) c := rfl

theorem rd_mismatchNoted (c : Core) (g n frame : Nat) (k : Key) : rd (mismatchNoted c g n frame) k =
    if k = rk g 0x22 then (if rd c (rk g 0x22) = 0 then frame else rd c (rk g 0x22))
    else if k = rk g 0x21 then (rd c (rk g 0x21) + 1) % 2 ^ 64
    else if k = rk g 0x1F then setBit (rd c (rk g 0x1F)) n
    else rd c k := by
  have hfirst : rd (bump (wr c (rk g 0x1F) (setBit (rd c (rk g 0x1F)) n)) (rk g 0x21)) (rk g 0x22) = rd c (rk g 0x22) := by
    simp [rd_bump, rd_wr]
  simp only [mismatchNoted, hfirst]
  by_cases hk : k = rk g 0x22
  · subst hk
    split <;> simp [rd_bump, rd_wr]
  · split <;> simp [rd_bump, rd_wr, hk]

theorem dom_mismatchNoted (c : Core) (g n frame : Nat) (k : Key) : dom (mismatchNoted c g n frame) k = dom c k := by
  simp only [mismatchNoted]
  split <;> rfl

theorem getR_mismatchNoted (c : Core) (g n frame h : Nat) : getR (mismatchNoted c g n frame) h = getR c h := by
  simp only [mismatchNoted]
  split <;> rfl

theorem rd_crcWritten (c : Core) {g : Nat} (d : RectDue) (e : Nat × Nat × Option Nat) {k : Key}
    (h : k ∉ [rk g 0x1F, rk g 0x21, rk g 0x22]) : rd (crcWritten c g d e) k = rd c k := by
  simp only [List.mem_cons, List.not_mem_nil, or_false, not_or] at h
  simp only [crcWritten]
  split
  · simp [rd_mismatchNoted, h, crcStored]
  · rfl

theorem getR_crcWritten (c : Core) (g : Nat) (d : RectDue) (e : Nat × Nat × Option Nat) (h : Nat) : getR (crcWritten c g d e) h = getR c h := by
  simp only [crcWritten]
  split
  · rw [getR_mismatchNoted, crcStored, getR_setDom]
  · rfl

/-- LAST_CRC holds a CRC that has been written, whatever it is compared with. -/
theorem leAt_crcWritten {c : Core} {g i crc : Nat} {expect : Option Nat} (d : RectDue) (hi : i < 16) (hcrc : crc < 2 ^ 32)
    (hlen : (dom c (rk g 0x1E)).length = 128) :
    leAt (dom (crcWritten c g d (i, crc, expect)) (rk g 0x1E)) (64 * ofBool d.returned + 4 * i) 4 = crc := by
  have hside : ofBool d.returned ≤ 1 := by cases d.returned <;> decide
  have hlast : lastCrcs c g = dom c (rk g 0x1E) := if_neg (List.ne_nil_of_length_pos (by omega))
  have hstored : leAt (dom (crcStored c g (64 * ofBool d.returned + 4 * i) crc) (rk g 0x1E)) (64 * ofBool d.returned + 4 * i) 4 = crc := by
    rw [crcStored, dom_setDom_same, hlast]
    exact leAt_spliced (by omega) hcrc
  simp only [crcWritten]
  split
  · rwa [dom_mismatchNoted]
  · exact hstored

/-- A CRC that is not compared, or that is the expected one, changes LAST_CRC alone. -/
theorem crcWritten_agrees {crc : Nat} {expect : Option Nat} (h : expect = none ∨ expect = some crc) (c : Core) (g : Nat) (d : RectDue)
    (i : Nat) : crcWritten c g d (i, crc, expect) = crcStored c g (64 * ofBool d.returned + 4 * i) crc := by
  rcases h with rfl | rfl <;> simp [crcWritten]

theorem crcWritten_differs {crc v : Nat} (h : crc ≠ v) (c : Core) (g : Nat) (d : RectDue) (i : Nat) : crcWritten c g d (i, crc, some v) =
    mismatchNoted (crcStored c g (64 * ofBool d.returned + 4 * i) crc) g (16 * ofBool d.returned + i) d.frame := by
  simp [crcWritten, h.symm]

/-- The CRCs that are due change no register but those of mismatches. -/
theorem rd_writeDues (c : Core) {g : Nat} (l : List RectDue) {k : Key} (h : k ∉ [rk g 0x1F, rk g 0x21, rk g 0x22]) :
    rd (writeDues c g l) k = rd c k := by
  have hdue (c : Core) (d : RectDue) : rd (writeDue c g d) k = rd c k := by
    rw [writeDue_eq]
    exact foldl_keeps (rd · k) (fun c e => rd_crcWritten c d e h) _ c
  exact foldl_keeps (rd · k) hdue l c

theorem getR_writeDues (c : Core) (g : Nat) (l : List RectDue) :
    getR (writeDues c g l) g = { getR c g with dues := (getR c g).dues.filter (fun d => !l.contains d) } := by
  have hdue (c : Core) (d : RectDue) : getR (writeDue c g d) g = getR c g := by
    rw [writeDue_eq]
    exact foldl_keeps (getR · g) (fun c e => getR_crcWritten c g d e g) _ c
  have hall : getR (l.foldl (fun c d => writeDue c g d) c) g = getR c g := foldl_keeps (getR · g) hdue l c
  rw [writeDues, getR_modR_same, hall]

theorem rectComplete_none {c : Core} {g : Nat} {back : Bool} (h : (getR c g).dues.find? (fun d => d.returned == back) = none) :
    rectComplete c g back = c := by
  rw [rectComplete, h]

theorem rectComplete_due {c : Core} {g : Nat} {back : Bool} {d : RectDue}
    (h : (getR c g).dues.find? (fun d => d.returned == back) = some d) : rectComplete c g back = writeDues c g [d] := by
  rw [rectComplete, h]

/-- A due of one CRC is written, and taken out of the dues. -/
theorem writeDues_one {c : Core} {g : Nat} {d : RectDue} {e : Nat × Nat × Option Nat} (h : d.crcs = [e]) :
    writeDues c g [d] = modR (crcWritten c g d e) g (fun r => { r with dues := r.dues.filter (fun x => !([d].contains x)) }) := by
  rw [writeDues, List.foldl_cons, List.foldl_nil, writeDue_eq, h]
  rfl

theorem not_mem_dues_writeDues {l : List RectDue} {d : RectDue} (h : d ∈ l) (c : Core) (g : Nat) : d ∉ (getR (writeDues c g l) g).dues := by
  simp [getR_writeDues, h]

/-! ## The present that a frame takes (R294, R296) -/

theorem presentCounted_latest {c : Core} {g t : Nat} (hpending : rd c (rk g 0x11) ≠ 0xFF) (ht : (getR c g).presentAt < t) :
    presentCounted c g t = some (rd c (rk g 0x11), true) := by
  rw [presentCounted, if_neg hpending, if_pos ht]

theorem presentCounted_older {c : Core} {g t : Nat} {e : Nat × Nat} (hpending : rd c (rk g 0x11) ≠ 0xFF) (ht : t ≤ (getR c g).presentAt)
    (h : ((getR c g).older.filter (fun e => decide (e.1 < t))).getLast? = some e) : presentCounted c g t = some (e.2, false) := by
  rw [presentCounted, if_neg hpending, if_neg (Nat.not_lt.mpr ht), h, Option.map_some]

/-- Which present counts depends on PENDING, its instant and the presents it replaced. -/
theorem presentCounted_congr {c d : Core} {g : Nat} (hpending : rd d (rk g 0x11) = rd c (rk g 0x11))
    (hat : (getR d g).presentAt = (getR c g).presentAt) (holder : (getR d g).older = (getR c g).older) (t : Nat) :
    presentCounted d g t = presentCounted c g t := by
  simp only [presentCounted, hpending, hat, holder]

theorem rd_takePresent_latest (c : Core) (g n t : Nat) (k : Key) : rd (takePresent c g (n, true) t) k =
    if k = rk g 0x11 then 0xFF else if k = rk g 0x12 then n else rd c k := by
  simp only [takePresent, if_true, rd_modR, rd_wr]

theorem rd_takePresent_older (c : Core) (g n t : Nat) (k : Key) : rd (takePresent c g (n, false) t) k =
    if k = rk g 0x19 then rd c (rk g 0x19) - 1 else if k = rk g 0x12 then n else rd c k := by
  simp only [takePresent, Bool.false_eq_true, if_false, rd_modR, rd_wr]

/-- The block with the present of a frame start taken, or the frame counted as a repeat. -/
def presentTaken (c : Core) (g t : Nat) : Core :=
  match presentCounted c g t with
  | some p => takePresent c g p t
  | none => if rd c (rk g 0x12) = 0xFF then c else bump c (rk g 0x18)

theorem presentTaken_some {c : Core} {g t : Nat} {p : Nat × Bool} (h : presentCounted c g t = some p) :
    presentTaken c g t = takePresent c g p t := by
  rw [presentTaken, h]

theorem rd_presentTaken_none {c : Core} {g t : Nat} (h : presentCounted c g t = none) {k : Key} (hk : k ≠ rk g 0x18) :
    rd (presentTaken c g t) k = rd c k := by
  rw [presentTaken, h]
  dsimp only
  split
  · rfl
  · rw [rd_bump, if_neg hk]

/-- A frame's present touches SHOWN, PENDING, REPEATS and PRESENTS_REPLACED alone. -/
theorem rd_presentTaken_other (c : Core) (t : Nat) {g : Nat} {k : Key} (h : k ∉ [rk g 0x11, rk g 0x12, rk g 0x18, rk g 0x19]) :
    rd (presentTaken c g t) k = rd c k := by
  simp only [List.mem_cons, List.not_mem_nil, or_false, not_or] at h
  obtain ⟨hpending, hshown, hrepeats, hreplaced⟩ := h
  cases hp : presentCounted c g t with
  | none => exact rd_presentTaken_none hp hrepeats
  | some p =>
    obtain ⟨n, latest⟩ := p
    rw [presentTaken_some hp]
    cases latest
    · rw [rd_takePresent_older, if_neg hreplaced, if_neg hshown]
    · rw [rd_takePresent_latest, if_neg hpending, if_neg hshown]

/-! ## Frame starts (R297, R299) -/

/-- A DOMAIN with what was staged for it, if anything was. -/
def stagedPut (c : Core) (k : Key) (l : Option (List Byte)) : Core := l.elim c (setDom c k)

@[simp] theorem rd_stagedPut (c : Core) (k : Key) (l : Option (List Byte)) (j : Key) : rd (stagedPut c k l) j = rd c j := by
  cases l <;> rfl

@[simp] theorem getR_stagedPut (c : Core) (k : Key) (l : Option (List Byte)) (g : Nat) : getR (stagedPut c k l) g = getR c g := by
  cases l <;> rfl

theorem applyStaged_eq (c : Core) (g t : Nat) : applyStaged c g t =
    modR (stagedPut (stagedPut c (rk g 0xD) (stagedBefore t (getR c g).timing).1) (rk g 0xF) (stagedBefore t (getR c g).rects).1) g
      (fun r => { r with timing := (stagedBefore t (getR c g).timing).2, rects := (stagedBefore t (getR c g).rects).2 }) := rfl

@[simp] theorem rd_applyStaged (c : Core) (g t : Nat) (k : Key) : rd (applyStaged c g t) k = rd c k := by simp [applyStaged_eq]

theorem getR_applyStaged (c : Core) (g t : Nat) : getR (applyStaged c g t) g =
    { getR c g with timing := (stagedBefore t (getR c g).timing).2, rects := (stagedBefore t (getR c g).rects).2 } := by
  simp [applyStaged_eq]

/-- The block before a frame takes its present: the CRCs that are due are written, and what is staged applies. -/
def framePrepared (c : Core) (g t : Nat) : Core := applyStaged (writeDues c g (getR c g).dues) g t

theorem rd_framePrepared (c : Core) (t : Nat) {g : Nat} {k : Key} (h : k ∉ [rk g 0x1F, rk g 0x21, rk g 0x22]) :
    rd (framePrepared c g t) k = rd c k := by
  rw [framePrepared, rd_applyStaged, rd_writeDues c _ h]

theorem presentCounted_framePrepared (c : Core) (g t : Nat) : presentCounted (framePrepared c g t) g t = presentCounted c g t := by
  refine presentCounted_congr (rd_framePrepared c t (by simp)) ?_ ?_ t <;> rw [framePrepared, getR_applyStaged, getR_writeDues]

/-- How many rectangles of the frame lie outside the active area. -/
def skippedRects (c : Core) (g : Nat) : Nat :=
  (List.range 16).countP (fun i => let r := rectOf c g i; r.w != 0 && !rectInside (timingOf c g) r)

/-- The block with a frame counted and begun after front-porch line n. -/
def frameBegun (c : Core) (g t n : Nat) : Core :=
  modR (wr (bumpBy (bump c (rk g 0x17)) (rk g 0x23) (skippedRects c g)) (rk g 0x1B) n) g (fun r => { r with
    line := 0, porch := 0, px := 0, slot := 0, inFrame := true, deciding := false, exiting := false, pos := 0
    tes := r.tes.filter (fun e => decide (t ≤ e.1)), crcE := [] })

theorem startFrame_eq (c : Core) (g t n : Nat) : startFrame c g t n = frameBegun (presentTaken (framePrepared c g t) g t) g t n := rfl

theorem rd_frameBegun (c : Core) (g t n : Nat) (k : Key) : rd (frameBegun c g t n) k =
    if k = rk g 0x1B then n
    else if k = rk g 0x23 then (rd c (rk g 0x23) + skippedRects c g) % 2 ^ 64
    else if k = rk g 0x17 then (rd c (rk g 0x17) + 1) % 2 ^ 64
    else rd c k := by
  have hskips : rd (bump c (rk g 0x17)) (rk g 0x23) = rd c (rk g 0x23) := by simp [rd_bump]
  rw [frameBegun, rd_modR, rd_wr, rd_bumpBy, hskips, rd_bump]

/-- A frame start counts the frame and tells the front-porch lines before it. -/
theorem rd_startFrame_counted (c : Core) (g t n : Nat) :
    rd (startFrame c g t n) (rk g 0x17) = (rd c (rk g 0x17) + 1) % 2 ^ 64 ∧ rd (startFrame c g t n) (rk g 0x1B) = n := by
  have hframes : rd (presentTaken (framePrepared c g t) g t) (rk g 0x17) = rd c (rk g 0x17) := by
    rw [rd_presentTaken_other _ t (by simp), rd_framePrepared c t (by simp)]
  rw [startFrame_eq]
  simp [rd_frameBegun, hframes]

/-- A frame start puts the group at the first pixel of a frame. -/
theorem getR_startFrame_position (c : Core) (g t n : Nat) : (getR (startFrame c g t n) g).line = 0 ∧ (getR (startFrame c g t n) g).porch = 0 ∧
    (getR (startFrame c g t n) g).inFrame = true ∧ (getR (startFrame c g t n) g).deciding = false := by
  rw [startFrame_eq, frameBegun, getR_modR_same]
  exact ⟨rfl, rfl, rfl, rfl⟩

/-- A frame shows what it took, and PENDING is what that left. -/
theorem rd_startFrame_taken {sub : Nat} (h : sub = 0x11 ∨ sub = 0x12) (c : Core) (g t n : Nat) :
    rd (startFrame c g t n) (rk g sub) = rd (presentTaken (framePrepared c g t) g t) (rk g sub) := by
  rw [startFrame_eq, rd_frameBegun]
  rcases h with rfl | rfl <;> simp

/-- A frame that takes the latest present shows it, and nothing stays PENDING. -/
theorem startFrame_latest {c : Core} {g t p : Nat} (h : presentCounted c g t = some (p, true)) (n : Nat) :
    rd (startFrame c g t n) (rk g 0x12) = p ∧ rd (startFrame c g t n) (rk g 0x11) = 0xFF := by
  rw [rd_startFrame_taken (.inr rfl), rd_startFrame_taken (.inl rfl), presentTaken_some ((presentCounted_framePrepared c g t).trans h)]
  simp [rd_takePresent_latest]

/-- A frame that takes a present before the latest shows it, and the latest stays PENDING. -/
theorem startFrame_older {c : Core} {g t p : Nat} (h : presentCounted c g t = some (p, false)) (n : Nat) :
    rd (startFrame c g t n) (rk g 0x12) = p ∧ rd (startFrame c g t n) (rk g 0x11) = rd c (rk g 0x11) := by
  rw [rd_startFrame_taken (.inr rfl), rd_startFrame_taken (.inl rfl), presentTaken_some ((presentCounted_framePrepared c g t).trans h)]
  simp [rd_takePresent_older, rd_framePrepared]

/-- A frame for which no present counts shows what was shown. -/
theorem startFrame_none {c : Core} {g t : Nat} (h : presentCounted c g t = none) (n : Nat) :
    rd (startFrame c g t n) (rk g 0x12) = rd c (rk g 0x12) ∧ rd (startFrame c g t n) (rk g 0x11) = rd c (rk g 0x11) := by
  have hnone := (presentCounted_framePrepared c g t).trans h
  rw [rd_startFrame_taken (.inr rfl), rd_startFrame_taken (.inl rfl), rd_presentTaken_none hnone (by simp),
    rd_presentTaken_none hnone (by simp)]
  simp [rd_framePrepared]

/-! ## Decisions (R296, R303) -/

/-- The group as it comes to rest in SELF_REFRESH. -/
def rested (r : Raster) : Raster := { r with resting := true, inFrame := false, deciding := false, exiting := false }

theorem decideFrame_rests {c : Core} {g t : Nat} (hlive : liveAt c g 0x13 t = 1) (hporch : (getR c g).porch = (frameLimits c g).1) :
    decideFrame c g t = setClock (modR c g rested) (44 + g) false := if_pos ⟨hlive, hporch⟩

/-- In fixed blanking a decision that does not bring the group to rest starts a frame. -/
theorem decideFrame_fixed {c : Core} {g t : Nat} (hawake : liveAt c g 0x13 t ≠ 1 ∨ (getR c g).porch ≠ (frameLimits c g).1)
    (hblank : (timingOf c g).blank = 0) : decideFrame c g t = startFrame c g t (getR c g).porch := by
  have hstays : ¬ (liveAt c g 0x13 t = 1 ∧ (getR c g).porch = (frameLimits c g).1) := not_and_or.mpr hawake
  simp only [decideFrame, hstays, if_false, hblank]

/-- In variable blanking a decision below the upper limit that finds no present adds a line. -/
theorem decideFrame_adds {c : Core} {g t : Nat} (hawake : liveAt c g 0x13 t ≠ 1 ∨ (getR c g).porch ≠ (frameLimits c g).1)
    (hblank : (timingOf c g).blank = 1) (hnone : presentCounted c g t = none) (hroom : (getR c g).porch < (frameLimits c g).2) :
    decideFrame c g t = setR c g { getR c g with porch := (getR c g).porch + 1, px := 0, deciding := false } := by
  have hstays : ¬ (liveAt c g 0x13 t = 1 ∧ (getR c g).porch = (frameLimits c g).1) := not_and_or.mpr hawake
  have hwaits : ¬ ((presentCounted c g t).isSome = true ∨ (frameLimits c g).2 ≤ (getR c g).porch) := by simp [hnone, hroom]
  simp only [decideFrame, hstays, if_false, hblank, hwaits]
  rfl

theorem frameStartRow_idle {c : Core} {g : Nat} (h : (getR c g).deciding = false ∨ rd c (rk g 1) ≠ 1) : frameStartRow c g = c := by
  refine if_neg fun hdue => ?_
  rw [Bool.and_eq_true, rdb, beq_iff_eq] at hdue
  exact h.elim (fun hd => by simp [hd] at hdue) (fun hoff => hoff hdue.2)

theorem frameStartRow_due {c : Core} {g : Nat} (hdue : (getR c g).deciding = true) (hon : rd c (rk g 1) = 1) :
    frameStartRow c g = decideFrame c g (getW c (rd c (rk g 2))).gStart := if_pos (by simp [hdue, rdb, hon])

/-! ## The statement -/

/-- Settles O49: each write passes its checks, and each write and row acts by the branch that its hypotheses select. -/
theorem rasterGroups : Obligations.RasterGroups := by
  unfold Obligations.RasterGroups
  refine ⟨?enable, ?disable, ?present, ?staged, ?selfRefresh, ?live, ?mismatch, ?idle, ?decide, ?noCrc, ?crc, ?expect⟩
  case enable =>
    intro s g ho
    have hpass := writeFail_rasterEnable g ho (le_refl 1)
    refine ⟨fun hbinds => ?_, fun hrefused => makes_effW_error rfl hpass (closedTo_raster g ho) (enableRaster_refused hrefused)⟩
    refine ⟨rasterEnabled s.core g.val, accepts_scalar rfl hpass (closedTo_raster g ho) (effW_ok (enableRaster_binds hbinds)), ?_, ?_,
      getR_rasterEnabled _ _, clockBit_rasterEnabled _ _⟩
    · rw [rd_rasterEnabled _ _ (rk_ne_clockKey _ _), if_pos rfl]
    · intro k hk
      simp only [List.mem_cons, List.not_mem_nil, or_false, not_or] at hk
      rw [rd_rasterEnabled _ _ hk.2, if_neg hk.1]
  case disable =>
    intro s g ho st
    have hpass := writeFail_rasterEnable g ho (Nat.zero_le 1)
    refine ⟨fun hfree => ?_, fun hon hwork => makes_effW_error rfl hpass (closedTo_raster g ho) (disableRaster_atWork ⟨hon, hwork⟩)⟩
    have hidle : ¬ AtWork s.core g.val := fun ⟨hon, hwork⟩ => by
      rcases hfree with hoff | ⟨h1, h2, h3⟩
      · exact hoff hon
      · exact hwork.elim h1 (Or.elim · h2 h3)
    refine ⟨rasterReleased s.core g.val, accepts_scalar rfl hpass (closedTo_raster g ho) (effW_ok (disableRaster_free hidle)), ?_, ?_, ?_,
      clockBit_setClock_same _ _ _, ?_⟩
    · simp [rd_rasterReleased _ _ (rk_ne_clockKey _ _)]
    · simp [rd_rasterReleased _ _ (rk_ne_clockKey _ _)]
    · simp [rd_rasterReleased _ _ (rk_ne_clockKey _ _)]
    · intro k hk
      simp only [List.mem_cons, List.not_mem_nil, or_false, not_or] at hk
      simp [rd_rasterReleased _ _ hk.2.2.2, hk]
  case present =>
    intro s g n ho
    have hpass := writeFail_present g n ho
    have hrefused {st : Status} (h : writePresent s.core g.val n.toNat = .error st) : Makes (.present g n) s { s.core with status := st } :=
      makes_effW_error rfl hpass (closedTo_raster g ho) h
    refine ⟨fun hslot hon => ?_, fun hslot => hrefused (writePresent_noSlot hslot),
      fun hslot hoff => hrefused (writePresent_disabled hslot hoff)⟩
    refine ⟨presentMade s.core g.val n.toNat, accepts_scalar rfl hpass (closedTo_raster g ho) (effW_ok (writePresent_enabled hslot hon)),
      ?_, ?_, ?_, ?_, ?_⟩
    · simp [rd_presentMade]
    · simp [rd_presentMade]
    · rw [getR_presentMade]
    · rw [getR_presentMade]
    · intro k hk
      simp only [List.mem_cons, List.not_mem_nil, or_false, not_or] at hk
      simp [rd_presentMade, hk]
  case staged =>
    intro s g data ho
    obtain ⟨htaken, hrefused⟩ := groupDomain_judged (i := .timing g data) (by decide) rfl (objIs_timing g) ho
      (fun hvalid => (timingValid_length hvalid).trans (domMax_timing g).symm) rfl
    obtain ⟨hrectsTaken, hrectsRefused⟩ := groupDomain_judged (i := .rects g data) (by decide) rfl (objIs_rects g) ho
      (fun hvalid => (rectsValid_length hvalid).trans (domMax_rects g).symm) rfl
    exact ⟨htaken, hrefused, hrectsTaken, hrectsRefused⟩
  case selfRefresh =>
    intro s g ho
    exact ⟨accepts_scalar rfl (writeFail_selfRefresh g ho (le_refl 1)) (closedTo_raster g ho) rfl,
      accepts_scalar rfl (writeFail_selfRefresh g ho (Nat.zero_le 1)) (closedTo_raster g ho) rfl⟩
  case live =>
    intro c g sub v t d from_
    refine ⟨?_, ?_, fun hfrom ht => liveAt_writeLive_before hfrom ht sub v, fun hpast ht => liveAt_writeLive_after hpast ht sub v⟩
    · rw [rd_writeLive, if_pos rfl]
    · exact fun k hk => (rd_writeLive c g sub v k).trans (if_neg fun he => hk (List.mem_singleton.mpr he))
  case mismatch =>
    intro s g m ho c
    refine accepts_scalar rfl (writeFail_mismatchClr g m ho) (closedTo_raster g ho) ?_
    have hall : m = 0xFFFFFFFF ↔ m.toNat = 0xFFFFFFFF := BitVec.toNat_inj.symm
    simp only [effC, clearMismatch, hall, c]
  case idle =>
    exact fun s g h => makes_didC rfl (frameStartRow_idle h)
  case decide =>
    intro s g r t hdue hon
    have hmakes {d : Core} (h : decideFrame s.core g.val t = d) : Makes (.frameStart g) s d :=
      makes_didC rfl ((frameStartRow_due hdue hon).trans h)
    refine ⟨fun hlive hporch => ?rest, fun hawake hblank => ?fixed,
      fun hawake hblank hnone hroom => hmakes (decideFrame_adds hawake hblank hnone hroom)⟩
    case rest =>
      refine ⟨_, hmakes (decideFrame_rests hlive hporch), ?_, clockBit_setClock_same _ _ _, fun k hk => ?_⟩
      · rw [getR_setClock, getR_modR_same, rested]
      · rw [rd_setClock_ne _ _ _ (fun he => hk (List.mem_singleton.mpr he)), rd_modR]
    case fixed =>
      obtain ⟨hframes, hlines⟩ := rd_startFrame_counted s.core g.val t r.porch
      obtain ⟨hline, hporch, hin, hdone⟩ := getR_startFrame_position s.core g.val t r.porch
      exact ⟨_, hmakes (decideFrame_fixed hawake hblank), hframes, hlines, hline, hporch, hin, hdone,
        fun hpending ht => startFrame_latest (presentCounted_latest hpending ht) _,
        fun n hpending ht hlast => startFrame_older (presentCounted_older hpending ht hlast) _,
        fun hnone => startFrame_none hnone _⟩
  case noCrc =>
    exact fun s g back h => makes_didC rfl (rectComplete_none h)
  case crc =>
    intro s g d i crc expect hfirst hcrcs hi hcrc hlen
    refine ⟨_, makes_didC rfl (rectComplete_due hfirst), ?_, not_mem_dues_writeDues (List.mem_singleton.mpr rfl) _ _, fun hagrees => ?_,
      fun v hv hdiffers => ?_⟩
    · rw [writeDues_one hcrcs, dom_modR]
      exact leAt_crcWritten d hi hcrc hlen
    · rw [writeDues_one hcrcs, crcWritten_agrees hagrees]
      rfl
    · subst hv
      rw [writeDues_one hcrcs, crcWritten_differs hdiffers]
      refine ⟨?_, ?_, fun k hk => ?_⟩
      · simp [rd_mismatchNoted, crcStored]
      · simp [rd_mismatchNoted, crcStored]
      · simp only [List.mem_cons, List.not_mem_nil, or_false, not_or] at hk
        simp [rd_mismatchNoted, crcStored, hk]
  case expect =>
    exact fun c g i => ⟨rfl, rfl⟩

end Sys2Proof.Machine
end

section
/-!
What a raise reaches, and what its reaction does at each effective level; the statement about raises (R428 to R432).
-/
namespace Sys2Proof.Machine

/-! ## What a raise reaches -/

/-- The second core differs from the first at most in the registers, the fault collector, the tally counters, the Weavers, the
journal and the mode. -/
def OnlyRaised (a b : Core) : Prop :=
  ∃ (r : SMap Nat) (f : Faults) (t : SMap Tally) (w : SMap Weaver) (j : Journal) (m : ModeSt),
    b = { a with regs := r, faults := f, tally := t, weavers := w, journal := j, mode := m }

theorem OnlyRaised.refl (a : Core) : OnlyRaised a a := ⟨a.regs, a.faults, a.tally, a.weavers, a.journal, a.mode, rfl⟩

theorem OnlyRaised.trans {a b c : Core} (h : OnlyRaised a b) (g : OnlyRaised b c) : OnlyRaised a c := by
  obtain ⟨r, f, t, w, j, m, rfl⟩ := h
  obtain ⟨r', f', t', w', j', m', rfl⟩ := g
  exact ⟨r', f', t', w', j', m', rfl⟩

theorem OnlyRaised.foldl {α : Type} {g : Core → α → Core} (h : ∀ c x, OnlyRaised c (g c x)) (l : List α) (c : Core) :
    OnlyRaised c (l.foldl g c) := by
  induction l generalizing c with
  | nil => exact OnlyRaised.refl c
  | cons x l ih => exact (h c x).trans (ih _)

theorem stopAtVector_only (k : Nat) (c : Core) (w : Nat) : OnlyRaised c (stopAtVector c k w) := by
  unfold stopAtVector
  split
  · exact ⟨_, _, _, _, _, _, rfl⟩
  · split
    · exact OnlyRaised.refl c
    · exact ⟨_, _, _, _, _, _, rfl⟩

/-- A raise notes its source's state (R428, R429). -/
def sourceNoted (c : Core) (src lvl : Nat) : Core :=
  let eff := effectiveLevel c src lvl
  let unacked := match (getFault c src).unacked with
    | some l => some (max l eff)
    | none => some eff
  let noted : FaultSrc :=
    { sticky := true, count := ((getFault c src).count + 1) % 2 ^ 64, level := eff, raised := lvl, stamp := c.stamp % 2 ^ 64, unacked := unacked }
  { c with faults := { c.faults with srcs := mset {} c.faults.srcs src noted } }

/-- The event of a raise (R432). -/
def raiseEvent (c : Core) (src lvl d : Nat) : FaultEvent :=
  { source := src, level := effectiveLevel c src lvl, raised := lvl
    first := (latchFirst (sourceNoted c src lvl) src (effectiveLevel c src lvl)).2, coalesced := 0, stamp := c.stamp % 2 ^ 64
    epoch := epochNow c, detail := d % 2 ^ 48 }

/-- The core when a raise reacts: its source, the latch, the queue and the tally counters have noted it. -/
def raiseNoted (c : Core) (src lvl d : Nat) : Core :=
  let told := tallyEvent (queueEvent (latchFirst (sourceNoted c src lvl) src (effectiveLevel c src lvl)).1 (raiseEvent c src lvl d)) 0xED
  if 192 ≤ src ∧ src < 208 then tallyEvent told (0x50 + (src - 192)) else told

/-- A raise notes, then reacts. -/
theorem raiseFor_eq (c : Core) (src lvl d : Nat) (g : List Nat) :
    raiseFor c src lvl d g = react (raiseNoted c src lvl d) src (effectiveLevel c src lvl) g := rfl

/-- The second core differs from the first at most in the registers, the fault collector and the tally counters, and the
reaction stands. -/
def OnlyNoted (a b : Core) : Prop :=
  ∃ (r : SMap Nat) (f : Faults) (t : SMap Tally), b = { a with regs := r, faults := f, tally := t } ∧ f.reaction = a.faults.reaction

theorem OnlyNoted.trans {a b c : Core} (h : OnlyNoted a b) (g : OnlyNoted b c) : OnlyNoted a c := by
  obtain ⟨r, f, t, rfl, hf⟩ := h
  obtain ⟨r', f', t', rfl, hf'⟩ := g
  exact ⟨r', f', t', rfl, hf'.trans hf⟩

theorem latchFirst_noted (c : Core) (src eff : Nat) : OnlyNoted c (latchFirst c src eff).1 := by
  unfold latchFirst
  dsimp only
  split <;> exact ⟨_, _, _, rfl, rfl⟩

theorem queueEvent_noted (c : Core) (e : FaultEvent) : OnlyNoted c (queueEvent c e) := by
  unfold queueEvent
  split <;> exact ⟨_, _, _, rfl, rfl⟩

theorem tallyEvent_noted (c : Core) (n : Nat) : OnlyNoted c (tallyEvent c n) := ⟨_, _, _, rfl, rfl⟩

/-- Noting a raise touches the latch's registers, the collector and the tally counters alone, and leaves the reaction. -/
theorem raiseNoted_noted (c : Core) (src lvl d : Nat) : OnlyNoted c (raiseNoted c src lvl d) := by
  have hsource : OnlyNoted c (sourceNoted c src lvl) := ⟨_, _, _, rfl, rfl⟩
  have htold := ((hsource.trans (latchFirst_noted _ src (effectiveLevel c src lvl))).trans (queueEvent_noted _ (raiseEvent c src lvl d))).trans
    (tallyEvent_noted _ 0xED)
  unfold raiseNoted
  dsimp only
  split
  · exact htold.trans (tallyEvent_noted _ _)
  · exact htold

theorem raiseNoted_rd (c : Core) (src lvl d : Nat) {k : Key} (h : k ∉ raiseKeys) : rd (raiseNoted c src lvl d) k = rd c k := by
  have hlatch := latchFirst_rd (sourceNoted c src lvl) src (effectiveLevel c src lvl) k h
  unfold raiseNoted
  dsimp only
  split <;> simp only [rd, tallyEvent_regs, queueEvent_regs] <;> exact hlatch

theorem react_only (c : Core) (src eff : Nat) (g : List Nat) : OnlyRaised c (react c src eff g) := by
  have hstops : ∀ (l : List Nat) (c : Core), OnlyRaised c (l.foldl (fun c w => stopAtVector c 9 w) c) :=
    OnlyRaised.foldl (stopAtVector_only 9)
  unfold react
  split
  · exact OnlyRaised.refl c
  · split
    · exact hstops _ c
    · refine (hstops (List.range 64) c).trans ?_
      dsimp only
      split
      · split
        · exact ⟨_, _, _, _, _, _, rfl⟩
        · split <;> exact ⟨_, _, _, _, _, _, rfl⟩
      · have hlinks (a : Core) : OnlyRaised a ((List.range 8).foldl (fun c l => wr c (mkKey (0x6000 + l) 2) 0) a) :=
          OnlyRaised.foldl (fun c l => ⟨_, _, _, _, _, _, rfl⟩) _ _
        exact OnlyRaised.trans ⟨_, _, _, _, _, _, rfl⟩ ((hlinks _).trans ⟨_, _, _, _, _, _, rfl⟩)

/-- A raise touches the registers, the collector, the tally counters, the Weavers, the journal and the mode alone. -/
theorem raiseFor_only (c : Core) (src lvl d : Nat) (g : List Nat) : OnlyRaised c (raiseFor c src lvl d g) := by
  obtain ⟨r, f, t, hnoted, -⟩ := raiseNoted_noted c src lvl d
  rw [raiseFor_eq]
  refine OnlyRaised.trans ?_ (react_only _ src _ g)
  rw [hnoted]
  exact ⟨r, f, t, _, _, _, rfl⟩

theorem raise_only (c : Core) (src lvl d : Nat) : OnlyRaised c (raise c src lvl d) := raiseFor_only c src lvl d []

/-! ## The reaction (Table 15-6) -/

theorem foldl_stop_only (l : List Nat) (k : Nat) (c : Core) :
    ∃ w, l.foldl (fun c w => stopAtVector c k w) c = { c with weavers := w } := by
  induction l generalizing c with
  | nil => exact ⟨_, rfl⟩
  | cons a l ih =>
    have hone : ∃ w, stopAtVector c k a = { c with weavers := w } := by
      unfold stopAtVector
      split
      · exact ⟨_, rfl⟩
      · split <;> exact ⟨_, rfl⟩
    obtain ⟨w, hw⟩ := hone
    obtain ⟨v, hv⟩ := ih { c with weavers := w }
    exact ⟨v, by rw [List.foldl_cons, hw, hv]⟩

theorem react_below_two {c : Core} {src eff : Nat} {g : List Nat} (h : eff < 2) : react c src eff g = c := if_pos h

/-- The journal closes and ALIVE stops at a reaction above level 2. -/
def reactionStops (c : Core) (eff : Nat) : Core :=
  { c with journal := { c.journal with closed := true }
           faults := { c.faults with reaction := max c.faults.reaction eff, aliveStopping := true } }

/-- A reaction of level 3: the Weavers stop, and the first one makes SAFE or the warm reset due (R430, R431). -/
theorem react_three (c : Core) (src : Nat) (g : List Nat) : ∃ w,
    let a := reactionStops { c with weavers := w } 3
    react c src 3 g = if c.faults.reaction < 3 ∧ rd c (mkKey 0x7000 9) = 1 then { a with mode := { a.mode with resetDue := true } }
      else if c.faults.reaction < 3 then { a with faults := { a.faults with safeDue := true } } else a := by
  obtain ⟨w, hw⟩ := foldl_stop_only (List.range 64) 9 c
  refine ⟨w, ?_⟩
  unfold react
  simp only [hw, Nat.reduceLT, if_false, Nat.reduceEqDiff, if_true]
  rfl

/-- A reaction above level 2 closes the journal and leads to the end of ALIVE. -/
theorem react_stops {c : Core} {src eff : Nat} (g : List Nat) (h : 2 < eff) :
    (react c src eff g).journal.closed = true ∧ (react c src eff g).faults.aliveStopping = true := by
  by_cases h3 : eff = 3
  · subst h3
    obtain ⟨w, hw⟩ := react_three c src g
    rw [hw]
    dsimp only
    split_ifs <;> exact ⟨rfl, rfl⟩
  · obtain ⟨w, hw⟩ := foldl_stop_only (List.range 64) 9 c
    have h2 : ¬ eff < 2 := by omega
    have h2' : eff ≠ 2 := by omega
    unfold react
    simp only [hw, h2, h2', h3, if_false, foldl_wr_faults, and_true]
    rw [foldl_keeps (g := fun c l => wr c (mkKey (0x6000 + l) 2) 0) Core.journal (fun c l => rfl) (List.range 8)]

/-! ## The statement -/

/-- Settles O7: the source by its own law, the registers by the keys that a raise may write, the reaction by its level. -/
theorem raiseCountsAndReacts : Obligations.RaiseCountsAndReacts := by
  unfold Obligations.RaiseCountsAndReacts
  intro c src lvl d
  obtain ⟨r, f, t, hnoted, hreaction⟩ := raiseNoted_noted c src lvl d
  have haction : rd (raiseNoted c src lvl d) (mkKey 0x7000 9) = rd c (mkKey 0x7000 9) := raiseNoted_rd c src lvl d (by decide)
  have hfirst : (raiseNoted c src lvl d).faults.reaction = c.faults.reaction := by rw [hnoted, ← hreaction]
  have heq : raise c src lvl d = react (raiseNoted c src lvl d) src (effectiveLevel c src lvl) [] := raiseFor_eq c src lvl d []
  refine ⟨raised_raise c src lvl d, ?regs, ?stops, ?safe, ?reset, ?low⟩
  case regs =>
    intro k h4 h5 hlinks
    refine raise_rd c src lvl d k (fun hk => ?_)
    simp only [raiseKeys, List.mem_append, List.mem_cons, List.not_mem_nil, or_false, List.mem_map, List.mem_range] at hk
    obtain (h | h) | ⟨l, hl, he⟩ := hk
    · exact h4 h
    · exact h5 h
    · exact hlinks l hl he.symm
  case stops =>
    intro h
    rw [heq]
    exact react_stops [] h
  case safe =>
    intro h3 hlow hsafe
    obtain ⟨w, hw⟩ := react_three (raiseNoted c src lvl d) src []
    rw [heq, h3, hw]
    simp [hfirst, hlow, haction, hsafe]
  case reset =>
    intro h3 hlow hreset
    obtain ⟨w, hw⟩ := react_three (raiseNoted c src lvl d) src []
    rw [heq, h3, hw]
    simp [hfirst, hlow, haction, hreset]
  case low =>
    intro h
    rw [heq, react_below_two h, hnoted]
    exact ⟨rfl, rfl⟩

end Sys2Proof.Machine
end

section
/-!
The step, the resets, the test access port, the epoch count, the fault collector's objects and the alarms (R374, R375, R428 to R436, R445,
R446, R460, R467).
-/
namespace Sys2Proof.Machine

/-! ## The step -/

theorem step_front (i : Instr) (s : State) : step { s with pending := i :: s.pending } = exec i s := rfl

theorem step_best {s : State} {i : Instr} {c : Core} (hq : s.pending = []) (hb : nextBest s.core = some (i, c)) :
    step s = exec i { s with core := c } := by
  simp only [step, hq, hb]

theorem step_idle {s : State} (hq : s.pending = []) (hb : nextBest s.core = none) : step s = .next { s with core := elapse s.core 1 } := by
  simp only [step, hq, hb, idle]

/-- Settles O1: the step by whether a command waits and whether a best-effort request does. -/
theorem stepRunsFrontCommand : Obligations.StepRunsFrontCommand :=
  ⟨step_front, fun _ _ _ hq hb => step_best hq hb, fun _ hq hb => step_idle hq hb⟩

/-! ## The resets -/

/-- A register after the filter of those that a reset keeps. -/
theorem rd_filtered (c : Core) (p : Key → Bool) (k : Key) :
    rd { c with regs := c.regs.filter (fun e => p e.1) } k = if p k then rd c k else dfltOf k :=
  mget_filter _ p c.regs k

theorem dom_filtered (c : Core) (p : Key → Bool) (k : Key) :
    dom { c with doms := c.doms.filter (fun e => p e.1) } k = if p k then dom c k else [] :=
  mget_filter _ p c.doms k

/-- A register after both resets: the input levels, the clocks of BOOT, and what eMRAM holds. -/
theorem rd_emramKept (c : Core) (k : Key) : rd (emramKept c) k =
    if k = clockKey then bootClocks else if k = refKey then rd c refKey &&& 16 else if storedKey k then rd c k else dfltOf k := by
  unfold emramKept
  rw [rd_wr, rd_wr]
  exact if_congr Iff.rfl rfl (if_congr Iff.rfl rfl (rd_filtered c storedKey k))

theorem dom_emramKept (c : Core) (k : Key) : dom (emramKept c) k = if storedKey k then dom c k else [] :=
  dom_filtered c storedKey k

theorem rd_countReset (c : Core) (old cause : Nat) (k : Key) : rd (countReset c old cause) k =
    if k = mo 6 then cause else if k = mo 7 then (old + 1) % 2 ^ 32 else rd c k := by
  unfold countReset
  rw [rd_wr, rd_wr]

/-- A register that a warm reset keeps: stored ones, those of TB3 and those of the HBM's training. -/
def warmKept (k : Key) : Bool := storedKey k || keyIx k == 0x6403 || hbmKey k

/-- The core of a warm reset before it is counted. -/
def warmBegun (c : Core) : Core :=
  let kept := { c with regs := c.regs.filter (fun e => warmKept e.1) }
  let begun := { emramKept c with
    regs := (wr (wr kept refKey (rd c refKey &&& 16)) clockKey bootClocks).regs
    tbs := c.tbs.filter (fun e => e.1 == 3)
    tap := c.tap
    keeper := c.keeper
    hbm := { grain := c.hbm.grain, mask := c.hbm.mask, trained := c.hbm.trained && !decide (rd c (hk 0x16) = 1 ∨ rd c (hk 0x15) = 1) }
    journal := { (emramKept c).journal with head := c.journal.head }
    streams := c.streams.foldl (fun s e => mset {} s e.1 { ring := e.2.ring, ringPos := e.2.ringPos, acqOpen := e.2.acqOpen }) []
    buddy := { held := c.buddy.held, acked := c.buddy.acked } }
  if rd c (hk 0x16) = 1 ∨ rd c (hk 0x15) = 1 then wr begun (hk 0x16) 0 else begun

theorem warmCore_eq (m : Mem) (c : Core) (cause : Nat) : warmCore m c cause =
    ({ m with cells := m.cells.filter (fun e => decide (e.1 < hbmTop)) }, countReset (warmBegun c) (rd c (mo 7)) cause) := rfl

theorem rd_warmBegun (c : Core) {k : Key} (h : k ≠ hk 0x16) : rd (warmBegun c) k =
    if k = clockKey then bootClocks else if k = refKey then rd c refKey &&& 16 else if warmKept k then rd c k else dfltOf k := by
  have hkept : rd (wr (wr { c with regs := c.regs.filter (fun e => warmKept e.1) } refKey (rd c refKey &&& 16)) clockKey bootClocks) k =
      if k = clockKey then bootClocks else if k = refKey then rd c refKey &&& 16 else if warmKept k then rd c k else dfltOf k := by
    rw [rd_wr, rd_wr]
    exact if_congr Iff.rfl rfl (if_congr Iff.rfl rfl (rd_filtered c warmKept k))
  rw [← hkept]
  unfold warmBegun
  dsimp only
  split
  · exact rd_wr_ne _ _ h
  · rfl

theorem getTb_warmBegun (c : Core) : getTb (warmBegun c) 3 = getTb c 3 := by
  have hkept : mget {} (c.tbs.filter (fun e => e.1 == 3)) 3 = mget ({} : Tb) c.tbs 3 :=
    (mget_filter _ (fun i => i == 3) c.tbs 3).trans (if_pos rfl)
  unfold warmBegun
  dsimp only
  split <;> exact hkept

theorem warmBegun_pieces (c : Core) : (warmBegun c).mode.resetDue = false ∧ (warmBegun c).weavers = [] ∧ (warmBegun c).dap = {} := by
  unfold warmBegun
  dsimp only
  split <;> exact ⟨rfl, rfl, rfl⟩

theorem warmReset_due (m : Mem) {c : Core} (hdue : c.mode.resetDue = true) (h : c.faults.reaction ≠ 3) :
    warmReset m c = warmCore m c 1 := by
  unfold warmReset
  simp [hdue, h]

theorem stored_ne {k j : Key} (hk : storedKey k = true) (hj : storedKey j = false) : k ≠ j := by
  rintro rfl
  rw [hk] at hj
  cases hj

/-- Settles O10: each register by what the reset keeps of it, the memory by the addresses that stay. -/
theorem resetsKeepEmram : Obligations.ResetsKeepEmram := by
  unfold Obligations.ResetsKeepEmram
  have href : storedKey refKey = false := by decide
  have hclock : storedKey clockKey = false := by decide
  have hcause : storedKey (mo 6) = false := by decide
  refine ⟨fun s => ⟨countReset (emramKept s.core) (rd s.core (mo 7)) 0, gives_did (q := powerOn s.core) rfl rfl, ?count, ?cause, ?stored, ?others, ?clock, ?mode,
    rfl, rfl, rfl, rfl, rfl, rfl, rfl⟩, ?warm⟩
  case count => rw [rd_countReset, if_neg (by decide), if_pos rfl]
  case cause => rw [rd_countReset, if_pos rfl]
  case stored =>
    intro k hk h7
    constructor
    · rw [rd_countReset, if_neg (stored_ne hk hcause), if_neg h7, rd_emramKept, if_neg (stored_ne hk hclock), if_neg (stored_ne hk href),
        if_pos hk]
    · exact (dom_emramKept s.core k).trans (if_pos hk)
  case others =>
    intro k hk hr hc h6
    have h7 : k ≠ mo 7 := (stored_ne (by decide) hk).symm
    rw [rd_countReset, if_neg h6, if_neg h7, rd_emramKept, if_neg hc, if_neg hr, if_neg (by simp [hk])]
  case clock => rw [rd_countReset, if_neg (by decide), if_neg (by decide), rd_emramKept, if_pos rfl]
  case mode =>
    rw [rd_countReset, if_neg (by decide), if_neg (by decide), rd_emramKept, if_neg (by decide), if_neg (by decide), if_neg (by decide)]
    decide
  case warm =>
    intro s hdue h3
    obtain ⟨hdone, hweavers, hdap⟩ := warmBegun_pieces s.core
    refine ⟨_, _, gives_did rfl ((warmReset_due s.mem hdue h3).trans (warmCore_eq _ _ _)), ?_⟩
    refine ⟨?countWarm, ?causeWarm, ?modeWarm, ?kept, ?lost, rfl, ?storedWarm, getTb_warmBegun s.core, ?tb3, hdone, hweavers, hdap⟩
    case countWarm => rw [rd_countReset, if_neg (by decide), if_pos rfl]
    case causeWarm => rw [rd_countReset, if_pos rfl]
    case modeWarm =>
      rw [rd_countReset, if_neg (by decide), if_neg (by decide), rd_warmBegun _ (by decide), if_neg (by decide), if_neg (by decide),
        if_neg (by decide)]
      decide
    case kept =>
      intro a ha
      exact (mget_filter 0 (fun i => decide (i < hbmTop)) s.mem.cells a).trans (if_pos (decide_eq_true ha))
    case lost =>
      intro a ha
      exact (mget_filter 0 (fun i => decide (i < hbmTop)) s.mem.cells a).trans (if_neg (by simpa using ha))
    case storedWarm =>
      intro k hk h7
      have hinit : k ≠ Sys2Proof.Machine.hk 0x16 := stored_ne hk (by decide)
      rw [rd_countReset, if_neg (stored_ne hk hcause), if_neg h7, rd_warmBegun _ hinit, if_neg (stored_ne hk hclock),
        if_neg (stored_ne hk href), if_pos (by simp [warmKept, hk])]
    case tb3 =>
      rw [rd_countReset, if_neg (by decide), if_neg (by decide), rd_warmBegun _ (by decide), if_neg (by decide), if_neg (by decide),
        if_pos (by decide)]

/-! ## The test access port -/

theorem tckEdge_rise (c : Core) (tms tdi : Bool) :
    tckEdge c true tms tdi = { c with tap := tapRise { c.tap with lastEdge := some c.time } tms tdi } := rfl

theorem tckEdge_fall {c : Core} (tms tdi : Bool) (hs : c.tap.state = .shiftDr) (hi : c.tap.idcode = true) :
    tckEdge c false tms tdi = { c with tap := { c.tap with lastEdge := some c.time, tdo := bit c.tap.shift 0 } } := by
  simp [tckEdge, hs, hi]

theorem tapRise_state (x : Tap) (tms tdi : Bool) : (tapRise x tms tdi).state = tapNext x.state tms := by
  cases h : x.state <;> simp [tapRise, h]

/-- A rising edge leaves TDO and the instant of the edge. -/
theorem tapRise_leaves (x : Tap) (tms tdi : Bool) : (tapRise x tms tdi).tdo = x.tdo ∧ (tapRise x tms tdi).lastEdge = x.lastEdge := by
  cases h : x.state <;> simp [tapRise, h]

theorem tapRise_captures {x : Tap} (tms tdi : Bool) (h : x.state = .captureDr) : (tapRise x tms tdi).shift = idcode := by simp [tapRise, h]

theorem tapRise_shifts {x : Tap} (tms tdi : Bool) (h : x.state = .shiftDr) :
    (tapRise x tms tdi).shift = x.shift / 2 + ofBool tdi * 2 ^ 31 := by simp [tapRise, h]

theorem tapRise_holds {x : Tap} (tms tdi : Bool) (hc : x.state ≠ .captureDr) (hs : x.state ≠ .shiftDr) :
    (tapRise x tms tdi).shift = x.shift := by
  cases h : x.state <;> simp_all [tapRise]

/-- An arrival in Test-Logic-Reset selects the identification register. -/
theorem tapRise_idcode {x : Tap} {tms tdi : Bool} (h : (tapRise x tms tdi).state = .testLogicReset) : (tapRise x tms tdi).idcode = true := by
  rw [tapRise_state] at h
  cases hx : x.state <;> simp_all [tapRise]

theorem tapNext_five (x : TapState) : tapNext (tapNext (tapNext (tapNext (tapNext x true) true) true) true) true = .testLogicReset := by
  cases x <;> rfl

/-- Settles O11: the edges by the controller's state. -/
theorem testAccessPort : Obligations.TestAccessPort := by
  unfold Obligations.TestAccessPort
  refine ⟨fun s => makes_didC rfl rfl, ?rise, fun s tms tdi hs hi => makes_didC rfl (tckEdge_fall tms tdi hs hi), ?five⟩
  case rise =>
    intro s tms tdi
    obtain ⟨htdo, hedge⟩ := tapRise_leaves { s.core.tap with lastEdge := some s.core.time } tms tdi
    exact ⟨_, makes_didC rfl (tckEdge_rise s.core tms tdi), tapRise_state _ tms tdi, htdo, hedge, fun h => tapRise_captures tms tdi h,
      fun h => tapRise_shifts tms tdi h, fun hc hs => tapRise_holds tms tdi hc hs, tapRise_idcode⟩
  case five =>
    intro x a b c d e
    simp only [tapRise_state, tapNext_five]

/-! ## The alarms -/

theorem tempOf_setTemp (c : Core) (g : Nat) (t : Int) : tempOf (setTemp c g t) g = t := mget_mset_same _ _ _ _

theorem tempOf_raise (c : Core) (src lvl d g : Nat) : tempOf (raise c src lvl d) g = tempOf c g := by
  obtain ⟨r, f, t, w, j, m, h⟩ := raise_only c src lvl d
  rw [h]
  rfl

theorem thermalRaise_hot {c : Core} {t : Int} (h : 110000 < t) : thermalRaise c t = raise c 307 3 0 := if_pos h

theorem thermalRaise_warm {c : Core} {t : Int} (hlo : 100000 < t) (hhi : t ≤ 110000) : thermalRaise c t = raise c 307 1 0 :=
  (if_neg (not_lt.mpr hhi)).trans (if_pos hlo)

theorem thermalRaise_cool {c : Core} {t : Int} (h : t ≤ 100000) : thermalRaise c t = c :=
  (if_neg (by omega)).trans (if_neg (by omega))

/-- A raise after a sensor's reading raises the source that it raises without it. -/
theorem raised_setTemp (c : Core) (g : Nat) (t : Int) (src lvl : Nat) : Raised c (raise (setTemp c g t) src lvl 0) src lvl :=
  raised_raise (setTemp c g t) src lvl 0

/-- Settles O12: each alarm is one raise, the temperature's by its range. -/
theorem alarmsRaiseTheirSources : Obligations.AlarmsRaiseTheirSources := by
  intro s
  refine ⟨⟨_, makes_didC rfl rfl, raised_raise _ _ _ _⟩, ⟨_, makes_didC rfl rfl, raised_raise _ _ _ _⟩, fun r => ⟨fun h => ?_, fun hlo hhi => ?_,
    fun h => makes_didC rfl (thermalRaise_cool h)⟩⟩
  · exact ⟨_, makes_didC rfl (thermalRaise_hot h), raised_setTemp _ _ _ _ _, (tempOf_raise _ _ _ _ _).trans (tempOf_setTemp _ _ _)⟩
  · exact ⟨_, makes_didC rfl (thermalRaise_warm hlo hhi), raised_setTemp _ _ _ _ _, (tempOf_raise _ _ _ _ _).trans (tempOf_setTemp _ _ _)⟩

/-! ## The epoch count -/

/-- A boundary without anything due: the count rises, and the scale reads the next boundary. -/
theorem crossBoundary_plain {c : Core} (ha : c.clk.align = none) (hp : c.clk.periods = []) (hs : c.clk.comps = []) :
    let a := elapseScale c (nextBoundary c)
    let past := ((scaleNow a : Int) - 0 - nextBoundary a).toNat
    crossBoundary c = { wr a (mkKey 0x1300 1) ((epochNow a + 1) % 2 ^ 48) with
      stamp := nextBoundary a + past
      clk := { a.clk with boundary := nextBoundary a, at_ := a.time - past / 4096, curPeriod := c.clk.curPeriod, comp := c.clk.comp
                          periods := [], comps := [], align := a.clk.align } } := by
  have hcount (a : Core) (h : a.clk = c.clk) : nextCount a = ((epochNow a + 1) % 2 ^ 48, false) := by simp [nextCount, h, ha, epochWrap]
  unfold crossBoundary
  simp [hp, hs, takeSetting, hcount]

theorem nextBoundary_elapseScale (c : Core) (t : Nat) : nextBoundary (elapseScale c t) = c.clk.boundary + epochTicks c := by
  simp [nextBoundary, epochTicks]

/-- Settles O16: the boundary that nothing changes writes the count alone. -/
theorem epochCountRises : Obligations.EpochCountRises := by
  intro c ha hp hs
  have hregs (k : Key) : rd (elapseScale c (nextBoundary c)) k = rd c k := rd_congr (elapseScale_regs c _) k
  have hplain := crossBoundary_plain ha hp hs
  have hrd (k : Key) : rd (crossBoundary c) k =
      rd (wr (elapseScale c (nextBoundary c)) (mkKey 0x1300 1) ((epochNow (elapseScale c (nextBoundary c)) + 1) % 2 ^ 48)) k :=
    rd_congr (by rw [hplain]) k
  refine ⟨?_, ?_, fun k hk => ?_⟩
  · rw [epochNow, hrd, rd_wr_same, epochNow, epochNow, hregs]
  · rw [hplain]
    exact nextBoundary_elapseScale c _
  · rw [hrd, rd_wr_ne _ _ (by simpa using hk), hregs]

/-! ## The fault collector's objects -/

/-- A source after those of a list are acknowledged (R428, R435). -/
theorem mget_foldl_acked (l : List Nat) (m : SMap FaultSrc) (src : Nat) :
    mget {} (l.foldl (fun m s => mset {} m s { mget {} m s with sticky := false, unacked := none }) m) src =
      if src ∈ l then { mget {} m src with sticky := false, unacked := none } else mget {} m src := by
  induction l generalizing m with
  | nil => rfl
  | cons a l ih =>
    rw [List.foldl_cons, ih]
    by_cases h : src = a
    · subst h
      simp
    · simp [h, mget_mset_ne _ _ _ _ h]

theorem mem_setBits {n w i : Nat} : i ∈ setBits n w ↔ i < w ∧ bit n i = true := by simp [setBits]

theorem accepts_faultAck {s : State} {data : List Byte} (ho : Open s.core) (hl : data.length = 64) :
    Accepts (.faultAck data) s (writeFaultAck s.core data) := by
  have hobj : objIs (mkKey 0x7000 2) .domain .wo .any = true := by decide
  refine accepts_domain (eff := putFaultAck data) rfl (blockFail_none hobj ho rfl (by decide) rfl) (closedTo_open ho (by decide)) ?_ ?_
  · rw [hl]
    decide
  · simp only [putFaultAck, hl, if_true, effC]

theorem writeHistory_next {c : Core} {e : FaultEvent} {q : List FaultEvent} (h : c.faults.queue = e :: q) : writeHistory c =
    wr { c with faults := { c.faults with queue := q
                                          history := mset [] c.faults.history (rd c (mkKey 0x7000 0xD)) (historyRecord c e) } }
      (mkKey 0x7000 0xD) ((rd c (mkKey 0x7000 0xD) + 1) % historySlots) := by
  simp only [writeHistory, h]

theorem aliveEdge_runs {c : Core} (h : rd c (mkKey 0x7200 1) ≠ 1) : aliveEdge c =
    let d := { c with faults := { c.faults with aliveHigh := !c.faults.aliveHigh } }
    if c.faults.aliveStopping then wr d (mkKey 0x7200 1) 1 else d := if_neg h

theorem objIs_firstClr : objIs (mkKey 0x7000 6) .bool .wo (.nat 1 1) = true := by decide

theorem objIs_tallyClear (k : Fin 128) : objIs (mkKey (0x7400 + k.val) 3) .bool .wo (.nat 1 1) = true := by revert k; decide +kernel

theorem tallyKey_free (k : Fin 128) : (keyIx (mkKey (0x7400 + k.val) 3) == 0x5800 && keySub (mkKey (0x7400 + k.val) 3) == 2) = false ∧
    (mkKey (0x7400 + k.val) 3 == dk 3 || mkKey (0x7400 + k.val) 3 == dk 4) = false :=
  mkKey_free (by decide) (by omega) (by omega)

/-- The written history slot holds the record, whatever slot is next. -/
theorem history_writeHistory {c : Core} {e : FaultEvent} {q : List FaultEvent} (h : c.faults.queue = e :: q) :
    mget [] (writeHistory c).faults.history (rd c (mkKey 0x7000 0xD)) = historyRecord c e := by
  rw [writeHistory_next h]
  exact mget_mset_same [] c.faults.history _ (historyRecord c e)

/-- Settles O17: each command by its object's effect. -/
theorem faultRecordsAndCounters : Obligations.FaultRecordsAndCounters := by
  unfold Obligations.FaultRecordsAndCounters
  refine ⟨?ack, ?first, ?history, ?tally, fun s h hr => ?runs, fun s h hs => ?stops⟩
  case ack =>
    intro s data ho hl
    refine ⟨_, accepts_faultAck ho hl, rfl, fun src hsrc => ?_⟩
    refine (mget_foldl_acked _ _ src).trans (if_congr ?_ rfl rfl)
    simp [mem_setBits, faultSources, hsrc]
  case first =>
    intro s ho
    exact accepts_scalar (eff := effC clearFirst) rfl (writeFail_bool objIs_firstClr ho (by decide) rfl (le_refl 1) (le_refl 1))
      (closedTo_open ho (by decide)) rfl
  case history =>
    intro s e q hq
    have hrecord := history_writeHistory hq
    rw [writeHistory_next hq] at hrecord
    exact ⟨_, makes_didC rfl (writeHistory_next hq), rfl, hrecord, rd_wr_same _ _ _, rfl, sameRegsBut_wr _ _ (by simp)⟩
  case tally =>
    intro s k ho
    obtain ⟨hopen, hauth⟩ := tallyKey_free k
    exact accepts_scalar (eff := effC (fun c => clearTally c k.val)) rfl
      (writeFail_bool (objIs_tallyClear k) ho hauth rfl (le_refl 1) (le_refl 1)) (closedTo_open ho hopen) rfl
  case runs =>
    exact makes_didC rfl ((aliveEdge_runs h).trans (if_neg (by simp [hr])))
  case stops =>
    exact makes_didC rfl ((aliveEdge_runs h).trans (if_pos hs))

end Sys2Proof.Machine
end

section
/-!
Mode requests and tokens, and why a SWAP that moves GROUP_EPOCH does more than write it: it releases a rebuild that was held for the
old group epoch (R191, R195, R379 to R382).
-/
namespace Sys2Proof.Machine

/-! ## A rebuild held for a group epoch -/

@[simp] theorem noticed_cal (c : Core) : (noticed c).cal = c.cal := by
  obtain ⟨d, o, f, l, h⟩ := noticed_only c
  rw [h]

/-- A command leaves the calibration state in one way. -/
theorem Makes.cal_unique {i : Instr} {s : State} {c d : Core} (hc : Makes i s c) (hd : Makes i s d) : c.cal = d.cal := by
  have hnext := Host.Outcome.next.inj (hc.symm.trans hd)
  simpa using congrArg (fun t : State => t.core.cal) hnext

/-- With TRACK_ENABLE 0 a rebuild that is held is dropped once no group epoch is near (R190, R191). -/
theorem startHeld_untracked {c : Core} (ht : rdb c (gk 1) = false) (hnear : nearGroupEpoch c = false) :
    (startHeld c).cal.rebuildHeld = false := by
  unfold startHeld
  split
  · have ht' : (!rdb { c with cal := { c.cal with rebuildHeld := false } } (gk 1)) = true := by simp [rdb] at ht ⊢; exact ht
    rw [startRebuild, if_pos ht']
  · next hheld => simpa [hnear] using hheld

theorem floodToken_sent (c : Core) (slots : List Slot) (a : Option TokenFrom) : OnlySent c (floodToken c slots a) := by
  have hlinks (l : List Nat) : OnlySent c (l.foldl (fun c k => sendSlots c k 0 slots) c) :=
    OnlySent.foldl _ (fun c k => sendSlots_only c k 0 slots) l c
  have hpeers (p : Nat) (bytes : List Byte) (l : List HostAddr) (c : Core) :
      OnlySent c (l.foldl (fun c a => sendUdp c p svcToken a bytes) c) := OnlySent.foldl _ (fun c a => sendUdp_only c p _ a _) l c
  unfold floodToken
  dsimp only
  rcases a with _ | _ | peer <;> dsimp only
  case some.peer =>
    split
    · split
      · exact hlinks _
      · exact (hlinks _).trans (hpeers _ _ _ _)
    · exact hlinks _
  all_goals
    split
    · exact (hlinks _).trans (hpeers _ _ _ _)
    · exact hlinks _

theorem floodToken_cal (c : Core) (slots : List Slot) (a : Option TokenFrom) : (floodToken c slots a).cal = c.cal := by
  obtain ⟨d, o, f, l, h⟩ := floodToken_sent c slots a
  rw [h]

theorem sendToken_cal (c : Core) (kind epoch id : Nat) : (sendToken c kind epoch id).cal = c.cal := floodToken_cal _ _ _

/-- A block of swap group 7 in RUN, on link 0, whose tracker was turned off while it held a rebuild for a group epoch. -/
def heldRebuild : State :=
  { pending := [], mem := {}
    core := { regs := [(mkKey 0x1200 1, modeCode .run), (mkKey 0x1311 1, 7), (gk 1, 0), (mkKey 0x6000 2, 2), (mkKey 0x6020 0, 1)]
              cal := { rebuildHeld := true } } }

/-- Moving GROUP_EPOCH to epoch 1,000 drops the held rebuild. -/
theorem actSwap_heldRebuild {c : Core} (hregs : c.regs = heldRebuild.core.regs) (hclk : c.clk = {}) (hstamp : c.stamp = 0) :
    (actSwap c 7 1000).cal.rebuildHeld = false := by
  have hid : noDeviceId c = false := by simp only [noDeviceId, deviceId, rd, hregs]; decide
  have hgroup : rd c (mkKey 0x1311 1) = 7 := by simp only [rd, hregs]; decide
  have hepoch : epochNow c = 0 := by simp only [epochNow, rd, hregs]; decide
  have htrack : rdb (wr c (gk 0xE) 1000) (gk 1) = false := by simp only [rdb, rd, wr, hregs]; decide
  have hnear : nearGroupEpoch (wr c (gk 0xE) 1000) = false := by
    simp only [nearGroupEpoch, epochNow, epochTicks, rd, wr, hregs, hclk, hstamp]; decide
  have hact : actSwap c 7 1000 = startHeld (wr c (gk 0xE) 1000) := by
    simp [actSwap, hid, hgroup, writeGroupEpoch, hepoch, guardSt]
  rw [hact]
  exact startHeld_untracked htrack hnear

theorem objIs_swapSend : objIs (mkKey 0x1311 2) .u64 .wo .any = true := by decide

theorem accepts_swapSend {s : State} (e : BitVec 64) (ho : Open s.core) : Accepts (.swapSend e) s (writeSwapSend s.core e.toNat) :=
  accepts_scalar (eff := effC (fun c => writeSwapSend c e.toNat)) rfl
    (writeFail_none objIs_swapSend ho (by simp [width_u64]) rfl (by decide) rfl rfl rfl rfl) (closedTo_open ho (by decide)) rfl

/-- Refutes O18: its clause on SWAP_SEND says that the command writes GROUP_EPOCH and floods the token and changes nothing else, but a
write of GROUP_EPOCH also ends the wait of a rebuild that R191 held for the old group epoch (`startHeld`): from `heldRebuild` the
SWAP for epoch 1,000 leaves no rebuild held, and the statement leaves it held. -/
theorem not_modeChangesAskedFor : ¬ Obligations.ModeChangesAskedFor := by
  unfold Obligations.ModeChangesAskedFor
  rintro ⟨-, -, -, -, -, hswap⟩
  have hopen : Open heldRebuild.core := by unfold Open; decide
  have hsaid := hswap heldRebuild 1000 hopen (by decide) (by decide) (by decide) (by decide)
  have hdone : writeSwapSend heldRebuild.core 1000 = sendToken (actSwap heldRebuild.core 7 1000) tokSwap 1000 7 := rfl
  have hcal := Makes.cal_unique hsaid (accepts_swapSend 1000 hopen)
  have hdrops : (writeSwapSend heldRebuild.core 1000).cal.rebuildHeld = false := by
    rw [hdone, sendToken_cal]
    exact actSwap_heldRebuild rfl rfl rfl
  have hholds := (congrArg Cal.rebuildHeld (sendToken_cal (wr heldRebuild.core (gk 0xE) 1000) tokSwap 1000 7)).symm.trans
    (congrArg Cal.rebuildHeld hcal)
  exact absurd (hholds.trans hdrops) (by decide)

/-- A SWAP token of group 7 for epoch 1,000 that comes by link 0. -/
def swapTo1000 : Token := { arrival := .link 0, src := 3, number := 1, epoch := 1000, id := 7, stamp := 0, tgroup := 0, unit := 0 }

/-- Refutes O23: its clause on SWAP says that a device of the group writes GROUP_EPOCH and floods the token and changes nothing else,
but a write of GROUP_EPOCH also ends the wait of a rebuild that R191 held for the old group epoch (`startHeld`): from `heldRebuild`
the token for epoch 1,000 leaves no rebuild held, and the statement leaves it held. -/
theorem not_tokensExecuteOnceAndFlood : ¬ Obligations.TokensExecuteOnceAndFlood := by
  unfold Obligations.TokensExecuteOnceAndFlood
  rintro ⟨-, hfirst, -⟩
  obtain ⟨-, -, -, hswap, -⟩ := hfirst heldRebuild swapTo1000 (by decide) (by decide)
  have hsaid := hswap (by decide) (by decide) (by decide) (by decide) (by decide)
  have hdone : Makes (.tokenSwap swapTo1000) heldRebuild (swapToken heldRebuild.core swapTo1000) := makes_didC rfl rfl
  have hheld := congrArg Cal.rebuildHeld (Makes.cal_unique hsaid hdone)
  have hnoted : swapToken heldRebuild.core swapTo1000 = floodToken (actSwap { heldRebuild.core with
      tokens := { heldRebuild.core.tokens with done := [(3, 1, 0)] } } 7 1000) (slotsOfToken tokSwap swapTo1000) (some (.link 0)) := rfl
  have hdrops : (swapToken heldRebuild.core swapTo1000).cal.rebuildHeld = false := by
    rw [hnoted, floodToken_cal]
    exact actSwap_heldRebuild rfl rfl rfl
  have hholds := (congrArg Cal.rebuildHeld (floodToken_cal (wr _ _ _) _ _)).symm.trans (hheld.trans hdrops)
  exact absurd hholds (by decide)

end Sys2Proof.Machine
end

section
/-!
Images, wake causes, the pin-group PLLs and the settings of the epoch counter (R375, R376, R443, R444, R448, R451 to R454, R477).
-/
namespace Sys2Proof.Machine

/-! ## Writes of scalar objects -/

/-- A write command that passes the checks answers its effect's status. -/
theorem gives_wrote {i : Instr} {s : State} {k : Key} {v : Nat} {eff : Effect} {st : Status} {m : Mem} {c : Core}
    (he : exec i s = wrote s k v 0 eff) (hw : writeFail s.core false k v 0 0 = none) (ht : closedTo s.core k = false)
    (hf : eff s.mem s.core = (st, (m, c))) : Gives i s m { c with status := st } := by
  simp only [Gives, he, wrote_eq _ _ _ _ _ hw ht, hf]

/-- A write command of a DOMAIN that passes the checks answers its effect's status. -/
theorem gives_wroteDomain {i : Instr} {s : State} {k : Key} {l : List Byte} {eff : Effect} {st : Status} {m : Mem} {c : Core}
    (he : exec i s = wroteDomain s k l eff) (hw : blockFail s.core false k = none) (ht : closedTo s.core k = false)
    (hl : l.length ≤ domMax k) (hf : eff s.mem s.core = (st, (m, c))) : Gives i s m { c with status := st } := by
  simp only [Gives, he, wroteDomain_eq _ _ _ _ hw ht hl, hf]

/-- An answer of a write whose checks of state hold. -/
theorem answer_guardSt {c d : Core} {b : Bool} (st : Status) (h : b = true) : answer c (guardSt b st (.ok d)) = (stOk, d) := by
  simp [answer, guardSt, h]

theorem fits_u32 (v : BitVec 32) : ¬ 2 ^ (8 * ObjTy.u32.width) ≤ v.toNat := by
  have hlt := v.isLt
  simp only [ObjTy.width]
  omega

/-! ## Images -/

theorem objIs_stage (k : ImageKind) : objIs (imk k 1) .domain (.rwm [.service]) .any = true := by cases k <;> decide

theorem objIs_install (k : ImageKind) : objIs (imk k 2) .u8 (.rwm [.service]) (.nat 0 1) = true := by cases k <;> decide

theorem objIs_floor (k : ImageKind) : objIs (imk k 7) .u32 .rw .any = true := by cases k <;> decide

theorem imk_free (k : ImageKind) {sub : Nat} (h : sub < 256) :
    (keyIx (imk k sub) == 0x5800 && keySub (imk k sub) == 2) = false ∧ (imk k sub == dk 3 || imk k sub == dk 4) = false := by
  cases k <;> exact mkKey_free h (by decide) (by decide)

theorem domMax_stage (k : ImageKind) : domMax (imk k 1) = 256 + imageMax k := by cases k <;> rfl

theorem inModes_service {c : Core} (h : modeNow c = modeCode .service) : InModes c [.service] := ⟨.service, by simp, h⟩

theorem accepts_stage {s : State} {k : ImageKind} {data : List Byte} (ho : Open s.core) (hm : modeNow s.core = modeCode .service)
    (hlo : 256 ≤ data.length) (hhi : data.length ≤ 256 + imageMax k) (hz : allZero (slice data 64 96) = true) :
    Accepts (.stage k data) s (setDom s.core (imk k 1) data) := by
  obtain ⟨hopen, hauth⟩ := imk_free k (sub := 1) (by decide)
  refine accepts_domain (eff := effA (fun c => writeStage c k data)) rfl
    (blockFail_none (objIs_stage k) ho rfl hauth (modeAccepts_rwm (inModes_service hm))) (closedTo_open ho hopen)
    (by rw [domMax_stage]; exact hhi) ?_
  simp [effA, writeStage, answer_guardSt, hlo, hhi, hz]

theorem accepts_install {s : State} {k : ImageKind} {slot : Byte} (ho : Open s.core) (hm : modeNow s.core = modeCode .service)
    (hs : slot.toNat ≤ 1) (hrun : runningSlot s.core k ≠ some slot.toNat) (hidle : rd s.core (imk k 3) ≠ 1) :
    Accepts (.install k slot) s { wr s.core (imk k 3) 1 with
      mode := { s.core.mode with installing := mset 0 s.core.mode.installing (slotKey k 0) (slot.toNat + 1) } } := by
  obtain ⟨hopen, hauth⟩ := imk_free k (sub := 2) (by decide)
  have hwidth : ¬ 2 ^ (8 * ObjTy.u8.width) ≤ slot.toNat := by simp only [ObjTy.width]; omega
  refine accepts_scalar (eff := effA (fun c => writeInstall c k slot.toNat)) rfl
    (writeFail_none (objIs_install k) ho (by simp [hwidth]) rfl hauth rfl (modeAccepts_rwm (inModes_service hm)) rfl (by simp [rangeFail, hs]))
    (closedTo_open ho hopen) ?_
  simp only [effA, writeInstall]
  rw [answer_guardSt stStateConflict (by simp [hrun, hidle])]
  rfl

theorem accepts_floor {s : State} {k : ImageKind} {v : BitVec 32} (ho : Open s.core) (hv : v.toNat ≤ runningVersion s.core k) :
    Accepts (.floor k v) s (wr s.core (imk k 7) (max v.toNat (rd s.core (imk k 7)))) := by
  obtain ⟨hopen, hauth⟩ := imk_free k (sub := 7) (by decide)
  refine accepts_scalar (eff := effA (fun c => writeFloor c k v.toNat)) rfl
    (writeFail_none (objIs_floor k) ho (by simp [fits_u32]) rfl hauth rfl rfl rfl rfl) (closedTo_open ho hopen) ?_
  simp [effA, writeFloor, answer_guardSt, hv]

/-- An image is valid by its own bytes and the floor in force. -/
theorem imageValid_congr {c d : Core} (h : d.regs = c.regs) (k : ImageKind) (l : List Byte) : imageValid d k l = imageValid c k l := by
  simp only [imageValid, rd_congr h]

/-- The install is over (R451). -/
def installEnded (c : Core) (k : ImageKind) : Core :=
  { c with mode := { c.mode with installing := merase c.mode.installing (slotKey k 0) } }

theorem installComplete_valid {c : Core} {k : ImageKind} {n : Nat} (hi : mget 0 c.mode.installing (slotKey k 0) = n + 1)
    (hv : imageValid c k (dom c (imk k 1)) = true) : installComplete c k =
      wr { installEnded c k with mode := { (installEnded c k).mode with
        slots := minsert (merase c.mode.slots (slotKey k n)) (slotKey k n) (dom c (imk k 1)) } } (imk k 3) 2 := by
  unfold installComplete
  rw [hi]
  exact if_pos ((imageValid_congr rfl k _).trans hv)

theorem installComplete_invalid {c : Core} {k : ImageKind} {n : Nat} (hi : mget 0 c.mode.installing (slotKey k 0) = n + 1)
    (hv : imageValid c k (dom c (imk k 1)) = false) : installComplete c k = wr (installEnded c k) (imk k 3) 3 := by
  unfold installComplete
  rw [hi]
  exact if_neg (Bool.eq_false_iff.mp ((imageValid_congr rfl k _).trans hv))

/-- Settles O20: each write passes its checks, and the completion goes by whether the staged image is valid. -/
theorem imagesStagedAndInstalled : Obligations.ImagesStagedAndInstalled := by
  unfold Obligations.ImagesStagedAndInstalled
  refine ⟨fun s k data => accepts_stage, fun s k slot => accepts_install, fun s k n hi hv => ?valid, fun s k n hi hv => ?invalid,
    fun s k v => accepts_floor⟩
  case valid =>
    refine ⟨_, makes_didC rfl (installComplete_valid hi hv), rd_wr_same _ _ _, ?_, fun j hj => ?_, sameRegsBut_wr _ _ (by simp)⟩
    · exact mfind_minsert_same _ _ _ (mfind_merase_same _ _)
    · exact (mfind_minsert_ne _ _ hj).trans (mfind_merase_ne _ hj)
  case invalid =>
    exact ⟨_, makes_didC rfl (installComplete_invalid hi hv), rd_wr_same _ _ _, rfl, sameRegsBut_wr _ _ (by simp)⟩

/-! ## Wake causes -/

theorem leaveDormant_idle {c : Core} (h : c.mode.transition = none) : leaveDormant c =
    { wr c (mo 3) 2 with mode := { c.mode with transition := some { target := 2, boundary := none, prepared := false } } } :=
  if_neg (by simp [h])

theorem inMode_wr {c : Core} {k : Key} (v : Nat) (m : Mode) (h : mkKey 0x1200 1 ≠ k) : inMode (wr c k v) m = inMode c m := by
  simp only [inMode, modeNow, rd_wr_ne c v h]

theorem wakePin_dormant {c : Core} (hm : modeNow c = modeCode .dormant) (ht : c.mode.transition = none) : wakePin c =
    { wr (wr c (wkk 1) (setBit (rd c (wkk 1)) 0)) (mo 3) 2 with mode := { c.mode with
      wakePinSeen := true, transition := some { target := 2, boundary := none, prepared := false } } } := by
  unfold wakePin
  rw [if_pos (by simp [inMode, hm])]
  exact leaveDormant_idle ht

theorem wakeAlarm_dormant {c : Core} (hm : modeNow c = modeCode .dormant) (ht : c.mode.transition = none) (hen : bit (rd c (wkk 2)) 2 = true) :
    wakeAlarm c = { wr (wr c (wkk 1) (setBit (rd c (wkk 1)) 2)) (mo 3) 2 with mode := { c.mode with
      wakeOwed := true, transition := some { target := 2, boundary := none, prepared := false } } } := by
  have hdormant : inMode (wr c (wkk 1) (setBit (rd c (wkk 1)) 2)) .dormant = true := by
    rw [inMode_wr _ _ (by decide)]
    simp [inMode, hm]
  unfold wakeAlarm deviceCause
  simp only [hen, Bool.not_true, Bool.false_eq_true, if_false, hdormant, if_true]
  exact leaveDormant_idle ht

/-- A TRGI input takes its level. -/
def trgiTaken (c : Core) (k : Nat) (level : Bool) : Core := { c with mode := { c.mode with trgi := putBit c.mode.trgi k level } }

/-- While no Weaver runs or holds, an edge of a TRGI input is its level and, where it rises, a device cause. -/
theorem trgiEdge_quiet {c : Core} (k : Nat) (level : Bool) (h : ∀ w < 64, wState c w ≠ 2 ∧ wState c w ≠ 3) : trgiEdge c k level =
    if level && !bit c.mode.trgi k then deviceCause (noteTrgi (trgiTaken c k level) k) (3 + k) else trgiTaken c k level := by
  change (if level && !bit c.mode.trgi k then
    deviceCause (noteTrgi (List.foldl _ (trgiTaken c k level) (List.range 64)) k) (3 + k) else List.foldl _ (trgiTaken c k level) (List.range 64)) = _
  rw [foldl_stays]
  · intro w hw
    obtain ⟨hrun, hhold⟩ := h w (List.mem_range.mp hw)
    exact if_neg (by rintro (he | he) <;> [exact hrun he; exact hhold he])

theorem wakeResend_named {c : Core} {n : Nat} {a : HostAddr} (hn : c.dap.wakeNotify = some n) (ha : wakeHost c = some a) :
    wakeResend c = sendUdp c (rd c (mo 8)) svcDap a (wakeFrame c n true) := by
  simp only [wakeResend, hn, sendWake, ha]

theorem objIs_wakeClr : objIs (wkk 6) .bool .wo (.nat 1 1) = true := by decide

/-- Settles O21: each event by the branch that its hypotheses select. -/
theorem wakeCausesAndRequests : Obligations.WakeCausesAndRequests := by
  unfold Obligations.WakeCausesAndRequests
  refine ⟨fun s hm ht => makes_didC rfl (wakePin_dormant hm ht), fun s hm ht hen => makes_didC rfl (wakeAlarm_dormant hm ht hen),
    fun s k hw => makes_didC rfl ((trgiEdge_quiet k.val false hw).trans (if_neg (by simp))),
    fun s k hw hlow => makes_didC rfl ((trgiEdge_quiet k.val true hw).trans (if_pos (by simp [hlow]))),
    fun s n a hn ha => makes_didC rfl (wakeResend_named hn ha), fun s ho => ?_⟩
  exact accepts_scalar (eff := effC writeWakeClr) rfl (writeFail_bool objIs_wakeClr ho (by decide) rfl (le_refl 1) (le_refl 1))
    (closedTo_open ho (by decide)) rfl

/-! ## The pin-group PLLs -/

theorem pgIdleExpiry_idle {c : Core} {g : Nat} (hm : modeNow c = modeCode .run) (hb : clockBit c (6 + g) = true)
    (hn : pgNeeded c g = false) : pgIdleExpiry c g = setClock (elapseUntil c (pgIdleEnd c g)) (6 + g) false :=
  if_pos ⟨by simp [inMode, hm], hb, by simp [hn]⟩

theorem pgLock_locks {c : Core} {g : Nat} (hs : pgStarting c g = true) (hm : InModes c [.warm, .calibrate, .run])
    (h1 : clockBit c 1 = true) : pgLock c g = setClock (pgSettled c g) (6 + g) true :=
  if_pos ⟨hs, inModes_true hm, h1⟩

theorem pgSettled_regs (c : Core) (g : Nat) : (pgSettled c g).regs = c.regs := rfl

theorem pgStarting_pgSettled (c : Core) (g : Nat) : pgStarting (pgSettled c g) g = false := by
  simp [pgStarting, pgSettled, mget, mfind_merase_same]

theorem pgLockTimeout_starting {c : Core} {g : Nat} (hs : pgStarting c g = true) : pgLockTimeout c g =
    raise (pgSettled (elapseUntil c (mget 0 c.mode.pgStart g - 1 + 300000)) g) (246 + g) 2 0 := by
  have hsource : clockFault (6 + g) = 246 + g := by simp only [clockFault]; omega
  unfold pgLockTimeout
  rw [if_pos hs, hsource]

/-- Settles O22: each event by the branch that its hypotheses select. -/
theorem pinGroupPlls : Obligations.PinGroupPlls := by
  unfold Obligations.PinGroupPlls
  refine ⟨fun s g hm hb hn => makes_didC rfl (pgIdleExpiry_idle hm hb hn), fun s g hs hm h1 => ?_, fun s g hs => ?_⟩
  · exact ⟨_, makes_didC rfl (pgLock_locks hs hm h1), clockBit_setClock_same _ _ _, pgStarting_pgSettled _ _,
      fun k hk => rd_setClock_ne (pgSettled s.core g.val) _ _ (by simpa using hk), fun d hd => clockBit_setClock_ne (pgSettled s.core g.val) true hd.symm⟩
  · exact ⟨_, makes_didC rfl (pgLockTimeout_starting hs), pgStarting_pgSettled _ _, (pgSettled_regs _ _).trans (elapseUntil_regs _ _)⟩

/-! ## The settings of the epoch counter -/

theorem objIs_epochAlign : objIs (mkKey 0x1300 2) .domain (.rwm [.standby, .warm]) .any = true := by decide

theorem objIs_syncPeriod : objIs (mkKey 0x1301 1) .u32 (.rwm [.standby, .warm]) (.nat 100 1000000) = true := by decide

theorem objIs_syncComp : objIs (mkKey 0x1301 2) .ticks (.rwm [.standby, .warm, .calibrate]) (.nat 0 409599) = true := by decide

theorem writeEpochAlign_valid {c : Core} {data : List Byte} (hl : data.length = 20) (hv : leAt data 0 8 < 2 ^ 48)
    (ht : bits (leAt data 8 12) 16 32 < 1000000000) (h3 : tbState c 0 ≠ 3) (h4 : tbState c 0 ≠ 4) : writeEpochAlign c data = (stOk,
      { setDom c (mkKey 0x1300 2) data with clk := { c.clk with align := some (leAt data 0 8, leAt data 8 12) } }) := by
  have hvalid : (data.length == 20 && decide (leAt data 0 8 < epochWrap) && decide (bits (leAt data 8 12) 16 32 < 1000000000)) = true := by
    rw [hl, show decide (leAt data 0 8 < epochWrap) = true from decide_eq_true hv, decide_eq_true ht]
    rfl
  have hheld : (tbState c 0 != 3 && tbState c 0 != 4) = true := by simp [h3, h4]
  simp only [writeEpochAlign, answer, guardSt, hvalid, hheld, if_true]

/-- Settles O24: each write passes its checks and is held. -/
theorem epochSettings : Obligations.EpochSettings := by
  unfold Obligations.EpochSettings
  refine ⟨?align, ?period, ?comp⟩
  case align =>
    intro s data ho hm hl hv ht h3 h4
    refine accepts_domain (eff := effA (fun c => writeEpochAlign c data)) rfl
      (blockFail_none objIs_epochAlign ho rfl (by decide) (modeAccepts_rwm hm)) (closedTo_open ho (by decide)) (by rw [hl]; decide) ?_
    simp only [effA, writeEpochAlign_valid hl hv ht h3 h4]
  case period =>
    intro s v ho hm hlo hhi
    have hrange : rangeFail .u32 (.nat 100 1000000) v.toNat = none := by simp [rangeFail, hlo, hhi]
    exact accepts_scalar (eff := effC (fun c => writeSyncPeriod c v.toNat)) rfl
      (writeFail_none objIs_syncPeriod ho (by simp [fits_u32]) rfl (by decide) rfl (modeAccepts_rwm hm) rfl hrange)
      (closedTo_open ho (by decide)) rfl
  case comp =>
    intro s v ho hm hv
    have hwidth : ¬ 2 ^ (8 * ObjTy.ticks.width) ≤ v.toNat := width_u64 v
    have hrange : rangeFail .ticks (.nat 0 409599) v.toNat = none := by simp [rangeFail, hv]
    exact accepts_scalar (eff := effC (fun c => writeSyncComp c v.toNat)) rfl
      (writeFail_none objIs_syncComp ho (by simp [hwidth]) rfl (by decide) rfl (modeAccepts_rwm hm) rfl hrange)
      (closedTo_open ho (by decide)) rfl

end Sys2Proof.Machine
end

section
/-!
The HBM's initialisation, its retrain and its memory test (R308 to R315, R324, R328).
-/
namespace Sys2Proof.Machine

/-! ## Objects of the controller and of the stacks (Tables 11-5 and 11-7) -/

@[simp] theorem hk_eq_iff (i j : Nat) : hk i = hk j ↔ i = j := by simp [hk, mkKey]

theorem hk_ne_stk {i j : Nat} (hi : i < 256) (hj : j < 256) (s : Nat) : hk i ≠ stk s j := by
  simp only [hk, stk, mkKey, Key, ne_eq]
  omega

theorem stk_eq_iff {i j : Nat} (hi : i < 256) (hj : j < 256) (s t : Nat) : stk s i = stk t j ↔ s = t ∧ i = j := by
  simp only [stk, mkKey, Key]
  omega

theorem hk_free {sub : Nat} (h : sub < 256) :
    (keyIx (hk sub) == 0x5800 && keySub (hk sub) == 2) = false ∧ (hk sub == dk 3 || hk sub == dk 4) = false :=
  mkKey_free h (by decide) (by decide)

theorem objIs_reinit : objIs (hk 0x17) .bool (.rwm [.warm, .calibrate, .service]) (.nat 1 1) = true := by decide

theorem objIs_trainStart : objIs (hk 0x12) .bool (.rwm [.calibrate]) (.nat 1 1) = true := by decide

theorem objIs_memTest : objIs (hk 0x14) .bool (.rwm [.service]) (.nat 1 1) = true := by decide

/-- A write of 1 to a command of the controller in its modes passes the checks. -/
theorem writeFail_hk {c : Core} {sub : Nat} {l : List Mode} (hs : sub < 256) (hobj : objIs (hk sub) .bool (.rwm l) (.nat 1 1) = true)
    (ho : Open c) (hm : InModes c l) : writeFail c false (hk sub) 1 0 0 = none :=
  writeFail_bool hobj ho (hk_free hs).2 (modeAccepts_rwm hm) (le_refl 1) (le_refl 1)

theorem closedTo_hk {c : Core} {sub : Nat} (hs : sub < 256) (ho : Open c) : closedTo c (hk sub) = false := closedTo_open ho (hk_free hs).1

/-! ## Memory -/

theorem readByte_clearHbm (m : Mem) (a : Nat) : readByte (clearHbm m) a = if hbmTop ≤ a then readByte m a else 0 := by
  exact (mget_filter 0 (fun i => decide (hbmTop ≤ i)) m.cells a).trans (if_congr decide_eq_true_iff rfl rfl)

theorem readByte_clearHbm_below (m : Mem) {a : Nat} (h : a < hbmTop) : readByte (clearHbm m) a = 0 := by
  rw [readByte_clearHbm, if_neg (Nat.not_le.mpr h)]

theorem readByte_clearHbm_above (m : Mem) {a : Nat} (h : hbmTop ≤ a) : readByte (clearHbm m) a = readByte m a := by
  rw [readByte_clearHbm, if_pos h]

/-! ## The order (R308 to R310, R324) -/

/-- The stacks that are degraded. -/
def degradedOf (c : Core) : List Nat := (List.range 4).filter (degraded c)

/-- The bits of the four stacks that are not degraded. -/
def healthOf (p : Nat → Bool) : Nat := (List.range 4).foldl (fun h s => putBit h s (!p s)) 0

theorem healthOf_congr {p q : Nat → Bool} (h : ∀ s < 4, p s = q s) : healthOf p = healthOf q := by
  have he (p : Nat → Bool) : healthOf p = putBit (putBit (putBit (putBit 0 0 (!p 0)) 1 (!p 1)) 2 (!p 2)) 3 (!p 3) := rfl
  rw [he, he, h 0 (by decide), h 1 (by decide), h 2 (by decide), h 3 (by decide)]

theorem healthOf_none {p : Nat → Bool} (h : (List.range 4).filter p = []) : healthOf p = 0xF := by
  have hall : ∀ s < 4, p s = false := fun s hs => Bool.eq_false_iff.mpr (List.filter_eq_nil_iff.mp h s (List.mem_range.mpr hs))
  exact (healthOf_congr (q := fun _ => false) hall).trans rfl

theorem mem_one_filtered {p : Nat → Bool} {x : Nat} (h : (List.range 4).filter p = [x]) : x < 4 ∧ ∀ s < 4, p s = decide (s = x) := by
  have hiff (s : Nat) : s < 4 ∧ p s = true ↔ s = x := by
    rw [← List.mem_range, ← List.mem_filter, h, List.mem_singleton]
  refine ⟨((hiff x).mpr rfl).1, fun s hs => ?_⟩
  rw [Bool.eq_iff_iff, decide_eq_true_iff, ← hiff s]
  simp [hs]

theorem healthOf_one {p : Nat → Bool} {x : Nat} (h : (List.range 4).filter p = [x]) : healthOf p = 0xF - 2 ^ x := by
  obtain ⟨hx, hp⟩ := mem_one_filtered h
  rw [healthOf_congr hp]
  interval_cases x <;> decide

/-- The selection of the order: ORDER, STACK_HEALTH, CAPACITY and the totals, and nothing else of the registers. -/
def orderPut (c : Core) (order cap fetch capture : Nat) : Core :=
  let c1 := wr (wr (wr (wr (wr c (hk 2) order) (hk 3) (healthOf (degraded c))) (hk 5) cap) (hk 6) fetch) (hk 8) capture
  { c1 with hbm := { c1.hbm with grain := rd c1 (hk 1), scrub := 0 } }

theorem selectOrder_none {c : Core} (h : degradedOf c = []) : selectOrder c = orderPut c 0 (2 ^ 38) 1250 250 := by
  unfold degradedOf at h
  simp only [selectOrder, h, if_true]
  rfl

theorem selectOrder_one {c : Core} {x : Nat} (h : degradedOf c = [x]) : selectOrder c = orderPut c (1 + x) (192 * 2 ^ 30) 937 187 := by
  have hx := (mem_one_filtered h).1
  have h0 : 1 + x ≠ 0 := by omega
  have hff : 1 + x ≠ 0xFF := by omega
  unfold degradedOf at h
  simp only [selectOrder, h, h0, hff, if_false]
  rfl

theorem selectOrder_many {c : Core} (h : 2 ≤ (degradedOf c).length) : selectOrder c = orderPut c 0xFF 0 0 0 := by
  unfold degradedOf at h
  match hl : (List.range 4).filter (degraded c) with
  | [] => simp [hl] at h
  | [x] => simp [hl] at h
  | x :: y :: l =>
    simp only [selectOrder, hl, if_true]
    rfl

theorem rd_orderPut (c : Core) (order cap fetch capture : Nat) (k : Key) : rd (orderPut c order cap fetch capture) k =
    if k = hk 8 then capture else if k = hk 6 then fetch else if k = hk 5 then cap else if k = hk 3 then healthOf (degraded c)
    else if k = hk 2 then order else rd c k := by
  have hput (a : Core) (b : Hbm) : rd { a with hbm := b } k = rd a k := rfl
  unfold orderPut
  rw [hput, rd_wr, rd_wr, rd_wr, rd_wr, rd_wr]

/-- The order's registers leave the stacks' ones. -/
theorem rd_orderPut_stk (c : Core) (order cap fetch capture x : Nat) {j : Nat} (hj : j < 256) :
    rd (orderPut c order cap fetch capture) (stk x j) = rd c (stk x j) := by
  have hne (i : Nat) (hi : i < 256) : stk x j ≠ hk i := (hk_ne_stk hi hj x).symm
  rw [rd_orderPut, if_neg (hne _ (by decide)), if_neg (hne _ (by decide)), if_neg (hne _ (by decide)), if_neg (hne _ (by decide)),
    if_neg (hne _ (by decide))]

theorem degradedOf_orderPut (c : Core) (order cap fetch capture : Nat) : degradedOf (orderPut c order cap fetch capture) = degradedOf c := by
  have hmask : rd (orderPut c order cap fetch capture) (hk 4) = rd c (hk 4) := by simp [rd_orderPut]
  have hone : degraded (orderPut c order cap fetch capture) = degraded c := by
    funext s
    simp only [degraded, rd_orderPut_stk _ _ _ _ _ _ (show 4 < 256 by decide), hmask]
  unfold degradedOf
  rw [hone]

/-! ## Results of the four stacks -/

/-- The registers that the results of a training write. -/
def trainKeys : List Key := [stk 0 4, stk 0 6, stk 1 4, stk 1 6, stk 2 4, stk 2 6, stk 3 4, stk 3 6]

theorem takeTraining_four (c : Core) (t0 t1 t2 t3 : StackTraining) : takeTraining c [t0, t1, t2, t3] =
    wr (wr (wr (wr (wr (wr (wr (wr c (stk 0 4) t0.failed.toNat) (stk 0 6) t0.lanes.toNat) (stk 1 4) t1.failed.toNat) (stk 1 6) t1.lanes.toNat)
      (stk 2 4) t2.failed.toNat) (stk 2 6) t2.lanes.toNat) (stk 3 4) t3.failed.toNat) (stk 3 6) t3.lanes.toNat := rfl

/-- A list of four is its four members. -/
theorem four_members {α : Type} {l : List α} (h : l.length = 4) : ∃ a b c d, l = [a, b, c, d] := by
  match l, h with
  | [a, b, c, d], _ => exact ⟨a, b, c, d, rfl⟩

/-- A property of the four members of a list, each at its place. -/
theorem four_places {α : Type} {a b c d t : α} {x : Nat} {p : Nat → α → Prop} (h : [a, b, c, d][x]? = some t) (h0 : p 0 a) (h1 : p 1 b)
    (h2 : p 2 c) (h3 : p 3 d) : p x t := by
  match x, h with
  | 0, h => exact Option.some.inj h ▸ h0
  | 1, h => exact Option.some.inj h ▸ h1
  | 2, h => exact Option.some.inj h ▸ h2
  | 3, h => exact Option.some.inj h ▸ h3

theorem rd_takeTraining {l : List StackTraining} (c : Core) (h : l.length = 4) {x : Nat} {t : StackTraining} (hx : l[x]? = some t) :
    rd (takeTraining c l) (stk x 4) = t.failed.toNat ∧ rd (takeTraining c l) (stk x 6) = t.lanes.toNat := by
  obtain ⟨a, b, d, e, rfl⟩ := four_members h
  refine four_places (p := fun x t => rd (takeTraining c [a, b, d, e]) (stk x 4) = t.failed.toNat ∧
    rd (takeTraining c [a, b, d, e]) (stk x 6) = t.lanes.toNat) hx ?_ ?_ ?_ ?_ <;>
  simp [takeTraining_four, rd_wr, stk_eq_iff]

theorem takeTraining_keeps {l : List StackTraining} (c : Core) (h : l.length = 4) : SameRegsBut trainKeys c (takeTraining c l) := by
  obtain ⟨a, b, d, e, rfl⟩ := four_members h
  intro k hk
  simp only [trainKeys, List.mem_cons, List.not_mem_nil, or_false, not_or] at hk
  rw [takeTraining_four]
  simp [rd_wr, hk]

/-- The errors of the four stacks are told (R328). -/
def takeErrors (c : Core) (l : List (BitVec 32)) : Core := (l.zip (List.range 4)).foldl (fun c e => wr c (stk e.2 5) e.1.toNat) c

theorem takeErrors_four (c : Core) (e0 e1 e2 e3 : BitVec 32) : takeErrors c [e0, e1, e2, e3] =
    wr (wr (wr (wr c (stk 0 5) e0.toNat) (stk 1 5) e1.toNat) (stk 2 5) e2.toNat) (stk 3 5) e3.toNat := rfl

theorem rd_takeErrors {l : List (BitVec 32)} (c : Core) (h : l.length = 4) {x : Nat} {e : BitVec 32} (hx : l[x]? = some e) :
    rd (takeErrors c l) (stk x 5) = e.toNat := by
  obtain ⟨a, b, d, f, rfl⟩ := four_members h
  refine four_places (p := fun x e => rd (takeErrors c [a, b, d, f]) (stk x 5) = e.toNat) hx ?_ ?_ ?_ ?_ <;>
  simp [takeErrors_four, rd_wr, stk_eq_iff]

theorem takeErrors_keeps {l : List (BitVec 32)} (c : Core) (h : l.length = 4) :
    SameRegsBut [stk 0 5, stk 1 5, stk 2 5, stk 3 5] c (takeErrors c l) := by
  obtain ⟨a, b, d, f, rfl⟩ := four_members h
  intro k hk
  simp only [List.mem_cons, List.not_mem_nil, or_false, not_or] at hk
  rw [takeErrors_four]
  simp [rd_wr, hk]

/-! ## The end of an initialisation -/

/-- The core at the end of an initialisation before its order is selected: it holds the results of a training. -/
def initTrained (c : Core) (l : List StackTraining) : Core :=
  let c1 := if c.hbm.trained then c else takeTraining c l
  { c1 with hbm := { c1.hbm with trained := true } }

theorem initComplete_idle {m : Mem} {c : Core} (l : List StackTraining) (h : rd c (hk 0x16) ≠ 1) : initComplete m c l = (m, c) := if_pos h

/-- The core at the end of an initialisation: an order, and INIT_STATE 2. -/
def initEnded (c : Core) (l : List StackTraining) : Core := wr (selectOrder (initTrained c l)) (hk 0x16) 2

theorem initComplete_runs (m : Mem) {c : Core} (l : List StackTraining) (h : rd c (hk 0x16) = 1) :
    initComplete m c l = (if rd (initEnded c l) (hk 2) = 0xFF then m else clearHbm m, initEnded c l) := if_neg (not_not.mpr h)

theorem rd_initEnded_ne (c : Core) (l : List StackTraining) {k : Key} (h : k ≠ hk 0x16) :
    rd (initEnded c l) k = rd (selectOrder (initTrained c l)) k := rd_wr_ne _ _ h

theorem selectOrder_put (c : Core) : ∃ order cap fetch capture, selectOrder c = orderPut c order cap fetch capture := by
  match h : degradedOf c with
  | [] => exact ⟨_, _, _, _, selectOrder_none h⟩
  | [x] => exact ⟨_, _, _, _, selectOrder_one h⟩
  | x :: y :: l => exact ⟨_, _, _, _, selectOrder_many (by simp [h])⟩

/-- The end of an initialisation leaves the stacks' registers as the training gave them. -/
theorem rd_initEnded_stk (c : Core) (l : List StackTraining) (x : Nat) {j : Nat} (hj : j < 256) :
    rd (initEnded c l) (stk x j) = rd (initTrained c l) (stk x j) := by
  obtain ⟨order, cap, fetch, capture, he⟩ := selectOrder_put (initTrained c l)
  rw [rd_initEnded_ne c l (hk_ne_stk (by decide) hj x).symm, he, rd_orderPut_stk _ _ _ _ _ _ hj]

theorem degradedOf_initEnded (c : Core) (l : List StackTraining) : degradedOf (initEnded c l) = degradedOf (initTrained c l) := by
  obtain ⟨order, cap, fetch, capture, he⟩ := selectOrder_put (initTrained c l)
  have hmask : rd (initEnded c l) (hk 4) = rd (initTrained c l) (hk 4) := by
    rw [rd_initEnded_ne c l (by simp), he]
    simp [rd_orderPut]
  have hone : degraded (initEnded c l) = degraded (initTrained c l) := by
    funext s
    simp only [degraded, rd_initEnded_stk c l s (show 4 < 256 by decide), hmask]
  unfold degradedOf
  rw [hone]

/-- ORDER, STACK_HEALTH, CAPACITY, FETCH_TOTAL and CAPTURE_TOTAL after an initialisation without a degraded stack. -/
theorem initEnded_none {c : Core} {l : List StackTraining} (h : degradedOf (initEnded c l) = []) :
    rd (initEnded c l) (hk 2) = 0 ∧ rd (initEnded c l) (hk 3) = 0xF ∧ rd (initEnded c l) (hk 5) = 2 ^ 38 ∧ rd (initEnded c l) (hk 6) = 1250 ∧
      rd (initEnded c l) (hk 8) = 250 := by
  rw [degradedOf_initEnded] at h
  have hhealth := healthOf_none h
  simp [rd_initEnded_ne, selectOrder_none h, rd_orderPut, hhealth]

theorem initEnded_one {c : Core} {l : List StackTraining} {x : Nat} (h : degradedOf (initEnded c l) = [x]) :
    rd (initEnded c l) (hk 2) = 1 + x ∧ rd (initEnded c l) (hk 3) = 0xF - 2 ^ x ∧ rd (initEnded c l) (hk 5) = 192 * 2 ^ 30 ∧
      rd (initEnded c l) (hk 6) = 937 ∧ rd (initEnded c l) (hk 8) = 187 := by
  rw [degradedOf_initEnded] at h
  have hhealth := healthOf_one h
  simp [rd_initEnded_ne, selectOrder_one h, rd_orderPut, hhealth]

theorem initEnded_many {c : Core} {l : List StackTraining} (h : 2 ≤ (degradedOf (initEnded c l)).length) :
    rd (initEnded c l) (hk 2) = 0xFF ∧ rd (initEnded c l) (hk 5) = 0 := by
  rw [degradedOf_initEnded] at h
  simp [rd_initEnded_ne, selectOrder_many h, rd_orderPut]

/-- ORDER reads FAILED only where two or more stacks are degraded. -/
theorem initEnded_ordered {c : Core} {l : List StackTraining} (h : (degradedOf (initEnded c l)).length < 2) :
    rd (initEnded c l) (hk 2) ≠ 0xFF := by
  match hl : degradedOf (initEnded c l) with
  | [] => simp [(initEnded_none hl).1]
  | [x] =>
    have hx := (mem_one_filtered hl).1
    rw [(initEnded_one hl).1]
    omega
  | x :: y :: r => simp [hl] at h

theorem initEnded_training {c : Core} {l : List StackTraining} (ht : c.hbm.trained = false) (hl : l.length = 4) {x : Nat} {t : StackTraining}
    (hx : l[x]? = some t) : rd (initEnded c l) (stk x 4) = t.failed.toNat ∧ rd (initEnded c l) (stk x 6) = t.lanes.toNat := by
  have htrained (k : Key) : rd (initTrained c l) k = rd (takeTraining c l) k := by simp only [initTrained, ht]; rfl
  rw [rd_initEnded_stk c l x (by decide), rd_initEnded_stk c l x (by decide), htrained, htrained]
  exact rd_takeTraining c hl hx

/-- Settles O50: the initialisation by its degraded stacks, the writes by their checks, the completions by their branches. -/
theorem memoryInitialisationAndTests : Obligations.MemoryInitialisationAndTests := by
  unfold Obligations.MemoryInitialisationAndTests
  refine ⟨?init, ?reinit, ?start, ?train, ?test, ?done⟩
  case init =>
    intro s l
    refine ⟨rfl, fun h => initComplete_idle l h, fun h => ?_⟩
    rw [initComplete_runs s.mem l h]
    refine ⟨rd_wr_same _ _ _, fun a ha => ?_, initEnded_none, fun x => initEnded_one, fun hmany => ?_, fun hfew => ?_,
      fun ht hl x t hx => initEnded_training ht hl hx⟩
    · dsimp only
      split
      · rfl
      · exact readByte_clearHbm_above s.mem ha
    · obtain ⟨horder, hcap⟩ := initEnded_many hmany
      exact ⟨horder, hcap, if_pos horder⟩
    · rw [if_neg (initEnded_ordered hfew)]
      exact ⟨fun a => readByte_clearHbm_below s.mem, rfl, rfl⟩
  case reinit =>
    intro s ho hm
    refine ⟨fun hi ht => ?_, fun hbusy => ?_⟩
    · exact accepts_scalar (eff := effW writeReinit) rfl (writeFail_hk (by decide) objIs_reinit ho hm) (closedTo_hk (by decide) ho)
        (by simp [effW, effA, writeReinit, answer_guardSt, hi, ht, startInit])
    · refine makes_effW_error (f := writeReinit) rfl (writeFail_hk (by decide) objIs_reinit ho hm) (closedTo_hk (by decide) ho) ?_
      exact if_neg (by rcases hbusy with h | h <;> simp [h])
  case start =>
    intro s ho hm
    exact accepts_scalar (eff := effW writeTrainStart) rfl (writeFail_hk (by decide) objIs_trainStart ho hm) (closedTo_hk (by decide) ho) rfl
  case train =>
    refine fun s l => ⟨fun h => makes_didC rfl (if_pos (by simp [h])), fun ht hl => ?_⟩
    refine ⟨_, makes_didC rfl (if_neg (by simp [ht])), rfl, rd_wr_same _ _ _, fun x t hx => ?_, fun k hk => ?_⟩
    · obtain ⟨hf, hla⟩ := rd_takeTraining s.core hl hx
      exact ⟨(rd_wr_ne _ _ (hk_ne_stk (by decide) (by decide) x).symm).trans hf,
        (rd_wr_ne _ _ (hk_ne_stk (by decide) (by decide) x).symm).trans hla⟩
    · rw [List.mem_cons, not_or] at hk
      exact (rd_wr_ne _ _ hk.1).trans (takeTraining_keeps s.core hl k hk.2)
  case test =>
    intro s ho hm
    refine ⟨fun ht hi => ⟨?_, fun a => readByte_clearHbm_below s.mem, fun a => readByte_clearHbm_above s.mem⟩, fun h => ?_⟩
    · exact gives_wrote (eff := writeMemTest) rfl (writeFail_hk (by decide) objIs_memTest ho hm) (closedTo_hk (by decide) ho)
        (if_neg (by simp [ht, hi]))
    · exact gives_wrote (eff := writeMemTest) rfl (writeFail_hk (by decide) objIs_memTest ho hm) (closedTo_hk (by decide) ho) (if_pos h)
  case done =>
    refine fun s l => ⟨fun h => gives_did (q := (s.mem, s.core)) rfl (if_pos h), fun ht hl => ?_⟩
    refine ⟨_, gives_did (q := (_, wr (takeErrors s.core l) (hk 0x15) _)) rfl (if_neg (not_not.mpr ht)), rd_wr_same _ _ _, fun x e hx => ?_, fun k hk => ?_⟩
    · exact (rd_wr_ne _ _ (hk_ne_stk (by decide) (by decide) x).symm).trans (rd_takeErrors s.core hl hx)
    · rw [List.mem_cons, not_or] at hk
      exact (rd_wr_ne _ _ hk.1).trans (takeErrors_keeps s.core hl k hk.2)

end Sys2Proof.Machine
end

section
/-!
The controller code over a unit: one wrong symbol of the 72 is found and mended (R317, R320, Table 11-1).
-/
namespace Sys2Proof.Machine

/-! ## Multiplication by alpha -/

theorem testBit_seven {a : Nat} (ha : a < 256) : a.testBit 7 = decide (128 ≤ a) := by
  rw [Nat.testBit_eq_decide_div_mod_eq]
  refine decide_eq_decide.mpr ?_
  omega

/-- A double is a shift, reduced where bit 7 was set. -/
theorem gfDouble_eq {a : Nat} (ha : a < 256) : gfDouble a = 2 * a ^^^ (if a.testBit 7 then 0x11D else 0) := by
  simp only [gfDouble, testBit_seven ha, decide_eq_true_eq]
  by_cases h : a < 128
  · rw [if_pos h, if_neg (by omega), Nat.xor_zero]
  · rw [if_neg h, if_pos (by omega)]

theorem gfDouble_lt {a : Nat} (ha : a < 256) : gfDouble a < 256 := by
  refine Nat.lt_pow_two_of_testBit (n := 8) _ fun i hi => ?_
  rw [gfDouble_eq ha, Nat.testBit_xor]
  rcases Nat.eq_or_lt_of_le hi with rfl | hlt
  · have h2 : (2 * a).testBit 8 = a.testBit 7 := by rw [Nat.testBit_succ, Nat.mul_div_cancel_left a (by decide)]
    rw [h2]
    cases a.testBit 7 <;> rfl
  · have h9 : 2 ^ 9 ≤ 2 ^ i := Nat.pow_le_pow_right (by decide) hlt
    rw [Nat.testBit_lt_two_pow (by omega), Bool.false_xor]
    refine Nat.testBit_lt_two_pow ?_
    split <;> omega

theorem two_mul_xor (a b : Nat) : 2 * (a ^^^ b) = 2 * a ^^^ 2 * b := by
  have h := Nat.shiftLeft_xor_distrib (a := a) (b := b) (i := 1)
  simpa [Nat.shiftLeft_eq, Nat.mul_comm] using h

theorem gfDouble_xor {a b : Nat} (ha : a < 256) (hb : b < 256) : gfDouble (a ^^^ b) = gfDouble a ^^^ gfDouble b := by
  rw [gfDouble_eq ha, gfDouble_eq hb, gfDouble_eq (Nat.xor_lt_two_pow (n := 8) ha hb), two_mul_xor, Nat.testBit_xor]
  cases a.testBit 7 <;> cases b.testBit 7 <;> simp [Nat.xor_assoc, Nat.xor_comm, Nat.xor_left_comm]

theorem gfDouble_iterate_lt {a : Nat} (ha : a < 256) (n : Nat) : gfDouble^[n] a < 256 := by
  induction n with
  | zero => exact ha
  | succ n ih => rw [Function.iterate_succ_apply']; exact gfDouble_lt ih

theorem gfDouble_iterate_xor {a b : Nat} (ha : a < 256) (hb : b < 256) (n : Nat) :
    gfDouble^[n] (a ^^^ b) = gfDouble^[n] a ^^^ gfDouble^[n] b := by
  induction n with
  | zero => rfl
  | succ n ih =>
    rw [Function.iterate_succ_apply', Function.iterate_succ_apply', Function.iterate_succ_apply', ih,
      gfDouble_xor (gfDouble_iterate_lt ha n) (gfDouble_iterate_lt hb n)]

/-- Only 0 doubles to 0, and doubling adds. -/
theorem gfDouble_injective {a b : Nat} (ha : a < 256) (hb : b < 256) (h : gfDouble a = gfDouble b) : a = b := by
  have hx := Nat.xor_lt_two_pow (n := 8) ha hb
  have hzero : gfDouble (a ^^^ b) = 0 := by rw [gfDouble_xor ha hb, h, Nat.xor_self]
  refine Nat.xor_eq_zero_iff.mp ?_
  rw [gfDouble_eq hx] at hzero
  have heq := Nat.xor_eq_zero_iff.mp hzero
  split at heq <;> omega

theorem gfDouble_iterate_injective {a b : Nat} (ha : a < 256) (hb : b < 256) (n : Nat) (h : gfDouble^[n] a = gfDouble^[n] b) : a = b := by
  induction n with
  | zero => exact h
  | succ n ih =>
    rw [Function.iterate_succ_apply', Function.iterate_succ_apply'] at h
    exact ih (gfDouble_injective (gfDouble_iterate_lt ha n) (gfDouble_iterate_lt hb n) h)

/-! ## Products -/

theorem gfTimes_lt {a : Nat} (ha : a < 256) (n b : Nat) : gfTimes n a b < 256 := by
  induction n generalizing a b with
  | zero => exact Nat.zero_lt_succ 255
  | succ n ih =>
    refine Nat.xor_lt_two_pow (n := 8) ?_ (ih (gfDouble_lt ha) _)
    split
    · exact ha
    · decide

theorem gfTimes_xor {a a' : Nat} (ha : a < 256) (ha' : a' < 256) (n b : Nat) :
    gfTimes n (a ^^^ a') b = gfTimes n a b ^^^ gfTimes n a' b := by
  induction n generalizing a a' b with
  | zero => exact (Nat.xor_self 0).symm
  | succ n ih =>
    simp only [gfTimes, gfDouble_xor ha ha', ih (gfDouble_lt ha) (gfDouble_lt ha')]
    split <;> simp only [Nat.zero_xor, Nat.xor_assoc, Nat.xor_left_comm]

theorem xor_top_lt {a k : Nat} (hlo : 2 ^ k ≤ a) (hhi : a < 2 ^ (k + 1)) : a ^^^ 2 ^ k < 2 ^ k := by
  refine Nat.lt_pow_two_of_testBit _ fun i hi => ?_
  rw [Nat.testBit_xor, Nat.testBit_two_pow]
  rcases Nat.eq_or_lt_of_le hi with rfl | hlt
  · simp [Nat.testBit_of_two_pow_le_and_two_pow_add_one_gt hlo hhi]
  · simp [Nat.testBit_lt_two_pow (hhi.trans_le (Nat.pow_le_pow_right (by decide) hlt)), hlt.ne]

/-- Two additive functions of a byte that agree on the powers of two agree. -/
theorem additive_ext {f g : Nat → Nat} (hf : ∀ a b, a < 256 → b < 256 → f (a ^^^ b) = f a ^^^ f b)
    (hg : ∀ a b, a < 256 → b < 256 → g (a ^^^ b) = g a ^^^ g b) (h : ∀ t < 8, f (2 ^ t) = g (2 ^ t)) :
    ∀ k ≤ 8, ∀ a < 2 ^ k, f a = g a := by
  intro k
  induction k with
  | zero =>
    intro _ a ha
    have h0 : a = 0 := by omega
    have hf0 := hf 0 0 (by decide) (by decide)
    have hg0 := hg 0 0 (by decide) (by decide)
    simp only [Nat.xor_self] at hf0 hg0
    rw [h0, hf0, hg0]
  | succ k ih =>
    intro hk a ha
    by_cases hlo : a < 2 ^ k
    · exact ih (by omega) a hlo
    · have hx := xor_top_lt (Nat.not_lt.mp hlo) ha
      have htop : 2 ^ k < 256 := Nat.pow_lt_pow_right (n := 8) (by decide) (by omega)
      have ha' : a = (a ^^^ 2 ^ k) ^^^ 2 ^ k := by simp
      rw [ha', hf _ _ (hx.trans htop) htop, hg _ _ (hx.trans htop) htop, ih (by omega) _ hx, h k (by omega)]

theorem gfTimes_xor_right (n a b b' : Nat) : gfTimes n a (b ^^^ b') = gfTimes n a b ^^^ gfTimes n a b' := by
  induction n generalizing a b b' with
  | zero => exact (Nat.xor_self 0).symm
  | succ n ih =>
    have hdiv : (b ^^^ b') / 2 = b / 2 ^^^ b' / 2 := by
      refine Nat.eq_of_testBit_eq fun i => ?_
      simp only [Nat.testBit_xor, Nat.testBit_div_two]
    simp only [gfTimes, hdiv, ih, Nat.xor_mod_two_eq]
    rcases Nat.mod_two_eq_zero_or_one b with hb | hb <;> rcases Nat.mod_two_eq_zero_or_one b' with hb' | hb' <;>
      simp [Nat.add_mod, hb, hb', Nat.xor_assoc, Nat.xor_left_comm]

/-- A product doubles with either factor. -/
theorem gfMul_gfDouble {a b : Nat} (ha : a < 256) (hb : b < 256) : gfMul a (gfDouble b) = gfDouble (gfMul a b) := by
  have hbasis : ∀ s < 8, ∀ t < 8, gfMul (2 ^ s) (gfDouble (2 ^ t)) = gfDouble (gfMul (2 ^ s) (2 ^ t)) := by decide
  refine additive_ext (f := fun a => gfMul a (gfDouble b)) (g := fun a => gfDouble (gfMul a b)) (fun x y hx hy => gfTimes_xor hx hy 8 _)
    (fun x y hx hy => ?_) (fun s hs => ?_) 8 (le_refl 8) a ha
  · exact (congrArg gfDouble (gfTimes_xor hx hy 8 b)).trans (gfDouble_xor (gfTimes_lt hx 8 b) (gfTimes_lt hy 8 b))
  · have hs256 : 2 ^ s < 256 := Nat.pow_lt_pow_right (n := 8) (by decide) hs
    refine additive_ext (f := fun b => gfMul (2 ^ s) (gfDouble b)) (g := fun b => gfDouble (gfMul (2 ^ s) b)) (fun x y hx hy => ?_)
      (fun x y hx hy => ?_) (hbasis s hs) 8 (le_refl 8) b hb
    · exact (congrArg (gfMul _) (gfDouble_xor hx hy)).trans (gfTimes_xor_right 8 _ _ _)
    · exact (congrArg gfDouble (gfTimes_xor_right 8 _ x y)).trans (gfDouble_xor (gfTimes_lt hs256 8 x) (gfTimes_lt hs256 8 y))

theorem gfMul_one {a : Nat} (ha : a < 256) : gfMul a 1 = a := by
  have hbasis : ∀ t < 8, gfMul (2 ^ t) 1 = 2 ^ t := by decide
  exact additive_ext (f := fun a => gfMul a 1) (g := id) (fun x y hx hy => gfTimes_xor hx hy 8 _) (fun _ _ _ _ => rfl) hbasis 8 (le_refl 8) a ha

theorem gfAlpha_eq (i : Nat) : gfAlpha i = gfDouble^[i] 1 := by
  induction i with
  | zero => rfl
  | succ i ih => rw [gfAlpha, ih, Function.iterate_succ_apply']

/-- A product by a power of alpha is that many doublings. -/
theorem gfMul_alpha {a : Nat} (ha : a < 256) (i : Nat) : gfMul a (gfAlpha i) = gfDouble^[i] a := by
  induction i with
  | zero => exact gfMul_one ha
  | succ i ih =>
    rw [gfAlpha, gfMul_gfDouble ha (gfAlpha_eq i ▸ gfDouble_iterate_lt (by decide) i), ih, Function.iterate_succ_apply']

/-! ## The order of alpha -/

theorem gfMul_zero (c : Nat) : gfMul 0 c = 0 := by
  have h := gfTimes_xor (a := 0) (a' := 0) (by decide) (by decide) 8 c
  simpa [gfMul] using h

/-- A power of alpha plus 1 that has an inverse keeps no symbol but 0. -/
theorem zero_of_fixed {r c : Nat} (hc : ∀ t < 8, gfMul (gfDouble^[r] (2 ^ t) ^^^ 2 ^ t) c = 2 ^ t) {e : Nat} (he : e < 256)
    (hfix : gfDouble^[r] e = e) : e = 0 := by
  have hinv : gfMul (gfDouble^[r] e ^^^ e) c = e := by
    refine additive_ext (f := fun e => gfMul (gfDouble^[r] e ^^^ e) c) (g := id) (fun x y hx hy => ?_) (fun _ _ _ _ => rfl) hc 8 (le_refl 8) e he
    have hsum : gfDouble^[r] (x ^^^ y) ^^^ (x ^^^ y) = (gfDouble^[r] x ^^^ x) ^^^ (gfDouble^[r] y ^^^ y) := by
      rw [gfDouble_iterate_xor hx hy]
      simp only [Nat.xor_assoc, Nat.xor_left_comm]
    rw [hsum]
    exact gfTimes_xor (Nat.xor_lt_two_pow (n := 8) (gfDouble_iterate_lt hx r) hx) (Nat.xor_lt_two_pow (n := 8) (gfDouble_iterate_lt hy r) hy) 8 c
  rw [← hinv, hfix, Nat.xor_self, gfMul_zero]

set_option maxRecDepth 20000 in
theorem gfDouble_period {e : Nat} (he : e < 256) : gfDouble^[255] e = e := by
  have hbasis : ∀ t < 8, gfDouble^[255] (2 ^ t) = 2 ^ t := by decide
  exact additive_ext (f := gfDouble^[255]) (g := id) (fun x y hx hy => gfDouble_iterate_xor hx hy 255) (fun _ _ _ _ => rfl) hbasis 8 (le_refl 8)
    e he

set_option maxRecDepth 20000 in
/-- alpha has order 255 = 3 * 5 * 17, so no power of it below the 72nd returns a symbol but 0 to itself: such a power would divide the
51st or the 15th. -/
theorem gfDouble_iterate_ne {e r : Nat} (h0 : 0 < e) (he : e < 256) (hr : 0 < r) (hr72 : r < 72) : gfDouble^[r] e ≠ e := by
  intro h
  have h51 : ∀ t < 8, gfMul (gfDouble^[51] (2 ^ t) ^^^ 2 ^ t) 152 = 2 ^ t := by decide
  have h15 : ∀ t < 8, gfMul (gfDouble^[15] (2 ^ t) ^^^ 2 ^ t) 138 = 2 ^ t := by decide
  have hgcd : ∀ r < 72, 0 < r → Nat.gcd r 255 ∣ 51 ∨ Nat.gcd r 255 ∣ 15 := by decide
  have hper : Function.IsPeriodicPt gfDouble (Nat.gcd r 255) e := Function.IsPeriodicPt.gcd h (gfDouble_period he)
  rcases hgcd r hr72 hr with hd | hd
  · exact absurd (zero_of_fixed h51 he (hper.trans_dvd hd)) h0.ne'
  · exact absurd (zero_of_fixed h15 he (hper.trans_dvd hd)) h0.ne'

theorem power_unique {e p q : Nat} (h0 : 0 < e) (he : e < 256) (hp : p < q) (hq : q < 72) : gfDouble^[p] e ≠ gfDouble^[q] e := by
  intro h
  refine gfDouble_iterate_ne h0 he (r := q - p) (by omega) (by omega)
    (gfDouble_iterate_injective (gfDouble_iterate_lt he _) he p ?_)
  rw [← Function.iterate_add_apply, Nat.add_sub_cancel' hp.le, h]

/-! ## Syndromes -/

/-- One symbol enters syndrome k. -/
def syndromeStep (k s x : Nat) : Nat := gfMul s (gfAlpha k) ^^^ x

theorem syndromeStep_lt {k s x : Nat} (hs : s < 256) (hx : x < 256) : syndromeStep k s x < 256 :=
  Nat.xor_lt_two_pow (n := 8) (gfTimes_lt hs 8 _) hx

/-- A difference before the symbols of a list is multiplied at each of them. -/
theorem foldl_syndromeStep_xor {k s d : Nat} {l : List Nat} (hs : s < 256) (hd : d < 256) (hl : ∀ x ∈ l, x < 256) :
    l.foldl (syndromeStep k) (s ^^^ d) = l.foldl (syndromeStep k) s ^^^ gfDouble^[k * l.length] d := by
  induction l generalizing s d with
  | nil => rfl
  | cons x xs ih =>
    have hstep : syndromeStep k (s ^^^ d) x = syndromeStep k s x ^^^ gfDouble^[k] d := by
      simp only [syndromeStep, gfMul, gfTimes_xor hs hd]
      rw [← gfMul, ← gfMul, gfMul_alpha hd]
      simp only [Nat.xor_assoc, Nat.xor_comm (gfDouble^[k] d)]
    rw [List.foldl_cons, List.foldl_cons, hstep,
      ih (syndromeStep_lt hs (hl x (by simp))) (gfDouble_iterate_lt hd k) fun y hy => hl y (by simp [hy]),
      ← Function.iterate_add_apply]
    rfl

/-- An error of a symbol enters a syndrome by the power of its place. -/
theorem foldl_syndromeStep_addError {k s i e : Nat} {l : List Nat} (hs : s < 256) (he : e < 256) (hl : ∀ x ∈ l, x < 256)
    (hi : i < l.length) : (addError l (i, e)).foldl (syndromeStep k) s = l.foldl (syndromeStep k) s ^^^ gfDouble^[k * (l.length - 1 - i)] e := by
  induction l generalizing s i with
  | nil => simp at hi
  | cons x xs ih =>
    have hxs : ∀ y ∈ xs, y < 256 := fun y hy => hl y (by simp [hy])
    have hx := syndromeStep_lt (k := k) hs (hl x (by simp))
    cases i with
    | zero =>
      have hstep : syndromeStep k s (x ^^^ e) = syndromeStep k s x ^^^ e := by simp only [syndromeStep, Nat.xor_assoc]
      simp only [addError, List.modify_zero_cons, List.foldl_cons, hstep, foldl_syndromeStep_xor hx he hxs, List.length_cons,
        Nat.add_sub_cancel, Nat.sub_zero]
    | succ i =>
      simp only [addError, List.modify_succ_cons, List.foldl_cons]
      simp only [List.length_cons] at hi
      rw [← addError.eq_1 xs (i, e), ih hx hxs (by omega), List.length_cons]
      congr 3
      omega

theorem syndrome_addError {k i e : Nat} {l : List Nat} (he : e < 256) (hl : ∀ x ∈ l, x < 256) (hi : i < l.length)
    (h : syndrome k l = 0) : syndrome k (addError l (i, e)) = gfDouble^[k * (l.length - 1 - i)] e := by
  have ht := foldl_syndromeStep_addError (k := k) (s := 0) (by decide) he hl hi
  change syndrome k _ = syndrome k l ^^^ _ at ht
  rw [ht, h, Nat.zero_xor]

/-! ## The decoder -/

theorem decodeWord_clean {l : List Nat} (h : ∀ k < 4, syndrome k l = 0) : decodeWord l = .clean := by
  have hall : ((List.range 4).map (fun i => syndrome i l)).all (· == 0) = true := by
    simp only [List.all_map, List.all_eq_true, List.mem_range]
    intro k hk
    simp [h k hk]
  simp only [decodeWord, hall, if_true]

/-- The decoder's test of a place. -/
def placeFits (s : List Nat) (p : Nat) : Bool :=
  (List.range 3).all (fun i => s.getD (i + 1) 0 == gfMul (s.getD i 0) (gfAlpha p)) && s.getD 0 0 != 0

theorem decodeWord_dirty {l : List Nat} (h : syndrome 0 l ≠ 0) : decodeWord l =
    match (List.range 72).find? (placeFits ((List.range 4).map (fun i => syndrome i l))) with
    | some p => .one (71 - p) (syndrome 0 l)
    | none => .detected := by
  have hall : ((List.range 4).map (fun i => syndrome i l)).all (· == 0) = false := by
    simp [List.range_succ, h]
  simp only [decodeWord, hall, Bool.false_eq_true, if_false]
  rfl

/-- One wrong symbol's syndromes fit its own place and no other. -/
theorem placeFits_iff {s : List Nat} {e m p : Nat} (h0 : 0 < e) (he : e < 256) (hm : m < 72) (hp : p < 72)
    (hs : ∀ k < 4, s.getD k 0 = gfDouble^[k * m] e) : placeFits s p = true ↔ p = m := by
  have hs0 : s.getD 0 0 = e := (hs 0 (by decide)).trans (by rw [Nat.zero_mul]; rfl)
  have hfit : placeFits s p = true ↔ ∀ i < 3, gfDouble^[(i + 1) * m] e = gfDouble^[p] (gfDouble^[i * m] e) := by
    simp only [placeFits, hs0, Bool.and_eq_true, List.all_eq_true, List.mem_range, bne_iff_ne, beq_iff_eq]
    refine ⟨fun h i hi => ?_, fun h => ⟨fun i hi => ?_, h0.ne'⟩⟩
    · rw [← hs (i + 1) (by omega), h.1 i hi, hs i (by omega), gfMul_alpha (gfDouble_iterate_lt he _)]
    · rw [hs (i + 1) (by omega), hs i (by omega), gfMul_alpha (gfDouble_iterate_lt he _), h i hi]
  rw [hfit]
  constructor
  · intro h
    have h1 := h 0 (by decide)
    simp only [Nat.zero_add, Nat.one_mul, Nat.zero_mul, Function.iterate_zero, id_eq] at h1
    rcases Nat.lt_trichotomy p m with hlt | heq | hgt
    · exact absurd h1.symm (power_unique h0 he hlt hm)
    · exact heq
    · exact absurd h1 (power_unique h0 he hgt hp)
  · rintro rfl i _
    rw [← Function.iterate_add_apply, Nat.add_mul, Nat.one_mul, Nat.add_comm]

theorem find?_range_unique {n m : Nat} {f : Nat → Bool} (hm : m < n) (h : ∀ p < n, (f p = true ↔ p = m)) : (List.range n).find? f = some m := by
  rw [List.find?_range_eq_some]
  refine ⟨(h m hm).mpr rfl, List.mem_range.mpr hm, fun j hj => ?_⟩
  have hj' := h j (hj.trans hm)
  simp only [Bool.not_eq_true', Bool.eq_false_iff, ne_eq, hj']
  omega

/-- The code finds one wrong symbol. -/
theorem decodeWord_addError {l : List Nat} {i e : Nat} (hlen : l.length = 72) (hl : ∀ x ∈ l, x < 256) (hsyn : ∀ k < 4, syndrome k l = 0)
    (hi : i < 72) (h0 : 0 < e) (he : e < 256) : decodeWord (addError l (i, e)) = .one i e := by
  have hs (k : Nat) (hk : k < 4) : syndrome k (addError l (i, e)) = gfDouble^[k * (71 - i)] e := by
    have := syndrome_addError he hl (hlen ▸ hi) (hsyn k hk)
    rwa [hlen] at this
  have hs0 : syndrome 0 (addError l (i, e)) = e := (hs 0 (by decide)).trans (by rw [Nat.zero_mul]; rfl)
  have hfind : (List.range 72).find? (placeFits ((List.range 4).map (fun k => syndrome k (addError l (i, e))))) = some (71 - i) := by
    refine find?_range_unique (by omega) fun p hp => placeFits_iff h0 he (by omega) hp fun k hk => ?_
    rw [← hs k hk]
    simp [hk]
  rw [decodeWord_dirty (by omega), hfind, hs0]
  simp only [Nat.sub_sub_self (show i ≤ 71 by omega)]

theorem corrected_addError {l : List Nat} {i e : Nat} (hlen : l.length = 72) (hl : ∀ x ∈ l, x < 256) (hsyn : ∀ k < 4, syndrome k l = 0)
    (hi : i < 72) (h0 : 0 < e) (he : e < 256) : corrected (addError l (i, e)) = l := by
  have hxx : (fun x : Nat => x ^^^ e) ∘ (fun x => x ^^^ e) = id := by
    funext x
    simp
  rw [corrected, decodeWord_addError hlen hl hsyn hi h0 he]
  simp only [addError, List.modify_modify_eq, hxx, List.modify_id]

end Sys2Proof.Machine
end

section
/-!
The HBM's power states, its refresh and scrub, its open rows and the round-robin of the best-effort requests (R312, R315 to R317, R320 to
R323, R327).
-/
namespace Sys2Proof.Machine

/-! ## Power states and refresh -/

theorem powerDownEntry_idle {c : Core} {p : Nat} (hact : hbmActive c = true) (hidle : rd c (hk 0xA) ≠ 0) (hsr : rd c (stk (p / 32) 3) = 0) :
    powerDownEntry c p = { c with hbm := { c.hbm with powerDown := setBit c.hbm.powerDown p } } := if_pos ⟨hact, hidle, hsr⟩

theorem powerDownEntry_stays {c : Core} {p : Nat} (h : hbmActive c = false ∨ rd c (hk 0xA) = 0 ∨ rd c (stk (p / 32) 3) ≠ 0) :
    powerDownEntry c p = c := by
  refine if_neg fun ⟨hact, hidle, hsr⟩ => ?_
  rcases h with h | h | h
  · simp [h] at hact
  · exact hidle h
  · exact h hsr

/-- Whether a Weaver is ARMED, RUNNING or HOLDING. -/
def weaverBusy (c : Core) : Bool := (List.range 64).any (fun w => wState c w == 1 || wState c w == 2 || wState c w == 3)

theorem weaverBusy_iff (c : Core) : weaverBusy c = true ↔ ∃ w < 64, wState c w = 1 ∨ wState c w = 2 ∨ wState c w = 3 := by
  simp only [weaverBusy, List.any_eq_true, List.mem_range, Bool.or_eq_true, beq_iff_eq, or_assoc]

theorem weaverBusy_idle {c : Core} (h : ∀ w < 64, wState c w = 0 ∨ wState c w = 4) : weaverBusy c = false := by
  rw [Bool.eq_false_iff, ne_eq, weaverBusy_iff]
  rintro ⟨w, hw, hbusy⟩
  rcases h w hw with h | h <;> omega

theorem selfRefreshEntry_idle {c : Core} {x : Nat} (hact : hbmActive c = true) (hidle : rd c (hk 0xB) ≠ 0) (hw : weaverBusy c = false) :
    selfRefreshEntry c x = wr c (stk x 3) 1 := if_pos ⟨hact, hidle, by rw [← weaverBusy, hw]; rfl⟩

theorem selfRefreshEntry_stays {c : Core} {x : Nat} (h : hbmActive c = false ∨ rd c (hk 0xB) = 0 ∨ weaverBusy c = true) :
    selfRefreshEntry c x = c := by
  refine if_neg fun ⟨hact, hidle, hw⟩ => ?_
  rw [← weaverBusy] at hw
  rcases h with h | h | h
  · simp [h] at hact
  · exact hidle h
  · simp [h] at hw

theorem refreshStack_says (c : Core) {x : Nat} (t : Int) :
    rd (refreshStack c x t) (stk x 1) = ofSigned 32 t ∧
    (hbmActive c = true → rd (refreshStack c x t) (stk x 2) = (if 85000 < t then 1 else 0)) ∧
    (hbmActive c = false → rd (refreshStack c x t) (stk x 2) = rd c (stk x 2)) ∧ SameRegsBut [stk x 1, stk x 2] c (refreshStack c x t) := by
  have h12 : stk x 1 ≠ stk x 2 := by simp [stk_eq_iff]
  unfold refreshStack
  cases hact : hbmActive c with
  | true =>
    rw [if_pos rfl]
    refine ⟨by rw [rd_wr_ne _ _ h12, rd_wr_same], fun _ => rd_wr_same .., fun h => absurd h (by decide), ?_⟩
    exact (sameRegsBut_wr c _ (by simp)).trans (sameRegsBut_wr _ _ (by simp))
  | false =>
    rw [if_neg (by decide)]
    exact ⟨rd_wr_same .., fun h => absurd h (by decide), fun _ => rd_wr_ne _ _ h12.symm, sameRegsBut_wr c _ (by simp)⟩

/-! ## Errors -/

theorem stackOf_healthy (c : Core) (a : Nat) : stackOf c a < 256 := by
  simp only [stackOf, placeOf]
  split
  · omega
  · have hmem (l : List Nat) (hl : ∀ x ∈ l, x < 4) (i : Nat) : l[i]?.getD 0 < 4 := by
      rcases lt_or_ge i l.length with hi | hi
      · simpa [hi] using hl _ (List.getElem_mem hi)
      · simp [hi]
    have h := hmem ((List.range 4).filter (fun s => s + 1 != rd c (hk 2))) (fun x hx => by simpa using (List.mem_filter.mp hx).1)
      (a / 4096 % 96 % 3)
    omega

/-- The block with a corrected error counted. -/
def ceCounted (c : Core) (s : Nat) : Core := tallyEvent (bump (bump c (hk 0xE)) (stk s 7)) 0xE2

theorem ceMet_eq (c : Core) (u : Nat) :
    ceMet c u = raise (ceCounted c (stackOf c (64 * u))) (232 + stackOf c (64 * u)) 1 (64 * u) := rfl

theorem rd_ceCounted (c : Core) (s : Nat) : rd (ceCounted c s) (hk 0xE) = (rd c (hk 0xE) + 1) % 2 ^ 64 ∧
    rd (ceCounted c s) (stk s 7) = (rd c (stk s 7) + 1) % 2 ^ 64 := by
  have hrd (k : Key) : rd (ceCounted c s) k = rd (bump (bump c (hk 0xE)) (stk s 7)) k := rfl
  have hne := hk_ne_stk (i := 0xE) (j := 7) (by decide) (by decide) s
  rw [hrd, hrd, rd_bump, if_neg hne, rd_bump, if_pos rfl, rd_bump, if_pos rfl, rd_bump, if_neg hne.symm]
  exact ⟨rfl, rfl⟩

/-- The block with an uncorrectable error counted and logged. -/
def ueCounted (c : Core) (u : Nat) : Core :=
  let c1 := bump c (hk 0xF)
  tallyEvent { c1 with hbm := { c1.hbm with ueLog := ((64 * u, c1.stamp) :: c1.hbm.ueLog).take 16 } } 0xE3

theorem ueMet_eq (c : Core) (u : Nat) : ueMet c u = raise (ueCounted c u) (232 + stackOf c (64 * u)) 2 (64 * u) := rfl

theorem rd_ueCounted (c : Core) (u : Nat) : rd (ueCounted c u) (hk 0xF) = (rd c (hk 0xF) + 1) % 2 ^ 64 := by
  have hrd : rd (ueCounted c u) (hk 0xF) = rd (bump c (hk 0xF)) (hk 0xF) := rfl
  rw [hrd, rd_bump, if_pos rfl]

theorem ueCounted_regs (c : Core) (u : Nat) : SameRegsBut [hk 0xF] c (ueCounted c u) :=
  (sameRegsBut_wr c (k := hk 0xF) ((rd c (hk 0xF) + 1) % 2 ^ 64) (List.mem_singleton.mpr rfl)).trans (.of_regs rfl)

/-! ## The scrub -/

/-- The next unit of the patrol scrub after unit u. -/
def scrubAfter (c : Core) (u : Nat) : Nat := if capacity c ≤ 64 * (u + 1) then 0 else u + 1

/-- The block with the scrub past the unit that it reads. -/
def scrubPassed (c : Core) (found : ScrubFound) : Core :=
  let b := touchHbm c (64 * c.hbm.scrub) 64 .close
  let a := { b with hbm := { b.hbm with scrub := scrubAfter c c.hbm.scrub } }
  if found.onDie then bump a (hk 0x10) else a

theorem scrubNext_off {c : Core} (m : Mem) (found : ScrubFound) (h : rd c (hk 0xD) = 0 ∨ hbmActive c = false ∨ hbmReady c = false) :
    scrubNext m c found = (m, c) := if_pos (by simpa using h)

theorem scrubNext_on {c : Core} (m : Mem) (found : ScrubFound) (hon : rd c (hk 0xD) ≠ 0) (hact : hbmActive c = true)
    (hready : hbmReady c = true) : scrubNext m c found =
      if m.bad.contains c.hbm.scrub then (m, ueMet (scrubPassed c found) c.hbm.scrub)
      else readUnit m (scrubPassed c found) c.hbm.scrub (found.errors.map (fun e => (e.1.val, e.2.toNat))) :=
  if_neg (by simp [hon, hact, hready])

theorem exec_scrubRead {s : State} (found : ScrubFound) (h : s.core.hbm.training = false) :
    exec (.scrubRead found) s = did s (scrubNext s.mem s.core found) := bestEffort_run s h _ _

/-- What the errors make of a unit's word. -/
def wordFound (m : Mem) (u : Nat) (errors : List (Nat × Nat)) : List Nat := errors.foldl addError (unitWord m u)

theorem readUnit_clean {m : Mem} {u : Nat} {l : List (Nat × Nat)} (c : Core) (h : decodeWord (wordFound m u l) = .clean) :
    readUnit m c u l = (putWord m u (wordFound m u l), c) := by
  simp only [wordFound] at h
  simp only [readUnit, wordFound, h]

theorem readUnit_one {m : Mem} {u i e : Nat} {l : List (Nat × Nat)} (c : Core) (h : decodeWord (wordFound m u l) = .one i e) :
    readUnit m c u l = (putWord m u (addError (wordFound m u l) (i, e)), ceMet c u) := by
  simp only [wordFound] at h
  simp only [readUnit, wordFound, h]

/-- The memory with one more unit in error. -/
def withBad (m : Mem) (u : Nat) : Mem := { m with bad := (m.bad.filter (· < u)) ++ u :: m.bad.filter (fun v => u < v) }

theorem readUnit_detected {m : Mem} {u : Nat} {l : List (Nat × Nat)} (c : Core) (h : decodeWord (wordFound m u l) = .detected) :
    readUnit m c u l = (withBad m u, ueMet c u) := by
  simp only [wordFound] at h
  simp only [readUnit, withBad, h]

theorem mem_withBad (m : Mem) (u v : Nat) : v ∈ (withBad m u).bad ↔ v = u ∨ v ∈ m.bad := by
  simp only [withBad, List.mem_append, List.mem_filter, List.mem_cons, decide_eq_true_eq]
  by_cases h : v ∈ m.bad
  · simp only [h, true_and, or_true, iff_true]
    omega
  · simp [h]

/-! ## Open rows -/

theorem mfind_openRow_close (c : Core) (rows : SMap OpenRow) (a : Nat) :
    mfind (openRow c rows a .close) (bankKey (placeOf c a).1 (bankRow (placeOf c a).2).1) = none := mfind_merase_same _ _

theorem mfind_openRow {c : Core} (rows : SMap OpenRow) (a : Nat) {hint : PageHint} (h : hint ≠ .close) :
    mfind (openRow c rows a hint) (bankKey (placeOf c a).1 (bankRow (placeOf c a).2).1) =
      some { row := (bankRow (placeOf c a).2).2, stay := hint == .stay, last := c.time } := by
  cases hint with
  | close => exact absurd rfl h
  | _ => exact mfind_minsert_same _ _ _ (mfind_merase_same _ _)

/-- Waking stacks leaves the open rows. -/
theorem touchHbm_rows {c : Core} {a : Nat} (ha : a < hbmTop) (hint : PageHint) :
    (touchHbm c a 1 hint).hbm.rows = openRow c (openRow c c.hbm.rows a hint) a hint := by
  have hne : ¬(hbmTop ≤ a ∨ (1 : Nat) = 0) := by omega
  rw [touchHbm, if_neg hne]
  refine (foldl_keeps (fun c => c.hbm.rows) (fun c p => ?_) _ _).trans ?_
  · split <;> rfl
  · simp only [List.range_succ]
    simp

theorem touchHbm_time (c : Core) (a n : Nat) (hint : PageHint) : (touchHbm c a n hint).time = c.time := by
  unfold touchHbm
  split
  · rfl
  · refine foldl_keeps Core.time (fun c p => ?_) _ _
    split <;> rfl

theorem rowNow_eq (c : Core) (pc bank : Nat) : rowNow c pc bank =
    ((mfind c.hbm.rows (bankKey pc bank)).filter (fun r => decide (c.time < r.last + rowStays c r))).map OpenRow.row := rfl

theorem rowNow_touched (c : Core) {a : Nat} (n : Nat) (hint : PageHint) (ha : a < hbmTop) :
    rowNow { touchHbm c a 1 hint with time := c.time + n } (placeOf c a).1 (bankRow (placeOf c a).2).1 =
      (if hint ≠ .close ∧ n < (if hint = .stay then 4 else 1) * rd c (hk 9) then some (bankRow (placeOf c a).2).2 else none) := by
  have hidle : rd { touchHbm c a 1 hint with time := c.time + n } (hk 9) = rd c (hk 9) := touchHbm_regs _ _ _ _ (by decide)
  rw [rowNow_eq]
  change ((mfind (touchHbm c a 1 hint).hbm.rows _).filter _).map _ = _
  rw [touchHbm_rows ha]
  by_cases h : hint = .close
  · subst h
    rw [mfind_openRow_close]
    simp
  · rw [mfind_openRow _ _ h]
    simp only [Option.filter_some, rowStays, hidle, Nat.add_lt_add_iff_left, beq_iff_eq, ne_eq, h, not_false_eq_true, true_and]
    split <;> simp_all

/-! ## The round-robin -/

theorem bePick_served {c : Core} {n k : Nat} {d : SMap Nat} {r : BestEffort} (hhead : beHead c k = some r) (hb : r.bytes ≤ mget 0 d k) :
    bePick c (n + 1) k d = some (r, k, mset 0 d k (mget 0 d k - r.bytes)) := by
  simp only [bePick, hhead, hb, if_true]

theorem beRounds_succ (c : Core) : ∃ n, beRounds c = n + 1 := ⟨beRounds c - 1, by unfold beRounds; omega⟩

theorem nextBest_served {c : Core} {r : BestEffort} (ht : c.hbm.training = false) (hhead : beHead c c.hbm.turn = some r)
    (hb : r.bytes ≤ mget 0 c.hbm.deficits c.hbm.turn) : nextBest c =
      some (r.cmd, beTake c r c.hbm.turn (mset 0 c.hbm.deficits c.hbm.turn (mget 0 c.hbm.deficits c.hbm.turn - r.bytes))) := by
  obtain ⟨n, hn⟩ := beRounds_succ c
  simp only [nextBest, ht, hn, bePick_served hhead hb, Bool.false_eq_true, if_false, Option.map_some]

section
variable {c : Core} {r : BestEffort} (hw : c.hbm.waiting = [r])
include hw

theorem beHead_own : beHead c r.cls.field = some r := by simp [beHead, hw]

theorem beHead_other {k : Nat} (h : k ≠ r.cls.field) : beHead c k = none := by simp [beHead, hw, h.symm]

/-- The turns from class k before the lone request's class gains the m-th of the quanta that it lacks. -/
def turnsLeft (f k m : Nat) : Nat := if k = f then 5 * m else 5 * (m - 1) + (1 + (f + 5 - (k + 1) % 5) % 5)

/-- The lone request is served within the turns that its bytes need. -/
theorem bePick_lone (hq : 0 < beQuantum c r.cls.field) (n k m : Nat) (d : SMap Nat)
    (hb : r.bytes ≤ mget 0 d r.cls.field + 64 * m) (hn : turnsLeft r.cls.field k m < n) : ∃ t e, bePick c n k d = some (r, t, e) := by
  have hq64 : 64 ≤ beQuantum c r.cls.field := by
    unfold beQuantum at hq ⊢
    omega
  have hf : r.cls.field < 5 := by cases r.cls <;> decide
  induction n generalizing k m d with
  | zero => omega
  | succ n ih =>
    by_cases hk : k = r.cls.field
    · subst hk
      by_cases hd : r.bytes ≤ mget 0 d r.cls.field
      · exact ⟨_, _, bePick_served (beHead_own hw) hd⟩
      · have hon : (r.cls.field + 1) % 5 ≠ r.cls.field := by omega
        simp only [bePick, beHead_own hw, beHead_other hw hon, if_neg hd, Option.isSome_none, Bool.false_eq_true, if_false]
        refine ih _ m d hb ?_
        unfold turnsLeft at hn ⊢
        rw [if_pos rfl] at hn
        rw [if_neg hon]
        omega
    · simp only [bePick, beHead_other hw hk]
      have hstay : mget 0 (mset 0 d k 0) r.cls.field = mget 0 d r.cls.field := mget_mset_ne _ _ _ _ (Ne.symm hk)
      unfold turnsLeft at hn
      rw [if_neg hk] at hn
      by_cases hon : (k + 1) % 5 = r.cls.field
      · rw [hon, beHead_own hw]
        refine ih _ (m - 1) _ ?_ ?_
        · simp only [Option.isSome_some, if_true, mget_mset_same, hstay]
          omega
        · unfold turnsLeft
          rw [if_pos rfl]
          omega
      · rw [beHead_other hw hon]
        refine ih _ m _ (by simpa only [Option.isSome_none, Bool.false_eq_true, if_false, hstay] using hb) ?_
        unfold turnsLeft
        rw [if_neg hon]
        omega

theorem beRounds_lone : beRounds c = 5 * (r.bytes / 64 + 2) := by simp [beRounds, hw]

theorem beTake_lone (t : Nat) (e : SMap Nat) : (beTake c r t e).hbm.waiting = [] := by
  unfold beTake
  cases r.hart <;> simp [hw]

theorem nextBest_lone (ht : c.hbm.training = false) (hq : 0 < beQuantum c r.cls.field) :
    ∃ d, nextBest c = some (r.cmd, d) ∧ d.hbm.waiting = [] := by
  obtain ⟨t, e, hpick⟩ := bePick_lone hw hq (beRounds c) c.hbm.turn (r.bytes / 64 + 1) c.hbm.deficits (by omega)
    (by rw [beRounds_lone hw]; unfold turnsLeft; split <;> omega)
  refine ⟨beTake c r t e, ?_, beTake_lone hw t e⟩
  simp only [nextBest, ht, hpick, Bool.false_eq_true, if_false, Option.map_some]

end

/-! ## The obligation -/

/-- Settles O51: each clause from the lemma of its operation; the correction of one wrong byte from the order of alpha, and the lone
request by counting the turns until its deficit covers it. -/
theorem memoryPowerRefreshAndScrub : Obligations.MemoryPowerRefreshAndScrub := by
  refine ⟨fun s p => ⟨fun hact hidle hsr => ?_, fun h => ?_⟩, fun s x => ⟨fun hact hidle hw => ?_, fun h => ?_⟩, fun s x t => ?_,
    fun s f => ⟨fun ht => if_pos ht, fun ht h => ?_⟩, fun s f => ?_, ?_, fun c u => ?_, fun c a n hint ha => ?_,
    fun c r ht => ⟨nextBest_served ht, fun hw hq => nextBest_lone hw ht hq⟩, fun c u => ?_⟩
  case refine_1 => exact makes_didC rfl (powerDownEntry_idle hact hidle hsr)
  case refine_2 => exact makes_didC rfl (powerDownEntry_stays h)
  case refine_3 => exact makes_didC rfl (selfRefreshEntry_idle hact hidle (weaverBusy_idle hw))
  case refine_4 => exact makes_didC rfl (selfRefreshEntry_stays (by rwa [weaverBusy_iff]))
  case refine_5 => exact ⟨_, makes_didC rfl rfl, refreshStack_says s.core t⟩
  case refine_6 => exact gives_did (exec_scrubRead f ht) (scrubNext_off _ _ h)
  case refine_7 =>
    intro u b a c w hon hact hready ht
    have hnext := scrubNext_on s.mem f hon hact hready
    refine ⟨fun hbad => gives_did (exec_scrubRead f ht) (q := (s.mem, ueMet c u)) ?_, fun hgood => ⟨fun hw => ?_, fun i e hw => ?_, fun hw => ?_⟩⟩
    · exact hnext.trans (if_pos (by simpa using hbad))
    all_goals have hread := hnext.trans (if_neg (by simpa using hgood))
    · exact gives_did (exec_scrubRead f ht) (q := (putWord s.mem u w, c)) (hread.trans (readUnit_clean c hw))
    · exact gives_did (exec_scrubRead f ht) (q := (putWord s.mem u (addError w (i, e)), ceMet c u)) (hread.trans (readUnit_one c hw))
    · exact ⟨withBad s.mem u, gives_did (exec_scrubRead f ht) (q := (withBad s.mem u, ueMet c u)) (hread.trans (readUnit_detected c hw)),
        rfl, rfl, mem_withBad s.mem u⟩
  case refine_8 => exact fun l i e hlen hl hsyn hi h0 he => ⟨decodeWord_clean hsyn, corrected_addError hlen hl hsyn hi h0 he⟩
  case refine_9 =>
    obtain ⟨hall, hown⟩ := rd_ceCounted c (stackOf c (64 * u))
    exact ⟨_, ceMet_eq c u, hall, hown, rfl⟩
  case refine_10 => exact rowNow_touched c n hint ha
  case refine_11 => exact ⟨_, ueMet_eq c u, rd_ueCounted c u, rfl, ueCounted_regs c u⟩

end Sys2Proof.Machine
end

section
/-!
The harts: their registers, the frame of the Xsaw instructions, and what each of them makes (R334 to R340, R344 to R346, R352, R354).
-/
namespace Sys2Proof.Machine

/-! ## Maps -/

theorem merase_merase {α : Type} (m : SMap α) (i : Nat) : merase (merase m i) i = merase m i := by
  induction m with
  | nil => rfl
  | cons e m ih =>
    obtain ⟨k, v⟩ := e
    by_cases h : k = i
    · simp only [merase, if_pos h, ih]
    · simp only [merase, if_neg h, ih]

theorem merase_minsert {α : Type} (m : SMap α) (i : Nat) (x : α) : merase (minsert m i x) i = merase m i := by
  induction m with
  | nil => simp [minsert, merase]
  | cons e m ih =>
    obtain ⟨k, v⟩ := e
    by_cases h : i < k
    · simp [minsert, h, merase]
    · by_cases hk : k = i
      · simp [minsert, merase, hk, ih]
      · simp [minsert, h, merase, hk, ih]

/-- The later of two writes of a key stands. -/
theorem mset_mset {α : Type} [DecidableEq α] (d : α) (m : SMap α) (i : Nat) (x y : α) : mset d (mset d m i x) i y = mset d m i y := by
  have h : merase (mset d m i x) i = merase m i := by
    unfold mset
    split
    · exact merase_merase m i
    · rw [merase_minsert, merase_merase]
  rw [mset, h, mset]

/-! ## Harts -/

@[simp] theorem getHart_setHart_same (c : Core) (n : Nat) (x : Hart) : getHart (setHart c n x) n = x := mget_mset_same ..

theorem getHart_setHart_ne (c : Core) {n k : Nat} (x : Hart) (h : k ≠ n) : getHart (setHart c n x) k = getHart c k := mget_mset_ne _ _ _ _ h

theorem getHart_modHart_same (c : Core) (n : Nat) (f : Hart → Hart) : getHart (modHart c n f) n = f (getHart c n) := getHart_setHart_same ..

theorem getHart_modHart_ne (c : Core) {n k : Nat} (f : Hart → Hart) (h : k ≠ n) : getHart (modHart c n f) k = getHart c k :=
  getHart_setHart_ne _ _ h

theorem setHart_setHart (c : Core) (n : Nat) (x y : Hart) : setHart (setHart c n x) n y = setHart c n y := by
  simp only [setHart, mset_mset]

theorem getX_setX_same (h : Hart) (r v : Nat) : getX (setX h r v) r = if r = 0 then 0 else v % 2 ^ 64 := by
  by_cases hr : r = 0
  · simp [getX, hr]
  · simp only [getX, setX, if_neg hr, mget_mset_same]

theorem getX_setX_ne (h : Hart) {r k : Nat} (v : Nat) (hk : k ≠ r) : getX (setX h r v) k = getX h k := by
  by_cases hr : r = 0
  · simp only [setX, if_pos hr]
  · simp only [getX, setX, if_neg hr, mget_mset_ne _ _ _ _ hk]

/-- A write of an integer register leaves everything else of a hart. -/
theorem setX_eq (h : Hart) (r v : Nat) : ∃ x, setX h r v = { h with x := x } := by
  unfold setX
  split
  · exact ⟨h.x, rfl⟩
  · exact ⟨_, rfl⟩

theorem csrGet_csrSet_same (h : Hart) (a v : Nat) : csrGet (csrSet h a v) a = v := mget_mset_same ..

theorem csrGet_csrSet_ne (h : Hart) {a b : Nat} (v : Nat) (hb : b ≠ a) : csrGet (csrSet h a v) b = csrGet h b := mget_mset_ne _ _ _ _ hb

/-- A written result: the pc, rd and nothing else. -/
theorem xret_says (c : Core) (n : Nat) (x : RType) (v : Nat) :
    let d := xret c n x v
    (getHart d n).pc = ((getHart c n).pc + 4) % 2 ^ 64 ∧
    getX (getHart d n) x.rd.toNat = (if x.rd = 0 then 0 else v % 2 ^ 64) ∧ (∀ r, r ≠ x.rd.toNat → getX (getHart d n) r = getX (getHart c n) r) ∧
    (getHart d n).csr = (getHart c n).csr ∧ (getHart d n).mode = (getHart c n).mode ∧ (getHart d n).held = (getHart c n).held ∧
    (∀ k, k ≠ n → getHart d k = getHart c k) ∧ { d with harts := c.harts } = c := by
  intro d
  have hd : getHart d n = advance (setX (getHart c n) x.rd.toNat v) 4 := getHart_modHart_same ..
  have hx (r : Nat) : getX (getHart d n) r = getX (setX (getHart c n) x.rd.toNat v) r := by rw [hd]; rfl
  have hzero : x.rd.toNat = 0 ↔ x.rd = 0 := by
    rw [← BitVec.toNat_inj]
    rfl
  obtain ⟨xs, hset⟩ := setX_eq (getHart c n) x.rd.toNat v
  refine ⟨?_, ?_, fun r hr => (hx r).trans (getX_setX_ne _ _ hr), ?_, ?_, ?_, fun k hk => getHart_modHart_ne _ _ hk, rfl⟩
  case refine_2 => rw [hx, getX_setX_same, if_congr hzero rfl rfl]
  all_goals rw [hd, hset]; rfl

/-! ## The frame of the Xsaw instructions -/

theorem not_hartRuns {c : Core} {n : Nat} (h : ¬HartRuns c n) : (!(getHart c n).running) = true ∨ (getHart c n).waits.isSome = true := by
  by_contra hn
  simp only [Bool.not_eq_true', not_or, Bool.not_eq_false, Option.isSome_iff_ne_none, ne_eq, not_not] at hn
  exact h hn

theorem hartRuns_on {c : Core} {n : Nat} (h : HartRuns c n) : ¬((!(getHart c n).running) = true ∨ (getHart c n).waits.isSome = true) := by
  simp [h.1, h.2]

theorem xsaw_off {c : Core} {n : Nat} (m : Mem) (x : RType) (unused : List (BitVec 5)) (gate : Option Nat) (run : Hart → Mem × Core)
    (h : ¬HartRuns c n) : xsaw m c n x unused gate run = (m, c) := if_pos (not_hartRuns h)

theorem xsaw_illegal {c : Core} {n : Nat} {x : RType} {unused : List (BitVec 5)} {gate : Option Nat} (m : Mem) (run : Hart → Mem × Core)
    (h : HartRuns c n) (hi : xsawIllegal (getHart c n) x unused gate = true) : xsaw m c n x unused gate run = (m, hartTrap c n 2 0) :=
  (if_neg (hartRuns_on h)).trans (if_pos hi)

theorem xsaw_run {c : Core} {n : Nat} {x : RType} {unused : List (BitVec 5)} {gate : Option Nat} (m : Mem) (run : Hart → Mem × Core)
    (h : Executes c n x unused gate) : xsaw m c n x unused gate run = run (getHart c n) :=
  (if_neg (hartRuns_on h.1)).trans (if_neg (by simp [h.2]))

/-- A command of an Xsaw instruction is the frame around some effect. -/
def IsXsaw (s : State) (n : Nat) (x : RType) (i : Instr) (unused : List (BitVec 5)) (gate : Option Nat) : Prop :=
  ∃ run, hartMustWait s.core n = false → exec i s = did s (xsaw s.mem s.core n x unused gate run)

theorem isXsaw_all (s : State) (n : Fin 1024) (x : RType) : ∀ e ∈ [(Instr.bqEnq n x, [], some 0), (.bqWait n x, [x.rs2], some 0),
    (.bqPoll n x, [x.rs2], some 0), (.bqRes n x, [], some 0), (.bqDone n x, [], some 0), (.bqAbort n x, [], some 0), (.bqStat n x, [x.rs2], some 0),
    (.tallyAdd n x, [x.rd], some 1), (.tallyRd n x, [x.rs2], none), (.crc32cB n x, [], none), (.crc32cW n x, [], none), (.crc32cD n x, [], none),
    (.crc32cRec n x, [x.rs2], none)], IsXsaw s n.val x e.1 e.2.1 e.2.2 := by
  simp only [List.mem_cons, List.not_mem_nil, or_false, forall_eq_or_imp, forall_eq]
  refine ⟨?_, ?_, ?_, ?_, ?_, ?_, ?_, ?_, ?_, ?_, ?_, ?_, ?_⟩
  case refine_4 | refine_7 | refine_8 | refine_9 | refine_10 | refine_11 | refine_12 | refine_13 => exact ⟨_, fun _ => rfl⟩
  all_goals exact ⟨_, fun h => bestEffort_run s h _ _⟩

theorem hartMustWait_idle {c : Core} {n : Nat} (h : c.hbm.training = false ∨ ¬HartRuns c n) : hartMustWait c n = false := by
  rcases h with h | h
  · simp [hartMustWait, h]
  · rcases not_hartRuns h with h | h
    · simp [hartMustWait, Bool.not_eq_eq_eq_not.mp h]
    · simp [hartMustWait, Option.isNone_eq_false_iff.mpr h]

theorem IsXsaw.makes_off {s : State} {n : Nat} {x : RType} {i : Instr} {unused : List (BitVec 5)} {gate : Option Nat}
    (hi : IsXsaw s n x i unused gate) (h : ¬HartRuns s.core n) : Makes i s s.core := by
  obtain ⟨run, hrun⟩ := hi
  exact gives_did (q := (s.mem, s.core)) (hrun (hartMustWait_idle (.inr h))) (xsaw_off _ _ _ _ _ h)

theorem IsXsaw.makes_illegal {s : State} {n : Nat} {x : RType} {i : Instr} {unused : List (BitVec 5)} {gate : Option Nat}
    (hi : IsXsaw s n x i unused gate) (h : HartRuns s.core n) (ht : s.core.hbm.training = false)
    (hx : xsawIllegal (getHart s.core n) x unused gate = true) : Makes i s (hartTrap s.core n 2 0) := by
  obtain ⟨run, hrun⟩ := hi
  exact gives_did (q := (s.mem, _)) (hrun (hartMustWait_idle (.inl ht))) (xsaw_illegal _ _ h hx)

/-! ## Instructions without a buffer, and CRC32C.REC -/

theorem crcStep_run {c : Core} {n : Nat} {x : RType} (m : Mem) (k : Nat) (h : Executes c n x [] none) : crcStep m c n x k =
    (m, xret c n x (crcBytes (BitVec.ofNat 32 (getX (getHart c n) x.rs1.toNat)) (leBytes k (getX (getHart c n) x.rs2.toNat))).toNat) :=
  xsaw_run m _ h

theorem bqStatus_run {c : Core} {n : Nat} {x : RType} (m : Mem) (h : Executes c n x [x.rs2] (some 0)) : bqStatus m c n x =
    (m, xret c n x (if bdEnabled (getBoom c (getX (getHart c n) x.rs1.toNat % 2 ^ 16)).desc
      then boomTail c (getX (getHart c n) x.rs1.toNat % 2 ^ 16) - (getBoom c (getX (getHart c n) x.rs1.toNat % 2 ^ 16)).dispatch
      else 2 ^ 64 - 7)) := xsaw_run m _ h

theorem tallyAddTo_run {c : Core} {n : Nat} {x : RType} (m : Mem) (h : Executes c n x [x.rd] (some 1)) : tallyAddTo m c n x =
    (m, xret (tallyEvents c (0x70 + getX (getHart c n) x.rs1.toNat % 16) (getX (getHart c n) x.rs2.toNat % 2 ^ 32)) n x 0) := xsaw_run m _ h

theorem tallyRead_run {c : Core} {n : Nat} {x : RType} (m : Mem) (h : Executes c n x [x.rs2] none) : tallyRead m c n x =
    (m, xret c n x (mget {} c.tally (getX (getHart c n) x.rs1.toNat % 128)).value) := xsaw_run m _ h

section
variable {m : Mem} {c : Core} {n a : Nat} {x : RType} (h : Executes c n x [x.rs2] none)
  (hb : bufferAt m (walkMet m c n (getHart c n) (getX (getHart c n) x.rs1.toNat) .load) n (getHart c n)
    (getX (getHart c n) x.rs1.toNat) 32 32 .load = .ok a)
include h hb

theorem crcRecord_unknown (hk : readNat m a 1 % 16 = 0 ∨ readNat m a 1 % 16 = 7) : crcRecord m c n x =
    (m, xret (walkMet m c n (getHart c n) (getX (getHart c n) x.rs1.toNat) .load) n x (2 ^ 64 - 8)) := by
  refine (xsaw_run m _ h).trans ?_
  simp only [hb, hk, if_true, bqCode]

theorem crcRecord_one (hlo : 1 ≤ readNat m a 1 % 16) (hhi : readNat m a 1 % 16 ≤ 6) : crcRecord m c n x =
    (m, xret (walkMet m c n (getHart c n) (getX (getHart c n) x.rs1.toNat) .load) n x (if crcOk (readBytes m a 32) then 0 else 1)) := by
  have hne : ¬(readNat m a 1 % 16 = 0 ∨ readNat m a 1 % 16 = 7) := by omega
  refine (xsaw_run m _ h).trans ?_
  simp only [hb, hne, show readNat m a 1 % 16 < 7 by omega, if_true, if_false]

theorem crcRecord_two {b : Nat} (hk : 8 ≤ readNat m a 1 % 16)
    (hb2 : bufferAt m (walkMet m c n (getHart c n) (getX (getHart c n) x.rs1.toNat) .load) n (getHart c n)
      (getX (getHart c n) x.rs1.toNat) 64 32 .load = .ok b) : crcRecord m c n x =
    (m, xret (walkMet m c n (getHart c n) (getX (getHart c n) x.rs1.toNat) .load) n x (if crcOk (readBytes m b 64) then 0 else 1)) := by
  have hne : ¬(readNat m a 1 % 16 = 0 ∨ readNat m a 1 % 16 = 7) := by omega
  refine (xsaw_run m _ h).trans ?_
  simp only [hb, hne, show ¬readNat m a 1 % 16 < 7 by omega, hb2, if_false]

end

/-- Settles O52: the frame that all Xsaw instructions share, and the effect of each that needs no task. -/
theorem xsawInstructionsOnRegisters : Obligations.XsawInstructionsOnRegisters := by
  refine ⟨fun s n x e he => ⟨(isXsaw_all s n x e he).makes_off, (isXsaw_all s n x e he).makes_illegal⟩, xret_says,
    fun s n x hx => ?_, fun s n x a hx => ?_, fun s n x hx => ?_, fun s n x hx => ?_, fun s n x hx => ?_⟩
  · exact ⟨gives_did (q := (s.mem, _)) rfl (crcStep_run s.mem 1 hx), gives_did (q := (s.mem, _)) rfl (crcStep_run s.mem 4 hx),
      gives_did (q := (s.mem, _)) rfl (crcStep_run s.mem 8 hx)⟩
  · intro h va c kind hb
    exact ⟨fun hk => gives_did (q := (s.mem, _)) rfl (crcRecord_unknown hx hb hk),
      fun hlo hhi => gives_did (q := (s.mem, _)) rfl (crcRecord_one hx hb hlo hhi),
      fun hk b hb2 => gives_did (q := (s.mem, _)) rfl (crcRecord_two hx hb hk hb2)⟩
  · exact gives_did (q := (s.mem, _)) rfl (bqStatus_run s.mem hx)
  · exact gives_did (q := (s.mem, _)) rfl (tallyAddTo_run s.mem hx)
  · exact gives_did (q := (s.mem, _)) rfl (tallyRead_run s.mem hx)

end Sys2Proof.Machine
end

section
/-!
Jobs and tasks: what a boom's append leaves, and BQ.ENQ, BQ.WAIT, BQ.POLL, BQ.RES, BQ.DONE and BQ.ABORT (R335 to R337, R341, R344 to R346,
R352, R354).
-/
namespace Sys2Proof.Machine

/-! ## Booms -/

@[simp] theorem getBoom_setBoom_same (c : Core) (q : Nat) (b : Boom) : getBoom (setBoom c q b) q = b := mget_mset_same ..

theorem getBoom_setBoom_ne (c : Core) {q r : Nat} (b : Boom) (h : r ≠ q) : getBoom (setBoom c q b) r = getBoom c r := mget_mset_ne _ _ _ _ h

theorem getBoom_modBoom_same (c : Core) (q : Nat) (f : Boom → Boom) : getBoom (modBoom c q f) q = f (getBoom c q) := getBoom_setBoom_same ..

theorem getBoom_congr {c d : Core} (h : d.booms = c.booms) (q : Nat) : getBoom d q = getBoom c q := by rw [getBoom, h, getBoom]

theorem OnlyRaised.booms {a b : Core} (h : OnlyRaised a b) : b.booms = a.booms := by
  obtain ⟨r, f, t, w, j, m, rfl⟩ := h
  rfl

theorem OnlySent.booms {a b : Core} (h : OnlySent a b) : b.booms = a.booms := by
  obtain ⟨d, o, f, l, rfl⟩ := h
  rfl

theorem ueMet_booms (c : Core) (u : Nat) : (ueMet c u).booms = c.booms := (raise_only (ueCounted c u) _ 2 _).booms

theorem touchHbm_booms (c : Core) (a n : Nat) (hint : PageHint) : (touchHbm c a n hint).booms = c.booms := by
  unfold touchHbm
  split
  · rfl
  · refine foldl_keeps Core.booms (fun c p => ?_) _ _
    split <;> rfl

theorem checkedStore_booms (m : Mem) (c : Core) (a : Nat) (l : List Byte) (hint : PageHint) : (checkedStore m c a l hint).2.booms = c.booms :=
  (foldl_keeps Core.booms ueMet_booms _ _).trans
    ((foldl_keeps Core.booms (fun c b => touchHbm_booms c (4096 * b) 4096 .close) _ _).trans (touchHbm_booms ..))

theorem mirrorOut_booms (c : Core) (kind : ItemKind) (id seq : Nat) (bytes : List Byte) : (mirrorOut c kind id seq bytes).booms = c.booms := by
  unfold mirrorOut
  refine (sendMirror_only _ _).booms.trans ?_
  split <;> rfl

theorem laterItem_booms (c : Core) (kind : ItemKind) (id seq : Nat) (bytes : List Byte) : (laterItem c kind id seq bytes).booms = c.booms := by
  unfold laterItem
  dsimp only
  split <;> rfl

/-- A covered tail is noted, and the boom's place and its descriptor stand. -/
theorem getBoom_coverTail (c : Core) (q seq : Nat) : (getBoom (coverTail c q seq) q).tail = (getBoom c q).tail ∧
    (getBoom (coverTail c q seq) q).desc = (getBoom c q).desc := by
  unfold coverTail
  split
  · rw [getBoom_congr (journalAdd_booms ..), getBoom_modBoom_same]
    exact ⟨rfl, rfl⟩
  · exact ⟨rfl, rfl⟩

/-! ## An entry in a boom's own ring (R341) -/

/-- The next sequence of a boom. -/
def nextSeq (b : Boom) : Nat := (b.tail + 1) % 2 ^ 48

/-- The block with an entry of a boom noted, before its bytes are stored. -/
def entryNoted (c : Core) (q : Nat) (job : Bool) (bytes : List Byte) : Core :=
  let c1 := setBoom c q { getBoom c q with tail := nextSeq (getBoom c q) }
  if job ∧ pairState c1 = 1 then mirrorOut c1 .job q (nextSeq (getBoom c q)) bytes
  else coverTail (if job then laterItem c1 .job q (nextSeq (getBoom c q)) bytes else c1) q (nextSeq (getBoom c q))

theorem appendEntry_own {c : Core} {q : Nat} (m : Mem) (job : Bool) (build : Nat → List Byte) (h : bdStreamOut (getBoom c q).desc = false) :
    appendEntry m c q job build = checkedStore m (entryNoted c q job (build (nextSeq (getBoom c q))))
      (entryAddr (getBoom c q).desc (nextSeq (getBoom c q))) (build (nextSeq (getBoom c q))) .stay := by
  simp only [appendEntry, h, Bool.false_eq_true, if_false]
  rfl

theorem getBoom_entryNoted (c : Core) (q : Nat) (job : Bool) (bytes : List Byte) :
    (getBoom (entryNoted c q job bytes) q).tail = nextSeq (getBoom c q) ∧ (getBoom (entryNoted c q job bytes) q).desc = (getBoom c q).desc := by
  unfold entryNoted
  dsimp only
  split
  · rw [getBoom_congr (mirrorOut_booms ..), getBoom_setBoom_same]
    exact ⟨rfl, rfl⟩
  · obtain ⟨ht, hd⟩ := getBoom_coverTail (if job then laterItem (setBoom c q { getBoom c q with tail := nextSeq (getBoom c q) }) .job q
      (nextSeq (getBoom c q)) bytes else setBoom c q { getBoom c q with tail := nextSeq (getBoom c q) }) q (nextSeq (getBoom c q))
    rw [ht, hd]
    split
    · rw [getBoom_congr (laterItem_booms ..), getBoom_setBoom_same]
      exact ⟨rfl, rfl⟩
    · rw [getBoom_setBoom_same]
      exact ⟨rfl, rfl⟩

theorem boomTail_own {c : Core} {q : Nat} (h : bdStreamOut (getBoom c q).desc = false) : boomTail c q = (getBoom c q).tail := by
  simp only [boomTail, h, Bool.false_eq_true, if_false]

theorem entryStream_own {c : Core} {q : Nat} (h : bdStreamOut (getBoom c q).desc = false) : entryStream c q = q := by
  simp only [entryStream, h, Bool.false_eq_true, if_false]

/-- An append to a boom's own ring is its new tail. -/
theorem boomTail_appendEntry {c : Core} {q : Nat} (m : Mem) (job : Bool) (build : Nat → List Byte)
    (h : bdStreamOut (getBoom c q).desc = false) : boomTail (appendEntry m c q job build).2 q = nextSeq (getBoom c q) := by
  rw [appendEntry_own m job build h]
  have hb := getBoom_congr (checkedStore_booms m (entryNoted c q job (build (nextSeq (getBoom c q))))
    (entryAddr (getBoom c q).desc (nextSeq (getBoom c q))) (build (nextSeq (getBoom c q))) .stay) q
  obtain ⟨ht, hd⟩ := getBoom_entryNoted c q job (build (nextSeq (getBoom c q)))
  rw [boomTail_own (by rw [hb, hd, h]), hb, ht]

theorem length_jobEntry (c : Core) (stream seq cal run : Nat) (b : EntryBody) : (jobEntry c stream seq cal run b).length = 64 := by
  simp [jobEntry, sealCrc, length_leBytes, padTo_length]

/-! ## Operands -/

/-- The address operand, the other operand, the block after the walk of the address, and the buffer at it. -/
abbrev operandA (c : Core) (n : Nat) (x : RType) : Nat := getX (getHart c n) x.rs1.toNat
abbrev operandB (c : Core) (n : Nat) (x : RType) : Nat := getX (getHart c n) x.rs2.toNat
abbrev walked (m : Mem) (c : Core) (n : Nat) (x : RType) (k : AccKind) : Core := walkMet m c n (getHart c n) (operandA c n x) k
abbrev buffer (m : Mem) (c : Core) (n : Nat) (x : RType) (len : Nat) (k : AccKind) : Except Nat Nat :=
  bufferAt m (walked m c n x k) n (getHart c n) (operandA c n x) len 64 k

section
variable {m : Mem} {c : Core} {n a e : Nat} {x : RType}

/-! ## BQ.ENQ -/

section
variable (h : Executes c n x [] (some 0))
include h

theorem bqEnqueue_fault (hb : buffer m c n x 64 .load = .error e) :
    bqEnqueue m c n x = (m, hartTrap (walked m c n x .load) n e (operandA c n x)) := by
  refine (xsaw_run m _ h).trans ?_
  simp only [hb]

theorem bqEnqueue_closed (hb : buffer m c n x 64 .load = .ok a)
    (hd : bdEnabled (getBoom (walked m c n x .load) (operandB c n x % 2 ^ 16)).desc = false ∨
      bdSource (getBoom (walked m c n x .load) (operandB c n x % 2 ^ 16)).desc ≠ 0) :
    bqEnqueue m c n x = (m, xret (walked m c n x .load) n x (2 ^ 64 - 2)) := by
  refine (xsaw_run m _ h).trans ?_
  simp only [hb]
  exact if_pos (by simpa [srcCore] using hd)

omit h in
/-- An enabled boom whose source is the cores takes their jobs. -/
theorem takesJobs {d : Nat} (hd : bdEnabled d = true) (hs : bdSource d = 0) : ¬((!bdEnabled d) = true ∨ bdSource d ≠ srcCore) := by
  rw [hd, hs]
  decide

theorem bqEnqueue_full (hb : buffer m c n x 64 .load = .ok a)
    (hd : bdEnabled (getBoom (walked m c n x .load) (operandB c n x % 2 ^ 16)).desc = true)
    (hs : bdSource (getBoom (walked m c n x .load) (operandB c n x % 2 ^ 16)).desc = 0)
    (hf : boomFree (walked m c n x .load) (operandB c n x % 2 ^ 16) = 0) :
    bqEnqueue m c n x = (m, xret (tallyEvent (walked m c n x .load) 0xE6) n x (2 ^ 64 - 1)) := by
  refine (xsaw_run m _ h).trans ?_
  simp only [hb]
  exact (if_neg (takesJobs hd hs)).trans (if_pos hf)

/-- The body of the job that a buffer holds. -/
def jobBody (m : Mem) (a : Nat) : EntryBody := { idem := bit (readNat m (a + 28) 1) 5, buf := readBytes m (a + 31) 29 }

theorem bqEnqueue_entered (hb : buffer m c n x 64 .load = .ok a)
    (hd : bdEnabled (getBoom (walked m c n x .load) (operandB c n x % 2 ^ 16)).desc = true)
    (hs : bdSource (getBoom (walked m c n x .load) (operandB c n x % 2 ^ 16)).desc = 0)
    (hf : boomFree (walked m c n x .load) (operandB c n x % 2 ^ 16) ≠ 0)
    (ho : bdStreamOut (getBoom (walked m c n x .load) (operandB c n x % 2 ^ 16)).desc = false) :
    let d := walked m c n x .load
    let q := operandB c n x % 2 ^ 16
    let t := nextSeq (getBoom d q)
    bqEnqueue m c n x = (store m (entryAddr (getBoom d q).desc t) (jobEntry d q t 0 0 (jobBody m a)),
      xret (reschedule (appendEntry m d q true (fun k => jobEntry d q k 0 0 (jobBody m a))).2) n x t) := by
  intro d q t
  have hentry : entryStream d q = q := entryStream_own ho
  have htail := boomTail_appendEntry m true (fun k => jobEntry d q k 0 0 (jobBody m a)) ho
  have happend : (appendEntry m d q true (fun k => jobEntry d q k 0 0 (jobBody m a))).1 =
      store m (entryAddr (getBoom d q).desc t) (jobEntry d q t 0 0 (jobBody m a)) := by
    rw [appendEntry_own m true _ ho]
    rfl
  refine (xsaw_run m _ h).trans ?_
  simp only [hb]
  refine (if_neg (takesJobs hd hs)).trans ((if_neg hf).trans ?_)
  change ((appendEntry m d q true (fun k => jobEntry d (entryStream d q) k 0 0 (jobBody m a))).1,
    xret (reschedule (appendEntry m d q true (fun k => jobEntry d (entryStream d q) k 0 0 (jobBody m a))).2) n x
      (boomTail (appendEntry m d q true (fun k => jobEntry d (entryStream d q) k 0 0 (jobBody m a))).2 q)) = _
  rw [hentry, happend, htail]

end

/-! ## BQ.WAIT and BQ.POLL -/

section
variable {block : Bool} (h : Executes c n x [x.rs2] (some 0))
include h

theorem bqCollect_fault (hb : buffer m c n x 1088 .store = .error e) :
    bqCollect m c n x block = (m, hartTrap (walked m c n x .store) n e (operandA c n x)) := by
  refine (xsaw_run m _ h).trans ?_
  simp only [hb]

theorem bqCollect_holdsTwo (hb : buffer m c n x 1088 .store = .ok a) (h2 : 2 ≤ (getHart c n).held.length) :
    bqCollect m c n x block = (m, xret (walked m c n x .store) n x (2 ^ 64 - 4)) := by
  refine (xsaw_run m _ h).trans ?_
  simp only [hb, h2, if_true, bqCode]

theorem bqCollect_delivered {q f : Nat} (hb : buffer m c n x 1088 .store = .ok a) (h2 : (getHart c n).held.length < 2)
    (hd : (getHart c n).delivered = some (q, f)) : bqCollect m c n x block =
      ((collect m (walked m c n x .store) n x.rd.toNat a q f).1, interruptsOf (collect m (walked m c n x .store) n x.rd.toNat a q f).2 n) := by
  refine (xsaw_run m _ h).trans ?_
  simp only [hb, Nat.not_le.mpr h2, if_false, hd]

theorem bqCollect_blocks (hb : buffer m c n x 1088 .store = .ok a) (h2 : (getHart c n).held.length < 2) (hd : (getHart c n).delivered = none) :
    bqCollect m c n x true =
      (m, interruptsOf (modHart (walked m c n x .store) n (fun h => { h with waits := some (.task x.rd.toNat a) })) n) := by
  refine (xsaw_run m _ h).trans ?_
  simp only [hb, Nat.not_le.mpr h2, if_false, hd, if_true]

theorem bqCollect_empty (hb : buffer m c n x 1088 .store = .ok a) (h2 : (getHart c n).held.length < 2) (hd : (getHart c n).delivered = none)
    (hp : pushes (walked m c n x .store) (partitionOf (walked m c n x .store) n) = true) :
    bqCollect m c n x false = (m, xret (walked m c n x .store) n x (2 ^ 64 - 5)) := by
  refine (xsaw_run m _ h).trans ?_
  simp only [hb, Nat.not_le.mpr h2, if_false, hd, hp, Bool.false_eq_true, if_true, bqCode]

theorem bqCollect_pulls {q f : Nat} {d : Core} (hb : buffer m c n x 1088 .store = .ok a) (h2 : (getHart c n).held.length < 2)
    (hd : (getHart c n).delivered = none) (hp : pushes (walked m c n x .store) (partitionOf (walked m c n x .store) n) = false)
    (ht : deliverTurn m (walked m c n x .store) (partitionOf (walked m c n x .store) n) n = (some (q, f), d)) :
    bqCollect m c n x false = collect m d n x.rd.toNat a q f := by
  refine (xsaw_run m _ h).trans ?_
  simp only [hb, Nat.not_le.mpr h2, if_false, hd, hp, Bool.false_eq_true, ht]

end

/-- A collected task is in its buffer and with its hart. -/
theorem collect_says (m : Mem) (c : Core) (n rd a q f : Nat) :
    let r := collect m c n rd a q f
    let h := getHart r.2 n
    let l := taskBytes m c q f
    r.1 = pokeBytes m a l ∧ SameBytesBut a l.length m r.1 ∧ h.held = (getHart c n).held ++ [(q, f)] ∧ h.delivered = none ∧ h.waits = none ∧
    bit (csrGet h csrMip) 16 = false ∧ h.pc = ((getHart c n).pc + 4) % 2 ^ 64 ∧ getX h rd = (if rd = 0 then 0 else handleOf q f % 2 ^ 64) ∧
    (∀ k, k ≠ n → getHart r.2 k = getHart c k) ∧ { r.2 with harts := c.harts } = c := by
  intro r h l
  let h0 : Hart := csrSet (getHart c n) csrMip (clearBit (csrGet (getHart c n) csrMip) 16)
  let h1 : Hart := { h0 with held := h0.held ++ [(q, f)], delivered := none, waits := none }
  have hh : h = advance (setX h1 rd (handleOf q f)) 4 := getHart_modHart_same ..
  have hx : getX h rd = getX (setX h1 rd (handleOf q f)) rd := by rw [hh]; rfl
  have hmip : csrGet h1 csrMip = clearBit (csrGet (getHart c n) csrMip) 16 := csrGet_csrSet_same ..
  obtain ⟨xs, hset⟩ := setX_eq h1 rd (handleOf q f)
  refine ⟨rfl, fun y hy => readByte_pokeBytes_outside l m a y hy, ?_, ?_, ?_, ?_, ?_, hx.trans (getX_setX_same ..),
    fun k hk => getHart_modHart_ne _ _ hk, rfl⟩
  case refine_4 =>
    have hcsr : csrGet h csrMip = csrGet h1 csrMip := by rw [hh, hset]; rfl
    rw [hcsr, hmip, bit_clearBit]
    simp
  all_goals rw [hh, hset]; rfl

/-! ## BQ.RES, BQ.DONE and BQ.ABORT -/

section
variable (h : Executes c n x [] (some 0))
include h

theorem bqResult_fault (hb : buffer m c n x 64 .load = .error e) :
    bqResult m c n x = (m, hartTrap (walked m c n x .load) n e (operandA c n x)) := by
  refine (xsaw_run m _ h).trans ?_
  simp only [hb]

theorem bqResult_stale (hb : buffer m c n x 64 .load = .ok a) (ht : heldTask (getHart c n) (operandB c n x) = none) :
    bqResult m c n x = (m, xret (staleOp (walked m c n x .load) (operandB c n x % 2 ^ 16)) n x (2 ^ 64 - 3)) := by
  refine (xsaw_run m _ h).trans ?_
  simp only [hb, ht, bqCode]

section
variable {q f : Nat} {t : Task} (hb : buffer m c n x 64 .load = .ok a) (ht : heldTask (getHart c n) (operandB c n x) = some (q, f))
  (hf : taskOf (getBoom (walked m c n x .load) q) f = some t)
include hb ht hf

omit hf in
theorem bqResult_disabled (hr : bdResEn (getBoom (walked m c n x .load) q).desc = false) :
    bqResult m c n x = (m, xret (walked m c n x .load) n x (2 ^ 64 - 2)) := by
  refine (xsaw_run m _ h).trans ?_
  simp only [hb, ht, hr, Bool.not_false, if_true, bqCode]

theorem bqResult_full (hr : bdResEn (getBoom (walked m c n x .load) q).desc = true)
    (hmax : bdResMax (getBoom (walked m c n x .load) q).desc ≤ t.staged.length) :
    bqResult m c n x = (m, xret (walked m c n x .load) n x (2 ^ 64 - 4)) := by
  refine (xsaw_run m _ h).trans ?_
  simp only [hb, ht, hr, hf, hmax, Bool.not_true, Bool.false_eq_true, if_false, if_true, bqCode]

theorem bqResult_stages (hr : bdResEn (getBoom (walked m c n x .load) q).desc = true)
    (hmax : t.staged.length < bdResMax (getBoom (walked m c n x .load) q).desc) :
    bqResult m c n x = (m, xret (setBoom (walked m c n x .load) q { getBoom (walked m c n x .load) q with
      tasks := (getBoom (walked m c n x .load) q).tasks.map (fun t =>
        if t.first = f then { t with staged := t.staged ++ [readBytes m (a + 31) 29] } else t) }) n x 0) := by
  refine (xsaw_run m _ h).trans ?_
  simp only [hb, ht, hr, hf, Nat.not_le.mpr hmax, Bool.not_true, Bool.false_eq_true, if_false]
  rfl

end

theorem bqComplete_fault (hb : buffer m c n x 64 .load = .error e) (ha : operandA c n x ≠ 0) :
    bqComplete m c n x = (m, hartTrap (walked m c n x .load) n e (operandA c n x)) := by
  refine (xsaw_run m _ h).trans ?_
  simp only [ha, if_false, hb]

theorem bqComplete_stale_bare (ha : operandA c n x = 0) (ht : heldTask (getHart c n) (operandB c n x) = none) :
    bqComplete m c n x = (m, xret (staleOp c (operandB c n x % 2 ^ 16)) n x (2 ^ 64 - 3)) := by
  refine (xsaw_run m _ h).trans ?_
  simp only [ha, if_true, ht, bqCode]

theorem bqComplete_stale (hb : buffer m c n x 64 .load = .ok a) (ha : operandA c n x ≠ 0)
    (ht : heldTask (getHart c n) (operandB c n x) = none) :
    bqComplete m c n x = (m, xret (staleOp (walked m c n x .load) (operandB c n x % 2 ^ 16)) n x (2 ^ 64 - 3)) := by
  refine (xsaw_run m _ h).trans ?_
  simp only [ha, if_false, hb, ht, bqCode]

theorem bqComplete_bare {q f : Nat} (ha : operandA c n x = 0) (ht : heldTask (getHart c n) (operandB c n x) = some (q, f)) :
    bqComplete m c n x = settleBooms m (closeTask (xret c n x 0) q f 1 0 none) := by
  refine (xsaw_run m _ h).trans ?_
  simp only [ha, if_true, ht, Option.map_none]

theorem bqComplete_with {q f : Nat} (hb : buffer m c n x 64 .load = .ok a) (ha : operandA c n x ≠ 0)
    (ht : heldTask (getHart c n) (operandB c n x) = some (q, f)) : bqComplete m c n x =
      settleBooms m (closeTask (xret (walked m c n x .load) n x 0) q f 1 0 (some (readBytes m (a + 31) 29))) := by
  refine (xsaw_run m _ h).trans ?_
  simp only [ha, if_false, hb, ht, Option.map_some]
  rfl

theorem bqAbortTask_stale (ht : heldTask (getHart c n) (operandB c n x) = none) :
    bqAbortTask m c n x = (m, xret (staleOp c (operandB c n x % 2 ^ 16)) n x (2 ^ 64 - 3)) := by
  refine (xsaw_run m _ h).trans ?_
  simp only [ht, bqCode]

theorem bqAbortTask_held {q f : Nat} (ht : heldTask (getHart c n) (operandB c n x) = some (q, f)) (hv : operandA c n x % 256 < 0x80) :
    bqAbortTask m c n x = settleBooms m (closeTask (xret c n x 0) q f 2 (operandA c n x % 256) none) := by
  refine (xsaw_run m _ h).trans ?_
  simp only [ht, abortCause, hv, if_true]

end

end

/-- A stale operation is counted by its boom. -/
theorem staleOp_counted (c : Core) (q : Nat) : (getBoom (staleOp c q) q).stale = ((getBoom c q).stale + 1) % 2 ^ 64 := by
  have h : getBoom (staleOp c q) q = getBoom (modBoom c q (fun b => { b with stale := (b.stale + 1) % 2 ^ 64 })) q := rfl
  rw [h, getBoom_modBoom_same]

/-! ## The commands -/

section
variable {s : State} {n : Fin 1024} (x : RType) (ht : s.core.hbm.training = false)
include ht

theorem exec_bqEnq : exec (.bqEnq n x) s = did s (bqEnqueue s.mem s.core n.val x) := bestEffort_run s (hartMustWait_idle (.inl ht)) _ _

theorem exec_bqWait : exec (.bqWait n x) s = did s (bqCollect s.mem s.core n.val x true) :=
  bestEffort_run s (hartMustWait_idle (.inl ht)) _ _

theorem exec_bqPoll : exec (.bqPoll n x) s = did s (bqCollect s.mem s.core n.val x false) :=
  bestEffort_run s (hartMustWait_idle (.inl ht)) _ _

theorem exec_bqDone : exec (.bqDone n x) s = did s (bqComplete s.mem s.core n.val x) := bestEffort_run s (hartMustWait_idle (.inl ht)) _ _

theorem exec_bqAbort : exec (.bqAbort n x) s = did s (bqAbortTask s.mem s.core n.val x) := bestEffort_run s (hartMustWait_idle (.inl ht)) _ _

end

/-- Settles O53: each instruction by the branch that its operands and its hart choose. -/
theorem xsawTasksAndJobs : Obligations.XsawTasksAndJobs := by
  refine ⟨fun s n x e ht => ?_, fun s n x a hx ht => ?_, fun s n x a hx ht => ?_, collect_says, fun s n x a q f t hx ht => ?_,
    fun s n x a hx ht => ?_, staleOp_counted⟩
  · intro h va c d
    refine ⟨fun hx hb => ⟨?_, ?_, fun ha => ?_⟩, fun hx hb => ⟨?_, ?_⟩⟩
    · exact gives_did (q := (s.mem, _)) (exec_bqEnq x ht) (bqEnqueue_fault hx hb)
    · exact gives_did (q := (s.mem, _)) rfl (bqResult_fault hx hb)
    · exact gives_did (q := (s.mem, _)) (exec_bqDone x ht) (bqComplete_fault hx hb ha)
    · exact gives_did (q := (s.mem, _)) (exec_bqWait x ht) (bqCollect_fault hx hb)
    · exact gives_did (q := (s.mem, _)) (exec_bqPoll x ht) (bqCollect_fault hx hb)
  · intro h va c q b t body l hb
    refine ⟨fun hd => ?_, fun hd hs hf => ?_, fun hd hs hf ho => ⟨?_, length_jobEntry .., ?_⟩⟩
    · exact gives_did (q := (s.mem, _)) (exec_bqEnq x ht) (bqEnqueue_closed hx hb hd)
    · exact gives_did (q := (s.mem, _)) (exec_bqEnq x ht) (bqEnqueue_full hx hb hd hs hf)
    · exact gives_did (q := (_, _)) (exec_bqEnq x ht) (bqEnqueue_entered hx hb hd hs hf ho)
    · exact length_jobEntry c q t 0 0 body ▸ sameBytesBut_store s.mem (entryAddr b.desc t) l
  · intro h va c hb
    refine ⟨fun h2 => ⟨?_, ?_⟩, fun h2 hd => ⟨?_, fun hp => ?_, fun hp q f d hturn => ?_⟩,
      fun h2 q f hd => ⟨?_, ?_⟩⟩
    · exact gives_did (q := (s.mem, _)) (exec_bqWait x ht) (bqCollect_holdsTwo hx hb h2)
    · exact gives_did (q := (s.mem, _)) (exec_bqPoll x ht) (bqCollect_holdsTwo hx hb h2)
    · exact gives_did (q := (s.mem, _)) (exec_bqWait x ht) (bqCollect_blocks hx hb h2 hd)
    · exact gives_did (q := (s.mem, _)) (exec_bqPoll x ht) (bqCollect_empty hx hb h2 hd hp)
    · exact gives_did (exec_bqPoll x ht) (bqCollect_pulls hx hb h2 hd hp hturn)
    · exact gives_did (q := (_, _)) (exec_bqWait x ht) (bqCollect_delivered hx hb h2 hd)
    · exact gives_did (q := (_, _)) (exec_bqPoll x ht) (bqCollect_delivered hx hb h2 hd)
  · intro h va c b close cut hheld
    refine ⟨fun hb hf => ⟨fun hr => ?_, fun hr hmax => ?_, fun hr hmax => ?_⟩, fun ha => ?_, fun hb ha => ?_, fun hv => ?_⟩
    · exact gives_did (q := (s.mem, _)) rfl (bqResult_disabled hx hb hheld hr)
    · exact gives_did (q := (s.mem, _)) rfl (bqResult_full hx hb hheld hf hr hmax)
    · exact gives_did (q := (s.mem, _)) rfl (bqResult_stages hx hb hheld hf hr hmax)
    · exact gives_did (exec_bqDone x ht) (bqComplete_bare hx ha hheld)
    · exact gives_did (exec_bqDone x ht) (bqComplete_with hx hb ha hheld)
    · exact gives_did (exec_bqAbort x ht) (bqAbortTask_held hx hheld hv)
  · intro h va c q hheld
    refine ⟨?_, fun ha => ?_, fun hb => ⟨?_, fun ha => ?_⟩⟩
    · exact gives_did (q := (s.mem, _)) (exec_bqAbort x ht) (bqAbortTask_stale hx hheld)
    · exact gives_did (q := (s.mem, _)) (exec_bqDone x ht) (bqComplete_stale_bare hx ha hheld)
    · exact gives_did (q := (s.mem, _)) rfl (bqResult_stale hx hb hheld)
    · exact gives_did (q := (s.mem, _)) (exec_bqDone x ht) (bqComplete_stale hx hb ha hheld)

end Sys2Proof.Machine
end

section
/-!
A core's loads and stores, its traps and its timer (R331 to R333).
-/
namespace Sys2Proof.Machine

/-! ## Fields of a number -/

theorem putField_eq (d lo len v : Nat) : putField d lo len v = 2 ^ lo * (2 ^ len * (d / 2 ^ lo / 2 ^ len) + v % 2 ^ len) + d % 2 ^ lo := by
  have h1 := Nat.div_add_mod d (2 ^ lo)
  have h2 := Nat.div_add_mod (d / 2 ^ lo) (2 ^ len)
  have h3 : d = 2 ^ lo * (2 ^ len * (d / 2 ^ lo / 2 ^ len)) + bits d lo len * 2 ^ lo + d % 2 ^ lo := by
    conv_lhs => rw [← h1, ← h2]
    unfold bits
    ring
  unfold putField
  conv_lhs => rw [h3]
  have h4 : bits (2 ^ lo * (2 ^ len * (d / 2 ^ lo / 2 ^ len)) + bits d lo len * 2 ^ lo + d % 2 ^ lo) lo len = bits d lo len := by rw [← h3]
  rw [h4, Nat.mul_add, Nat.mul_comm (2 ^ lo) (v % 2 ^ len)]
  omega

theorem testBit_putField (d lo len v j : Nat) : (putField d lo len v).testBit j =
    if lo ≤ j ∧ j < lo + len then v.testBit (j - lo) else d.testBit j := by
  rw [putField_eq, Nat.testBit_two_pow_mul_add _ (Nat.mod_lt _ (Nat.two_pow_pos lo)), Nat.testBit_mod_two_pow,
    Nat.testBit_two_pow_mul_add _ (Nat.mod_lt _ (Nat.two_pow_pos len)), Nat.testBit_mod_two_pow, Nat.testBit_div_two_pow,
    Nat.testBit_div_two_pow]
  rcases Nat.lt_or_ge j lo with hj | hj
  · simp [hj, Nat.not_le.mpr hj]
  · rcases Nat.lt_or_ge j (lo + len) with hl | hl
    · simp [hj, hl, Nat.not_lt.mpr hj, show j - lo < len by omega]
    · simp [hj, Nat.not_lt.mpr hj, Nat.not_lt.mpr hl, show ¬j - lo < len by omega, show j - lo - len + len + lo = j by omega]

theorem testBit_bits (d lo len j : Nat) : (bits d lo len).testBit j = (decide (j < len) && d.testBit (j + lo)) := by
  rw [bits, Nat.testBit_mod_two_pow, Nat.testBit_div_two_pow]

theorem bits_putField_same (d lo len v : Nat) : bits (putField d lo len v) lo len = v % 2 ^ len := by
  refine Nat.eq_of_testBit_eq fun j => ?_
  rw [testBit_bits, testBit_putField, Nat.testBit_mod_two_pow]
  by_cases hj : j < len
  · simp [hj, show j + lo < lo + len by omega]
  · simp [hj]

theorem bits_putField_ne {d lo len v lo' len' : Nat} (h : lo' + len' ≤ lo ∨ lo + len ≤ lo') :
    bits (putField d lo len v) lo' len' = bits d lo' len' := by
  refine Nat.eq_of_testBit_eq fun j => ?_
  rw [testBit_bits, testBit_bits, testBit_putField]
  by_cases hj : j < len'
  · rw [if_neg (by omega)]
  · simp [hj]

theorem bit_putField_one (d i : Nat) (b : Bool) : bit (putField d i 1 (ofBool b)) i = b := by
  rw [bit, testBit_putField, if_pos (by omega), Nat.sub_self]
  cases b <;> rfl

/-! ## Traps and the timer interrupt (R331, R333) -/

/-- mstatus of a hart that a trap takes to M mode. -/
def trapStatus (h : Hart) : Nat :=
  putField (putField (putField (csrGet h csrMstatus) 7 1 (bits (csrGet h csrMstatus) 3 1)) 3 1 0) 11 2 h.mode

/-- The hart that a trap with a code of mcause takes to M mode, before its mode and pc. -/
def trapped (h : Hart) (code tval : Nat) : Hart :=
  csrSet (csrSet (csrSet (csrSet h csrMepc h.pc) csrMcause code) csrMtval tval) csrMstatus (trapStatus h)

/-- The code of mcause. -/
def trapCode (irq : Bool) (cause : Nat) : Nat := cause + ofBool irq * 2 ^ 63

theorem trap_machine {h : Hart} {irq : Bool} {cause : Nat} (tval : Nat)
    (hd : h.mode = 3 ∨ bit (csrGet h (if irq then csrMideleg else csrMedeleg)) cause = false) : trap h irq cause tval =
      { trapped h (trapCode irq cause) tval with
        mode := 3, pc := csrGet h csrMtvec / 4 * 4 + (if irq && csrGet h csrMtvec % 4 == 1 then 4 * cause else 0) } := by
  refine if_neg fun ⟨hb, hm⟩ => ?_
  rcases hd with hd | hd
  · exact hm hd
  · simp [hd] at hb

theorem trapped_x (h : Hart) (code tval : Nat) : (trapped h code tval).x = h.x := rfl

theorem csrGet_trapped (h : Hart) (code tval : Nat) : csrGet (trapped h code tval) csrMepc = h.pc ∧
    csrGet (trapped h code tval) csrMcause = code ∧ csrGet (trapped h code tval) csrMtval = tval ∧
    csrGet (trapped h code tval) csrMstatus = trapStatus h := by
  simp only [trapped, csrGet_csrSet_same, csrGet_csrSet_ne _ _ (show csrMepc ≠ csrMstatus by decide),
    csrGet_csrSet_ne _ _ (show csrMepc ≠ csrMtval by decide), csrGet_csrSet_ne _ _ (show csrMepc ≠ csrMcause by decide),
    csrGet_csrSet_ne _ _ (show csrMcause ≠ csrMstatus by decide), csrGet_csrSet_ne _ _ (show csrMcause ≠ csrMtval by decide),
    csrGet_csrSet_ne _ _ (show csrMtval ≠ csrMstatus by decide), and_self]

/-- mstatus of a trap keeps the mode and the interrupt enable. -/
theorem bits_trapStatus {h : Hart} (hm : h.mode ≤ 3) : bits (trapStatus h) 11 2 = h.mode ∧
    bits (trapStatus h) 7 1 = bits (csrGet h csrMstatus) 3 1 ∧ bits (trapStatus h) 3 1 = 0 := by
  have hbit : bits (csrGet h csrMstatus) 3 1 % 2 ^ 1 = bits (csrGet h csrMstatus) 3 1 := Nat.mod_mod _ _
  refine ⟨?_, ?_, ?_⟩
  · rw [trapStatus, bits_putField_same]
    omega
  · rw [trapStatus, bits_putField_ne (by decide), bits_putField_ne (by decide), bits_putField_same, hbit]
  · rw [trapStatus, bits_putField_ne (by decide), bits_putField_same]
    rfl

theorem moved_x (h : Hart) (mode pc : Nat) : { h with mode := mode, pc := pc }.x = h.x := rfl

/-- A hart that goes to another mode and pc. -/
theorem csrGet_moved (h : Hart) (mode pc r : Nat) : csrGet { h with mode := mode, pc := pc } r = csrGet h r := rfl

theorem trap_says (h : Hart) (irq : Bool) (cause tval : Nat) (hm : h.mode ≤ 3)
    (hd : h.mode = 3 ∨ bit (csrGet h (if irq then csrMideleg else csrMedeleg)) cause = false) :
    let t := trap h irq cause tval
    t.mode = 3 ∧ csrGet t csrMepc = h.pc ∧ csrGet t csrMcause = cause + ofBool irq * 2 ^ 63 ∧
      csrGet t csrMtval = tval ∧ bits (csrGet t csrMstatus) 11 2 = h.mode ∧
      bits (csrGet t csrMstatus) 7 1 = bits (csrGet h csrMstatus) 3 1 ∧ bits (csrGet t csrMstatus) 3 1 = 0 ∧
      t.pc = csrGet h csrMtvec / 4 * 4 + (if irq = true ∧ csrGet h csrMtvec % 4 = 1 then 4 * cause else 0) ∧ t.x = h.x := by
  intro t
  have ht : t = _ := trap_machine tval hd
  have hcsr (r : Nat) : csrGet t r = csrGet (trapped h (trapCode irq cause) tval) r := by rw [ht, csrGet_moved]
  obtain ⟨hepc, hcause, htval, hstatus⟩ := csrGet_trapped h (trapCode irq cause) tval
  obtain ⟨h11, h7, h3⟩ := bits_trapStatus hm
  refine ⟨?_, (hcsr _).trans hepc, (hcsr _).trans hcause, (hcsr _).trans htval, ?_, ?_, ?_, ?_, ?_⟩
  · rw [ht]
  · rw [hcsr, hstatus, h11]
  · rw [hcsr, hstatus, h7]
  · rw [hcsr, hstatus, h3]
  · rw [ht]
    simp only [Bool.and_eq_true, beq_iff_eq]
  · rw [ht, moved_x, trapped_x]

theorem timerPending_bit {c : Core} {h : Hart} (hdue : h.mtimecmp ≤ mtime c) : bit (csrGet (timerPending c h) csrMip) 7 = true := by
  rw [timerPending, csrGet_csrSet_same, decide_eq_true hdue]
  exact bit_putField_one _ 7 true

theorem timerInterrupt_due {c : Core} {n : Nat} (hr : (getHart c n).running = true) (hdue : (getHart c n).mtimecmp ≤ mtime c) :
    timerInterrupt c n = interruptsOf (setHart c n (timerPending c (getHart c n))) n := if_pos ⟨hr, hdue⟩

theorem timerInterrupt_not {c : Core} {n : Nat} (h : (getHart c n).running = false ∨ mtime c < (getHart c n).mtimecmp) :
    timerInterrupt c n = c := by
  refine if_neg fun ⟨hr, hdue⟩ => ?_
  rcases h with h | h
  · simp [h] at hr
  · omega

theorem interruptsOf_setHart (c : Core) (n : Nat) (h : Hart) : interruptsOf (setHart c n h) n = setHart c n (takeInterrupt h) := by
  rw [interruptsOf, modHart, getHart_setHart_same, setHart_setHart]

/-- The timer's interrupt alone is taken by a hart that runs and enables it. -/
theorem takeInterrupt_timer {h : Hart} (hr : h.running = true) (hw : h.waits = none) (hp : pendingInts h = 2 ^ 7)
    (hd : bit (csrGet h csrMideleg) 7 = false) (he : h.mode < 3 ∨ bit (csrGet h csrMstatus) 3 = true) : takeInterrupt h = trap h true 7 0 := by
  have hon : (h.mode != 3 || bit (csrGet h csrMstatus) 3) = true := by
    rcases he with he | he
    · simp [show h.mode ≠ 3 by omega]
    · simp [he]
  have hnow : interruptNow h = some 7 := by
    have h3 : bit (2 ^ 7) 3 = false := by decide
    have h7 : bit (2 ^ 7) 7 = true := by decide
    simp only [interruptNow, hp, List.find?_cons, h3, h7, hd, hon, Bool.false_and, Bool.not_false, Bool.and_self]
  simp only [takeInterrupt, hw, hr, hnow, Bool.not_true, Bool.false_eq_true, Option.isSome_none, or_self, if_false]

/-! ## The end of an access -/

theorem lengthOf_harts (c : Core) (op : MemOp) : ∃ f, (lengthOf c op).2 = { c with fresh := f } := by
  cases op <;> exact ⟨_, rfl⟩

theorem lengthOf_two_or_four {op : MemOp} (c : Core) (h : op ≠ .fetch) : (lengthOf c op).1 = 2 ∨ (lengthOf c op).1 = 4 := by
  have hbit (p : Bool) : (if p then 2 else 4) = 2 ∨ (if p then 2 else 4) = 4 := by cases p <;> decide
  cases op with
  | fetch => exact absurd rfl h
  | load sg => exact hbit _
  | store => exact hbit _
  | _ => exact .inr rfl

theorem retire_says (c : Core) (n : Nat) (op : MemOp) (rd v : Nat) :
    let d := retire c n op rd v
    op ≠ .fetch → rd < 32 →
    ((getHart d n).pc = ((getHart c n).pc + 2) % 2 ^ 64 ∨ (getHart d n).pc = ((getHart c n).pc + 4) % 2 ^ 64) ∧
    getX (getHart d n) rd = (if rd = 0 then 0 else v % 2 ^ 64) ∧ (∀ r, r ≠ rd → getX (getHart d n) r = getX (getHart c n) r) ∧
    (getHart d n).csr = (getHart c n).csr ∧ d.regs = c.regs := by
  intro d hop _
  obtain ⟨f, hf⟩ := lengthOf_harts c op
  have hd : getHart d n = advance (setX (getHart c n) rd v) (lengthOf c op).1 := by
    refine (getHart_modHart_same ..).trans ?_
    change advance (setX (getHart (lengthOf c op).2 n) rd v) (lengthOf c op).1 = _
    rw [hf]
    rfl
  have hx (r : Nat) : getX (getHart d n) r = getX (setX (getHart c n) rd v) r := by rw [hd]; rfl
  obtain ⟨xs, hset⟩ := setX_eq (getHart c n) rd v
  refine ⟨?_, (hx rd).trans (getX_setX_same ..), fun r hr => (hx r).trans (getX_setX_ne _ _ hr), ?_, ?_⟩
  · rw [hd, hset]
    rcases lengthOf_two_or_four c hop with h | h <;> rw [h]
    · exact .inl rfl
    · exact .inr rfl
  · rw [hd, hset]
    rfl
  · change (lengthOf c op).2.regs = c.regs
    rw [hf]

/-! ## Loads and stores (R332) -/

section
variable {m : Mem} {c : Core} {n a : Nat} {x : MemAccess}

/-- What a store of a number leaves of the block. -/
abbrev storeMet (m : Mem) (c : Core) (a : Nat) (x : MemAccess) (v : Nat) : Core :=
  breakReservations (checkedStore m c a (leBytes (2 ^ x.size.toNat) v) .close).2 a (2 ^ x.size.toNat)

/-- What a hart's read of an access's bytes touches. -/
abbrev readMet (c : Core) (n a : Nat) (x : MemAccess) : Core := touchHbm c a (2 ^ x.size.toNat) (hartHint (getHart c n))

/-- The operand of a store. -/
abbrev operandOf (x : MemAccess) : Nat := x.value.toNat % 2 ^ (8 * 2 ^ x.size.toNat)

/-- The block with a hart's reservation set. -/
abbrev keptBy (c : Core) (n : Nat) (v : Option (Nat × Nat)) : Core := modHart c n (fun h => { h with reserved := v })

theorem accessMemory_load {sg : Bool} (hop : x.op = .load sg) (hb : badUnits m a (2 ^ x.size.toNat) = []) : accessMemory m c n a x =
    (m, retire (readMet c n a x) n x.op x.rd.toNat (extended sg (8 * 2 ^ x.size.toNat) (readNat m a (2 ^ x.size.toNat)))) := by
  simp [accessMemory, hop, kindOf, checkedRead_good c _ hb]

theorem accessMemory_load_bad {sg : Bool} (hop : x.op = .load sg) (hb : badUnits m a (2 ^ x.size.toNat) ≠ []) : accessMemory m c n a x =
    (m, uncorrectableTrap (checkedRead m c a (2 ^ x.size.toNat) (hartHint (getHart c n))).2 n 5 x.vaddr.toNat) := by
  have hbad : (checkedRead m c a (2 ^ x.size.toNat) (hartHint (getHart c n))).1 = false := by simpa [checkedRead] using hb
  simp [accessMemory, hop, kindOf, hbad, accessCause]

theorem accessMemory_lr (hop : x.op = .lr) (hb : badUnits m a (2 ^ x.size.toNat) = []) : accessMemory m c n a x =
    (m, retire (keptBy (readMet c n a x) n (some (a, 2 ^ x.size.toNat))) n x.op x.rd.toNat
      (extended true (8 * 2 ^ x.size.toNat) (readNat m a (2 ^ x.size.toNat)))) := by
  simp [accessMemory, hop, kindOf, checkedRead_good c _ hb]

theorem accessMemory_fetch (hop : x.op = .fetch) (hb : badUnits m a (2 ^ x.size.toNat) = []) : accessMemory m c n a x =
    (m, readMet c n a x) := by
  simp [accessMemory, hop, kindOf, checkedRead_good c _ hb]

theorem accessMemory_protected (hk : kindOf x.op = .store) (hp : protectedYard c a (2 ^ x.size.toNat) = true) : accessMemory m c n a x =
    (m, hartTrap c n 7 x.vaddr.toNat) := if_pos ⟨hk, hp⟩

section
variable (hp : protectedYard c a (2 ^ x.size.toNat) = false)
include hp

theorem accessMemory_store (hop : x.op = .store) : accessMemory m c n a x =
    (store m a (leBytes (2 ^ x.size.toNat) (operandOf x)), retireStore (storeMet m (readMet c n a x) a x (operandOf x)) n x.op) := by
  simp [accessMemory, hop, kindOf, hp, checkedStore_fst]

theorem accessMemory_sc_fails (hop : x.op = .sc) (hr : (getHart c n).reserved ≠ some (a, 2 ^ x.size.toNat)) : accessMemory m c n a x =
    (m, retire (keptBy c n none) n x.op x.rd.toNat 1) := by
  simp [accessMemory, hop, kindOf, hp, hr]

theorem accessMemory_sc (hop : x.op = .sc) (hr : (getHart c n).reserved = some (a, 2 ^ x.size.toNat)) : accessMemory m c n a x =
    (store m a (leBytes (2 ^ x.size.toNat) (operandOf x)),
      retire (keptBy (storeMet m (readMet c n a x) a x (operandOf x)) n none) n x.op x.rd.toNat 0) := by
  simp [accessMemory, hop, kindOf, hp, hr, checkedStore_fst]

theorem accessMemory_amo (hat : atomic x.op = true) (hlr : x.op ≠ .lr) (hsc : x.op ≠ .sc) (hb : badUnits m a (2 ^ x.size.toNat) = []) :
    let new := amoResult x.op (8 * 2 ^ x.size.toNat) (readNat m a (2 ^ x.size.toNat)) (operandOf x)
    accessMemory m c n a x = (store m a (leBytes (2 ^ x.size.toNat) new), retire (storeMet m (readMet c n a x) a x new) n x.op x.rd.toNat
      (extended true (8 * 2 ^ x.size.toNat) (readNat m a (2 ^ x.size.toNat)))) := by
  cases hop : x.op with
  | load sg | store | fetch => rw [hop] at hat; cases hat
  | lr => exact absurd hop hlr
  | sc => exact absurd hop hsc
  | _ => simp [accessMemory, hop, kindOf, hp, checkedRead_good c _ hb, checkedStore_fst]

end

/-! ## The frame of an access -/

section
variable (hr : HartRuns c n) (hatomic : atomic x.op = true → 4 ≤ 2 ^ x.size.toNat)
include hr hatomic

/-- The block after the walk of an access. -/
abbrev walkedAt (m : Mem) (c : Core) (n : Nat) (x : MemAccess) : Core := walkMet m c n (getHart c n) x.vaddr.toNat (kindOf x.op)

omit hr in
theorem longEnough : ¬(atomic x.op = true ∧ 2 ^ x.size.toNat < 4) := fun ⟨h, hl⟩ => absurd (hatomic h) (by omega)

theorem loadStore_misaligned (ha : x.vaddr.toNat % (if kindOf x.op = .fetch then 2 else 2 ^ x.size.toNat) ≠ 0) :
    loadStore m c n x = (m, hartTrap c n (alignCause (kindOf x.op)) x.vaddr.toNat) :=
  (if_neg (hartRuns_on hr)).trans ((if_neg (longEnough hatomic)).trans (if_pos ha))

section
variable (ha : x.vaddr.toNat % (if kindOf x.op = .fetch then 2 else 2 ^ x.size.toNat) = 0)
include ha

theorem loadStore_fault {e : Nat} (ht : translate m c n (getHart c n) x.vaddr.toNat (2 ^ x.size.toNat) (kindOf x.op) = .error e) :
    loadStore m c n x = (m, hartTrap (walkedAt m c n x) n e x.vaddr.toNat) := by
  refine (if_neg (hartRuns_on hr)).trans ((if_neg (longEnough hatomic)).trans ((if_neg (not_not.mpr ha)).trans ?_))
  simp only [ht]

section
variable {p : Nat} (ht : translate m c n (getHart c n) x.vaddr.toNat (2 ^ x.size.toNat) (kindOf x.op) = .ok p)
include ht

theorem loadStore_unmapped (hreg : regionOf (walkedAt m c n x) n p (2 ^ x.size.toNat) = .unmapped) :
    loadStore m c n x = (m, hartTrap (walkedAt m c n x) n (accessCause (kindOf x.op)) x.vaddr.toNat) := by
  refine (if_neg (hartRuns_on hr)).trans ((if_neg (longEnough hatomic)).trans ((if_neg (not_not.mpr ha)).trans ?_))
  simp only [ht, hreg]

theorem loadStore_memory (hreg : regionOf (walkedAt m c n x) n p (2 ^ x.size.toNat) = .memory a) :
    loadStore m c n x = accessMemory m (walkedAt m c n x) n a x := by
  refine (if_neg (hartRuns_on hr)).trans ((if_neg (longEnough hatomic)).trans ((if_neg (not_not.mpr ha)).trans ?_))
  simp only [ht, hreg]

end

end

end

end

theorem exec_sawyerLoadStore {s : State} {n : Fin 1024} (x : MemAccess) (ht : s.core.hbm.training = false) :
    exec (.sawyerLoadStore n x) s = did s (loadStore s.mem s.core n.val x) :=
  bestEffort_run s (by simp [loadStoreWaits, hartMustWait, ht]) _ _

/-- A number's bytes stored are the number read back. -/
theorem readNat_store (m : Mem) (a len v : Nat) : readNat (store m a (leBytes len v)) a len = v % 2 ^ (8 * len) := by
  have h := readBytes_store m a (leBytes len v)
  rw [length_leBytes] at h
  rw [readNat, h, ofLe_leBytes, show (256 : Nat) = 2 ^ 8 from rfl, ← Nat.pow_mul]

/-- Settles O54: the frame of an access reaches the memory, where each operation has its own rule. -/
theorem coreLoadsStoresAndTimer : Obligations.CoreLoadsStoresAndTimer := by
  refine ⟨fun s n x a hreach ht => ?_, fun m a len v => ⟨?_, readNat_store m a len v⟩, fun s n x hr ht => ?_, retire_says, trap_says,
    fun s n => ?_⟩
  · intro len c hint read old value amo written kept
    obtain ⟨hr, ha, hatomic, p, htr, hreg⟩ := hreach
    have hmem : exec (.sawyerLoadStore n x) s = did s (accessMemory s.mem c n.val a x) :=
      (exec_sawyerLoadStore x ht).trans (congrArg (did s) (loadStore_memory hr hatomic ha htr hreg))
    refine ⟨fun sg hop hb => ?_, fun sg hop hb => ?_, fun hop hb => ?_, fun hop hp => ?_, fun hop hp hres => ?_, fun hop hp hres => ?_,
      fun hat hlr hsc hp hb => ?_, fun hop hb => ?_, fun hk hp => ?_⟩
    · exact gives_did (q := (s.mem, _)) hmem (accessMemory_load hop hb)
    · exact gives_did (q := (s.mem, _)) hmem (accessMemory_load_bad hop hb)
    · exact gives_did (q := (s.mem, _)) hmem (accessMemory_lr hop hb)
    · exact gives_did (q := (_, _)) hmem (accessMemory_store hp hop)
    · exact gives_did (q := (s.mem, _)) hmem (accessMemory_sc_fails hp hop hres)
    · exact gives_did (q := (_, _)) hmem (accessMemory_sc hp hop hres)
    · exact gives_did (q := (_, _)) hmem (accessMemory_amo hp hat hlr hsc hb)
    · exact gives_did (q := (s.mem, _)) hmem (accessMemory_fetch hop hb)
    · exact gives_did (q := (s.mem, _)) hmem (accessMemory_protected hk hp)
  · have h := sameBytesBut_store m a (leBytes len v)
    rwa [length_leBytes] at h
  · intro k len c hatomic
    refine ⟨fun ha => ?_, fun ha => ⟨fun e htr => ?_, fun p htr hreg => ?_⟩⟩
    · exact gives_did (q := (s.mem, _)) (exec_sawyerLoadStore x ht) (loadStore_misaligned hr hatomic ha)
    · exact gives_did (q := (s.mem, _)) (exec_sawyerLoadStore x ht) (loadStore_fault hr hatomic ha htr)
    · exact gives_did (q := (s.mem, _)) (exec_sawyerLoadStore x ht) (loadStore_unmapped hr hatomic ha htr hreg)
  · intro h g
    refine ⟨fun hr hdue => ⟨timerPending_bit hdue, makes_didC rfl (timerInterrupt_due hr hdue), fun hw hp hd he => ?_⟩,
      fun hnot => makes_didC rfl (timerInterrupt_not hnot)⟩
    refine makes_didC rfl ((timerInterrupt_due hr hdue).trans ((interruptsOf_setHart ..).trans ?_))
    exact congrArg (setHart s.core n.val) (takeInterrupt_timer (h := g) hr hw hp hd he)

end Sys2Proof.Machine
end

section
/-!
A write of a boom's own descriptor with ENABLED 0 disables it whatever PLACEMENT the write holds (R342, R343).
-/
namespace Sys2Proof.Machine

/-- A block with boom 1 enabled, nothing in it. -/
def emptyBoom : State := { pending := [], mem := {}, core := { booms := [(1, { desc := 2 ^ 53 })] } }

/-- The descriptor of boom 1 with ENABLED 0, in a write that holds 1 for the read-only PLACEMENT. -/
def disablingDesc : List Byte := leBytes 32 (2 ^ 128)

theorem objIs_boomDesc : objIs (mkKey 0x5402 2) .domain .rw .any = true := by decide

theorem Makes.status_eq {i : Instr} {s : State} {m : Mem} {c : Core} (hm : Makes i s c) {d : Core} (hd : Gives i s m d) : c.status = d.status := by
  have hcore : noticed c = noticed d := congrArg State.core (Host.Outcome.next.inj (hm.symm.trans hd))
  have hstatus (c : Core) : (noticed c).status = c.status := by
    obtain ⟨x, o, f, l, h⟩ := noticed_only c
    rw [h]
  rw [← hstatus c, ← hstatus d, hcore]

/-- The write is accepted. -/
theorem putBoomDesc_emptyBoom : (putBoomDesc 1 disablingDesc emptyBoom.mem emptyBoom.core).1 = stOk := by decide

/-- Refutes O55: its clause on BOOM_DESC says that an enabled boom refuses every descriptor but its own with ENABLED 0, to the bit; but
PLACEMENT is read-only and keeps its value, so a write that differs from it in PLACEMENT alone disables the boom as well:
`emptyBoom` accepts `disablingDesc`, and the statement refuses it with STATE_CONFLICT. -/
theorem not_boomsPartitionsAndTheWindow : ¬ Obligations.BoomsPartitionsAndTheWindow := by
  unfold Obligations.BoomsPartitionsAndTheWindow
  rintro ⟨hdesc, -⟩
  have hopen : Open emptyBoom.core := by unfold Open; decide
  obtain ⟨-, -, -, hrefused⟩ := hdesc emptyBoom 1 disablingDesc hopen (length_leBytes 32 _)
  have hsaid := hrefused (by decide) (by decide)
  have hfail : blockFail emptyBoom.core false (mkKey 0x5402 2) = none := blockFail_none objIs_boomDesc hopen rfl (by decide) rfl
  have hmax : disablingDesc.length ≤ domMax (mkKey 0x5402 2) := by decide
  have hdone := wroteDomain_eq emptyBoom (mkKey 0x5402 2) disablingDesc (putBoomDesc 1 disablingDesc) hfail (closedTo_open hopen (by decide)) hmax
  have hstatus := Makes.status_eq hsaid (m := _) (d := { (putBoomDesc 1 disablingDesc emptyBoom.mem emptyBoom.core).2.2 with
    status := (putBoomDesc 1 disablingDesc emptyBoom.mem emptyBoom.core).1 }) hdone
  exact absurd (hstatus.trans putBoomDesc_emptyBoom) (by decide)

end Sys2Proof.Machine
end

section
/-!
The Withy links: training, flits, replays and the fall of a link (R365 to R369).
-/
namespace Sys2Proof.Machine

/-! ## Links and their objects -/

@[simp] theorem getLink_setLink_same (c : Core) (l : Nat) (x : Link) : getLink (setLink c l x) l = x := mget_mset_same ..

theorem getLink_congr {c d : Core} (h : d.links = c.links) (l : Nat) : getLink d l = getLink c l := by rw [getLink, h, getLink]

theorem setLink_regs (c : Core) (l : Nat) (x : Link) : (setLink c l x).regs = c.regs := rfl

theorem lk_eq_iff {l i j : Nat} : lk l i = lk l j ↔ i = j := Nat.add_left_cancel_iff

theorem lk_ne_clock (l i : Nat) (hi : i < 256) (hl : l < 8) : lk l i ≠ clockKey := by
  simp only [lk, clockKey, mkKey, Key, ne_eq]
  omega

/-! ## Sending flits (R366, R367) -/

theorem sendFlit_outbox (c : Core) (l kind fseq : Nat) (slots : List Slot) :
    (sendFlit c l kind fseq slots).outbox = c.outbox ++ [.flit l kind fseq (flitBytes (getLink c l) kind fseq slots)] := rfl

/-- A flit takes the credit and the ACK along, and the rest of its link stands. -/
theorem getLink_sendFlit (c : Core) (l kind fseq : Nat) (slots : List Slot) : getLink (sendFlit c l kind fseq slots) l =
    { getLink c l with freed := creditTaken (getLink c l), acked := ((getLink c l).expect + 4095) % 4096 } := getLink_setLink_same ..

theorem sendFlits_says (l : Nat) (fs : List SentFlit) (c : Core) :
    let d := fs.foldl (fun c f => sendFlit c l 0 f.fseq f.slots) c
    d.regs = c.regs ∧ (getLink d l).replay = (getLink c l).replay ∧ (getLink d l).progress = (getLink c l).progress ∧
      d.outbox.length = c.outbox.length + fs.length := by
  induction fs generalizing c with
  | nil => exact ⟨rfl, rfl, rfl, rfl⟩
  | cons f fs ih =>
    obtain ⟨hregs, hreplay, hprogress, hout⟩ := ih (sendFlit c l 0 f.fseq f.slots)
    rw [getLink_sendFlit] at hreplay hprogress
    refine ⟨hregs, hreplay, hprogress, hout.trans ?_⟩
    simp only [sendFlit_outbox, List.length_append, List.length_cons, List.length_nil]
    omega

/-! ## Replays (R367) -/

/-- The flits of a replay buffer, each replayed once more. -/
def replayedOnce (x : Link) : List SentFlit := x.replay.map (fun f => { f with replays := f.replays + 1 })

/-- The block with a replay counted, before its flits are sent. -/
def replayNoted (c : Core) (l : Nat) : Core :=
  tallyEvents (bumpBy (setLink c l { getLink c l with replay := replayedOnce (getLink c l), progress := c.time }) (lk l 6)
    (replayedOnce (getLink c l)).length) (0x60 + l) (replayedOnce (getLink c l)).length

theorem replayFlits_eq (c : Core) (l : Nat) : replayFlits c l =
    (replayedOnce (getLink c l)).foldl (fun c f => sendFlit c l 0 f.fseq f.slots) (replayNoted c l) := rfl

theorem getLink_replayNoted (c : Core) (l : Nat) :
    getLink (replayNoted c l) l = { getLink c l with replay := replayedOnce (getLink c l), progress := c.time } := getLink_setLink_same ..

theorem replayFlits_says (c : Core) (l : Nat) :
    let x := getLink c l
    let d := replayFlits c l
    rd d (lk l 6) = (rd c (lk l 6) + x.replay.length) % 2 ^ 64 ∧ (getLink d l).progress = c.time ∧
    (getLink d l).replay = x.replay.map (fun f => { f with replays := f.replays + 1 }) ∧ d.outbox.length = c.outbox.length + x.replay.length := by
  intro x d
  obtain ⟨hregs, hreplay, hprogress, hout⟩ := sendFlits_says l (replayedOnce x) (replayNoted c l)
  have hlen : (replayedOnce x).length = x.replay.length := List.length_map _
  rw [getLink_replayNoted] at hreplay hprogress
  refine ⟨?_, hprogress, hreplay, hout.trans (by rw [hlen]; rfl)⟩
  have hrd : rd d (lk l 6) = rd (bumpBy c (lk l 6) (replayedOnce x).length) (lk l 6) := rd_congr hregs _
  rw [hrd, rd_bumpBy, if_pos rfl, hlen]

theorem replayOrFall_empty {c : Core} {l : Nat} (m : Mem) (h : (getLink c l).replay = []) : replayOrFall m c l = (m, c) :=
  if_pos (by rw [h]; rfl)

section
variable {c : Core} {l : Nat} (m : Mem) (hne : (getLink c l).replay ≠ [])
include hne

/-- No flit had 16 replays before this one. -/
theorem replayOrFall_before (h : ∀ e ∈ (getLink c l).replay, e.replays ≤ 15) : replayOrFall m c l =
    if (getLink (replayFlits c l) l).replay.any (fun f => decide (16 ≤ f.replays)) then linkDown m (replayFlits c l) l else (m, replayFlits c l) := by
  have hempty : (getLink c l).replay.isEmpty = false := by simpa using hne
  have hold : (getLink c l).replay.any (fun f => decide (16 ≤ f.replays)) = false := by
    simp only [List.any_eq_false, decide_eq_true_eq]
    intro e he
    have := h e he
    omega
  exact (if_neg (by simp [hempty])).trans (if_neg (by simp [hold]))

theorem replayOrFall_replays (h : ∀ e ∈ (getLink c l).replay, e.replays < 15) : replayOrFall m c l = (m, replayFlits c l) := by
  refine (replayOrFall_before m hne fun e he => (h e he).le).trans (if_neg ?_)
  obtain ⟨-, -, hreplay, -⟩ := replayFlits_says c l
  simp only [hreplay, List.any_map, List.any_eq_true, Function.comp_apply, decide_eq_true_eq]
  rintro ⟨e, he, h16⟩
  have := h e he
  omega

theorem replayOrFall_falls (h15 : ∃ e ∈ (getLink c l).replay, e.replays = 15) (h : ∀ e ∈ (getLink c l).replay, e.replays ≤ 15) :
    replayOrFall m c l = linkDown m (replayFlits c l) l := by
  refine (replayOrFall_before m hne h).trans (if_pos ?_)
  obtain ⟨-, -, hreplay, -⟩ := replayFlits_says c l
  simp only [hreplay, List.any_map, List.any_eq_true, Function.comp_apply, decide_eq_true_eq]
  obtain ⟨e, he, h15⟩ := h15
  exact ⟨e, he, by omega⟩

end

/-! ## Flits received (R366, R367) -/

/-- What a heard flit makes of its link. -/
def heardLink (c : Core) (l : Nat) (f : Flit) : Link :=
  { getLink c l with
    replay := ackFlits (getLink c l).replay f.ack.toNat
    inUse := [(0, f.credit0.toNat), (1, f.credit1.toNat), (2, f.credit2.toNat), (3, f.credit3.toNat)].foldl
      (fun m e => mset 0 m e.1 (mget 0 m e.1 - e.2)) (getLink c l).inUse
    heard := some c.time
    progress := if (ackFlits (getLink c l).replay f.ack.toNat).length < (getLink c l).replay.length then c.time else (getLink c l).progress }

theorem heardFlit_quiet {c : Core} {l : Nat} (f : Flit) (h : (getLink c l).waiting = []) : heardFlit c l f = setLink c l (heardLink c l f) := by
  change pumpLink (getLink c l).waiting.length (setLink c l (heardLink c l f)) l = _
  rw [h]
  rfl

theorem heardFlit_says (c : Core) (l : Nat) (f : Flit) :
    let x := getLink c l
    let d := heardFlit c l f
    x.waiting = [] →
    (getLink d l).replay = ackFlits x.replay f.ack.toNat ∧ (getLink d l).heard = some c.time ∧ (getLink d l).rx = x.rx ∧
    (getLink d l).expect = x.expect ∧ (∀ e ∈ [(0, f.credit0), (1, f.credit1), (2, f.credit2), (3, f.credit3)],
      mget 0 (getLink d l).inUse e.1 = mget 0 x.inUse e.1 - e.2.toNat) ∧ d.regs = c.regs ∧ d.outbox = c.outbox := by
  intro x d hw
  have hd : d = setLink c l (heardLink c l f) := heardFlit_quiet f hw
  have hl : getLink d l = heardLink c l f := by rw [hd, getLink_setLink_same]
  rw [hl, hd]
  refine ⟨rfl, rfl, rfl, rfl, ?_, rfl, rfl⟩
  simp only [List.mem_cons, List.not_mem_nil, or_false, forall_eq_or_imp, forall_eq, heardLink, List.foldl_cons, List.foldl_nil]
  refine ⟨?_, ?_, ?_, ?_⟩ <;> simp [mget_mset_ne] <;> rfl

section
variable {c : Core} {l : Nat} (f : Flit)

theorem dataFlit_down (h : linkUp c l = false) : dataFlit c l f = c := if_pos (by rw [h]; rfl)

theorem idleFlit_not (h : linkUp c l = false ∨ flitGood 1 f = false) : idleFlit c l f = c := if_neg (by rcases h with h | h <;> simp [h])

theorem idleFlit_heard (h : linkUp c l = true) (hg : flitGood 1 f = true) : idleFlit c l f = heardFlit c l f := if_pos ⟨h, hg⟩

theorem nakFlit_not (m : Mem) (h : linkUp c l = false ∨ flitGood 2 f = false) : nakFlit m c l f = (m, c) :=
  if_neg (by rcases h with h | h <;> simp [h])

theorem nakFlit_heard (m : Mem) (h : linkUp c l = true) (hg : flitGood 2 f = true) : nakFlit m c l f = replayOrFall m (heardFlit c l f) l :=
  if_pos ⟨h, hg⟩

theorem replayTimeout_down (m : Mem) (h : linkUp c l = false) : replayTimeout m c l = (m, c) := if_neg (by simp [h])

theorem ackTimer_down (h : linkUp c l = false) : ackTimer c l = c := if_neg (by simp [h])

theorem ackTimer_up (h : linkUp c l = true) : ackTimer c l = sendFlit c l 1 0 (List.replicate 15 0) := if_pos h

/-- The block after a DATA flit's ACK and credit. -/
def dataHeard (c : Core) (l : Nat) (f : Flit) : Core := if flitGood 0 f then heardFlit c l f else c

variable {d : Core} (hd : d = dataHeard c l f)
include hd

theorem dataFlit_expected (hup : linkUp c l = true) (hg : flitGood 0 f = true) (hs : f.fseq.toNat = (getLink d l).expect) :
    dataFlit c l f = setLink d l { getLink d l with
      expect := ((getLink d l).expect + 1) % 4096, nakSent := false
      rx := tidySlots ((getLink d l).rx.length + 16) ((getLink d l).rx ++ f.slots) } := by
  subst hd
  exact (if_neg (by simp [hup])).trans (if_pos ⟨hg, hs⟩)

theorem dataFlit_other (hup : linkUp c l = true) (h : flitGood 0 f = false ∨ f.fseq.toNat ≠ (getLink d l).expect) :
    dataFlit c l f = if (getLink d l).nakSent then d
      else sendFlit (setLink d l { getLink d l with nakSent := true }) l 2 0 (List.replicate 15 0) := by
  subst hd
  refine (if_neg (by simp [hup])).trans (if_neg fun ⟨hg, hs⟩ => ?_)
  rcases h with h | h
  · simp [h] at hg
  · exact h hs

end

/-! ## A link falls (R32, R368) -/

/-- The block with a link's objects cleared, before its source is raised. -/
def linkCleared (c : Core) (l : Nat) : Core :=
  let c1 := wr (wr (wr (wr c (lk l 2) 0) (lk l 3) 0xFFFF) (lk l 4) 0xFF) (lk l 5) 0
  let c2 := setLink (bump c1 (lk l 8)) l { (getLink c l) with
    level := 0, next := 0, expect := 0, replay := [], nakSent := false, rx := [], freed := [], inUse := [], waiting := [] }
  tallyEvent c2 0xEF

theorem linkFell_eq (c : Core) (l : Nat) : linkFell c l = raise (linkCleared c l) (224 + l) 1 l := rfl

theorem linkCleared_regs (c : Core) (l : Nat) : (linkCleared c l).regs =
    (bump (wr (wr (wr (wr c (lk l 2) 0) (lk l 3) 0xFFFF) (lk l 4) 0xFF) (lk l 5) 0) (lk l 8)).regs := tallyEvent_regs ..

theorem tallyEvent_links (c : Core) (n : Nat) : (tallyEvent c n).links = c.links := rfl

theorem getLink_linkCleared (c : Core) (l : Nat) : getLink (linkCleared c l) l = { (getLink c l) with
    level := 0, next := 0, expect := 0, replay := [], nakSent := false, rx := [], freed := [], inUse := [], waiting := [] } :=
  (getLink_congr (tallyEvent_links _ _) l).trans (getLink_setLink_same ..)

theorem rd_linkCleared (c : Core) (l i : Nat) : rd (linkCleared c l) (lk l i) =
    if i = 8 then (rd c (lk l 8) + 1) % 2 ^ 64 else if i = 5 then 0 else if i = 4 then 0xFF else if i = 3 then 0xFFFF
      else if i = 2 then 0 else rd c (lk l i) := by
  rw [rd_congr (linkCleared_regs c l)]
  simp [rd_bump, rd_wr, lk_eq_iff]

theorem linkFell_says (c : Core) (l : Fin 8) : ∃ x, linkFell c l.val = raise x (224 + l.val) 1 l.val ∧ rd x (lk l.val 2) = 0 ∧
    rd x (lk l.val 3) = 0xFFFF ∧ rd x (lk l.val 4) = 0xFF ∧ rd x (lk l.val 5) = 0 ∧ rd x (lk l.val 8) = (rd c (lk l.val 8) + 1) % 2 ^ 64 ∧
    (getLink x l.val).level = 0 ∧ (getLink x l.val).replay = [] ∧ (getLink x l.val).rx = [] ∧ (getLink x l.val).waiting = [] ∧
    (getLink x l.val).next = 0 ∧ (getLink x l.val).expect = 0 := by
  refine ⟨_, linkFell_eq c l.val, rd_linkCleared c _ 2, rd_linkCleared c _ 3, rd_linkCleared c _ 4, rd_linkCleared c _ 5,
    rd_linkCleared c _ 8, ?_⟩
  rw [getLink_linkCleared]
  exact ⟨rfl, rfl, rfl, rfl, rfl, rfl⟩

theorem rdb_iff (c : Core) (k : Key) : rdb c k = true ↔ rd c k = 1 := beq_iff_eq

theorem linkClockLost_eq (c : Core) (l : Nat) : linkClockLost c l =
    if rd c (lk l 1) = 1 ∧ linksRun c = true then raise (setClock c (30 + l) false) (270 + l) 1 0 else setClock c (30 + l) false :=
  if_congr (and_congr (rdb_iff c (lk l 1)) Iff.rfl) rfl rfl

theorem linkDown_not {c : Core} {l : Nat} (m : Mem) (h : linkUp c l = false) : linkDown m c l = (m, c) := if_pos (by simp [h])

/-- A link without requests, tokens or the mirroring only falls. -/
theorem linkDown_idle {c : Core} {l : Nat} (m : Mem) (h : linkUp c l = true) (ht : lostTokens (getLink c l) = [])
    (hr : ∀ r ∈ (linkClockLost (linkFell c l) l).remote.reqs, r.link ≠ l) (hm : mirrorLink c ≠ some l) :
    linkDown m c l = (m, linkClockLost (linkFell c l) l) := by
  have hmine : (linkClockLost (linkFell c l) l).remote.reqs.filter (fun r => r.link == l) = [] :=
    List.filter_eq_nil_iff.mpr fun r hmem => by simpa using hr r hmem
  have hrest : (linkClockLost (linkFell c l) l).remote.reqs.filter (fun r => r.link != l) = (linkClockLost (linkFell c l) l).remote.reqs :=
    List.filter_eq_self.mpr fun r hmem => by simpa using hr r hmem
  simp only [linkDown, h, ht, hm, Bool.not_true, Bool.false_eq_true, if_false, List.foldl_nil, hmine, hrest, ne_eq, not_false_eq_true, if_true]

/-! ## Training (R365) -/

theorem trains_not {c : Core} {l : Nat} (h : rd c (lk l 1) ≠ 1 ∨ linksRun c = false ∨ linkUp c l = true) :
    (!rdb c (lk l 1)) = true ∨ (!linksRun c) = true ∨ linkUp c l = true := by
  rcases h with h | h | h
  · exact .inl (by simp [rdb, h])
  · exact .inr (.inl (by simp [h]))
  · exact .inr (.inr h)

theorem trains {c : Core} {l : Nat} (h1 : rd c (lk l 1) = 1) (hr : linksRun c = true) (hu : linkUp c l = false) :
    ¬((!rdb c (lk l 1)) = true ∨ (!linksRun c) = true ∨ linkUp c l = true) := by simp [rdb, h1, hr, hu]

/-- The block with the objects of a link that training sets. -/
def trainedRegs (c : Core) (l partner link level : Nat) : Core :=
  wr (wr (wr (wr c (lk l 2) (if oneLane c then 3 else 2)) (lk l 3) partner) (lk l 4) link) (lk l 5) (min level (rd c (mkKey 0x1008 0)))

/-- The block with what training exchanged. -/
def linkTrained (c : Core) (l partner link level : Nat) : Core :=
  setClock (setLink (trainedRegs c l partner link level) l
    { (getLink (trainedRegs c l partner link level) l) with heard := some c.time, level := level }) (30 + l) true

/-- The mirroring goes on over a link that comes UP. -/
def mirroringResumed (x : Core) (l : Nat) : Core :=
  if bit (rd x (bk 2)) l = true ∧ pairState x = 1 ∧ x.buddy.probing.isSome = true then resendMirror (stopProbing x) (fun _ => true) else x

theorem trainedUp_eq {c : Core} {l : Nat} (partner link level : Nat) (h1 : rd c (lk l 1) = 1) (hr : linksRun c = true)
    (hu : linkUp c l = false) :
    let x := linkTrained c l partner link level
    trainedUp c l partner link level = pairRefresh
      (if levelDiffers x = true ∧ levelDiffers c = false ∧ pairState c = 2 then raise (mirroringResumed x l) 301 1 0 else mirroringResumed x l) := by
  intro x
  have hy : (if (bit (rd x (bk 2)) l && pairState x == 1) = true ∧ x.buddy.probing.isSome = true then resendMirror (stopProbing x) (fun _ => true)
      else x) = mirroringResumed x l := by
    refine if_congr ?_ rfl rfl
    simp only [Bool.and_eq_true, beq_iff_eq, and_assoc]
  refine (if_neg (trains h1 hr hu)).trans ?_
  change pairRefresh (if levelDiffers x = true ∧ (!levelDiffers c) = true ∧ pairState c = 2 then raise _ 301 1 0 else _) = _
  rw [← hy]
  simp only [Bool.not_eq_true']
  rfl

theorem trainedRegs_links (c : Core) (l partner link level : Nat) : (trainedRegs c l partner link level).links = c.links := by
  simp only [trainedRegs, wr_links]

theorem getLink_linkTrained (c : Core) (l partner link level : Nat) :
    getLink (linkTrained c l partner link level) l = { getLink c l with heard := some c.time, level := level } := by
  rw [linkTrained, setClock, getLink_congr (wr_links _ _ _), getLink_setLink_same, getLink_congr (trainedRegs_links c l partner link level)]

theorem rd_linkTrained (c : Core) {l : Nat} (partner link level : Nat) {k : Key} (hk : k ≠ clockKey) :
    rd (linkTrained c l partner link level) k = rd (trainedRegs c l partner link level) k := by
  rw [linkTrained, rd_setClock_ne _ _ _ hk, rd_congr (setLink_regs _ _ _)]

theorem rd_trainedRegs (c : Core) (l partner link level i : Nat) : rd (trainedRegs c l partner link level) (lk l i) =
    if i = 5 then min level (rd c (mkKey 0x1008 0)) else if i = 4 then link else if i = 3 then partner
      else if i = 2 then (if oneLane c then 3 else 2) else rd c (lk l i) := by
  simp [trainedRegs, rd_wr, lk_eq_iff]

theorem sameRegsBut_linkTrained (c : Core) (l partner link level : Nat) :
    SameRegsBut [lk l 2, lk l 3, lk l 4, lk l 5, clockKey] c (linkTrained c l partner link level) := by
  intro k hmem
  simp only [List.mem_cons, List.not_mem_nil, or_false, not_or] at hmem
  obtain ⟨h2, h3, h4, h5, hclk⟩ := hmem
  rw [rd_linkTrained c partner link level hclk, trainedRegs, rd_wr_ne _ _ h5, rd_wr_ne _ _ h4, rd_wr_ne _ _ h3, rd_wr_ne _ _ h2]

theorem linkTrained_says (c : Core) (l : Fin 8) (partner link level : Nat) :
    let x := linkTrained c l.val partner link level
    (getLink x l.val).level = level ∧ (getLink x l.val).heard = some c.time ∧ rd x (lk l.val 2) = (if oneLane c then 3 else 2) ∧
      rd x (lk l.val 3) = partner ∧ rd x (lk l.val 4) = link ∧ rd x (lk l.val 5) = min level (rd c (mkKey 0x1008 0)) ∧
      clockBit x (30 + l.val) = true ∧ SameRegsBut [lk l.val 2, lk l.val 3, lk l.val 4, lk l.val 5, clockKey] c x := by
  intro x
  have hlink : getLink x l.val = _ := getLink_linkTrained c l.val partner link level
  have hk (i : Nat) (hi : i < 256) : rd x (lk l.val i) = _ :=
    (rd_linkTrained c partner link level (lk_ne_clock l.val i hi l.isLt)).trans (rd_trainedRegs ..)
  exact ⟨by rw [hlink], by rw [hlink], hk 2 (by decide), hk 3 (by decide), hk 4 (by decide), hk 5 (by decide),
    clockBit_setClock_same _ _ _, sameRegsBut_linkTrained c l.val partner link level⟩

theorem dataFlit_makes (s : State) (l : Fin 8) (f : Flit) (hu : linkUp s.core l.val = true) (c : Core) (hc : c = dataHeard s.core l.val f) :
    let x := getLink c l.val
    (flitGood 0 f = true → f.fseq.toNat = x.expect → Makes (.flitData l f) s (setLink c l.val
      { x with expect := (x.expect + 1) % 4096, nakSent := false, rx := tidySlots (x.rx.length + 16) (x.rx ++ f.slots) })) ∧
    ((flitGood 0 f = false ∨ f.fseq.toNat ≠ x.expect) → x.nakSent = true → Makes (.flitData l f) s c) ∧
    ((flitGood 0 f = false ∨ f.fseq.toNat ≠ x.expect) → x.nakSent = false →
      Makes (.flitData l f) s (sendFlit (setLink c l.val { x with nakSent := true }) l.val 2 0 (List.replicate 15 0))) := by
  intro x
  refine ⟨fun hg hs => makes_didC rfl (dataFlit_expected f hc hu hg hs), fun h hn => ?_, fun h hn => ?_⟩
  · exact makes_didC rfl ((dataFlit_other f hc hu h).trans (if_pos hn))
  · exact makes_didC rfl ((dataFlit_other f hc hu h).trans (if_neg (hn ▸ Bool.false_ne_true)))

/-- Settles O56: training, the fall of a link, and each flit by its check and its sequence. -/
theorem withyLinksAndFlits : Obligations.WithyLinksAndFlits := by
  refine ⟨fun s l p lv k h => ⟨?_, ?_⟩, fun s l p lv k h1 hr hu => ⟨?_, ?_⟩, fun s l => ⟨fun hu => ?_, ?_⟩, linkFell_says,
    fun c l => linkClockLost_eq c l.val, heardFlit_says, fun s l f hu => ⟨?_, ?_, ?_, ?_, ?_⟩, fun s l f hu => ?_,
    fun s l f hu => ⟨fun hg => ?_, fun hg => ?_, fun hg => ?_, ?_⟩,
    fun s l f hu hg => ?_, fun s l hu => ?_, fun c l => replayFlits_says c l.val, fun c l kind fseq slots => ⟨rfl, ?_, rfl⟩⟩
  · exact makes_didC rfl (if_pos (trains_not h))
  · exact makes_didC rfl (if_pos (trains_not h))
  · exact makes_didC rfl (if_neg (trains h1 hr hu))
  · exact ⟨_, _, makes_didC rfl (trainedUp_eq p.toNat k.val lv.toNat h1 hr hu), rfl, linkTrained_says s.core l p.toNat k.val lv.toNat⟩
  · exact gives_did (q := (s.mem, _)) rfl (linkDown_not s.mem hu)
  · exact fun hu ht hr hm => gives_did (q := (s.mem, _)) rfl (linkDown_idle s.mem hu ht hr hm)
  · exact makes_didC rfl (dataFlit_down f hu)
  · exact makes_didC rfl (idleFlit_not f (.inl hu))
  · exact gives_did (q := (s.mem, _)) rfl (nakFlit_not f s.mem (.inl hu))
  · exact gives_did (q := (s.mem, _)) rfl (replayTimeout_down s.mem hu)
  · exact makes_didC rfl (ackTimer_down hu)
  · exact dataFlit_makes s l f hu _ rfl
  · exact makes_didC rfl (idleFlit_heard f hu hg)
  · exact makes_didC rfl (idleFlit_not f (.inr hg))
  · exact gives_did (q := (s.mem, _)) rfl (nakFlit_not f s.mem (.inr hg))
  · exact makes_didC rfl (ackTimer_up hu)
  · intro c x
    have hnak := nakFlit_heard f s.mem hu hg
    refine ⟨fun he => ?_, fun hne h => ?_, fun hne h15 h => ?_⟩
    · exact gives_did (q := (s.mem, _)) rfl (hnak.trans (replayOrFall_empty s.mem he))
    · exact gives_did (q := (s.mem, _)) rfl (hnak.trans (replayOrFall_replays s.mem hne h))
    · exact gives_did rfl (hnak.trans (replayOrFall_falls s.mem hne h15 h))
  · intro x
    have htimer : replayTimeout s.mem s.core l.val = replayOrFall s.mem s.core l.val := if_pos hu
    refine ⟨fun he => ?_, fun hne h => ?_⟩
    · exact gives_did (q := (s.mem, _)) rfl (htimer.trans (replayOrFall_empty s.mem he))
    · exact gives_did (q := (s.mem, _)) rfl (htimer.trans (replayOrFall_replays s.mem hne h))
  · exact (congrArg Link.replay (getLink_sendFlit c l kind fseq slots) :)

end Sys2Proof.Machine
end

section
/-!
The buddy pair: mirrored items, confirmations, probes, takeover and the buddy's part in a recovery (R384 to R387, R421).
-/
namespace Sys2Proof.Machine

/-! ## What waits for the journal leaves the pair alone (R22, R419) -/

/-- The pair of the second core is that of the first: its state and what it holds. -/
def PairKept (c d : Core) : Prop := d.buddy = c.buddy ∧ rd d (bk 7) = rd c (bk 7)

theorem PairKept.trans {a b c : Core} (h : PairKept a b) (g : PairKept b c) : PairKept a c := ⟨g.1.trans h.1, g.2.trans h.2⟩

theorem PairKept.of_regs {c d : Core} (hb : d.buddy = c.buddy) (hr : d.regs = c.regs) : PairKept c d := ⟨hb, rd_congr hr _⟩

theorem PairKept.of_bump (c : Core) {k : Key} (h : bk 7 ≠ k) : PairKept c (bump c k) := ⟨rfl, (rd_bump c k _).trans (if_neg h)⟩

theorem journalWait_says (c : Core) (e : JEntry) : PairKept c (journalWait c e) ∧ (journalWait c e).streams = c.streams := by
  unfold journalWait
  dsimp only
  split
  · exact ⟨(PairKept.of_regs rfl rfl).trans ((PairKept.of_bump _ (by decide)).trans (PairKept.of_regs rfl (tallyEvent_regs _ _))), rfl⟩
  · exact ⟨PairKept.of_regs rfl rfl, rfl⟩

theorem journalAdd_pair (c : Core) (kind id value : Nat) (isOpen : Bool) (run : Nat) : PairKept c (journalAdd c kind id value isOpen run) :=
  (journalWait_says c _).1

theorem passArmed_says (c : Core) (n : Nat) : PairKept c (passArmed c n) ∧ (passArmed c n).streams = c.streams := by
  unfold passArmed
  split
  · dsimp only
    split
    · exact journalWait_says _ _
    · exact ⟨PairKept.of_regs rfl rfl, rfl⟩
  · exact ⟨PairKept.of_regs rfl rfl, rfl⟩

/-- The pointer of a stream that is covered has passed the record. -/
theorem coverStream_says (c : Core) (n seq : Nat) (bytes : List Byte) :
    PairKept c (coverStream c n seq bytes) ∧ seq ≤ (getStream (coverStream c n seq bytes) n).confirmed := by
  have hadd (d : Core) (run : Option Nat) (st : Stream) (h : seq ≤ st.confirmed) :
      PairKept d (journalAdd (setStream d n st) 1 n seq run.isSome (run.getD 0)) ∧
        seq ≤ (getStream (journalAdd (setStream d n st) 1 n seq run.isSome (run.getD 0)) n).confirmed := by
    refine ⟨(PairKept.of_regs rfl rfl).trans (journalAdd_pair ..), ?_⟩
    rw [getStream, journalAdd_streams, ← getStream, getStream_setStream_same]
    exact h
  unfold coverStream
  dsimp only
  split
  · obtain ⟨hp, hs⟩ := passArmed_says (journalAdd _ 1 n seq _ _) n
    refine ⟨(hadd c _ _ (le_max_right _ _)).1.trans hp, ?_⟩
    rw [getStream, hs, ← getStream]
    exact (hadd c _ _ (le_max_right _ _)).2
  · exact hadd c _ _ (le_max_right _ _)

/-- The tail of a boom that is covered has passed the entry. -/
theorem coverTail_says (c : Core) (q seq : Nat) : PairKept c (coverTail c q seq) ∧ seq ≤ (getBoom (coverTail c q seq) q).covered := by
  unfold coverTail
  split
  · refine ⟨(PairKept.of_regs rfl rfl).trans (journalAdd_pair ..), ?_⟩
    rw [getBoom_congr (journalAdd_booms ..), getBoom_modBoom_same]
  · exact ⟨PairKept.of_regs rfl rfl, by omega⟩

/-! ## The pair leaves MIRRORED (R385) -/

/-- The block with an item to be mirrored later. -/
def laterNoted (c : Core) (it : MirrorItem) : Core := { c with buddy := { c.buddy with later := c.buddy.later ++ [it] } }

theorem PairKept.stillWaits {c d : Core} {it : MirrorItem} (h : PairKept (laterNoted c it) d) :
    (rd d (bk 7), d.buddy.waiting) = (rd c (bk 7), c.buddy.waiting) := by
  rw [h.1, h.2]
  rfl

theorem coverUnconfirmed_record {it : MirrorItem} (c : Core) (h : it.kind = .record) : coverUnconfirmed c it =
    if (getStream (laterNoted c it) it.id.toNat).confirmed < it.sequence.toNat then
      coverStream (bump (laterNoted c it) (bk 0xB)) it.id.toNat it.sequence.toNat it.bytes else laterNoted c it := by
  unfold coverUnconfirmed
  rw [h]
  rfl

theorem coverUnconfirmed_job {it : MirrorItem} (c : Core) (h : it.kind = .job) :
    coverUnconfirmed c it = coverTail (laterNoted c it) it.id.toNat it.sequence.toNat := by
  unfold coverUnconfirmed
  rw [h]
  rfl

theorem coverUnconfirmed_journal {it : MirrorItem} (c : Core) (h : it.kind = .journal) : coverUnconfirmed c it = c := by
  unfold coverUnconfirmed
  rw [h]
  rfl

theorem coverUnconfirmed_keeps (c : Core) (it : MirrorItem) :
    (rd (coverUnconfirmed c it) (bk 7), (coverUnconfirmed c it).buddy.waiting) = (rd c (bk 7), c.buddy.waiting) := by
  cases h : it.kind with
  | record =>
    rw [coverUnconfirmed_record c h]
    split
    · exact PairKept.stillWaits ((PairKept.of_bump _ (by decide)).trans (coverStream_says ..).1)
    · exact PairKept.stillWaits (.of_regs rfl rfl)
  | job =>
    rw [coverUnconfirmed_job c h]
    exact PairKept.stillWaits (coverTail_says ..).1
  | journal => rw [coverUnconfirmed_journal c h]

theorem leaveMirrored_says (c : Core) (st : Nat) : rd (leaveMirrored c st) (bk 7) = st ∧ (leaveMirrored c st).buddy.waiting = [] := by
  have h := foldl_keeps (fun d : Core => (rd d (bk 7), d.buddy.waiting)) coverUnconfirmed_keeps c.buddy.waiting
    (wr { c with buddy := { c.buddy with waiting := [] } } (bk 7) st)
  obtain ⟨hst, hwait⟩ := Prod.mk.injEq _ _ _ _ ▸ h
  exact ⟨hst.trans (rd_wr_same ..), hwait⟩

/-! ## A confirmed item (R384, R419) -/

/-- The block without a waiting item that the buddy has confirmed. -/
def confirmNoted (c : Core) (it : MirrorItem) : Core :=
  let d := if (mirrorLink c).isSome then stopProbing c else c
  { d with buddy := { d.buddy with waiting := d.buddy.waiting.erase it, lastConfirm := d.time } }

theorem confirmNoted_says (c : Core) (it : MirrorItem) :
    (confirmNoted c it).buddy.waiting = c.buddy.waiting.erase it ∧ (confirmNoted c it).buddy.lastConfirm = c.time := by
  unfold confirmNoted
  dsimp only
  split <;> exact ⟨rfl, rfl⟩

theorem confirmItem_says (c : Core) (it : MirrorItem) : let d := confirmItem c it
    PairKept (confirmNoted c it) d ∧ (it.kind = .record → it.sequence.toNat ≤ (getStream d it.id.toNat).confirmed) ∧
      (it.kind = .job → it.sequence.toNat ≤ (getBoom d it.id.toNat).covered) := by
  intro d
  have hd : d = match it.kind with
    | .record =>
      if (getStream (confirmNoted c it) it.id.toNat).confirmed < it.sequence.toNat then
        coverStream (confirmNoted c it) it.id.toNat it.sequence.toNat it.bytes else confirmNoted c it
    | .job => coverTail (confirmNoted c it) it.id.toNat it.sequence.toNat
    | .journal => confirmNoted c it := rfl
  rw [hd]
  cases it.kind with
  | record =>
    dsimp only
    split
    · exact ⟨(coverStream_says ..).1, fun _ => (coverStream_says ..).2, nofun⟩
    · exact ⟨PairKept.of_regs rfl rfl, fun _ => by omega, nofun⟩
  | job => exact ⟨(coverTail_says ..).1, nofun, fun _ => (coverTail_says ..).2⟩
  | journal => exact ⟨PairKept.of_regs rfl rfl, nofun, nofun⟩

/-! ## MIRROR and CONFIRM (R371, R384, R415) -/

theorem mirrorArrived_other {c : Core} {l : Nat} {m : MirrorMsg} (h : m.dst.toNat ≠ deviceId c) :
    mirrorArrived c l m = forwardMirror (takeSlots c l 3 (1 + (m.item.bytes.length + 15) / 16)) m := if_pos h

theorem mirrorArrived_stranger {c : Core} {l : Nat} {m : MirrorMsg} (h : m.dst.toNat = deviceId c) (ho : m.owner.toNat ≠ rd c (bk 1)) :
    mirrorArrived c l m = takeSlots c l 3 (1 + (m.item.bytes.length + 15) / 16) := (if_neg (not_not.mpr h)).trans (if_pos (.inl ho))

section
variable {c : Core} (l : Nat) {m : MirrorMsg} (hd : m.dst.toNat = deviceId c) (ho : m.owner.toNat = rd c (bk 1)) (hid : noDeviceId c = false)
include hd ho hid

theorem mirrorArrived_bad (hg : itemGood m.item = false) : mirrorArrived c l m =
    sendConfirm (countCrcFail (takeSlots (freeHeld c m.item m.acked.toNat) l 3 (1 + (m.item.bytes.length + 15) / 16)) 1) m 5 :=
  (if_neg (not_not.mpr hd)).trans ((if_neg (by simp [ho, hid])).trans (if_pos (by simp [hg])))

variable (hg : itemGood m.item = true) (hs : (freeHeld c m.item m.acked.toNat).buddy.held.any (fun (x : MirrorItem) =>
  x.kind == m.item.kind && x.id == m.item.id && x.sequence == m.item.sequence) = false)
include hg hs

theorem mirrorArrived_full (hf : rd c (bk 4) < mirrorUsed (freeHeld c m.item m.acked.toNat) + unitsOf m.item.bytes) :
    mirrorArrived c l m = freeHeld c m.item m.acked.toNat :=
  (if_neg (not_not.mpr hd)).trans ((if_neg (by simp [ho, hid])).trans ((if_neg (by simp [hg])).trans (if_pos (by
    rw [hs]
    exact hf))))

theorem mirrorArrived_stored (hf : mirrorUsed (freeHeld c m.item m.acked.toNat) + unitsOf m.item.bytes ≤ rd c (bk 4)) :
    let b := freeHeld c m.item m.acked.toNat
    let d := takeSlots b l 3 (1 + (m.item.bytes.length + 15) / 16)
    mirrorArrived c l m =
      sendConfirm (notePartnerRun { d with buddy := { d.buddy with held := freeSteps (b.buddy.held ++ [m.item]) } } m.item) m 0 := by
  intro b d
  have hheld : b.buddy.held.filter (fun x => !(x.kind == m.item.kind && x.id == m.item.id && x.sequence == m.item.sequence)) = b.buddy.held :=
    List.filter_eq_self.mpr fun x hx => by rw [Bool.not_eq_true', ← Bool.not_eq_true]; exact List.any_eq_false.mp hs x hx
  have hroom : ¬rd c (bk 4) < mirrorUsed b + if b.buddy.held.any (fun (x : MirrorItem) =>
      x.kind == m.item.kind && x.id == m.item.id && x.sequence == m.item.sequence) = true then 0 else unitsOf m.item.bytes := by
    rw [hs]
    exact Nat.not_lt.mpr hf
  refine (if_neg (not_not.mpr hd)).trans ((if_neg (by simp [ho, hid])).trans ((if_neg (by simp [hg])).trans ((if_neg hroom).trans ?_)))
  change sendConfirm (notePartnerRun { d with buddy := { d.buddy with held := freeSteps (b.buddy.held.filter (fun x =>
    !(x.kind == m.item.kind && x.id == m.item.id && x.sequence == m.item.sequence)) ++ [m.item]) } } m.item) m 0 = _
  rw [hheld]

end

theorem confirmArrived_other {c : Core} (m : Mem) (l : Nat) {f : ConfirmMsg} (h : f.device.toNat ≠ deviceId c) :
    confirmArrived m c l f = (m, forwardConfirm (takeSlots c l 3 2) f) := if_pos h

theorem confirmArrived_here {c : Core} (m : Mem) (l : Nat) {f : ConfirmMsg} (h : f.device.toNat = deviceId c) (hf : f.fence.toNat ≤ rd c (bk 9)) :
    confirmArrived m c l f = match firstWaiting c f.kind f.id with
      | some it =>
        if it.sequence ≠ f.sequence then (m, takeSlots c l 3 2)
        else if f.status = 0 then (m, confirmItem (takeSlots c l 3 2) it)
        else confirmFailed m (takeSlots c l 3 2) it
      | none => (m, takeSlots c l 3 2) := by
  have hfence : noteFence (takeSlots c l 3 2) f.fence.toNat = takeSlots c l 3 2 := if_neg (Nat.not_lt.mpr hf)
  refine (if_neg (not_not.mpr h)).trans ?_
  rw [hfence]
  rfl

/-! ## Probes (R386) -/

theorem anyPort_up {c : Core} {p : Nat} (h : anyPort c = some p) : portUp c p = true := List.find?_some h

theorem sendUdp_says (c : Core) (p service : Nat) (a : HostAddr) (body : List Byte) :
    ((sendUdp c p service a body).outbox = c.outbox ∨ ∃ v4 k, (sendUdp c p service a body).outbox = c.outbox ++ [.udp p service v4 k a body]) ∧
      (sendUdp c p service a body).regs = c.regs ∧ (sendUdp c p service a body).buddy = c.buddy := by
  unfold sendUdp
  split
  · exact ⟨.inl rfl, rfl, rfl⟩
  · exact ⟨.inr ⟨_, _, rfl⟩, rfl, rfl⟩

theorem sendProbe_says (c : Core) : ((sendProbe c).outbox = c.outbox ∨ ∃ p v4 k a l, (sendProbe c).outbox = c.outbox ++ [.udp p svcDap v4 k a l] ∧
    buddyAddr c = some a ∧ portUp c p = true) ∧ (sendProbe c).regs = c.regs ∧ (sendProbe c).buddy = { c.buddy with probeLast := c.time } := by
  unfold sendProbe
  split
  next a p ha hp =>
    obtain ⟨hout, hregs, hbuddy⟩ := sendUdp_says { c with buddy := { c.buddy with probeLast := c.time } } p svcDap a _
    refine ⟨hout.imp id fun ⟨v4, k, h⟩ => ⟨p, v4, k, a, _, h, ha, anyPort_up hp⟩, hregs, hbuddy⟩
  next => exact ⟨.inl rfl, rfl, rfl⟩

theorem probeAnswered_mirrored {c : Core} {f : DapFrame} (hp : portUp c f.eth.val = true) (hip : ipTaken c f.eth.val f.ip = true)
    (hi : dapIntact opProbe f = true) (ha : authRequired c = false) (hr : hasFlag f flagReply = true) (hl : f.payload.length = 16)
    (hb : c.buddy.probing.isSome = true) (hw : leAt f.payload 0 2 = rd c (bk 1))
    (hn : leAt f.payload 4 8 = Config.deviceNumber c.buddy.nonce % 2 ^ 64) (hs : pairState c = 1) {d : Core}
    (hd : leaveMirrored { c with buddy := { c.buddy with probing := none } } 2 = d) (hv : leAt f.payload 2 2 = rd d (mkKey 0x1008 0)) :
    probeAnswered c f = pairRefresh d := by
  have hnone : c.buddy.probing.isNone = false := by
    rw [← Option.not_isSome, hb]
    rfl
  have hstate : pairState { c with buddy := { c.buddy with probing := none } } = 1 := hs
  unfold probeAnswered
  simp only [hp, hip, hi, ha, hr, hl, hnone, hw, hn, hstate, hd, hv, Bool.not_true, Bool.false_eq_true, if_false, if_true, or_self, ne_eq,
    not_true_eq_false]

/-! ## TAKEOVER (R387) -/

theorem objIs_takeover : objIs (bk 8) .u64 .wo .any = true := by decide

theorem writeFail_takeover {c : Core} (ho : Open c) (v : BitVec 64) : writeFail c false (bk 8) v.toNat 0 0 = none :=
  writeFail_none objIs_takeover ho (by simp [width_u64]) rfl (mkKey_free (by decide) (by decide) (by decide)).2 rfl rfl rfl rfl

/-- What closing the open runs of a partner, and serving its streams, leave alone. -/
structure TakesOver (c d : Core) : Prop where
  regs : d.regs = c.regs
  jobs : d.buddy.jobs = c.buddy.jobs
  probing : d.buddy.probing = c.buddy.probing
  held : ∀ it ∈ c.buddy.held, it ∈ d.buddy.held

theorem TakesOver.refl (c : Core) : TakesOver c c := ⟨rfl, rfl, rfl, fun _ h => h⟩

theorem TakesOver.trans {a b c : Core} (h : TakesOver a b) (g : TakesOver b c) : TakesOver a c :=
  ⟨g.regs.trans h.regs, g.jobs.trans h.jobs, g.probing.trans h.probing, fun it hm => g.held it (h.held it hm)⟩

theorem TakesOver.foldl {α : Type} {g : Core → α → Core} (h : ∀ c x, TakesOver c (g c x)) (l : List α) (c : Core) : TakesOver c (l.foldl g c) :=
  List.foldlRecOn (motive := TakesOver c) l g (.refl c) fun d hd x _ => hd.trans (h d x)

theorem notePartnerRun_takesOver (c : Core) (it : MirrorItem) : TakesOver c (notePartnerRun c it) := by
  unfold notePartnerRun
  dsimp only
  split <;> exact ⟨rfl, rfl, rfl, fun _ h => h⟩

theorem closePartnerRun_takesOver (c : Core) (n : Nat) : TakesOver c (closePartnerRun c n) := by
  unfold closePartnerRun
  split
  · refine TakesOver.trans ?_ (notePartnerRun_takesOver ..)
    exact ⟨rfl, rfl, rfl, fun _ h => List.mem_append_left _ h⟩
  · exact .refl c

/-- The block with a takeover noted, before the partner's streams are served. -/
def takeoverNoted (c : Core) (fence : Nat) : Core :=
  let c0 := wr (wr c (bk 9) fence) (bk 7) 4
  { c0 with buddy := { c0.buddy with jobs := (c.buddy.held.filter (fun it => it.kind == .job)).map (partnerJob c), probing := none } }

theorem rd_takeoverNoted (c : Core) (fence : Nat) (k : Key) :
    rd (takeoverNoted c fence) k = if k = bk 7 then 4 else if k = bk 9 then fence else rd c k := by
  have h : rd (takeoverNoted c fence) k = rd (wr (wr c (bk 9) fence) (bk 7) 4) k := rfl
  rw [h, rd_wr, rd_wr]

theorem writeTakeover_ok {c : Core} {fence : Nat} (hs : pairState c = 3) (hf : rd c (bk 9) < fence) :
    ∃ d, writeTakeover c fence = .ok d ∧ TakesOver (takeoverNoted c fence) d := by
  refine ⟨_, if_pos (by simp [hs, hf]), TakesOver.trans (TakesOver.foldl (fun d n => ?_) _ _) (TakesOver.foldl closePartnerRun_takesOver _ _)⟩
  exact ⟨rfl, rfl, rfl, fun _ h => h⟩

theorem writeTakeover_refused {c : Core} {fence : Nat} (h : pairState c ≠ 3 ∨ fence ≤ rd c (bk 9)) :
    writeTakeover c fence = .error stStateConflict := by
  refine if_neg fun he => ?_
  simp only [Bool.and_eq_true, beq_iff_eq, decide_eq_true_eq] at he
  omega

/-! ## Recovery (R421) -/

theorem buddySync_not {c : Core} (m : Mem) (l : List MirrorItem) (fence : Nat) (h : canRecover c = false ∨ rd c (bk 1) = 0xFFFF) :
    buddySync m c l fence = c := if_pos (h.imp (fun h => by simp [h]) id)

theorem buddySync_runs {c : Core} (m : Mem) (l : List MirrorItem) (fence : Nat) (h : canRecover c = true) (hb : rd c (bk 1) ≠ 0xFFFF) :
    buddySync m c l fence =
      if rd (recover m c l) (bk 9) < fence then enterFenced (recover m c l) else pairRefresh (wr (recover m c l) (bk 7) 2) :=
  if_neg (by simp [h, hb])

/-- Settles O58: the items of the pair, the probes, the takeover and the buddy's part in a recovery, case by case. -/
theorem theBuddyPair : Obligations.TheBuddyPair := by
  refine ⟨fun s l m h => ?_, fun s l m ht hd => ?_, fun s l f => ?_, fun c it => ?_, fun s => ?_,
    fun c st _ _ => leaveMirrored_says c st, sendProbe_says, fun s f => ?_, fun s fence ho => ⟨fun hs hf => ?_, fun h => ?_⟩,
    fun s l fence => ⟨fun h => ?_, fun h hb => ?_⟩⟩
  · exact makes_didC (bestEffort_run s (by simp [h]) _ _) (mirrorArrived_other h)
  · have he : exec (.mirror l m) s = didC s (mirrorArrived s.core l.val m) := bestEffort_run s (by simp [ht]) _ _
    intro n c same d
    refine ⟨fun ho => makes_didC he (mirrorArrived_stranger hd ho), fun ho hid => ⟨fun hg => ?_, fun hg hs hf => ?_, fun hg hs hf => ?_⟩⟩
    · exact makes_didC he (mirrorArrived_bad l.val hd ho hid hg)
    · exact makes_didC he (mirrorArrived_full l.val hd ho hid hg hs hf)
    · exact makes_didC he (mirrorArrived_stored l.val hd ho hid hg hs hf)
  · intro c
    refine ⟨fun h => gives_did (q := (s.mem, _)) rfl (confirmArrived_other s.mem l.val h), fun h hf => ?_⟩
    have hc := confirmArrived_here s.mem l.val h hf
    refine ⟨fun hn => ?_, fun it hi hq => ?_, fun it hi hq hz => ?_, fun it hi hq hz hg => ?_⟩
    · exact gives_did (q := (s.mem, _)) rfl (hc.trans (by rw [hn]; rfl))
    · exact gives_did (q := (s.mem, _)) rfl (hc.trans (by rw [hi]; exact if_pos hq))
    · exact gives_did (q := (s.mem, _)) rfl (hc.trans (by rw [hi]; exact (if_neg (not_not.mpr hq)).trans (if_pos hz)))
    · exact gives_did (q := (s.mem, _)) rfl (hc.trans (by rw [hi]; exact (if_neg (not_not.mpr hq)).trans ((if_neg hz).trans (if_pos hg))))
  · obtain ⟨hkept, hrecord, hjob⟩ := confirmItem_says c it
    obtain ⟨hwait, hlast⟩ := confirmNoted_says c it
    exact ⟨(congrArg Buddy.waiting hkept.1).trans hwait, (congrArg Buddy.lastConfirm hkept.1).trans hlast, hrecord, hjob⟩
  · refine ⟨fun hp => ⟨makes_didC rfl (if_neg (by simp [hp])), makes_didC rfl (if_neg (by simp [hp]))⟩,
      fun hp => ⟨makes_didC rfl (if_pos hp), fun hs => makes_didC rfl (if_pos ⟨hp, hs⟩)⟩, fun h => makes_didC rfl (if_neg ?_),
      fun hs hw hp => makes_didC rfl ((if_pos ?_).trans (if_neg ?_))⟩
    · rintro ⟨hs, hw⟩
      rcases h with h | h
      · exact h hs
      · simp [h] at hw
    · simp [hs, hw]
    · simp [hp, hs]
  · intro c hp hip hi ha hr hl hb hw hn hs hv hk
    exact makes_didC rfl (probeAnswered_mirrored hp hip hi ha hr hl hb hw hn hs rfl (hv.trans hk.symm))
  · obtain ⟨d, hd, hregs, hjobs, hprobing, hheld⟩ := writeTakeover_ok hs hf
    have hk (k : Key) : rd d k = _ := (rd_congr hregs k).trans (rd_takeoverNoted s.core fence.toNat k)
    refine ⟨d, accepts_scalar rfl (writeFail_takeover ho fence) (closedTo_open ho (by decide)) (effW_ok hd), ?_, ?_, ?_, hjobs, hprobing, hheld⟩
    · exact hk (bk 9)
    · exact hk (bk 7)
    · intro k hmem
      simp only [List.mem_cons, List.not_mem_nil, or_false, not_or] at hmem
      rw [hk, if_neg hmem.1, if_neg hmem.2]
  · exact makes_effW_error rfl (writeFail_takeover ho fence) (closedTo_open ho (by decide)) (writeTakeover_refused h)
  · exact makes_didC rfl (buddySync_not s.mem l fence.toNat h)
  · have hsync := buddySync_runs s.mem l fence.toNat h hb
    intro c
    refine ⟨rd_wr_same .., fun hf => makes_didC rfl (hsync.trans (if_pos hf)), fun hf => makes_didC rfl (hsync.trans (if_neg (Nat.not_lt.mpr hf)))⟩

end Sys2Proof.Machine
end

section
/-!
Commands that wait for the HBM and the subscriptions (R72, R315).
-/
namespace Sys2Proof.Machine

/-! ## What looking at the subscriptions leaves of them -/

theorem sendNotify_subs (c : Core) (s : Session) (sub : Nat) (body : List Byte) : (sendNotify c s sub body).dap.subs = c.dap.subs :=
  (congrArg Dap.subs (sendDap_dap _ s.eth s.host _) :)

theorem fallDue_subs (c : Core) (x : Subscription) (v : List Byte) : (fallDue c x v).dap.subs = c.dap.subs := by
  unfold fallDue
  split
  · rfl
  · dsimp only
    split
    · exact sendNotify_subs ..
    · rfl

/-- A subscription that looks keeps its list, but that it may take the value it saw. -/
theorem lookAt_subs (c : Core) (x : Subscription) : (lookAt c x).dap.subs =
    if x.every ≠ 0 ∨ noticeBytes c x.key = x.last then c.dap.subs
    else c.dap.subs.map (fun y => if y.number = x.number then { y with last := noticeBytes c x.key } else y) := by
  unfold lookAt
  dsimp only
  split
  · rfl
  · exact fallDue_subs ..

theorem noticed_subs_length (c : Core) : (noticed c).dap.subs.length = c.dap.subs.length := by
  refine foldl_keeps (fun d : Core => d.dap.subs.length) (fun d x => ?_) c.dap.subs c
  rw [lookAt_subs]
  split
  · rfl
  · exact List.length_map _

/-- After a command, a lone ON_CHANGE subscription holds the bytes that its object read. -/
theorem noticed_last {c : Core} {x : Subscription} (h : (noticed c).dap.subs = [x]) (he : x.every = 0) :
    x.last = noticeBytes c x.key := by
  obtain ⟨y, hy⟩ : ∃ y, c.dap.subs = [y] := by
    rw [← List.length_eq_one_iff, ← noticed_subs_length, h]
    rfl
  have hlook : (lookAt c y).dap.subs = [x] := by rw [← h, noticed, hy, List.foldl_cons, List.foldl_nil]
  rw [lookAt_subs, hy] at hlook
  split at hlook
  next hsame =>
    obtain rfl : y = x := List.singleton_injective hlook
    exact (hsame.resolve_left (not_not.mpr he)).symm
  next =>
    rw [List.map_singleton, if_pos rfl] at hlook
    obtain rfl := List.singleton_injective hlook
    rfl

/-! ## A scrub read that waits -/

theorem objIs_buddyAddr : objIs (bk 5) .domain (.rwm [.standby, .warm]) .any = true := by decide

/-- What a subscription of BUDDY_ADDR sees is a length of eight bytes. -/
theorem noticeBytes_buddyAddr (c : Core) : noticeBytes c (bk 5) = leBytes 8 (domImage c (bk 5)).size := by
  simp only [noticeBytes, objIs_find objIs_buddyAddr, readBytesOf]

/-- A subscription of BUDDY_ADDR that has seen nothing. -/
def unseenSub : Subscription := { number := 0, session := 0, key := bk 5, every := 0, left := 0, last := [] }

/-- A state in which the HBM trains and a subscription has seen nothing. -/
def trainingUnseen : State :=
  { State.reset with core := { State.reset.core with hbm := { State.reset.core.hbm with training := true }
                                                     dap := { State.reset.core.dap with subs := [unseenSub] } } }

/-- A scrub read that finds no error. -/
def nothingFound : ScrubFound := { onDie := false, errors := [] }

/-- A best-effort request that waits answers at once, and no subscription looks. -/
theorem exec_scrubRead_waits {s : State} (found : ScrubFound) (h : s.core.hbm.training = true) :
    exec (.scrubRead found) s = .next { s with core := beWait s.core ⟨.maint, 64, none, .scrubRead found⟩ } := if_pos h

/-- Refutes O2: a SCRUB_READ during a retrain joins the requests that wait and no subscription looks at its object, so that no block
exists of which the answer is what the subscriptions make: the only one has seen the empty value, which no object reads. -/
theorem not_commandsAnswerWithQueueStanding : ¬ Obligations.CommandsAnswerWithQueueStanding := by
  intro h
  obtain ⟨m, c, hc⟩ := h (.scrubRead nothingFound) trainingUnseen
  have hnext := (exec_scrubRead_waits (s := trainingUnseen) nothingFound rfl).symm.trans hc
  have hcore : beWait trainingUnseen.core ⟨.maint, 64, none, .scrubRead nothingFound⟩ = noticed c :=
    congrArg State.core (Host.Outcome.next.inj hnext)
  have hsubs : (noticed c).dap.subs = [unseenSub] := by
    rw [← hcore]
    rfl
  have hlast : [] = noticeBytes c (bk 5) := noticed_last hsubs rfl
  rw [noticeBytes_buddyAddr] at hlast
  have hlen := congrArg List.length hlast
  rw [length_leBytes] at hlen
  exact absurd hlen (by decide)

end Sys2Proof.Machine
end

section
/-!
The PTP ports: messages taken, answered and measured, the choice of the parent, and the timers (R402, R403).
-/
namespace Sys2Proof.Machine

/-! ## Two's complement -/

theorem ofSigned_eq (w : Nat) (i : Int) : ofSigned w i = (BitVec.ofInt w i).toNat := (BitVec.toNat_ofInt ..).symm

theorem toSigned_toNat {w : Nat} (x : BitVec (w + 1)) : toSigned (w + 1) x.toNat = x.toInt := by
  have hlt : x.toNat < 2 ^ w * 2 := pow_succ 2 w ▸ x.isLt
  rw [BitVec.toInt_eq_toNat_cond, toSigned, Nat.mod_eq_of_lt x.isLt, Nat.add_sub_cancel, pow_succ]
  simp only [show 2 * x.toNat < 2 ^ w * 2 ↔ x.toNat < 2 ^ w by omega]

theorem toSigned_ofSigned {w : Nat} {i : Int} (hlo : -2 ^ w ≤ i) (hhi : i < 2 ^ w) : toSigned (w + 1) (ofSigned (w + 1) i) = i := by
  rw [ofSigned_eq, toSigned_toNat, BitVec.toInt_ofInt_eq_self (Nat.succ_pos w) hlo hhi]

theorem ofSigned_toInt {w : Nat} (x : BitVec w) : ofSigned w x.toInt = x.toNat := by rw [ofSigned_eq, BitVec.ofInt_toInt]

theorem wrI64_fits (c : Core) (k : Key) {i : Int} (hlo : -(2 ^ 63) ≤ i) (hhi : i < 2 ^ 63) : wrI64 c k i = wr c k (ofSigned 64 i) :=
  if_pos ⟨hlo, hhi⟩

theorem rdI64_congr {c d : Core} (h : d.regs = c.regs) (k : Key) : rdI64 d k = rdI64 c k := congrArg (toSigned 64) (rd_congr h k)

theorem stampTime_congr {c d : Core} (hs : d.stamp = c.stamp) (hl : d.clk = c.clk) (hr : d.regs = c.regs) (t s : Nat) :
    stampTime d t s = stampTime c t s := by
  simp only [stampTime, hs, hl, rd_congr hr]

theorem unwrapStamp_congr {c d : Core} (hs : d.stamp = c.stamp) (s : Nat) : unwrapStamp d s = unwrapStamp c s := by
  simp only [unwrapStamp, hs]

/-!
A definition that splits on the time of a stamp is unfolded as a function here, before it is applied, and the time is then named: the
kernel would compute the stamp where it compares such a definition's application with its body.
-/

/-- The conversion of a stamp rests on the stamp, the latches and the increments. -/
theorem timeAt_congr {c d : Core} (hs : d.stamp = c.stamp) (hl : d.clk = c.clk) (hr : d.regs = c.regs) (t s : Nat) :
    timeAt d t s = timeAt c t s := by
  obtain ⟨f, hf⟩ : ∃ f, timeAt = f := ⟨_, rfl⟩
  rw [hf]
  delta timeAt at hf
  subst hf
  beta_reduce
  rw [stampTime_congr hs hl hr, unwrapStamp_congr hs]

/-! ## Ports -/

theorem ptpCorr_eq (m : PtpMsg) : ptpCorr m = m.correction.toInt := toSigned_toNat (w := 63) m.correction

@[simp] theorem getPtp_setPtp_same (c : Core) (p : Nat) (x : PtpPort) : getPtp (setPtp c p x) p = x := mget_mset_same ..

@[simp] theorem getPtp_modPtp_same (c : Core) (p : Nat) (f : PtpPort → PtpPort) : getPtp (modPtp c p f) p = f (getPtp c p) :=
  getPtp_setPtp_same ..

theorem getPtp_congr {c d : Core} (h : d.ptps = c.ptps) (p : Nat) : getPtp d p = getPtp c p := by rw [getPtp, h, getPtp]

@[simp] theorem getPtp_wr (c : Core) (k : Key) (v p : Nat) : getPtp (wr c k v) p = getPtp c p := getPtp_congr rfl p

@[simp] theorem getPtp_emit (c : Core) (o : Out) (p : Nat) : getPtp (emit c o) p = getPtp c p := getPtp_congr rfl p

theorem ptpTime_modPtp (c : Core) (p q s : Nat) (f : PtpPort → PtpPort) : ptpTime (modPtp c p f) q s = ptpTime c q s := by
  rw [ptpTime, ptpTime, timeAt_congr (c := c) (d := modPtp c p f) rfl rfl rfl, show ptpTb (modPtp c p f) q = ptpTb c q from rfl]

theorem ptpRuns_not {c : Core} {p : Nat} (h : rd c (pk' p 1) = 0 ∨ clockBit c 5 = false ∨ portUp c p = false) : ptpRuns c p = false := by
  rcases h with h | h | h <;> simp [ptpRuns, rdb, h]

theorem ptpTakes_not {c : Core} {m : PtpMsg} (h : ptpRuns c m.port.val = false) : ptpTakes c m = false := by simp [ptpTakes, h]

/-! ## A message that is not taken -/

section
variable {c : Core} {m : PtpMsg} (h : ptpTakes c m = false)
include h

theorem ptpSync_untaken : ptpSync c m = c := if_pos (by simp [h])
theorem ptpFollowUp_untaken : ptpFollowUp c m = c := if_pos (by simp [h])
theorem ptpDelayReq_untaken : ptpDelayReq c m = c := if_pos (by simp [h])
theorem ptpDelayResp_untaken : ptpDelayResp c m = c := if_pos (by simp [h])
theorem ptpPdelayReq_untaken : ptpPdelayReq c m = c := if_pos (by simp [h])
theorem ptpPdelayResp_untaken : ptpPdelayResp c m = c := if_pos (by simp [h])
theorem ptpPdelayRespFollowUp_untaken : ptpPdelayRespFollowUp c m = c := if_pos (by simp [h])
theorem ptpAnnounce_untaken : ptpAnnounce c m = c := if_pos (by simp [h])

end

/-! ## Sync and Follow_Up (R396, R402) -/

theorem ptpMeasure_unmeasured {c : Core} {p : Nat} (h : (getPtp c p).measured = none) : ptpMeasure c p = c := by
  obtain ⟨f, hf⟩ : ∃ f, ptpMeasure = f := ⟨_, rfl⟩
  rw [hf]
  delta ptpMeasure at hf
  subst hf
  beta_reduce
  obtain ⟨T, hT⟩ : ∃ T, ptpTime c p = T := ⟨_, rfl⟩
  rw [hT]
  simp only [h]
  cases (getPtp c p).syncPair <;> rfl

theorem ptpMeasure_offset {c : Core} {p t1 s2 w : Nat} {t2 : Int} (hs : (getPtp c p).syncPair = some (t1, s2))
    (hm : (getPtp c p).measured = some w) (ht : ptpTime c p s2 = some t2) : ptpMeasure c p =
      if tbSource c (ptpTb c p) = 1 + p then
        measureTb (wr c (pk' p 0xF) 9) (ptpTb c p) (toSigned 128 t1 + rdI64 c (pk' p 0x10) - t2)
      else wr c (pk' p 0xF) 9 := by
  obtain ⟨f, hf⟩ : ∃ f, ptpMeasure = f := ⟨_, rfl⟩
  rw [hf]
  delta ptpMeasure at hf
  subst hf
  beta_reduce
  obtain ⟨T, hT⟩ : ∃ T, ptpTime c p = T := ⟨_, rfl⟩
  rw [hT] at ht ⊢
  simp only [hs, hm, ht]

/-- The block with a complete Sync in hand. -/
def syncTaken (c : Core) (p : Nat) (t1 : Int) (st : Nat) : Core :=
  modPtp c p (fun x => { x with sync := none, syncPair := some (ofSigned 128 t1, st) })

theorem getPtp_syncTaken (c : Core) (p : Nat) (t1 : Int) (st : Nat) :
    getPtp (syncTaken c p t1 st) p = { getPtp c p with sync := none, syncPair := some (ofSigned 128 t1, st) } := getPtp_modPtp_same ..

theorem ptpSyncDone_unmeasured {c : Core} {p : Nat} (t1 : Int) (st : Nat) (h : (getPtp c p).measured = none) :
    ptpSyncDone c p t1 st = syncTaken c p t1 st := by
  have hmeasured : (getPtp (syncTaken c p t1 st) p).measured = none := by rw [getPtp_syncTaken]; exact h
  exact ptpMeasure_unmeasured hmeasured

theorem ptpSyncDone_offset {c : Core} {p st w : Nat} {t1 t2 : Int} (hlo : -(2 ^ 127) ≤ t1) (hhi : t1 < 2 ^ 127)
    (hm : (getPtp c p).measured = some w) (ht : ptpTime c p st = some t2) : ptpSyncDone c p t1 st =
      if tbSource c (ptpTb c p) = 1 + p then
        measureTb (wr (syncTaken c p t1 st) (pk' p 0xF) 9) (ptpTb c p) (t1 + rdI64 c (pk' p 0x10) - t2)
      else wr (syncTaken c p t1 st) (pk' p 0xF) 9 := by
  have hport := getPtp_syncTaken c p t1 st
  have hpair : (getPtp (syncTaken c p t1 st) p).syncPair = some (ofSigned 128 t1, st) := by rw [hport]
  have hmeasured : (getPtp (syncTaken c p t1 st) p).measured = some w := by rw [hport]; exact hm
  refine (ptpMeasure_offset hpair hmeasured ((ptpTime_modPtp ..).trans ht)).trans ?_
  rw [toSigned_ofSigned (w := 127) hlo hhi]
  rfl

section
variable {c : Core} {m : PtpMsg}

theorem ptpSync_stranger (h : fromParent c m = false) : ptpSync c m = c := if_pos (by simp [h])

theorem ptpFollowUp_stranger (h : fromParent c m = false) : ptpFollowUp c m = c := if_pos (by simp [h])

variable (ht : ptpTakes c m = true) (hp : fromParent c m = true)
include ht hp

theorem ptpSync_parent : ptpSync c m =
    if m.twoStep then modPtp c m.port.val (fun x => { x with
      sync := some (m.sequence.toNat, m.stamp.toNat, ofSigned 128 (m.correction.toInt + rdI64 c (pk' m.port.val 0xD)), true) })
    else ptpSyncDone c m.port.val (of96To16 m.origin.toNat + (m.correction.toInt + rdI64 c (pk' m.port.val 0xD))) m.stamp.toNat := by
  refine (if_neg (by simp [ht, hp])).trans ?_
  rw [ptpCorr_eq]
  rfl

theorem ptpFollowUp_alone (h : (getPtp c m.port.val).sync = none) : ptpFollowUp c m = c := by
  refine (if_neg (by simp [ht, hp])).trans ?_
  rw [h]

theorem ptpFollowUp_sync {q st k : Nat} {f : Bool} (h : (getPtp c m.port.val).sync = some (q, st, k, f)) : ptpFollowUp c m =
    if q = m.sequence.toNat then
      ptpSyncDone c m.port.val (of96To16 m.origin.toNat + toSigned 128 k + m.correction.toInt) st
    else c := by
  refine (if_neg (by simp [ht, hp])).trans ?_
  rw [h, ptpCorr_eq]

end

/-! ## Delay_Req and Delay_Resp (R402) -/

section
variable {c : Core} {m : PtpMsg}

theorem ptpDelayReq_not (h : rd c (pk' m.port.val 0xF) ≠ 6 ∨ rd c (pk' m.port.val 4) ≠ 0) : ptpDelayReq c m = c :=
  if_pos (by rcases h with h | h <;> simp [h])

theorem ptpDelayReq_answered (ht : ptpTakes c m = true) (h6 : rd c (pk' m.port.val 0xF) = 6) (h0 : rd c (pk' m.port.val 4) = 0) {t4 : Int}
    (h4 : ptpTime c m.port.val m.stamp.toNat = some t4) : ptpDelayReq c m =
      emit c (.ptp m.port.val 9 [m.sequence.toNat, 0, time96Of16 t4, m.correction.toNat, m.clockId.toNat, m.sourcePort.toNat]) := by
  refine (if_neg (by simp [ht, h6, h0])).trans ?_
  rw [h4, ptpCorr_eq, ← ofSigned_toInt m.correction]
  rfl

theorem ptpDelayResp_not (h : m.reqClockId ≠ Config.clockIdentity m.port ∨ fromParent c m = false ∨ rd c (pk' m.port.val 4) ≠ 0 ∨
    (getPtp c m.port.val).delayReq = none) : ptpDelayResp c m = c := by
  by_cases hgo : (!ptpTakes c m || !fromParent c m || rd c (pk' m.port.val 4) ≠ 0 || m.reqClockId != Config.clockIdentity m.port) = true
  · exact if_pos hgo
  · have hfacts := hgo
    simp only [Bool.or_eq_true, Bool.not_eq_true', decide_eq_true_eq, bne_iff_ne, ne_eq, not_or, Bool.not_eq_false, not_not] at hfacts
    obtain ⟨⟨⟨-, hparent⟩, hmech⟩, hreq⟩ := hfacts
    have hnone : (getPtp c m.port.val).delayReq = none := by simpa [hparent, hmech, hreq] using h
    refine (if_neg hgo).trans ?_
    obtain ⟨T, hT⟩ : ∃ T, ptpTime c m.port.val = T := ⟨_, rfl⟩
    rw [hT]
    simp only [hnone]

theorem ptpDelayResp_answers {q s3 t1 s2 : Nat} {t2 t3 : Int} (ht : ptpTakes c m = true) (hr : m.reqClockId = Config.clockIdentity m.port)
    (hp : fromParent c m = true) (h0 : rd c (pk' m.port.val 4) = 0) (hd : (getPtp c m.port.val).delayReq = some (q, s3))
    (hs : (getPtp c m.port.val).syncPair = some (t1, s2)) (hq : q = m.sequence.toNat) (h2 : ptpTime c m.port.val s2 = some t2)
    (h3 : ptpTime c m.port.val s3 = some t3) : ptpDelayResp c m =
      ptpDelay (modPtp c m.port.val (fun x => { x with delayReq := none })) m.port.val
        (((t2 - toSigned 128 t1) + (of96To16 m.origin.toNat - m.correction.toInt - t3)) / 2) := by
  refine (if_neg (by simp [ht, hr, hp, h0])).trans ?_
  obtain ⟨T, hT⟩ : ∃ T, ptpTime c m.port.val = T := ⟨_, rfl⟩
  rw [hT] at h2 h3 ⊢
  simp only [hd, hs, hq, h2, h3, ptpCorr_eq, ne_eq, not_true_eq_false, if_false]

end

theorem ptpDelay_measured {c : Core} {p : Nat} {d : Int} (hlo : -(2 ^ 63) ≤ d) (hhi : d < 2 ^ 63) (h : (getPtp c p).measured.isSome = true) :
    ptpDelay c p d = modPtp (wr c (pk' p 0x10) (ofSigned 64 d)) p (fun x => { x with measured := some c.time }) := by
  have hfirst : (getPtp c p).measured.isNone = false := by
    rw [← Option.not_isSome, h]
    rfl
  refine (if_neg (by simp [hfirst])).trans ?_
  rw [wrI64_fits c _ hlo hhi]

/-! ## Peer delay (R402, R403) -/

section
variable {c : Core} {m : PtpMsg}

theorem ptpPdelayReq_not (h : rd c (pk' m.port.val 4) ≠ 1) : ptpPdelayReq c m = c := if_pos (by simp [h])

theorem ptpPdelayReq_answered (ht : ptpTakes c m = true) (h1 : rd c (pk' m.port.val 4) = 1) {t2 t3 : Int}
    (h2 : ptpTime c m.port.val m.stamp.toNat = some t2) (h3 : ptpTime c m.port.val (c.stamp % 2 ^ 64) = some t3) : ptpPdelayReq c m =
      if rd c (pk' m.port.val 6) = 1 then emit c (.ptp m.port.val 3
        [m.sequence.toNat, 0, 0, ofSigned 64 (m.correction.toInt + (t3 - t2)), m.clockId.toNat, m.sourcePort.toNat])
      else emit (emit c (.ptp m.port.val 3 [m.sequence.toNat, 1, time96Of16 t2, 0, m.clockId.toNat, m.sourcePort.toNat]))
        (.ptp m.port.val 0xA [m.sequence.toNat, 0, time96Of16 t3, m.correction.toNat, m.clockId.toNat, m.sourcePort.toNat]) := by
  refine (if_neg (by simp [ht, h1])).trans ?_
  rw [h2, h3, ptpCorr_eq, ← ofSigned_toInt m.correction]
  rfl

theorem ptpPdelayResp_not (h : m.reqClockId ≠ Config.clockIdentity m.port ∨ rd c (pk' m.port.val 4) ≠ 1 ∨
    (getPtp c m.port.val).pdelayReq = none) : ptpPdelayResp c m = c ∧ ptpPdelayRespFollowUp c m = c := by
  by_cases hgo : (!ptpTakes c m || rd c (pk' m.port.val 4) ≠ 1 || m.reqClockId != Config.clockIdentity m.port) = true
  · exact ⟨if_pos hgo, if_pos hgo⟩
  · have hfacts := hgo
    simp only [Bool.or_eq_true, Bool.not_eq_true', decide_eq_true_eq, bne_iff_ne, ne_eq, not_or, Bool.not_eq_false, not_not] at hfacts
    obtain ⟨⟨-, hmech⟩, hreq⟩ := hfacts
    have hnone : (getPtp c m.port.val).pdelayReq = none := by simpa [hmech, hreq] using h
    refine ⟨(if_neg hgo).trans ?_, (if_neg hgo).trans ?_⟩ <;> rw [hnone]

variable (ht : ptpTakes c m = true) (hr : m.reqClockId = Config.clockIdentity m.port) (h1 : rd c (pk' m.port.val 4) = 1) {q s1 : Nat}
  (hd : (getPtp c m.port.val).pdelayReq = some (q, s1)) (hq : q = m.sequence.toNat)
include ht hr h1 hd hq

theorem ptpPdelayResp_own : ptpPdelayResp c m =
    if m.twoStep then modPtp c m.port.val (fun x => { x with
      pdelayResp := some (q, m.origin.toNat, m.stamp.toNat, ofSigned 128 m.correction.toInt) })
    else pdelayDone c m.port.val s1 m.stamp.toNat m.correction.toInt := by
  refine (if_neg (by simp [ht, hr, h1])).trans ?_
  simp only [hd, hq, ptpCorr_eq, ne_eq, not_true_eq_false, if_false]

omit hq in
theorem ptpPdelayRespFollowUp_alone (h : (getPtp c m.port.val).pdelayResp = none) : ptpPdelayRespFollowUp c m = c := by
  refine (if_neg (by simp [ht, hr, h1])).trans ?_
  rw [hd, h]

theorem ptpPdelayRespFollowUp_own {t2 s4 k : Nat} (h : (getPtp c m.port.val).pdelayResp = some (q, t2, s4, k)) :
    ptpPdelayRespFollowUp c m = pdelayDone c m.port.val s1 s4
      (of96To16 m.origin.toNat - of96To16 t2 + toSigned 128 k + m.correction.toInt) := by
  refine (if_neg (by simp [ht, hr, h1])).trans ?_
  simp only [hd, h, hq, ptpCorr_eq, ne_eq, not_true_eq_false, or_self, if_false]

end

theorem pdelayDone_times {c : Core} {p s1 s4 : Nat} (turn : Int) {t1 t4 : Int} (h1 : ptpTime c p s1 = some t1) (h4 : ptpTime c p s4 = some t4) :
    pdelayDone c p s1 s4 turn = ptpDelay (modPtp c p (fun x => { x with pdelayReq := none, pdelayResp := none })) p
      ((t4 - t1 - turn - rdI64 c (pk' p 0xD)) / 2) := by
  obtain ⟨f, hf⟩ : ∃ f, pdelayDone = f := ⟨_, rfl⟩
  rw [hf]
  delta pdelayDone at hf
  subst hf
  beta_reduce
  rw [h1, h4]
  rfl

/-! ## Announce and the choice of the parent (R402, log 56) -/

theorem ptpAnnounce_noted {c : Core} {m : PtpMsg} (ht : ptpTakes c m = true) :
    let p := m.port.val
    let who := (m.clockId.toNat, m.sourcePort.toNat)
    let x := getPtp c p
    let seen := ((x.foreign.find? (fun f => f.who == who)).map (fun f => f.heard.take 1)).getD []
    let f : ForeignMaster := { who := who, data := announceData m, heard := c.time :: seen }
    ptpAnnounce c m = decidePort (setPtp c p { x with foreign := f :: x.foreign.filter (fun g => g.who != who) }) p := by
  dsimp only
  refine (if_neg (by simp [ht])).trans ?_
  cases (getPtp c m.port.val).foreign.find? (fun f => f.who == (m.clockId.toNat, m.sourcePort.toNat)) <;> rfl

/-- The better of a dataset found so far and one more. -/
def betterForeign (b : Option ForeignMaster) (f : ForeignMaster) : Option ForeignMaster :=
  match b with
  | some x => if betterData f.data x.data then some f else b
  | none => some f

theorem betterForeign_or (b : Option ForeignMaster) (f : ForeignMaster) : betterForeign b f = b ∨ betterForeign b f = some f := by
  unfold betterForeign
  split
  · split
    · exact .inr rfl
    · exact .inl rfl
  · exact .inr rfl

theorem foldl_betterForeign (l : List ForeignMaster) (b : Option ForeignMaster) {f : ForeignMaster} (h : l.foldl betterForeign b = some f) :
    b = some f ∨ f ∈ l := by
  induction l generalizing b with
  | nil => exact .inl h
  | cons g l ih =>
    rcases ih _ h with hb | hl
    · rcases betterForeign_or b g with hg | hg
      · exact .inl (hg ▸ hb)
      · exact .inr (List.mem_cons.mpr (.inl (Option.some.inj (hb.symm.trans hg))))
    · exact .inr (List.mem_cons_of_mem _ hl)

theorem foreignBest_eq (c : Core) (p : Nat) :
    foreignBest c p = ((getPtp c p).foreign.filter (foreignQualified c p)).foldl betterForeign none := rfl

/-- The best foreign time transmitter is one of the port's that counts. -/
theorem foreignBest_mem {c : Core} {p : Nat} {f : ForeignMaster} (h : foreignBest c p = some f) :
    foreignQualified c p f = true ∧ f ∈ (getPtp c p).foreign := by
  rcases foldl_betterForeign _ none ((foreignBest_eq c p).symm.trans h) with hb | hl
  · cases hb
  · exact (List.mem_filter.mp hl).symm

theorem followParent_says (c : Core) (p : Nat) (who : Nat × Nat) : let d := followParent c p who
    (getPtp d p).parent = some who ∧ (rd d (pk' p 0xF) = 8 ∨ rd d (pk' p 0xF) = 9) ∧
      ((getPtp c p).parent ≠ some who → rd d (pk' p 0xF) = 8) ∧ SameRegsBut [pk' p 0xF] c d := by
  unfold followParent
  dsimp only
  split
  next hsame =>
    simp only [Bool.and_eq_true, Bool.or_eq_true, beq_iff_eq] at hsame
    exact ⟨hsame.1, hsame.2, fun hne => absurd hsame.1 hne, fun _ _ => rfl⟩
  next => exact ⟨by simp, .inl (rd_wr_same ..), fun _ => rd_wr_same .., sameRegsBut_wr _ _ (by simp)⟩

theorem leaveParent_says (c : Core) (p state : Nat) : let d := leaveParent c p state
    (getPtp d p).parent = none ∧ rd d (pk' p 0xF) = state ∧ (getPtp d p).foreign = (getPtp c p).foreign ∧ SameRegsBut [pk' p 0xF] c d :=
  ⟨by simp [leaveParent], rd_wr_same .., by simp [leaveParent], sameRegsBut_wr _ _ (by simp)⟩

section
variable {c : Core} {p : Nat} {f : ForeignMaster} (hf : foreignBest c p = some f)
include hf

theorem decidePort_follows (h : rd c (pk' p 7) = 1 ∨ betterData (ownData c p) f.data = false ∧ (ownClass = 0 ∨ 127 < ownClass)) :
    decidePort c p = followParent c p f.who := by
  simp only [decidePort, hf]
  by_cases hslave : rdb c (pk' p 7) = true
  · exact if_pos hslave
  · obtain ⟨hb, hclass⟩ := h.resolve_left (fun h => hslave ((rdb_iff ..).mpr h))
    exact (if_neg hslave).trans ((if_neg (by simp [hb])).trans (if_neg (by omega)))

theorem decidePort_transmits (hs : rd c (pk' p 7) ≠ 1) (hb : betterData (ownData c p) f.data = true) :
    decidePort c p = if rd c (pk' p 0xF) = 6 then c else leaveParent c p 6 := by
  simp only [decidePort, hf]
  exact (if_neg (fun h => hs ((rdb_iff ..).mp h))).trans (if_pos hb)

theorem decidePort_passive (hs : rd c (pk' p 7) ≠ 1) (hb : betterData (ownData c p) f.data = false) (hlo : 1 ≤ ownClass) (hhi : ownClass ≤ 127) :
    decidePort c p = leaveParent c p 7 := by
  simp only [decidePort, hf]
  exact (if_neg (fun h => hs ((rdb_iff ..).mp h))).trans ((if_neg (by simp [hb])).trans (if_pos ⟨hlo, hhi⟩))

/-- Of a port that decides, only its state changes among the registers. -/
theorem sameRegsBut_decidePort : SameRegsBut [pk' p 0xF] c (decidePort c p) := by
  simp only [decidePort, hf]
  split
  · exact (followParent_says ..).2.2.2
  · split
    · split
      · exact .of_regs rfl
      · exact (leaveParent_says ..).2.2.2
    · split
      · exact (leaveParent_says ..).2.2.2
      · exact (followParent_says ..).2.2.2

end

/-! ## The timers (R402, R403) -/

section
variable {c : Core} {p : Nat} {t1 : Int} (ht : ptpTime c p (c.stamp % 2 ^ 64) = some t1)
include ht

theorem sendSync_timed : sendSync c p =
    if rd c (pk' p 6) = 1 then emit (modPtp c p (fun x => { x with seqSync := x.seqSync + 1 }))
      (.ptp p 0 [(getPtp c p).seqSync % 65536, 0, time96Of16 (t1 / 65536 * 65536), ofSigned 64 (t1 % 65536)])
    else emit (emit (modPtp c p (fun x => { x with seqSync := x.seqSync + 1 })) (.ptp p 0 [(getPtp c p).seqSync % 65536, 1, 0, 0]))
      (.ptp p 8 [(getPtp c p).seqSync % 65536, 0, time96Of16 (t1 / 65536 * 65536), ofSigned 64 (t1 % 65536)]) := by
  obtain ⟨f, hf⟩ : ∃ f, sendSync = f := ⟨_, rfl⟩
  rw [hf]
  delta sendSync at hf
  subst hf
  beta_reduce
  rw [ht]
  rfl

theorem sendSync_oneStep (h : rd c (pk' p 6) = 1) : sendSync c p =
    emit (modPtp c p (fun x => { x with seqSync := x.seqSync + 1 }))
      (.ptp p 0 [(getPtp c p).seqSync % 65536, 0, time96Of16 (t1 / 65536 * 65536), ofSigned 64 (t1 % 65536)]) := by
  rw [sendSync_timed ht, if_pos h]

theorem sendSync_twoStep (h : rd c (pk' p 6) ≠ 1) : sendSync c p =
    emit (emit (modPtp c p (fun x => { x with seqSync := x.seqSync + 1 })) (.ptp p 0 [(getPtp c p).seqSync % 65536, 1, 0, 0]))
      (.ptp p 8 [(getPtp c p).seqSync % 65536, 0, time96Of16 (t1 / 65536 * 65536), ofSigned 64 (t1 % 65536)]) := by
  rw [sendSync_timed ht, if_neg h]

end

theorem ptpMessageTimer_stopped {c : Core} {p : Nat} (k : PtpTimer) (h : ptpRuns c p = false) : ptpMessageTimer c p k = c := if_pos (by simp [h])

theorem ptpMessageTimer_running {c : Core} {p : Nat} (k : PtpTimer) (h : ptpRuns c p = true) : ptpMessageTimer c p k =
    match k with
    | .sync => if rd c (pk' p 0xF) = 6 then sendSync c p else c
    | .announce => if rd c (pk' p 0xF) = 6 then
        sendPtp (modPtp c p (fun x => { x with seqAnnounce := x.seqAnnounce + 1 })) p 0xB ((getPtp c p).seqAnnounce % 65536) false 0 0 (ownData c p)
      else c
    | .delayReq => sendDelayReq c p
    | .announceReceipt => if rd c (pk' p 0xF) = 6 then c
      else leaveParent (modPtp c p (fun x => { x with foreign := x.foreign.filter (fun f => some f.who != (getPtp c p).parent) })) p
        (if rdb c (pk' p 7) then 4 else 6) := by
  refine (if_neg (by simp [h])).trans ?_
  cases k <;> rfl

theorem sendDelayReq_peer {c : Core} {p : Nat} (h : rd c (pk' p 4) = 1) : ∃ v, sendDelayReq c p =
    emit (modPtp (modPtp c p (fun x => { x with seqDelay := x.seqDelay + 1 })) p
      (fun x => { x with pdelayReq := some ((getPtp c p).seqDelay % 65536, c.stamp % 2 ^ 64), pdelayResp := none })) (.ptp p 2 v) :=
  ⟨_, if_pos h⟩

theorem sendDelayReq_receiver {c : Core} {p : Nat} (h : rd c (pk' p 4) = 0) (hs : rd c (pk' p 0xF) = 8 ∨ rd c (pk' p 0xF) = 9) :
    ∃ v, sendDelayReq c p = emit (modPtp (modPtp c p (fun x => { x with seqDelay := x.seqDelay + 1 })) p
      (fun x => { x with delayReq := some ((getPtp c p).seqDelay % 65536, c.stamp % 2 ^ 64) })) (.ptp p 1 v) :=
  ⟨_, (if_neg (by omega)).trans (if_pos hs)⟩

/-- Settles O60: each message by whether it is taken and from whom, the choice of the parent, and each timer. -/
theorem precisionTimeProtocolPorts : Obligations.PrecisionTimeProtocolPorts := by
  refine ⟨fun s m h => ?_, fun s p k h => ?_, fun s m ht => ?_, fun c p t1 st hlo hhi => ?_, fun s m ht => ?_, fun s m ht => ?_,
    fun c p d hlo hhi h => ?_, fun s m ht => ?_, fun s m ht => ?_, fun c p s1 s4 turn t1 t4 h1 h4 => pdelayDone_times turn h1 h4,
    fun s m ht => makes_didC rfl (ptpAnnounce_noted ht), fun c p => ?_, fun s p hrun => ?_⟩
  · exact ⟨makes_didC rfl (ptpSync_untaken h), makes_didC rfl (ptpFollowUp_untaken h), makes_didC rfl (ptpDelayReq_untaken h),
      makes_didC rfl (ptpDelayResp_untaken h), makes_didC rfl (ptpPdelayReq_untaken h), makes_didC rfl (ptpPdelayResp_untaken h),
      makes_didC rfl (ptpPdelayRespFollowUp_untaken h), makes_didC rfl (ptpAnnounce_untaken h)⟩
  · refine ⟨makes_didC rfl (ptpMessageTimer_stopped k (ptpRuns_not h)), fun m hm => ptpTakes_not ?_⟩
    rw [hm]
    exact ptpRuns_not h
  · intro corr
    refine ⟨fun hp => ⟨makes_didC rfl (ptpSync_stranger hp), makes_didC rfl (ptpFollowUp_stranger hp)⟩,
      fun hp h2 => makes_didC rfl ((ptpSync_parent ht hp).trans (if_pos h2)),
      fun hp h2 => makes_didC rfl ((ptpSync_parent ht hp).trans (if_neg (by simp [h2]))),
      fun hp hn => makes_didC rfl (ptpFollowUp_alone ht hp hn), fun q st k f hp hs => ⟨fun hq => ?_, fun hq => ?_⟩⟩
    · exact makes_didC rfl ((ptpFollowUp_sync ht hp hs).trans (if_neg hq))
    · exact makes_didC rfl ((ptpFollowUp_sync ht hp hs).trans (if_pos hq))
  · refine ⟨fun h => ptpSyncDone_unmeasured t1 st h, fun w t2 hm ht => ?_⟩
    have hdone := ptpSyncDone_offset hlo hhi hm ht
    have hport : getPtp (wr (syncTaken c p.val t1 st) (pk' p.val 0xF) 9) p.val = _ := getPtp_syncTaken c p.val t1 st
    refine ⟨wr (syncTaken c p.val t1 st) (pk' p.val 0xF) 9, rd_wr_same .., sameRegsBut_wr (syncTaken c p.val t1 st) _ (by simp), ?_, ?_, rfl,
      fun hsrc => hdone.trans (if_neg hsrc), fun hsrc => hdone.trans (if_pos hsrc)⟩
    · rw [hport]
    · rw [hport]
  · exact ⟨fun h => makes_didC rfl (ptpDelayReq_not h), fun t4 h6 h0 h4 => makes_didC rfl (ptpDelayReq_answered ht h6 h0 h4)⟩
  · exact ⟨fun h => makes_didC rfl (ptpDelayResp_not h), fun q s3 t1 s2 t2 t3 hr hp h0 hd hs hq h2 h3 =>
      makes_didC rfl (ptpDelayResp_answers ht hr hp h0 hd hs hq h2 h3)⟩
  · rw [ptpDelay_measured hlo hhi h]
    refine ⟨rd_wr_same c _ _, by simp, sameRegsBut_wr c _ (by simp)⟩
  · refine ⟨fun h => makes_didC rfl (ptpPdelayReq_not h), fun t2 t3 h1 h2 h3 => ⟨fun h6 => ?_, fun h6 => ?_⟩⟩
    · exact makes_didC rfl ((ptpPdelayReq_answered ht h1 h2 h3).trans (if_pos h6))
    · exact ⟨_, makes_didC rfl ((ptpPdelayReq_answered ht h1 h2 h3).trans (if_neg h6)), rfl, List.append_assoc ..⟩
  · refine ⟨fun h => ⟨makes_didC rfl (ptpPdelayResp_not h).1, makes_didC rfl (ptpPdelayResp_not h).2⟩, fun q s1 hr h1 hd hq => ⟨fun h2 => ?_, fun h2 => ?_,
      fun h => ?_, fun t2 s4 k h => ?_⟩⟩
    · exact makes_didC rfl ((ptpPdelayResp_own ht hr h1 hd hq).trans (if_pos h2))
    · exact makes_didC rfl ((ptpPdelayResp_own ht hr h1 hd hq).trans (if_neg (by simp [h2])))
    · exact makes_didC rfl (ptpPdelayRespFollowUp_alone ht hr h1 hd h)
    · exact makes_didC rfl (ptpPdelayRespFollowUp_own ht hr h1 hd hq h)
  · intro d r
    refine ⟨fun h => by simp only [d, decidePort, h], fun f hf => ?_⟩
    obtain ⟨hqual, hmem⟩ := foreignBest_mem hf
    refine ⟨hqual, hmem, sameRegsBut_decidePort hf, fun h => ?_, fun hs hb => ?_, fun hs hb hlow hhigh => ?_⟩
    · have hd : d = followParent c p.val f.who := decidePort_follows hf h
      obtain ⟨hparent, hstate, hnew, -⟩ := followParent_says c p.val f.who
      simp only [r, hd]
      exact ⟨hparent, hstate, hnew⟩
    · have hd : d = if rd c (pk' p.val 0xF) = 6 then c else leaveParent c p.val 6 := decidePort_transmits hf hs hb
      obtain ⟨hparent, hstate, -, -⟩ := leaveParent_says c p.val 6
      simp only [r, hd]
      split
      next h6 => exact ⟨h6, fun hne => absurd h6 hne⟩
      next => exact ⟨hstate, fun _ => hparent⟩
    · have hd : d = leaveParent c p.val 7 := decidePort_passive hf hs hb hlow hhigh
      obtain ⟨hparent, hstate, -, -⟩ := leaveParent_says c p.val 7
      simp only [r, hd]
      exact ⟨hstate, hparent⟩
  · have htimer (k : PtpTimer) := ptpMessageTimer_running k hrun
    refine ⟨fun h => ⟨makes_didC rfl ((htimer .sync).trans (if_neg h)), makes_didC rfl ((htimer .announce).trans (if_neg h))⟩,
      fun t1 h6 ht h1 => ?_, fun t1 h6 ht h1 => ?_, fun h6 => ?_, fun hs h0 => ?_, fun h1 => ?_,
      fun h6 => makes_didC rfl ((htimer .announceReceipt).trans (if_pos h6)), fun h6 => ?_⟩
    · exact ⟨_, makes_didC rfl ((htimer .sync).trans ((if_pos h6).trans (sendSync_oneStep ht h1))), rfl,
        by simp, rfl⟩
    · exact ⟨_, makes_didC rfl ((htimer .sync).trans ((if_pos h6).trans (sendSync_twoStep ht h1))), rfl, List.append_assoc ..⟩
    · exact ⟨_, makes_didC rfl ((htimer .announce).trans (if_pos h6)), rfl, rfl⟩
    · obtain ⟨v, hv⟩ := sendDelayReq_receiver h0 hs
      exact ⟨_, makes_didC rfl ((htimer .delayReq).trans hv), by simp, List.length_append, rfl⟩
    · obtain ⟨v, hv⟩ := sendDelayReq_peer h1
      exact ⟨_, makes_didC rfl ((htimer .delayReq).trans hv), by simp, List.length_append, rfl⟩
    · obtain ⟨hparent, hstate, hforeign, hregs⟩ := leaveParent_says (modPtp s.core p.val (fun x => { x with
        foreign := x.foreign.filter (fun f => some f.who != (getPtp s.core p.val).parent) })) p.val (if rdb s.core (pk' p.val 7) then 4 else 6)
      refine ⟨_, makes_didC rfl ((htimer .announceReceipt).trans (if_neg h6)), hstate, hparent, hregs, fun f hf => ?_⟩
      rw [hforeign, getPtp_modPtp_same] at hf
      simpa using (List.mem_filter.mp hf).2

end Sys2Proof.Machine
end

section
/-!
The time bases: their state, corrections, steps, conversions, measurements and holdover, and the ageing of the crystal (R394 to R401,
R404).
-/
namespace Sys2Proof.Machine

/-! ## Objects of a time base (Table 14-3) -/

theorem tbk_eq_iff {t i j : Nat} : tbk t i = tbk t j ↔ i = j := Nat.add_left_cancel_iff

theorem tbk_not_raised {t i : Nat} (ht : t < 4) (hi : i < 256) : tbk t i ∉ raiseKeys := by
  intro hmem
  have hixs : ∀ k ∈ raiseKeys, keyIx k < 0x6400 ∨ 0x6404 ≤ keyIx k := by decide
  have hix := hixs _ hmem
  rw [tbk, keyIx_mkKey hi] at hix
  omega

theorem getTb_congr {c d : Core} (h : d.tbs = c.tbs) (t : Nat) : getTb d t = getTb c t := by rw [getTb, h, getTb]

theorem modTb_regs (c : Core) (t : Nat) (f : Tb → Tb) : (modTb c t f).regs = c.regs := rfl

@[simp] theorem getTb_modTb_same (c : Core) (t : Nat) (f : Tb → Tb) : getTb (modTb c t f) t = f (getTb c t) := getTb_setTb_same ..

theorem getTb_modTb_ne (c : Core) {t o : Nat} (f : Tb → Tb) (h : o ≠ t) : getTb (modTb c t f) o = getTb c o := mget_mset_ne _ _ _ _ h

@[simp] theorem getTb_wr (c : Core) (k : Key) (v t : Nat) : getTb (wr c k v) t = getTb c t := getTb_congr rfl t

theorem tbState_congr {c d : Core} (h : d.regs = c.regs) (t : Nat) : tbState d t = tbState c t := rd_congr h _

theorem sameRegsBut_bump (c : Core) {k : Key} {l : List Key} (h : k ∈ l) : SameRegsBut l c (bump c k) := sameRegsBut_wr c _ h

theorem sameRegsBut_raise (c : Core) (src lvl d : Nat) : SameRegsBut raiseKeys c (raise c src lvl d) := fun k h => raise_rd c src lvl d k h

theorem sameRegsBut_wrI64 (c : Core) {k : Key} {l : List Key} (i : Int) (h : k ∈ l) : SameRegsBut l c (wrI64 c k i) := by
  unfold wrI64
  split <;> exact sameRegsBut_wr _ _ h

theorem wrI64_tbs (c : Core) (k : Key) (i : Int) : (wrI64 c k i).tbs = c.tbs := by
  unfold wrI64
  split <;> rfl

/-! ## LOCKED and FREE (R400) -/

theorem refreshTb_else {c : Core} {t : Nat} (h1 : tbState c t ≠ 1) (h2 : tbState c t ≠ 2) : refreshTb c t = c := if_neg (by omega)

theorem refreshTb_locked {c : Core} {t : Nat} (h : tbState c t = 1 ∨ tbState c t = 2) (hsrc : tbSource c t ≠ 0)
    (hm : (getTb c t).measAt.isSome = true) (hs : (getTb c t).slew = 0) (hp : rd c (tbk t 0xA) = 0)
    (ho : (rdI64 c (tbk t 0xF)).natAbs ≤ 6553600) : refreshTb c t = wr c (tbk t 3) 2 :=
  (if_pos h).trans (congrArg (wr c (tbk t 3)) (if_pos ⟨hsrc, hm, hs, hp, ho⟩))

theorem refreshTb_free {c : Core} {t : Nat} (h : tbState c t = 1 ∨ tbState c t = 2) (hn : tbSource c t = 0 ∨
    (getTb c t).measAt.isSome = false ∨ (getTb c t).slew ≠ 0 ∨ rd c (tbk t 0xA) ≠ 0 ∨ 6553600 < (rdI64 c (tbk t 0xF)).natAbs) :
    refreshTb c t = wr c (tbk t 3) 1 := by
  refine (if_pos h).trans (congrArg (wr c (tbk t 3)) (if_neg fun ⟨hsrc, hm, hs, hp, ho⟩ => ?_))
  rcases hn with hn | hn | hn | hn | hn
  · exact hsrc hn
  · simp [hm] at hn
  · exact hn hs
  · exact hn hp
  · omega

/-- What a refresh does: nothing, or a state of 1 or 2. -/
theorem refreshTb_cases (c : Core) (t : Nat) : refreshTb c t = c ∨
    (tbState c t = 1 ∨ tbState c t = 2) ∧ ∃ v, (v = 1 ∨ v = 2) ∧ refreshTb c t = wr c (tbk t 3) v := by
  unfold refreshTb
  split
  next h =>
    refine .inr ⟨h, _, ?_, rfl⟩
    split
    · exact .inr rfl
    · exact .inl rfl
  next => exact .inl rfl

theorem sameRegsBut_refreshTb (c : Core) {t : Nat} {l : List Key} (h : tbk t 3 ∈ l) : SameRegsBut l c (refreshTb c t) := by
  rcases refreshTb_cases c t with he | ⟨-, v, -, he⟩
  · exact .of_regs (congrArg Core.regs he)
  · rw [he]
    exact sameRegsBut_wr _ _ h

theorem rd_refreshTb (c : Core) {t i : Nat} (h : i ≠ 3) : rd (refreshTb c t) (tbk t i) = rd c (tbk t i) :=
  sameRegsBut_refreshTb c (List.mem_singleton.mpr rfl) _ (by simpa [tbk_eq_iff] using h)

theorem refreshTb_tbs (c : Core) (t : Nat) : (refreshTb c t).tbs = c.tbs := by
  rcases refreshTb_cases c t with he | ⟨-, v, -, he⟩ <;> rw [he]
  rfl

@[simp] theorem getTb_refreshTb (c : Core) (t o : Nat) : getTb (refreshTb c t) o = getTb c o := getTb_congr (refreshTb_tbs c t) o

theorem tbState_refreshTb {c : Core} {t : Nat} (h : tbState c t = 1 ∨ tbState c t = 2) :
    tbState (refreshTb c t) t = 1 ∨ tbState (refreshTb c t) t = 2 := by
  rcases refreshTb_cases c t with he | ⟨-, v, hv, he⟩ <;> rw [he]
  · exact h
  · rw [tbState, rd_wr_same]
    exact hv

/-! ## Corrections (R396, R397) -/

/-- The block with a slew, before the time base's state follows. -/
def slewNoted (c : Core) (t : Nat) (d : Int) : Core := modTb c t (fun x => { x with slew := d * 65536, carry := 0 })

/-- The block with a step refused, before its source is raised. -/
def stepRefused (c : Core) (t : Nat) (d : Int) : Core := bump (wr (wrI64 c (tbk t 0xA) d) (tbk t 0xC) 1) (tbk t 0xD)

theorem correctTb_slews {c : Core} {t : Nat} {d : Int} (h : d.natAbs ≤ rd c (tbk t 9) * 65536) :
    correctTb c t d = refreshTb (slewNoted c t d) t := if_pos h

theorem correctTb_refused {c : Core} {t : Nat} {d : Int} (h : rd c (tbk t 9) * 65536 < d.natAbs) : correctTb c t d =
    refreshTb (if rd c (tbk t 0xA) = 0 then raise (stepRefused c t d) (297 + t) 1 0 else stepRefused c t d) t := if_neg (Nat.not_le.mpr h)

theorem sameRegsBut_stepRefused (c : Core) (t : Nat) (d : Int) :
    SameRegsBut [tbk t 0xA, tbk t 0xC, tbk t 0xD] c (stepRefused c t d) :=
  (sameRegsBut_wrI64 c d (by simp)).trans ((sameRegsBut_wr _ _ (by simp)).trans (sameRegsBut_bump _ (by simp)))

theorem stepRefused_says {c : Core} {t : Nat} {d : Int} (hlo : -(2 ^ 63) ≤ d) (hhi : d < 2 ^ 63) :
    rd (stepRefused c t d) (tbk t 0xA) = ofSigned 64 d ∧ rd (stepRefused c t d) (tbk t 0xC) = 1 ∧
      rd (stepRefused c t d) (tbk t 0xD) = (rd c (tbk t 0xD) + 1) % 2 ^ 64 := by
  rw [stepRefused, wrI64_fits c _ hlo hhi]
  simp only [rd_bump, rd_wr, tbk_eq_iff]
  exact ⟨rfl, rfl, rfl⟩

theorem stepRefused_tbs (c : Core) (t : Nat) (d : Int) : (stepRefused c t d).tbs = c.tbs := wrI64_tbs ..

/-- The objects that measuring and correcting a time base may change. -/
def tbKeys (t : Nat) : List Key := [tbk t 3, tbk t 6, tbk t 0xA, tbk t 0xC, tbk t 0xD, tbk t 0xF] ++ raiseKeys

theorem sameRegsBut_correctTb (c : Core) (t : Nat) (d : Int) : SameRegsBut (tbKeys t) c (correctTb c t d) := by
  rcases Nat.lt_or_ge (rd c (tbk t 9) * 65536) d.natAbs with h | h
  · rw [correctTb_refused h]
    have hstep : SameRegsBut (tbKeys t) c (stepRefused c t d) :=
      (sameRegsBut_stepRefused c t d).mono (by
        intro k hk
        simp only [List.mem_cons, List.not_mem_nil, or_false] at hk
        rcases hk with rfl | rfl | rfl <;> simp [tbKeys])
    refine SameRegsBut.trans ?_ (sameRegsBut_refreshTb _ (by simp [tbKeys]))
    split
    · exact hstep.trans ((sameRegsBut_raise _ _ _ _).mono (fun k hk => List.mem_append_right _ hk))
    · exact hstep
  · rw [correctTb_slews h]
    exact sameRegsBut_refreshTb (slewNoted c t d) (by simp [tbKeys])

/-! ## Writes of SET, ADJUST, FORCE and CONV_STAMP (R395 to R398, R401) -/

/-- A write that passes its checks answers what its object's effect answers. -/
theorem makes_answer {i : Instr} {s : State} {k : Key} {v : Nat} {f : Core → Answer} {st : Status} {d : Core}
    (he : exec i s = wrote s k v 0 (effA f)) (hw : writeFail s.core false k v 0 0 = none) (ht : closedTo s.core k = false)
    (hf : f s.core = (st, d)) : Makes i s { d with status := st } := by
  simp only [Makes, Gives, he, wrote_eq _ _ _ _ _ hw ht, effA, hf]

theorem objIs_tbSet (t : Fin 4) : objIs (tbk t.val 5) .time96 .wo .any = true := by revert t; decide
theorem objIs_tbAdjust (t : Fin 4) : objIs (tbk t.val 7) .i64 .wo .any = true := by revert t; decide
theorem objIs_tbForce (t : Fin 4) : objIs (tbk t.val 0xB) .bool .wo (.nat 1 1) = true := by revert t; decide
theorem objIs_convStamp (t : Fin 4) : objIs (tbk t.val 0x12) .stamp .rw .any = true := by revert t; decide

theorem tbk_free (t : Fin 4) {i : Nat} (hi : i < 256) :
    (keyIx (tbk t.val i) == 0x5800 && keySub (tbk t.val i) == 2) = false ∧ (tbk t.val i == dk 3 || tbk t.val i == dk 4) = false :=
  mkKey_free hi (by omega) (by omega)

theorem closedTo_tbk {c : Core} (ho : Open c) (t : Fin 4) {i : Nat} (hi : i < 256) : closedTo c (tbk t.val i) = false :=
  closedTo_open ho (tbk_free t hi).1

theorem writeFail_tbSet {c : Core} (ho : Open c) (t : Fin 4) {v : BitVec 96} (hv : bits v.toNat 16 32 < 1000000000) :
    writeFail c false (tbk t.val 5) v.toNat 0 0 = none := by
  have hwidth : ¬ 2 ^ (8 * ObjTy.time96.width) ≤ v.toNat := Nat.not_le.mpr v.isLt
  refine writeFail_none (objIs_tbSet t) ho (by simp [hwidth]) rfl (tbk_free t (by decide)).2 rfl rfl ?_ rfl
  exact if_neg (by omega)

theorem writeFail_tbAdjust {c : Core} (ho : Open c) (t : Fin 4) (v : BitVec 64) : writeFail c false (tbk t.val 7) v.toNat 0 0 = none := by
  have hwidth : ¬ 2 ^ (8 * ObjTy.i64.width) ≤ v.toNat := Nat.not_le.mpr v.isLt
  exact writeFail_none (objIs_tbAdjust t) ho (by simp [hwidth]) rfl (tbk_free t (by decide)).2 rfl rfl rfl rfl

theorem writeFail_tbForce {c : Core} (ho : Open c) (t : Fin 4) : writeFail c false (tbk t.val 0xB) 1 0 0 = none :=
  writeFail_none (objIs_tbForce t) ho rfl rfl (tbk_free t (by decide)).2 rfl rfl rfl rfl

theorem writeFail_convStamp {c : Core} (ho : Open c) (t : Fin 4) (v : BitVec 64) : writeFail c false (tbk t.val 0x12) v.toNat 0 0 = none := by
  have hwidth : ¬ 2 ^ (8 * ObjTy.stamp.width) ≤ v.toNat := Nat.not_le.mpr v.isLt
  exact writeFail_none (objIs_convStamp t) ho (by simp [hwidth]) rfl (tbk_free t (by decide)).2 rfl rfl rfl rfl

theorem writeTbSet_eq (c : Core) (t : Nat) {v : Nat} (hv : bits v 16 32 < 1000000000) : writeTbSet c t v =
    if underMgmt c t then (stStateConflict, c)
    else if tbState c t = 0 then (stOk, modTb c t (fun x => { x with setDue := some v }))
    else (stOk, correctTb c t (((time96Val v : Int) - (getTb c t).val) / 65536)) := by
  unfold writeTbSet guardSt
  rw [if_pos (by simpa using hv)]
  cases underMgmt c t
  · simp only [Bool.not_false, if_true, Bool.false_eq_true, if_false]
    split <;> rfl
  · rfl

theorem writeTbAdjust_eq (c : Core) (t : Nat) (v : BitVec 64) : writeTbAdjust c t v.toNat =
    if underMgmt c t then (stStateConflict, c) else (stOk, correctTb c t v.toInt) := by
  unfold writeTbAdjust guardSt
  rw [toSigned_toNat (w := 63) v]
  cases underMgmt c t <;> rfl

theorem writeTbForce_taken {c : Core} {t : Nat} (hp : rd c (tbk t 0xA) ≠ 0) (h : 2 < t ∨ tbState c t ≠ 4) :
    writeTbForce c t = (stOk, modTb c t (fun x => { x with forceDue := true })) := by
  have hguard : (rd c (tbk t 0xA) ≠ 0 && !(t ≤ 2 && tbState c t == 4)) = true := by
    simp only [hp, ne_eq, not_false_eq_true, decide_true, Bool.true_and, Bool.not_eq_true', Bool.and_eq_false_iff, decide_eq_false_iff_not,
      beq_eq_false_iff_ne]
    omega
  simp only [writeTbForce, guardSt, hguard, if_true, answer]

theorem writeTbForce_refused {c : Core} {t : Nat} (h : rd c (tbk t 0xA) = 0 ∨ t ≤ 2 ∧ tbState c t = 4) :
    writeTbForce c t = (stStateConflict, c) := by
  have hguard : (rd c (tbk t 0xA) ≠ 0 && !(t ≤ 2 && tbState c t == 4)) = false := by
    rcases h with h | ⟨ht, hs⟩
    · simp [h]
    · simp [ht, hs]
  simp only [writeTbForce, guardSt, hguard, Bool.false_eq_true, if_false, answer]

theorem unwrapStamp_fits {c : Core} {v : Nat} (hc : c.stamp < 2 ^ 64) (hv : v < 2 ^ 64) : unwrapStamp c v = v := by
  have hlow : c.stamp / 2 ^ 64 * 2 ^ 64 + v % 2 ^ 64 = v := by rw [Nat.div_eq_of_lt hc, Nat.mod_eq_of_lt hv, Nat.zero_mul, Nat.zero_add]
  unfold unwrapStamp
  rw [hlow]
  exact if_neg (fun h => absurd h.2 (Nat.not_le.mpr hv))

theorem stampTime_future {c : Core} (t : Nat) {v : Nat} (h : c.stamp < v) : stampTime c t v = .error stOutOfRange := if_pos h

/-- A stamp in the epoch in progress: EPOCH_TIME plus the distance at INCREMENT. -/
theorem stampTime_inProgress {c : Core} {t v e b L : Nat} {l : List (Option Nat)} {rest : List (Nat × Nat × List (Option Nat))}
    (hv : v ≤ c.stamp) (hl : c.clk.latches = (e, b, l) :: rest) (hb : b ≤ v) (hL : l[t]? = some (some L)) : stampTime c t v =
      .ok (some (roundDiv ((L * 4096 + (v - b) * rd c (tbk t 6) : Nat) : Int) (2 ^ 28))) := by
  have hfind : findLatch v none ((e, b, l) :: rest) = some ((e, b, l), none) := if_pos hb
  have hat : latchAt (e, b, l) t = some L := by simp [latchAt, hL]
  simp only [stampTime, Nat.not_lt.mpr hv, if_false, hl, hfind, hat]

theorem writeConvStamp_future {c : Core} {t v : Nat} (hc : c.stamp < 2 ^ 64) (hv : v < 2 ^ 64) (h : c.stamp < v) :
    writeConvStamp c t v = (stOutOfRange, c) := by
  obtain ⟨f, hf⟩ : ∃ f, writeConvStamp = f := ⟨_, rfl⟩
  rw [hf]
  delta writeConvStamp at hf
  subst hf
  beta_reduce
  rw [unwrapStamp_fits hc hv, stampTime_future t h]

theorem writeConvStamp_converts {c : Core} {t v : Nat} {r : Int} (hc : c.stamp < 2 ^ 64) (hv : v < 2 ^ 64)
    (h : stampTime c t v = .ok (some r)) :
    writeConvStamp c t v = (stOk, wr (wr c (tbk t 0x12) v) (tbk t 0x13) (time96Of16 r)) := by
  obtain ⟨f, hf⟩ : ∃ f, writeConvStamp = f := ⟨_, rfl⟩
  rw [hf]
  delta writeConvStamp at hf
  subst hf
  beta_reduce
  rw [unwrapStamp_fits hc hv, h]

/-! ## A crystal second (R395, R398) -/

/-- The block with the value of a due SET in its time base. -/
def valueLoaded (c : Core) (t v : Nat) : Core :=
  modTb c t (fun x => { x with val := time96Val v, phase := 0, slew := 0, carry := 0, setDue := none })

theorem valueLoaded_regs (c : Core) (t v : Nat) : (valueLoaded c t v).regs = c.regs := modTb_regs ..

/-- The block with a due SET loaded into a time base. -/
def tbLoaded (c : Core) (t v : Nat) : Core := refreshTb (wr (valueLoaded c t v) (tbk t 3) 1) t

/-- A pulse that follows a loaded time base goes on from its new value. -/
def pulseRestarted (c : Core) (t : Nat) : Core :=
  if c.tpulse.src = t then { c with tpulse := { c.tpulse with last := some (tbNs c t) } } else c

theorem pulseRestarted_keeps (c : Core) (t : Nat) : (pulseRestarted c t).tbs = c.tbs ∧ (pulseRestarted c t).regs = c.regs := by
  unfold pulseRestarted
  split <;> exact ⟨rfl, rfl⟩

theorem getTb_tbLoaded (c : Core) (t v : Nat) :
    getTb (tbLoaded c t v) t = { getTb c t with val := time96Val v, phase := 0, slew := 0, carry := 0, setDue := none } := by
  rw [tbLoaded, getTb_refreshTb, getTb_wr, valueLoaded, getTb_modTb_same]

theorem sameRegsBut_tbLoaded (c : Core) (t v : Nat) : SameRegsBut [tbk t 3] c (tbLoaded c t v) :=
  (SameRegsBut.of_regs (valueLoaded_regs c t v)).trans
    ((sameRegsBut_wr _ _ (by simp)).trans (sameRegsBut_refreshTb _ (by simp)))

/-- A time base that follows the host reads FREE once it is loaded. -/
theorem tbState_tbLoaded {c : Core} {t : Nat} (v : Nat) (h : tbSource c t = 0) : tbState (tbLoaded c t v) t = 1 := by
  have hone (d : Core) : tbState (wr d (tbk t 3) 1) t = 1 := rd_wr_same ..
  have hsrc : tbSource (wr (valueLoaded c t v) (tbk t 3) 1) t = 0 := by
    rw [tbSource, rd_wr_ne _ _ (by simp [tbk_eq_iff]), rd_congr (valueLoaded_regs c t v)]
    exact h
  rw [tbLoaded, refreshTb_free (.inl (hone _)) (.inl hsrc), hone]

theorem applyTb_idle {c : Core} {t : Nat} (hs : (getTb c t).setDue = none) (hf : (getTb c t).forceDue = false) : applyTb c t = c := by
  simp only [applyTb, hs, hf, Bool.false_eq_true, if_false]

theorem applyTb_set {c : Core} {t v : Nat} (hs : (getTb c t).setDue = some v) (hf : (getTb c t).forceDue = false) :
    applyTb c t = pulseRestarted (tbLoaded c t v) t := by
  have hforce : (getTb (pulseRestarted (tbLoaded c t v) t) t).forceDue = false := by
    rw [getTb_congr (pulseRestarted_keeps _ t).1, getTb_tbLoaded]
    exact hf
  unfold applyTb
  rw [hs]
  exact if_neg (ne_true_of_eq_false hforce)

/-- The block with a due FORCE applied, before the pulse and the state follow. -/
def stepApplied (c : Core) (t : Nat) : Core :=
  bump (wr (wr (setTb c t { getTb c t with
    val := ((getTb c t).val + rdI64 c (tbk t 0xA) * 65536).toNat, slew := 0, carry := 0, forceDue := false }) (tbk t 0xA) 0) (tbk t 0xC) 0) (tbk t 0xE)

theorem applyTb_force {c : Core} {t : Nat} (hs : (getTb c t).setDue = none) (hf : (getTb c t).forceDue = true) :
    applyTb c t = refreshTb (pulseStepped (stepApplied c t) t ((getTb c t).val / 2 ^ 32)) t := by
  unfold applyTb
  rw [hs]
  exact if_pos hf

theorem pulseStepped_says (c : Core) (t old : Nat) :
    SameRegsBut [tpk 0x25] c (pulseStepped c t old) ∧ (pulseStepped c t old).tbs = c.tbs := by
  unfold pulseStepped
  dsimp only
  split
  · exact ⟨.of_regs rfl, rfl⟩
  · exact ⟨sameRegsBut_wr c _ (List.mem_singleton.mpr rfl), rfl⟩

theorem rd_stepApplied (c : Core) (t : Nat) (k : Key) : rd (stepApplied c t) k =
    if k = tbk t 0xE then (rd c (tbk t 0xE) + 1) % 2 ^ 64 else if k = tbk t 0xC then 0 else if k = tbk t 0xA then 0 else rd c k := by
  rw [stepApplied, rd_bump, rd_wr, rd_wr, rd_wr, rd_wr]
  simp only [tbk_eq_iff]
  rfl

theorem crystalForced_says {c : Core} (hs : (getTb c 3).setDue = none) (hf : (getTb c 3).forceDue = true) : let d := crystalSecond c
    rd d (tbk 3 0xA) = 0 ∧ rd d (tbk 3 0xC) = 0 ∧ rd d (tbk 3 0xE) = (rd c (tbk 3 0xE) + 1) % 2 ^ 64 ∧
      getTb d 3 = { getTb c 3 with val := ((getTb c 3).val + rdI64 c (tbk 3 0xA) * 65536).toNat, slew := 0, carry := 0, forceDue := false } ∧
      SameRegsBut [tbk 3 3, tbk 3 0xA, tbk 3 0xC, tbk 3 0xE, tpk 0x25] c d := by
  intro d
  obtain ⟨hpulse, htbs⟩ := pulseStepped_says (stepApplied c 3) 3 ((getTb c 3).val / 2 ^ 32)
  have hd : d = _ := applyTb_force hs hf
  have hrd (i : Nat) (h3 : i ≠ 3) (hi : tbk 3 i ∉ [tpk 0x25]) : rd d (tbk 3 i) = rd (stepApplied c 3) (tbk 3 i) := by
    rw [hd, rd_refreshTb _ h3, hpulse _ hi]
  refine ⟨?_, ?_, ?_, ?_, fun k hk => ?_⟩
  · rw [hrd 0xA (by decide) (by decide), rd_stepApplied]
    rfl
  · rw [hrd 0xC (by decide) (by decide), rd_stepApplied]
    rfl
  · rw [hrd 0xE (by decide) (by decide), rd_stepApplied]
    rfl
  · rw [hd, getTb_refreshTb, getTb_congr htbs]
    exact getTb_setTb_same ..
  · simp only [List.mem_cons, List.not_mem_nil, or_false, not_or] at hk
    obtain ⟨h3, hA, hC, hE, hp⟩ := hk
    rw [hd, sameRegsBut_refreshTb _ (List.mem_singleton.mpr rfl) k (by simpa using h3), hpulse k (by simpa using hp), rd_stepApplied,
      if_neg hE, if_neg hC, if_neg hA]

/-! ## Holdover (R399) -/

/-- The block with a time base in HOLDOVER_REF, before its source is raised. -/
def holdNoted (c : Core) (t : Nat) : Core :=
  let c1 := wr c (tbk t 3) 3
  if underMgmt c t then wr c1 (tbk t 6) (meanIncrement c t) else c1

theorem holdoverTimeout_silent {c : Core} {t : Nat} (h : tbState c t = 1 ∨ tbState c t = 2) (hs : tbSource c t ≠ 0) :
    holdoverTimeout c t = raise (holdNoted c t) (297 + t) 0 0 := if_pos ⟨h, hs⟩

theorem holdoverTimeout_not {c : Core} {t : Nat} (h : tbState c t ≠ 1 ∧ tbState c t ≠ 2 ∨ tbSource c t = 0) : holdoverTimeout c t = c :=
  if_neg fun ⟨hs, hsrc⟩ => h.elim (fun hn => hs.elim hn.1 hn.2) hsrc

theorem holdNoted_says (c : Core) (t : Nat) : tbState (holdNoted c t) t = 3 ∧
    SameRegsBut (if underMgmt c t then [tbk t 3, tbk t 6] else [tbk t 3]) c (holdNoted c t) ∧
    (underMgmt c t = true → rd (holdNoted c t) (tbk t 6) = meanIncrement c t) ∧ (holdNoted c t).tbs = c.tbs := by
  unfold holdNoted
  cases underMgmt c t
  · exact ⟨rd_wr_same .., sameRegsBut_wr _ _ (by simp), nofun, rfl⟩
  · refine ⟨?_, SameRegsBut.trans (sameRegsBut_wr c _ (by simp)) (sameRegsBut_wr _ _ (by simp)), fun _ => rd_wr_same .., rfl⟩
    rw [if_pos rfl, tbState, rd_wr_ne _ _ (by simp [tbk_eq_iff]), rd_wr_same]

/-! ## Measurements (R396, R400) -/

/-- The block with a measurement noted, before the servo. -/
def measNoted (c : Core) (t : Nat) (off : Int) : Core :=
  let c1 := modTb (wrI64 c (tbk t 0xF) off) t (fun x => { x with measAt := some c.time })
  if tbState c t = 3 then wr c1 (tbk t 3) 1 else c1

/-- The block with the servo's INCREMENT, before its correction. -/
def servoNoted (c : Core) (t : Nat) : Core :=
  let inc := incLow + freeNow c % (incHigh - incLow + 1)
  modTb (freeUsed (wr c (tbk t 6) inc)) t (fun x => { x with incLog := pruneLog c.time (x.incLog ++ [(c.time, inc)]) })

theorem servo_host {c : Core} {t : Nat} (h : underMgmt c t = false) : servo c t = c := if_neg (by simp [h])

theorem servo_mgmt {c : Core} {t : Nat} (h : underMgmt c t = true) :
    servo c t = correctTb (servoNoted c t) t (rdI64 (servoNoted c t) (tbk t 0xF)) := if_pos h

theorem measureTb_not {c : Core} {t : Nat} (off : Int) (h : tbState c t = 0 ∨ tbState c t = 4) : measureTb c t off = c := if_pos h

theorem measureTb_eq {c : Core} {t : Nat} (off : Int) (h : ¬(tbState c t = 0 ∨ tbState c t = 4)) :
    measureTb c t off = refreshTb (servo (measNoted c t off) t) t := if_neg h

theorem sameRegsBut_measNoted (c : Core) (t : Nat) (off : Int) {l : List Key} (h3 : tbk t 3 ∈ l) (hF : tbk t 0xF ∈ l) :
    SameRegsBut l c (measNoted c t off) := by
  have hmeas := sameRegsBut_wrI64 c off hF
  unfold measNoted
  dsimp only
  split
  · exact SameRegsBut.trans (b := modTb _ t _) hmeas (sameRegsBut_wr _ _ h3)
  · exact hmeas

theorem getTb_measNoted (c : Core) (t : Nat) (off : Int) : getTb (measNoted c t off) t = { getTb c t with measAt := some c.time } := by
  have hval : getTb (wrI64 c (tbk t 0xF) off) t = getTb c t := getTb_congr (wrI64_tbs ..) t
  unfold measNoted
  dsimp only
  split
  · rw [getTb_wr, getTb_modTb_same, hval]
  · rw [getTb_modTb_same, hval]

theorem sameRegsBut_servoNoted (c : Core) (t : Nat) {l : List Key} (h6 : tbk t 6 ∈ l) : SameRegsBut l c (servoNoted c t) :=
  sameRegsBut_wr c (incLow + freeNow c % (incHigh - incLow + 1)) h6

theorem sameRegsBut_servo (c : Core) (t : Nat) : SameRegsBut (tbKeys t) c (servo c t) := by
  cases h : underMgmt c t
  · rw [servo_host h]
    exact .of_regs rfl
  · rw [servo_mgmt h]
    exact (sameRegsBut_servoNoted c t (by simp [tbKeys])).trans (sameRegsBut_correctTb _ _ _)

/-- A measurement changes the objects of its time base alone, but for what a raise does. -/
theorem sameRegsBut_measureTb (c : Core) (t : Nat) (off : Int) : SameRegsBut (tbKeys t) c (measureTb c t off) := by
  by_cases h : tbState c t = 0 ∨ tbState c t = 4
  · rw [measureTb_not off h]
    exact .of_regs rfl
  · rw [measureTb_eq off h]
    exact (sameRegsBut_measNoted c t off (by simp [tbKeys]) (by simp [tbKeys])).trans
      ((sameRegsBut_servo _ _).trans (sameRegsBut_refreshTb _ (by simp [tbKeys])))

section
variable {c : Core} {t : Nat} {off : Int} (hlo : -(2 ^ 63) ≤ off) (hhi : off < 2 ^ 63)
include hlo hhi

theorem rd_measNoted_offset : rd (measNoted c t off) (tbk t 0xF) = ofSigned 64 off := by
  have hoff : rd (wrI64 c (tbk t 0xF) off) (tbk t 0xF) = ofSigned 64 off := by rw [wrI64_fits c _ hlo hhi, rd_wr_same]
  unfold measNoted
  dsimp only
  split
  · rw [rd_wr_ne _ _ (by simp [tbk_eq_iff])]
    exact hoff
  · exact hoff

theorem rdI64_measNoted : rdI64 (measNoted c t off) (tbk t 0xF) = off := by
  rw [rdI64, rd_measNoted_offset hlo hhi, toSigned_ofSigned (w := 63) hlo hhi]

end

theorem tbState_measNoted {c : Core} {t : Nat} (off : Int) (h : tbState c t = 1 ∨ tbState c t = 2 ∨ tbState c t = 3) :
    tbState (measNoted c t off) t = 1 ∨ tbState (measNoted c t off) t = 2 := by
  unfold measNoted
  dsimp only
  split
  · exact .inl (rd_wr_same ..)
  next h3 =>
    have hsame : tbState (modTb (wrI64 c (tbk t 0xF) off) t (fun x => { x with measAt := some c.time })) t = tbState c t :=
      sameRegsBut_wrI64 c (l := [tbk t 0xF]) off (by simp) (tbk t 3) (by simp [tbk_eq_iff])
    rw [hsame]
    omega

theorem underMgmt_measNoted (c : Core) (t : Nat) (off : Int) : underMgmt (measNoted c t off) t = underMgmt c t :=
  congrArg (· == 1) (sameRegsBut_measNoted (l := [tbk t 3, tbk t 0xF]) c t off (by simp) (by simp) (tbk t 2) (by simp [tbk_eq_iff]))

theorem measureTb_host {c : Core} {t : Nat} {off : Int} (hlo : -(2 ^ 63) ≤ off) (hhi : off < 2 ^ 63)
    (h : tbState c t = 1 ∨ tbState c t = 2 ∨ tbState c t = 3) (hm : underMgmt c t = false) : let d := measureTb c t off
    rd d (tbk t 0xF) = ofSigned 64 off ∧ (tbState d t = 1 ∨ tbState d t = 2) ∧
      getTb d t = { getTb c t with measAt := some c.time } ∧ SameRegsBut [tbk t 3, tbk t 0xF] c d := by
  intro d
  have hd : d = refreshTb (measNoted c t off) t := by
    rw [show d = _ from measureTb_eq off (by omega), servo_host ((underMgmt_measNoted ..).trans hm)]
  rw [hd]
  exact ⟨(rd_refreshTb _ (by decide)).trans (rd_measNoted_offset hlo hhi), tbState_refreshTb (tbState_measNoted off h),
    (getTb_refreshTb ..).trans (getTb_measNoted ..),
    (sameRegsBut_measNoted c t off (by simp) (by simp)).trans (sameRegsBut_refreshTb _ (by simp))⟩

theorem incLow_le_incHigh : incLow ≤ incHigh := by decide

theorem rd_servoNoted_increment (c : Core) (t : Nat) :
    incLow ≤ rd (servoNoted c t) (tbk t 6) ∧ rd (servoNoted c t) (tbk t 6) ≤ incHigh := by
  have hrd : rd (servoNoted c t) (tbk t 6) = incLow + freeNow c % (incHigh - incLow + 1) := rd_wr_same ..
  have hmod : freeNow c % (incHigh - incLow + 1) < incHigh - incLow + 1 := Nat.mod_lt _ (Nat.succ_pos _)
  have hle := incLow_le_incHigh
  rw [hrd]
  omega

theorem measureTb_mgmt {c : Core} {t : Nat} {off : Int} (hlo : -(2 ^ 63) ≤ off) (hhi : off < 2 ^ 63)
    (h : tbState c t = 1 ∨ tbState c t = 2 ∨ tbState c t = 3) (hm : underMgmt c t = true)
    (hsmall : off.natAbs ≤ rd c (tbk t 9) * 65536) : let d := measureTb c t off
    rd d (tbk t 0xF) = ofSigned 64 off ∧ (tbState d t = 1 ∨ tbState d t = 2) ∧ incLow ≤ rd d (tbk t 6) ∧ rd d (tbk t 6) ≤ incHigh ∧
      (getTb d t).slew = off * 65536 ∧ SameRegsBut [tbk t 3, tbk t 6, tbk t 0xF] c d := by
  intro d
  have hservo (i : Nat) (hi : i ≠ 6) : rd (servoNoted (measNoted c t off) t) (tbk t i) = rd (measNoted c t off) (tbk t i) :=
    sameRegsBut_servoNoted (l := [tbk t 6]) _ t (by simp) _ (by simpa [tbk_eq_iff] using hi)
  have hoff : rdI64 (servoNoted (measNoted c t off) t) (tbk t 0xF) = off := by
    rw [rdI64, hservo 0xF (by decide), ← rdI64, rdI64_measNoted hlo hhi]
  have hjump : rd (servoNoted (measNoted c t off) t) (tbk t 9) = rd c (tbk t 9) :=
    (hservo 9 (by decide)).trans
      (sameRegsBut_measNoted (l := [tbk t 3, tbk t 0xF]) c t off (by simp) (by simp) _ (by simp [tbk_eq_iff]))
  have hd : d = refreshTb (refreshTb (slewNoted (servoNoted (measNoted c t off) t) t off) t) t := by
    rw [show d = _ from measureTb_eq off (by omega), servo_mgmt ((underMgmt_measNoted ..).trans hm), hoff,
      correctTb_slews (by rw [hjump]; exact hsmall)]
  have hrd (i : Nat) (hi : i ≠ 3) : rd d (tbk t i) = rd (servoNoted (measNoted c t off) t) (tbk t i) := by
    rw [hd, rd_refreshTb _ hi, rd_refreshTb _ hi]
    rfl
  have hslewed : (getTb d t).slew = off * 65536 := by rw [hd, getTb_refreshTb, getTb_refreshTb, slewNoted, getTb_modTb_same]
  have hstate : tbState (slewNoted (servoNoted (measNoted c t off) t) t off) t = tbState (measNoted c t off) t := hservo 3 (by decide)
  obtain ⟨hinclo, hinchi⟩ := rd_servoNoted_increment (measNoted c t off) t
  refine ⟨?_, ?_, ?_, ?_, ?_, ?_⟩
  · rw [hrd 0xF (by decide), hservo 0xF (by decide), rd_measNoted_offset hlo hhi]
  · rw [hd]
    exact tbState_refreshTb (tbState_refreshTb (hstate ▸ tbState_measNoted off h))
  · rw [hrd 6 (by decide)]
    exact hinclo
  · rw [hrd 6 (by decide)]
    exact hinchi
  · exact hslewed
  · rw [hd]
    have hslew : SameRegsBut [tbk t 3, tbk t 6, tbk t 0xF] c (slewNoted (servoNoted (measNoted c t off) t) t off) :=
      (sameRegsBut_measNoted c t off (by simp) (by simp)).trans (sameRegsBut_servoNoted _ t (by simp))
    exact hslew.trans ((sameRegsBut_refreshTb _ (by simp)).trans (sameRegsBut_refreshTb _ (by simp)))

theorem OnlyRaised.tbs {a b : Core} (h : OnlyRaised a b) : b.tbs = a.tbs := by
  obtain ⟨r, f, t, w, j, m, rfl⟩ := h
  rfl

theorem measAt_correctTb (c : Core) (t : Nat) (d : Int) : (getTb (correctTb c t d) t).measAt = (getTb c t).measAt := by
  rcases Nat.lt_or_ge (rd c (tbk t 9) * 65536) d.natAbs with h | h
  · rw [correctTb_refused h, getTb_refreshTb]
    split
    · rw [getTb_congr (raise_only ..).tbs, getTb_congr (stepRefused_tbs ..)]
    · rw [getTb_congr (stepRefused_tbs ..)]
  · rw [correctTb_slews h, getTb_refreshTb, slewNoted, getTb_modTb_same]

theorem measAt_servo (c : Core) (t : Nat) : (getTb (servo c t) t).measAt = (getTb c t).measAt := by
  cases h : underMgmt c t
  · rw [servo_host h]
  · rw [servo_mgmt h, measAt_correctTb, servoNoted, getTb_modTb_same]
    rfl

/-- Every measurement of a time base that is not UNSET or in HOLDOVER_XTAL is noted with its instant. -/
theorem measAt_measureTb {c : Core} {t : Nat} (off : Int) (h : ¬(tbState c t = 0 ∨ tbState c t = 4)) :
    (getTb (measureTb c t off) t).measAt = some c.time := by
  rw [measureTb_eq off h, getTb_refreshTb, measAt_servo, getTb_measNoted]

/-! ## The ageing term (R404) -/

/-- The block with an ageing term computed. -/
def aged (c : Core) (term : Int) : Core :=
  { modTb c 3 (fun x => { x with ageing := term }) with keeper := { c.keeper with lastHour := c.time } }

theorem aged_regs (c : Core) (term : Int) : (aged c term).regs = c.regs :=
  modTb_regs c 3 (fun x => { x with ageing := term })

theorem getTb_aged (c : Core) (term : Int) (t : Nat) : getTb (aged c term) t = getTb (modTb c 3 (fun x => { x with ageing := term })) t :=
  getTb_congr (show (aged c term).tbs = _ from rfl) t

theorem ageingUpdate_eq {c : Core} {d r : Nat}
    (hval : (getTb c 3).val = time96Val (rd c (tbk 3 0x15)) + d * (86400000000000 * 2 ^ 32) + r) (hr : r < 86400000000000 * 2 ^ 32) :
    ageingUpdate c = aged c (roundDiv ((rd c (tbk 3 6) : Int) * toSigned 32 (rd c (tbk 3 0x14)) * d) (10 ^ 12)) := by
  have hdays : Int.tdiv (((getTb c 3).val : Int) - time96Val (rd c (tbk 3 0x15))) ((86400 * 1000000000 * 2 ^ 32 : Nat) : Int) = d := by
    have hsince : ((getTb c 3).val : Int) - time96Val (rd c (tbk 3 0x15)) = ((d * (86400000000000 * 2 ^ 32) + r : Nat) : Int) := by
      rw [hval]
      push_cast
      ring
    rw [hsince, ← Int.ofNat_tdiv]
    norm_num
    omega
  simp only [ageingUpdate, hdays, aged]

end Sys2Proof.Machine
end

section
/-!
The time over the links and the time pulse (R375, R396, R405 to R407), and what O59 says of them and of the time bases.
-/
namespace Sys2Proof.Machine

/-! ## TIME messages (R375, R396) -/

theorem roundDiv_one (i : Int) : roundDiv i 1 = i := by
  unfold roundDiv
  dsimp only
  split <;> omega

theorem stampDiff_bounds (a b : Nat) : -(2 ^ 63) ≤ stampDiff a b ∧ stampDiff a b < 2 ^ 63 := by
  unfold stampDiff toSigned
  dsimp only
  split <;> omega

/-- Half the difference of the two ways of an exchange. -/
def exchangeHalf (m : TimeMsg) : Int :=
  (stampDiff m.echoReceived.toNat m.echoSent.toNat + stampDiff m.senderStamp.toNat m.localStamp.toNat) / 2

theorem exchangeHalf_bounds (m : TimeMsg) : -(2 ^ 63) ≤ exchangeHalf m ∧ exchangeHalf m < 2 ^ 63 := by
  obtain ⟨h1, h2⟩ := stampDiff_bounds m.echoReceived.toNat m.echoSent.toNat
  obtain ⟨h3, h4⟩ := stampDiff_bounds m.senderStamp.toNat m.localStamp.toNat
  unfold exchangeHalf
  omega

/-- The block with the stamps of a TIME message, before LINK_OFFSET follows. -/
abbrev exchangeNoted (c : Core) (l : Nat) (m : TimeMsg) : Core :=
  modLink c l (fun x => { x with
    offsets := if m.echoSent.toNat ≠ 0 || m.echoReceived.toNat ≠ 0 then
        (x.offsets ++ [(stampDiff m.echoReceived.toNat m.echoSent.toNat + stampDiff m.senderStamp.toNat m.localStamp.toNat) / 2]).drop
          ((x.offsets.length + 1) - 1024)
      else x.offsets
    lastSent := m.senderStamp.toNat
    lastHeard := m.localStamp.toNat })

/-- The block with a TIME message noted, before the time bases that follow the link are measured. -/
abbrev timeNoted (c : Core) (l : Nat) (m : TimeMsg) : Core := wrI64 (exchangeNoted c l m) (lk l 9) (linkOffset (exchangeNoted c l m) l)

theorem wrI64_links (c : Core) (k : Key) (i : Int) : (wrI64 c k i).links = c.links := by
  unfold wrI64
  split <;> rfl

theorem wrI64_stamp (c : Core) (k : Key) (i : Int) : (wrI64 c k i).stamp = c.stamp := by
  unfold wrI64
  split <;> rfl

theorem getLink_timeNoted (c : Core) (l : Nat) (m : TimeMsg) :
    getLink (timeNoted c l m) l = getLink (exchangeNoted c l m) l := getLink_congr (wrI64_links ..) l

theorem exchangeNoted_regs (c : Core) (l : Nat) (m : TimeMsg) : (exchangeNoted c l m).regs = c.regs := setLink_regs _ _ _

theorem linkOffset_single {c : Core} {l : Nat} {half : Int} (h : (getLink c l).offsets = [half]) (ha : toSigned 32 (rd c (lk l 0xA)) = 0) :
    linkOffset c l = half := by
  simp only [linkOffset, h, ha, List.isEmpty_cons, Bool.false_eq_true, if_false, if_true, List.foldl_cons, List.foldl_nil,
    List.length_singleton, Int.zero_add, roundDiv_one]

theorem linkOffset_first {c : Core} {l : Nat} {m : TimeMsg} (h : (getLink c l).offsets = []) (ha : toSigned 32 (rd c (lk l 0xA)) = 0)
    (hk : m.echoSent ≠ 0 ∨ m.echoReceived ≠ 0) : linkOffset (exchangeNoted c l m) l = exchangeHalf m := by
  have hknown : (m.echoSent.toNat ≠ 0 || m.echoReceived.toNat ≠ 0) = true := by
    simpa [← BitVec.toNat_inj] using hk
  have hoffs : (getLink (exchangeNoted c l m) l).offsets = [exchangeHalf m] := by
    rw [exchangeNoted, modLink, getLink_setLink_same, if_pos hknown, h, exchangeHalf, List.nil_append, List.length_nil, Nat.zero_add,
      Nat.sub_eq_zero_of_le (by decide), List.drop_zero]
  exact linkOffset_single hoffs (by rw [rd_congr (exchangeNoted_regs c l m), ha])

theorem timeMessage_not {c : Core} {l : Nat} (m : TimeMsg) (h : linkUp c l = false ∨ clockBit c 5 = false) : timeMessage c l m = c :=
  if_pos (by rcases h with h | h <;> simp [h])

section
variable {c : Core} {l : Nat} {m : TimeMsg} (hu : linkUp c l = true) (hc : clockBit c 5 = true)
include hu hc

/-- A TIME message goes over the three time bases by one step, which measures those that follow the link and are set. -/
theorem timeMessage_steps : ∃ f : Core → Nat × BitVec 96 × BitVec 3 → Core,
    timeMessage c l m = [(0, m.tb0, m.st0), (1, m.tb1, m.st1), (2, m.tb2, m.st2)].foldl f (timeNoted c l m) ∧
    (∀ d t v st, ¬(tbSource d t = 0x10 + l ∧ st.toNat ≠ 0 ∧ st.toNat ≠ 4) → f d (t, v, st) = d) ∧
    (∀ d t v st own, tbSource d t = 0x10 + l ∧ st.toNat ≠ 0 ∧ st.toNat ≠ 4 →
      timeAt d t (ofSigned 64 ((m.senderStamp.toNat : Int) - rdI64 (timeNoted c l m) (lk l 9))) = some own →
      f d (t, v, st) = measureTb d t (of96To16 v.toNat - own)) ∧
    (∀ d t v st, f d (t, v, st) = d ∨ ∃ off, f d (t, v, st) = measureTb d t off) := by
  refine ⟨_, if_neg (by simp [hu, hc]), fun d t v st h => if_neg h, fun d t v st own h hown => (if_pos h).trans (by rw [hown]), fun d t v st => ?_⟩
  by_cases h : tbSource d t = 0x10 + l ∧ st.toNat ≠ 0 ∧ st.toNat ≠ 4
  · obtain ⟨o, ho⟩ : ∃ o, timeAt d t (ofSigned 64 ((m.senderStamp.toNat : Int) - rdI64 (timeNoted c l m) (lk l 9))) = o := ⟨_, rfl⟩
    cases o with
    | none => exact .inl ((if_pos h).trans (by rw [ho]))
    | some own => exact .inr ⟨_, (if_pos h).trans (by rw [ho])⟩
  · exact .inl (if_neg h)

end

theorem tbSource_measureTb (c : Core) (t : Nat) (off : Int) {o : Nat} (ho : o < 4) : tbSource (measureTb c t off) o = tbSource c o := by
  refine sameRegsBut_measureTb c t off _ fun hmem => ?_
  rcases List.mem_append.mp hmem with h | h
  · simp only [List.mem_cons, List.not_mem_nil, or_false, tbk, mkKey, Key] at h
    omega
  · exact tbk_not_raised ho (by decide) h

theorem timeNoted_says (c : Core) (l : Nat) (m : TimeMsg) : (getLink (timeNoted c l m) l).lastSent = m.senderStamp.toNat ∧
    (getLink (timeNoted c l m) l).lastHeard = m.localStamp.toNat ∧ (timeNoted c l m).tbs = c.tbs ∧ (timeNoted c l m).stamp = c.stamp ∧
    SameRegsBut [lk l 9] c (timeNoted c l m) ∧
    ((getLink c l).offsets = [] → toSigned 32 (rd c (lk l 0xA)) = 0 → (m.echoSent ≠ 0 ∨ m.echoReceived ≠ 0) →
      rd (timeNoted c l m) (lk l 9) = ofSigned 64 (exchangeHalf m)) := by
  refine ⟨?_, ?_, wrI64_tbs .., wrI64_stamp .., sameRegsBut_wrI64 (exchangeNoted c l m) _ (by simp), fun h ha hk => ?_⟩
  · rw [getLink_timeNoted, exchangeNoted, modLink, getLink_setLink_same]
  · rw [getLink_timeNoted, exchangeNoted, modLink, getLink_setLink_same]
  · obtain ⟨hlo, hhi⟩ := exchangeHalf_bounds m
    rw [timeNoted, linkOffset_first h ha hk, wrI64_fits _ _ hlo hhi, rd_wr_same]

theorem tbSource_timeNoted (c : Core) (l : Fin 8) (m : TimeMsg) (t : Nat) : tbSource (timeNoted c l.val m) t = tbSource c t := by
  refine (timeNoted_says c l.val m).2.2.2.2.1 _ ?_
  have := l.isLt
  simp only [List.mem_cons, List.not_mem_nil, or_false, tbk, lk, mkKey, Key]
  omega

section
variable {c : Core} {l : Fin 8} {m : TimeMsg} (hu : linkUp c l.val = true) (hc : clockBit c 5 = true)
include hu hc

theorem timeMessage_unfollowed (h : ∀ t, t < 3 → tbSource c t ≠ 0x10 + l.val) : timeMessage c l.val m = timeNoted c l.val m := by
  obtain ⟨f, heq, hnot, -, -⟩ := timeMessage_steps (m := m) hu hc
  have hstays (t : Nat) (ht : t < 3) (v : BitVec 96) (st : BitVec 3) : f (timeNoted c l.val m) (t, v, st) = timeNoted c l.val m :=
    hnot _ _ _ _ fun hf => h t ht ((tbSource_timeNoted ..).symm.trans hf.1)
  rw [heq, List.foldl_cons, hstays 0 (by decide), List.foldl_cons, hstays 1 (by decide), List.foldl_cons, hstays 2 (by decide), List.foldl_nil]

/-- One time base alone follows the link: the message does its step. -/
theorem timeMessage_followed {t : Nat} (ht : t < 3) (hothers : ∀ o, o < 3 → o ≠ t → tbSource c o ≠ 0x10 + l.val) {st : BitVec 3}
    {v : BitVec 96} (hst : [m.st0, m.st1, m.st2][t]? = some st) (hv : [m.tb0, m.tb1, m.tb2][t]? = some v) :
    ∃ f : Core → Nat × BitVec 96 × BitVec 3 → Core, timeMessage c l.val m = f (timeNoted c l.val m) (t, v, st) ∧
      (¬(tbSource (timeNoted c l.val m) t = 0x10 + l.val ∧ st.toNat ≠ 0 ∧ st.toNat ≠ 4) →
        f (timeNoted c l.val m) (t, v, st) = timeNoted c l.val m) ∧
      (∀ own, tbSource (timeNoted c l.val m) t = 0x10 + l.val ∧ st.toNat ≠ 0 ∧ st.toNat ≠ 4 →
        timeAt (timeNoted c l.val m) t (ofSigned 64 ((m.senderStamp.toNat : Int) - rdI64 (timeNoted c l.val m) (lk l.val 9))) = some own →
        f (timeNoted c l.val m) (t, v, st) = measureTb (timeNoted c l.val m) t (of96To16 v.toNat - own)) := by
  obtain ⟨f, heq, hnot, hown, hcases⟩ := timeMessage_steps (m := m) hu hc
  refine ⟨f, ?_, hnot _ _ _ _, hown _ _ _ _⟩
  have hbefore (o : Nat) (ho : o < 3) (hne : o ≠ t) (w : BitVec 96) (x : BitVec 3) :
      f (timeNoted c l.val m) (o, w, x) = timeNoted c l.val m :=
    hnot _ _ _ _ fun hf => hothers o ho hne ((tbSource_timeNoted ..).symm.trans hf.1)
  have hafter (o : Nat) (ho : o < 3) (hne : o ≠ t) (w : BitVec 96) (x : BitVec 3) :
      f (f (timeNoted c l.val m) (t, v, st)) (o, w, x) = f (timeNoted c l.val m) (t, v, st) := by
    refine hnot _ _ _ _ fun hf => hothers o ho hne ?_
    rw [← hf.1, ← tbSource_timeNoted c l m o]
    rcases hcases (timeNoted c l.val m) t v st with he | ⟨off, he⟩
    · rw [he]
    · rw [he, tbSource_measureTb _ _ _ (by omega)]
  rw [heq, List.foldl_cons, List.foldl_cons, List.foldl_cons, List.foldl_nil]
  obtain rfl | rfl | rfl : t = 0 ∨ t = 1 ∨ t = 2 := by omega
  · obtain rfl : m.st0 = st := Option.some.inj hst
    obtain rfl : m.tb0 = v := Option.some.inj hv
    rw [hafter 1 (by decide) (by decide), hafter 2 (by decide) (by decide)]
  · obtain rfl : m.st1 = st := Option.some.inj hst
    obtain rfl : m.tb1 = v := Option.some.inj hv
    rw [hbefore 0 (by decide) (by decide), hafter 2 (by decide) (by decide)]
  · obtain rfl : m.st2 = st := Option.some.inj hst
    obtain rfl : m.tb2 = v := Option.some.inj hv
    rw [hbefore 0 (by decide) (by decide), hbefore 1 (by decide) (by decide)]

end

/-! ## The time pulse (R405 to R407) -/

theorem nextPulse_says {x : Tpulse} (last : Nat) (hp : 0 < x.period) :
    last < nextPulse x last ∧ nextPulse x last ≤ last + x.period ∧ nextPulse x last % x.period = x.phase % x.period := by
  have hnext : nextPulse x last = x.phase % x.period + (last + x.period - x.phase % x.period) / x.period * x.period := if_neg (by omega)
  have hphase := Nat.mod_lt x.phase hp
  have hrem := Nat.mod_lt (last + x.period - x.phase % x.period) hp
  have hdiv := Nat.div_add_mod' (last + x.period - x.phase % x.period) x.period
  rw [hnext]
  refine ⟨by omega, by omega, ?_⟩
  rw [Nat.add_mul_mod_self_right, Nat.mod_mod]

theorem tpulseRise_none {c : Core} (h : pulseSource c = none) : tpulseRise c = c := by simp only [tpulseRise, h]

theorem tpk_eq_iff {i j : Nat} : tpk i = tpk j ↔ i = j := Nat.add_left_cancel_iff

/-- The block with a rise, before the settings that were written are taken over. -/
def pulseRisen (c : Core) (t b : Nat) : Core :=
  emit (tallyEvent (bump { c with tpulse := { c.tpulse with high := true, last := some b } } (tpk 0x24)) 0xE9)
    (.tpulse true (pulseInstant c t b))

section
variable {c : Core} {t : Nat} (h : pulseSource c = some t)
include h

theorem tpulseRise_source : tpulseRise c =
    if c.tpulse.high ∨ tbNs c t < nextPulse c.tpulse (c.tpulse.last.getD (tbNs c t)) then c
    else takePulseSettings (pulseRisen c t (nextPulse c.tpulse (c.tpulse.last.getD (tbNs c t))))
      (some (nextPulse c.tpulse (c.tpulse.last.getD (tbNs c t)))) := by
  simp only [tpulseRise, h]
  rfl

theorem tpulse_src : c.tpulse.src = t := by
  unfold pulseSource at h
  split at h
  · exact Option.some.inj h
  · cases h

end

theorem rd_pulseRisen (c : Core) (t b : Nat) (k : Key) :
    rd (pulseRisen c t b) k = if k = tpk 0x24 then (rd c (tpk 0x24) + 1) % 2 ^ 64 else rd c k := by
  have hregs : (pulseRisen c t b).regs =
      (bump { c with tpulse := { c.tpulse with high := true, last := some b } } (tpk 0x24)).regs := tallyEvent_regs _ 0xE9
  rw [rd_congr hregs, rd_bump]
  rfl

theorem pulseTaken_says (c : Core) (t b : Nat) : let d := takePulseSettings (pulseRisen c t b) (some b)
    d.tpulse.high = true ∧ rd d (tpk 0x24) = (rd c (tpk 0x24) + 1) % 2 ^ 64 ∧
      d.outbox = c.outbox ++ [.tpulse true (pulseInstant c t b)] ∧ d.tpulse.src = rd c (tpk 0x20) ∧ d.tpulse.period = rd c (tpk 0x21) ∧
      d.tpulse.phase = rd c (tpk 0x22) ∧ d.tpulse.width = rd c (tpk 0x23) ∧
      (rd c (tpk 0x20) = c.tpulse.src → d.tpulse.last = some b) ∧ d.tbs = c.tbs := by
  have hrd (i : Nat) (hi : i ≠ 0x24) : rd (pulseRisen c t b) (tpk i) = rd c (tpk i) := by
    rw [rd_pulseRisen, if_neg (by simpa [tpk_eq_iff] using hi)]
  refine ⟨rfl, ?_, rfl, hrd 0x20 (by decide), hrd 0x21 (by decide), hrd 0x22 (by decide), hrd 0x23 (by decide), fun hsrc => ?_, rfl⟩
  · have hkept : rd (takePulseSettings (pulseRisen c t b) (some b)) (tpk 0x24) = rd (pulseRisen c t b) (tpk 0x24) := rfl
    rw [hkept, rd_pulseRisen, if_pos rfl]
  · have hsame : rd (pulseRisen c t b) (tpk 0x20) = (pulseRisen c t b).tpulse.src := (hrd 0x20 (by decide)).trans hsrc
    exact congrArg some (if_pos hsame)

/-- Settles O59: each write, second, measurement and message by the state of its time base, and each edge of the pulse. -/
theorem timeBasesAndTheTimePulse : Obligations.TimeBasesAndTheTimePulse := by
  refine ⟨fun s t v ho hv => ?_, fun s t a ho => ?_, fun c t d hlo hhi => ⟨fun h => ?_, fun h => ?_⟩,
    fun s t ho => ⟨fun hp hs => ?_, fun h => ?_⟩, fun s => ?_, fun s t v ho hc => ⟨fun h => ?_, fun e b l rest L hv hl hb hL => ?_⟩, fun s t => ⟨fun h => ?_, fun h hs => ?_⟩,
    fun s t => ⟨fun h => ?_, fun h => ?_⟩,
    fun c t => ⟨sameRegsBut_refreshTb c (by simp), refreshTb_tbs c t.val, refreshTb_else, fun h hsrc hm hs hp ho => ?_, fun h hn => ?_⟩,
    fun s d r hval hr => ?_, fun s ppb => ⟨fun h => ?_, fun h => ?_⟩,
    fun c t off hlo hhi => ⟨measureTb_not off, fun h => ⟨?_, fun hm => ?_, fun hm hsmall => ?_⟩⟩,
    fun s l m => ⟨fun h => ?_, fun hu hc => ?_⟩, fun s => ⟨fun h => ?_, fun h => ?_⟩, fun x last hp => nextPulse_says last hp,
    fun s => ⟨fun h => ?_, fun t h => ?_⟩, fun s => ⟨fun h => ?_, fun h => ?_⟩⟩
  · have hset := writeTbSet_eq s.core t.val hv
    have hw := writeFail_tbSet ho t hv
    have ht := closedTo_tbk ho t (i := 5) (by decide)
    refine ⟨fun hm => makes_answer rfl hw ht (hset.trans (if_pos hm)), fun hm hs => ?_, fun hm hs => ?_⟩
    · exact makes_answer rfl hw ht (hset.trans ((if_neg (ne_true_of_eq_false hm)).trans (if_pos hs)))
    · exact makes_answer rfl hw ht (hset.trans ((if_neg (ne_true_of_eq_false hm)).trans (if_neg hs)))
  · have hadjust := writeTbAdjust_eq s.core t.val a
    have hw := writeFail_tbAdjust ho t a
    have ht := closedTo_tbk ho t (i := 7) (by decide)
    exact ⟨fun hm => makes_answer rfl hw ht (hadjust.trans (if_pos hm)),
      fun hm => makes_answer rfl hw ht (hadjust.trans (if_neg (ne_true_of_eq_false hm)))⟩
  · rw [correctTb_slews h, getTb_refreshTb, slewNoted, getTb_modTb_same]
    exact ⟨rfl, sameRegsBut_refreshTb (modTb c t.val _) (by simp)⟩
  · obtain ⟨hA, hC, hD⟩ := stepRefused_says (c := c) (t := t.val) hlo hhi
    exact ⟨_, correctTb_refused h, hA, hC, hD, getTb_congr (stepRefused_tbs ..), sameRegsBut_stepRefused _ _ _⟩
  · refine makes_answer rfl (writeFail_tbForce ho t) (closedTo_tbk ho t (by decide)) (writeTbForce_taken hp ?_)
    exact hs.imp (fun h => by rw [h]; decide) id
  · refine makes_answer rfl (writeFail_tbForce ho t) (closedTo_tbk ho t (by decide)) (writeTbForce_refused ?_)
    refine h.imp id fun ⟨ht, hs⟩ => ⟨?_, hs⟩
    have := t.isLt
    have : t.val ≠ 3 := fun h3 => ht (Fin.ext h3)
    omega
  · intro x
    refine ⟨fun hs hf => makes_didC rfl (applyTb_idle hs hf), fun v hs hf => ?_, fun hs hf => ⟨_, makes_didC rfl rfl, crystalForced_says hs hf⟩⟩
    obtain ⟨htbs, hregs⟩ := pulseRestarted_keeps (tbLoaded s.core 3 v) 3
    refine ⟨_, makes_didC rfl (applyTb_set hs hf), (getTb_congr htbs 3).trans (getTb_tbLoaded ..), fun hsrc => ?_,
      (sameRegsBut_tbLoaded s.core 3 v).trans (.of_regs hregs)⟩
    exact (tbState_congr hregs 3).trans (tbState_tbLoaded v hsrc)
  · exact makes_answer rfl (writeFail_convStamp ho t v) (closedTo_tbk ho t (by decide)) (writeConvStamp_future hc v.isLt h)
  · exact makes_answer rfl (writeFail_convStamp ho t v) (closedTo_tbk ho t (by decide))
      (writeConvStamp_converts hc v.isLt (stampTime_inProgress hv hl hb hL))
  · exact makes_didC rfl (holdoverTimeout_not h)
  · exact ⟨_, makes_didC rfl (holdoverTimeout_silent h hs), holdNoted_says s.core t.val⟩
  · exact makes_didC rfl (if_pos h)
  · exact makes_didC rfl (if_neg h)
  · rw [refreshTb_locked h hsrc hm hs hp ho, tbState, rd_wr_same]
  · rw [refreshTb_free h hn, tbState, rd_wr_same]
  · exact ⟨_, makes_didC rfl (ageingUpdate_eq hval hr), aged_regs .., rfl, (getTb_aged ..).trans (getTb_modTb_same ..),
      fun t ht => (getTb_aged ..).trans (getTb_modTb_ne _ _ ht)⟩
  · exact makes_didC rfl (if_pos h)
  · exact makes_didC rfl (if_neg (ne_true_of_eq_false h))
  · exact measAt_measureTb off (by omega)
  · obtain ⟨hoff, hstate, htb, hregs⟩ := measureTb_host hlo hhi h hm
    exact ⟨hoff, hstate, (congrArg Tb.slew htb :), hregs⟩
  · obtain ⟨hoff, hstate, hinclo, hinchi, hslew, hregs⟩ := measureTb_mgmt hlo hhi h hm hsmall
    exact ⟨hoff, hstate, hinclo, hinchi, hslew, hregs⟩
  · exact makes_didC rfl (timeMessage_not m h)
  · obtain ⟨hsent, hheard, htbs, hstamp, hregs, hoffset⟩ := timeNoted_says s.core l.val m
    refine ⟨_, hsent, hheard, htbs, hstamp, hregs, hoffset, fun h => makes_didC rfl (timeMessage_unfollowed hu hc h),
      fun t own st v ht hsrc hothers hst hv hown => ?_⟩
    obtain ⟨f, heq, hnot, hmeasures⟩ := timeMessage_followed hu hc ht hothers hst hv
    refine ⟨fun h => makes_didC rfl (heq.trans (hnot fun hf => ?_)), fun h0 h4 => makes_didC rfl (heq.trans (hmeasures own ⟨?_, ?_, ?_⟩ hown))⟩
    · rcases h with rfl | rfl
      · exact hf.2.1 rfl
      · exact hf.2.2 rfl
    · exact (tbSource_timeNoted ..).trans hsrc
    · exact fun h => h0 (BitVec.eq_of_toNat_eq h)
    · exact fun h => h4 (BitVec.eq_of_toNat_eq h)
  · exact makes_didC rfl (if_pos (by simp [h]))
  · exact makes_didC rfl (if_neg (by simp [h]))
  · exact makes_didC rfl (tpulseRise_none h)
  · have hrise := tpulseRise_source h
    intro b
    refine ⟨fun hn => makes_didC rfl (hrise.trans (if_pos hn)), fun hlow hb => ⟨_, makes_didC rfl (hrise.trans (if_neg ?_)), ?_⟩⟩
    · simpa [hlow] using hb
    · obtain ⟨hhigh, hcount, hout, hsrc, hperiod, hphase, hwidth, hlast, htbs⟩ := pulseTaken_says s.core t b
      exact ⟨hhigh, hcount, hout, hsrc, hperiod, hphase, hwidth, fun h20 => hlast (h20.trans (tpulse_src h).symm), htbs⟩
  · exact makes_didC rfl (if_pos h)
  · exact makes_didC rfl (if_neg (ne_true_of_eq_false h))

end Sys2Proof.Machine
end
